-- ==== Sys2Proof/Word.lean ====
section
/-! DEFINITION. The word, the byte and the plainest arithmetic every other file uses: saturating counts, clamps and
signed readings. Nothing here is particular to one block of the module. -/

namespace Sys2Proof

/-- A setup register is 32 bits wide (R12's chapter, "Registers"). -/
abbrev Word := BitVec 32

/-- One byte of an addressed memory. -/
abbrev Byte := BitVec 8

/-- A count that rises by `k` and saturates at `top`. -/
def satAdd (top a k : Nat) : Nat := min top (a + k)

/-- `x` brought into `[lo, hi]`. -/
def clampInt (lo hi x : Int) : Int := max lo (min hi x)

/-- The least natural number that is at least `a / b`. -/
def ceilDiv (a b : Nat) : Nat := (a + b - 1) / b

/-- `a / b` rounded to the nearest integer, halves upward. -/
def nearDiv (a : Int) (b : Nat) : Int := (2 * a + b).ediv (2 * b)

/-- A truth value as the bit a status field shows. -/
def bit (b : Bool) : Nat := if b then 1 else 0

/-- The signed reading of the low `w` bits of a natural number. -/
def signed (w n : Nat) : Int := (BitVec.ofNat w n).toInt

/-- The two's-complement code of an integer in `w` bits. -/
def unsigned (w : Nat) (x : Int) : Nat := (BitVec.ofInt w x).toNat

end Sys2Proof
end

