-- ==== Sys2Proof/Syntax.lean ====
section
/-! DEFINITION. The commands of the module: one constructor for each row of the spec's table of operations and events,
with what the command brings from outside as its operands. The analogue and digital world beyond the lands, the host, the
links and the instants at which things fall are outside the module; each command says what of them it brings. -/

namespace Sys2Proof

/-- The paths that keep a capture of their own for a 64-bit pair and for plant time (R627). -/
inductive Path where
  | bar0
  | ring (r : Fin 16)
  | link
  deriving DecidableEq, Repr

/-- The low words whose read captures the high word (R628). -/
inductive LowReg where
  | tbp | serial | rt | cairnSeq
  | acc (i : Fin 40)
  | pulse (k : Fin 8)
  deriving DecidableEq, Repr

/-- One use of a FIFO crossing: a word enters, or the destination takes one. -/
inductive FifoAct where
  | enter (v : Word)
  | take
  deriving DecidableEq, Repr

/-- The fields of one CE instruction as a lane executes it (R310), with what the hardware may add: how many of the attempts
of R331 mismatch (0 none; 1 the first; 2 the second too; 3 the partner lane's too), a parity error that has come about in the
instruction's words, and one in the data it reads, by the byte's place in the access (R334 to R336). -/
structure CeInstr where
  lane : Fin 8 := 0
  d : Fin 32 := 0
  a : Fin 32 := 0
  b : Fin 32 := 0
  c : Fin 16 := 0
  acc : Bool := false
  mod : Fin 16 := 0
  imm : Word := 0
  mis : Fin 4 := 0
  par : Bool := false
  dpar : Option Nat := none
  deriving DecidableEq, Repr

/-- Who makes a write or a request: the host, a Cewlink source with `MGR` or `TOPM`, another Cewlink source, or the CE. -/
inductive Writer where
  | host
  | manager
  | link
  | ce
  deriving DecidableEq, Repr

/-- R574: a descriptor. -/
structure Desc where
  opc : Nat
  fence : Bool := false
  noirq : Bool := false
  tag : Nat := 0
  len : Nat := 0
  addr : Nat := 0
  arg0 : Nat := 0
  arg1 : Nat := 0
  arg2 : Nat := 0
  arg3 : Nat := 0
  deriving DecidableEq, Repr

/-- R235, R256: what stands on the two lands of an input pair, AINnP and AINnN, in units of 0.25 nV. -/
structure LandVolts where
  p : Int
  q : Int
  deriving DecidableEq, Repr

/-- R392: what a run of training sequences carries besides the kind of the far end: its network (Woad), its serial number, and
its acknowledge. -/
structure TrainSeq where
  woad : Bool
  serial : Word
  ack : Bool
  deriving DecidableEq, Repr

/-- R412: an asynchronous packet. -/
structure Packet where
  ty : Nat
  cls : Nat := 0
  status : Nat := 0
  len : Nat := 0
  tgt : Nat := 0
  dst : Nat := 0
  src : Nat := 0
  ofs : Nat := 0
  tag : Nat := 0
  att : Nat := 0
  commit : Bool := false
  last : Bool := false
  body : List Word := []
  deriving DecidableEq, Repr

/-- A segment on a link (R390): its body and the CRC-32 that comes with it. -/
structure Seg where
  body : List Word := []
  crc : Word := 0
  deriving DecidableEq, Repr

/-- A plant frame (R399): the header, the safety groups, the cyclic groups and the asynchronous cells, a free one without
segment. -/
structure LinkFrame where
  hdr : Seg := {}
  saf : List Seg := []
  cyc : List Seg := []
  cells : List (Option Seg) := []
  deriving DecidableEq, Repr

/-- A down frame at a device's up port of one network, with two timestamps of R402 in TBLn units of 0.4 ns: the first /S/
arriving at the up port, in that port's TBLn, and the first /S/ leaving in answer, at the down port (forwarded) in that port's
TBLn, or at an end device at the up port (the up frame). -/
structure DownFrame where
  woad : Bool := false
  f : LinkFrame := {}
  arr : Nat := 0
  dep : Nat := 0
  deriving DecidableEq, Repr

/-- An up frame at a device's down port or at a manager's line port, with the timestamps of its first /S/: arriving at that
port, and at a device leaving the up port, each in the port's own TBLn. -/
structure UpFrame where
  port : Fin 8 := 0
  f : LinkFrame := {}
  arr : Nat := 0
  dep : Nat := 0
  deriving DecidableEq, Repr

/-- One command of the module, one constructor for each row of the table of operations and events. -/
inductive Instr where
  /-- `LOW_WORD_READ` (R15): A read of the low word of a 64-bit register pair captures the high word into its register. -/
  | lowWordRead (p : Path) (r : LowReg)
  /-- `PLANT_TIME_READ` (R104): A read of TIM_PT_NS captures the whole plant time for the following reads of the seconds registers. -/
  | plantTimeRead (p : Path)
  /-- `READ_WINDOW_ADVANCE` (R596): A read of HST_CAPRD63 advances the capture read window by one 256-byte block. -/
  | readWindowAdvance (p : Path)
  /-- `REGISTER_WRITE` (R564): A write to a setup register with no row of its own is committed as one register under the ownership rules and its outcome recorded. -/
  | registerWrite (off : Nat) (v : Word)
  /-- `UNSUPPORTED_REQUEST` (R563): A BAR0 or BAR2 access that is not an aligned 4-byte access completes as Unsupported Request and changes nothing. -/
  | unsupportedRequest (bar2 : Bool) (addr len : Nat)
  /-- `PACE_WINDOW_END` (R32): At the end of each 10.24 us window the pace monitor updates SYS_PACE and its extremes. -/
  | paceWindowEnd (cycles : Fin 65536)
  /-- `SYS_PACE_EXT_CLR` (R35): Writing 1 to SYS_PACE_EXT.CLR resets both pace extremes. -/
  | sysPaceExtClr
  /-- `REF_MONITOR_WINDOW` (R61): At the end of each 10.24 us window the module records the OSC25-to-CKREF ratio and judges the window in tolerance. -/
  | refMonitorWindow (ok : Bool) (ratio : Nat)
  /-- `REF_LOST` (R62): CKREF is declared lost; every locked PLL is declared unlocked, consumers switch to OSC25, and a trip or coarse mode follows per OSCACT. -/
  | refLost
  /-- `REF_OK` (R62): After ten consecutive windows in tolerance CKREF is declared present and REF_OK is posted. -/
  | refOk
  /-- `PLL_LOCK` (R65): A PLL is declared locked after 1,024 consecutive reference cycles within 1.0 ns. -/
  | pllLock (p : Fin 3)
  /-- `PLL_UNLOCK` (R66): A PLL is declared unlocked after 4 cycles outside 2.5 ns, its loss count rises, its unlock event is posted and its consumers move to the bypass. -/
  | pllUnlock (p : Fin 3)
  /-- `PLL_STABLE_LOCK` (R68): A PLL declared locked continuously for 1 ms becomes stably locked. -/
  | pllStableLock (p : Fin 3)
  /-- `COARSE_EXIT` (R82): At the first RETCAR boundary after PLLA is stably locked and CKREF present, TBP returns to 400 MHz and COARSE_EXIT is posted. -/
  | coarseExit
  /-- `CKO_CHANGE` (R90): A change of a clock output's source, divider, format or enable takes effect at the end of the present output period. -/
  | ckoChange (n : Fin 4)
  /-- `CLK_LOSS_CLR` (R94): Writing 1 to CLK_LOSS.CLR clears all four loss counts. -/
  | clkLossClr
  /-- `PPS_EDGE` (R109): A rising edge on PPSIN is timestamped and taken as a servo offset measurement when accepted. -/
  | ppsEdge
  /-- `HOST_OFFSET_SUBMIT` (R110): Writing TIM_HOSTOFS_S submits a host offset measurement to the servo. -/
  | hostOffsetSubmit (sec : Word)
  /-- `SERVO_SOURCE_TIMEOUT` (R107): A servo source loses validity when its validity time passes without a measurement, and the servo changes source or holds. -/
  | servoSourceTimeout (src : Fin 5)
  /-- `SERVO_LOCK` (R111): After 16 consecutive measurements within LOCKTH the servo is locked. -/
  | servoLock
  /-- `SERVO_LOCK_LOSS` (R111): After 4 consecutive measurements outside 4 x LOCKTH the servo loses lock. -/
  | servoLockLoss
  /-- `PTC_MATCH` (R119): A plant-time compare unit matches and starts its targets at that TBP edge. -/
  | ptcMatch (n : Fin 16)
  /-- `MAILBOX_TRANSFER` (R128): A mailbox crossing delivers the whole pending value to its destination on handshake. -/
  | mailboxTransfer (x : Fin 18)
  /-- `EVENT_HANDSHAKE` (R130): An event crossing delivers the accumulated event count and clears it. -/
  | eventHandshake (x : Fin 18)
  /-- `FIFO_WORD_TRANSFER` (R133): A FIFO crossing passes a word in order, or a clocked producer discards it when full. -/
  | fifoWordTransfer (x : Fin 18) (ch : Fin 32) (act : FifoAct)
  /-- `XDC_RESYNC` (R137): When both sides of a crossing leave reset the resynchronisation handshake completes, discards in-flight content and posts XDC_RESYNC. -/
  | xdcResync (x : Fin 18)
  /-- `XDC_CLR` (R144): Writing XDC_CLR clears LOST, DISC and RSYNC of the selected crossings. -/
  | xdcClr (mask : BitVec 18)
  /-- `XDC_OVR_CLEAR` (R143): Writing 1 to XDC_STATn.OVR clears the overrun flag. -/
  | xdcOvrClear (x : Fin 18)
  /-- `TIM_PTC_LATE_CLEAR` (R127): Writing 1 to bits of TIM_PTC_LATE clears the late-match flags. -/
  | timPtcLateClear (mask : BitVec 16)
  /-- `CARRIER_PERIOD_START` (R152): A carrier reaches its period start, applies the staged set, advances dither, checks trips and starts the new period. -/
  | carrierPeriodStart (k : Fin 16)
  /-- `CARRIER_MID_BOUNDARY` (R152): An up-down carrier with UPD = 3 reaches its peak as a mid boundary and applies duty-only staged fields. -/
  | carrierMidBoundary (k : Fin 16)
  /-- `CARRIER_PEAK` (R152): A carrier reaches its peak, an event selectable by PTCs and ATCs. -/
  | carrierPeak (k : Fin 16)
  /-- `LATCH_POINT` (R176): Two counts before a carrier boundary the engine takes and empties the staging slot. -/
  | latchPoint (k : Fin 16)
  /-- `PWM_EDGE` (R162): The reference waveform of a pair rises or falls at its computed count, turning a switch off. -/
  | pwmEdge (m : Fin 24) (rise : Bool)
  /-- `DEAD_TIME_EXPIRY` (R166): The dead time after a turn-off ends and the other switch of the pair turns on. -/
  | deadTimeExpiry (m : Fin 24)
  /-- `SHADOW_WRITE` (R179): A write to a PWM_CARk or PWM_PAIRm field goes to the shadow copy and sets PEND. -/
  | shadowWrite (off : Nat) (v : Word)
  /-- `PWM_COMMIT_GO` (R180): Writing PWM_COMMIT.GO commits the shadow and merges it into the staging slots. -/
  | pwmCommitGo
  /-- `PWM_COMMIT_ABORT` (R181): Writing PWM_COMMIT.ABORT discards the shadow at once. -/
  | pwmCommitAbort
  /-- `PWM_SHADOW_DROP` (R181): The shadow reaches 64 periods without a commit, is discarded, sets DROP and posts PWM_SHADOW_DROP. -/
  | pwmShadowDrop
  /-- `PWM_STAT_CLR` (R182): Writing 1 to PWM_STAT.CLR clears the refused and merged counts. -/
  | pwmStatClr
  /-- `PWM_SH_STAT_DROP_CLEAR` (R182): Writing 1 to PWM_SH_STAT.DROP clears the shadow-drop flag. -/
  | pwmShStatDropClear
  /-- `ATC_WINDOW_OPEN` (R186): An ATC window opens DLY after its source event and blanks, triggers or times a refresh. -/
  | atcWindowOpen (n : Fin 16)
  /-- `ATC_WINDOW_CLOSE` (R186): An ATC window closes WID after opening, and blanked sources still asserted act. -/
  | atcWindowClose (n : Fin 16)
  /-- `ATC_MISS_CLEAR` (R190): Writing 1 to bits of ATC_MISS clears them. -/
  | atcMissClear (mask : BitVec 16)
  /-- `GDF_LAND_CHANGE` (R192): A GDF land changes level and is decoded by the leg's GDFM. -/
  | gdfLandChange (n : Fin 48) (high : Bool)
  /-- `GDF_FAULT_ASSERT` (R193): A coded-mode low reaches 2.0 us and the GDF fault asserts. -/
  | gdfFaultAssert (n : Fin 48)
  /-- `SOFT_OFF_STAGE` (R199): The lands of soft-off stage s are driven low s x SOFFD counts after a trip turn-off. -/
  | softOffStage (leg : Fin 16) (stage : Fin 4)
  /-- `GDI_BSCNT_CLR` (R200): Writing 1 to GDI_BSCNT.CLR clears the refresh and bootstrap-low counts. -/
  | gdiBscntClr
  /-- `TRIP_SOURCE_ASSERT` (R211): A trip source asserts and acts on every group in its mask. -/
  | tripSourceAssert (src : Fin 88)
  /-- `TRIP_FILTER_EXPIRY` (R211): A filtered trip source has been asserted or deasserted for FLT consecutive edges and changes its state. -/
  | tripFilterExpiry (src : Fin 88)
  /-- `TRIP_SOURCE_RELEASE` (R212): A trip source is released and its groups may resume at the next period start. -/
  | tripSourceRelease (src : Fin 88)
  /-- `BLANKING_MAX_EXPIRY` (R214): A blanking window reaches its MAX count and stops masking, so asserted blankable sources act. -/
  | blankingMaxExpiry (n : Fin 16)
  /-- `LATCH_CLEAR` (R223): Writing 1 to TRP_GRPg_STAT.LATCH clears the latch when no source of the group is asserted, else completes with STATE. -/
  | latchClear (g : Fin 16)
  /-- `TRP_GRP_CNT_CLR` (R233): Writing 1 to TRP_GRPg_CNT.CLR clears the group's three counts. -/
  | trpGrpCntClr (g : Fin 16)
  /-- `COMPARATOR_OUTPUT_CHANGE` (R238): A comparator output changes as its input crosses a threshold with hysteresis. `v` are the voltages of AINnP and AINnN to ground in units of 0.25 nV. -/
  | comparatorOutputChange (n : Fin 24) (v : LandVolts)
  /-- `COMPARATOR_DECISION` (R241): 2.0 us after enable each comparator output makes one decision without hysteresis and RDY is set. `v` are the voltages of AINnP and AINnN to ground in units of 0.25 nV. -/
  | comparatorDecision (n : Fin 24) (v : LandVolts)
  /-- `CMP_CHKF_CLEAR` (R254): Writing 1 to bits of CMP_CHKF.FAIL clears them. -/
  | cmpChkfClear (mask : BitVec 24)
  /-- `ADC_CALIBRATION_COMPLETE` (R264): The first calibration of all slices completes and CALOK is set. -/
  | adcCalibrationComplete (failed : BitVec 17)
  /-- `ROTATION_STEP` (R265): Every 3.855 ms the spare slice begins taking over the next lane. -/
  | rotationStep
  /-- `SLICE_HANDOVER` (R266): After the overlap, at an instant the lane is not converting, the spare takes the lane and the outgoing slice becomes the spare. -/
  | sliceHandover
  /-- `SLICE_CALIBRATION_COMPLETE` (R265): The calibration of a released slice completes, or it fails and is marked failed. -/
  | sliceCalibrationComplete (ok : Bool)
  /-- `CONVERSION_TIMEOUT` (R269): A conversion not ended 1.0 us after sampling returns 0 with FLT and its slice is marked failed. -/
  | conversionTimeout (lane : Fin 16)
  /-- `CONVERTER_TRIGGER` (R277): A trigger reaches a sequence and starts a run, is queued, or is dropped. -/
  | converterTrigger (seq : Fin 3)
  /-- `CONVERSION_END` (R296): A conversion ends and its result is written to its slot, followed by the status slot at the run's end. `v` is what the slice sampled at the two lands of the channel's pair in units of 0.25 nV, its errors of R299 included; `v.p` is the input of a channel with one (R256): on 112 and 113 the die temperature in 0.001 °C (R258), on the DAC, 1.25 V and ground channels the error alone. -/
  | conversionEnd (lane : Fin 16) (v : LandVolts)
  /-- `QUEUED_RUN_START` (R278): A queued run starts at the first TBA edge after the previous run at which every lane meets ACQ. -/
  | queuedRunStart (seq : Fin 3)
  /-- `MONITOR_ISSUE` (R286): The monitor walk issues its next conversion once DLY has passed and the lane is free. -/
  | monitorIssue
  /-- `ADC_SWTRIG` (R300): Writing ADC_SWTRIG gives one trigger to each selected sequence. -/
  | adcSwtrig (mask : BitVec 3)
  /-- `ADC_DROP_CLR` (R302): Writing 1 to ADC_DROP.CLR clears the four drop counts. -/
  | adcDropClr
  /-- `ADC_OVRL_CLEAR` (R302): Writing 1 to bits of ADC_OVRL clears them. -/
  | adcOvrlClear (mask : BitVec 16)
  /-- `ADC_MONLOSS_CLEAR` (R302): Writing 1 to ADC_STAT.MONLOSS clears it. -/
  | adcMonlossClear
  /-- `NOP` (R311): The CE instruction NOP does nothing. -/
  | nop (x : CeInstr)
  /-- `END` (R319): A lane ends its part of the cycle, INIT or background pass; the cycle ends when every lane has ended. -/
  | endLane (x : CeInstr)
  /-- `BAR` (R311): A lane waits at a barrier until every lane of the mask reaches it. -/
  | bar (x : CeInstr)
  /-- `BAR_RELEASE` (R311): The last lane of the mask reaches the barrier and the waiting lanes continue. -/
  | barRelease (mask : BitVec 8)
  /-- `WNE` (R311): A lane waits until a memory word differs from a register value. -/
  | wne (x : CeInstr)
  /-- `WNE_WAKE` (R311): The awaited word changes and the waiting lane continues. -/
  | wneWake (lane : Fin 8)
  /-- `LID` (R311): Loads the lane number into a register. -/
  | lid (x : CeInstr)
  /-- `FLG` (R308): Reads and clears the lane's sticky flags. -/
  | flg (x : CeInstr)
  /-- `BR` (R311): Branches when the condition in MOD holds. -/
  | br (x : CeInstr)
  /-- `CALL` (R311): Calls a subroutine with return depth 16. -/
  | call (x : CeInstr)
  /-- `RET` (R311): Returns from a subroutine. -/
  | ret (x : CeInstr)
  /-- `LOOP` (R311): Repeats a block of instructions a register's count of times. -/
  | loop (x : CeInstr)
  /-- `ADD` (R306): Adds two int32 values, wrapping. -/
  | add (x : CeInstr)
  /-- `SUB` (R306): Subtracts int32 values, wrapping. -/
  | sub (x : CeInstr)
  /-- `AND` (R311): Bitwise AND of int32 values. -/
  | and (x : CeInstr)
  /-- `OR` (R311): Bitwise OR of int32 values. -/
  | or (x : CeInstr)
  /-- `XOR` (R311): Bitwise XOR of int32 values. -/
  | xor (x : CeInstr)
  /-- `SHL` (R311): Shifts an int32 left. -/
  | shl (x : CeInstr)
  /-- `SHR` (R311): Shifts an int32 right logically. -/
  | shr (x : CeInstr)
  /-- `SAR` (R311): Shifts an int32 right arithmetically. -/
  | sar (x : CeInstr)
  /-- `MIN` (R311): Takes the smaller of two int32 values. -/
  | min (x : CeInstr)
  /-- `MAX` (R311): Takes the larger of two int32 values. -/
  | max (x : CeInstr)
  /-- `ABS` (R311): Takes the absolute value of an int32. -/
  | abs (x : CeInstr)
  /-- `SAT` (R311): Limits an int32 to MOD + 1 signed bits. -/
  | sat (x : CeInstr)
  /-- `MOVI` (R311): Loads an immediate value into a register. -/
  | movi (x : CeInstr)
  /-- `QMUL` (R305): Multiplies two Q1.31 values with rounding and saturation. -/
  | qmul (x : CeInstr)
  /-- `QADD` (R311): Adds Q1.31 values with saturation. -/
  | qadd (x : CeInstr)
  /-- `QSUB` (R311): Subtracts Q1.31 values with saturation. -/
  | qsub (x : CeInstr)
  /-- `QNEG` (R311): Negates a Q1.31 value with saturation. -/
  | qneg (x : CeInstr)
  /-- `QMAC` (R305): Adds a rounded Q1.31 product into an accumulator. -/
  | qmac (x : CeInstr)
  /-- `QMSU` (R311): Subtracts a rounded Q1.31 product from an accumulator. -/
  | qmsu (x : CeInstr)
  /-- `ACCRD` (R311): Reads an accumulator shifted and saturated to Q1.31. -/
  | accrd (x : CeInstr)
  /-- `ACCLD` (R311): Loads an accumulator from a register, sign-extended. -/
  | accld (x : CeInstr)
  /-- `IMAC` (R306): Adds an int48 product into an accumulator with saturation. -/
  | imac (x : CeInstr)
  /-- `FADD` (R307): Adds binary32 values. -/
  | fadd (x : CeInstr)
  /-- `FSUB` (R307): Subtracts binary32 values. -/
  | fsub (x : CeInstr)
  /-- `FMUL` (R307): Multiplies binary32 values. -/
  | fmul (x : CeInstr)
  /-- `FMA` (R307): Computes A x B + C in binary32. -/
  | fma (x : CeInstr)
  /-- `FCMP` (R311): Compares binary32 values giving -1, 0 or 1. -/
  | fcmp (x : CeInstr)
  /-- `FDIV` (R307): Divides binary32 values. -/
  | fdiv (x : CeInstr)
  /-- `FSQRT` (R307): Takes a binary32 square root. -/
  | fsqrt (x : CeInstr)
  /-- `FCVTQ` (R311): Converts Q1.31 to binary32. -/
  | fcvtq (x : CeInstr)
  /-- `FCVTF` (R307): Converts binary32 to Q1.31. -/
  | fcvtf (x : CeInstr)
  /-- `FCVTI` (R311): Converts int32 to binary32. -/
  | fcvti (x : CeInstr)
  /-- `FCVTFI` (R307): Converts binary32 to int32. -/
  | fcvtfi (x : CeInstr)
  /-- `SINCOS` (R311): Computes sine and cosine of a half-turn angle. -/
  | sincos (x : CeInstr)
  /-- `ATAN2` (R311): Computes atan2 as a fraction of a half-turn. -/
  | atan2 (x : CeInstr)
  /-- `LD` (R313): Loads 1, 2 or 4 bytes from data memory with parity check. -/
  | ld (x : CeInstr)
  /-- `ST` (R311): Stores 1, 2 or 4 bytes to data memory. -/
  | st (x : CeInstr)
  /-- `LD2` (R311): Loads 8 bytes into two registers. -/
  | ld2 (x : CeInstr)
  /-- `ST2` (R311): Stores 8 bytes from two registers. -/
  | st2 (x : CeInstr)
  /-- `LDQ` (R311): Loads 16 bytes into four registers. -/
  | ldq (x : CeInstr)
  /-- `UPS` (R322): Sends an update set through crossing 0, marked last to commit the cycle. -/
  | ups (x : CeInstr)
  /-- `UPDATE_SET_ACKNOWLEDGE` (R174): Crossing 0 acknowledges an update set and the UPS completes. -/
  | updateSetAcknowledge
  /-- `EVT` (R328): Posts CE_USER with a code, a value and its plant-time instant. -/
  | evt (x : CeInstr)
  /-- `TRQ` (R328): Requests a block trip with cause CE_PROGRAM_TRIP. -/
  | trq (x : CeInstr)
  /-- `SWR` (R327): Makes or holds a setup write from the background, committing with MOD bit 0. -/
  | swr (x : CeInstr)
  /-- `SWR_COMPLETION` (R327): The setup write of an SWR completes and its status reaches the destination register. -/
  | swrCompletion (lane : Fin 8)
  /-- `CLARKE` (R341): Kernel computing the Clarke transform. -/
  | clarke (x : CeInstr)
  /-- `PARK` (R341): Kernel computing the Park transform. -/
  | park (x : CeInstr)
  /-- `IPARK` (R341): Kernel computing the inverse Park transform. -/
  | ipark (x : CeInstr)
  /-- `PI` (R341): Kernel computing a clamped PI controller step with anti-windup. -/
  | piStep (x : CeInstr)
  /-- `SOGIFLL` (R360): Kernel computing one SOGI-FLL step returning v', qv', omega and theta. -/
  | sogifll (x : CeInstr)
  /-- `SEQSEP` (R341): Kernel separating positive and negative sequence components. -/
  | seqsep (x : CeInstr)
  /-- `SVM` (R341): Kernel computing space-vector duty codes and sector. -/
  | svm (x : CeInstr)
  /-- `BIQUAD` (R341): Kernel computing one biquad filter step. -/
  | biquad (x : CeInstr)
  /-- `CORR` (R376): Kernel accumulating the correlation against a PRBS code. -/
  | corr (x : CeInstr)
  /-- `MPPTPO` (R362): Kernel computing one perturb-and-observe MPPT step. -/
  | mpptpo (x : CeInstr)
  /-- `MPPTIC` (R363): Kernel computing one incremental-conductance MPPT step. -/
  | mpptic (x : CeInstr)
  /-- `PQ` (R341): Kernel computing active and reactive power. -/
  | pq (x : CeInstr)
  /-- `MSQ` (R341): Kernel updating a running mean square. -/
  | msq (x : CeInstr)
  /-- `RAMP` (R341): Kernel moving an output towards a target by at most one step. -/
  | ramp (x : CeInstr)
  /-- `PARITY_REFETCH_COMPLETE` (R335): The refetch of program or constant words from the image slot completes and the stalled lane resumes. -/
  | parityRefetchComplete (lane : Fin 8)
  /-- `CE_CYCLE_START` (R319): A PTC target-0 event starts a CE cycle, writing the cycle information block and fixing the deadline. -/
  | ceCycleStart
  /-- `COMMIT_ARRIVAL` (R323): A cycle's commit reaches the TBP domain; before the deadline its held sets are merged. -/
  | commitArrival
  /-- `DEADLINE_EXPIRY` (R323): The deadline edge passes without a commit and the cycle is missed. -/
  | deadlineExpiry
  /-- `CE_MISS` (R325): The consecutive-miss count reaches MISSMAX, requesting a block trip, setting MTRIP and posting CE_MISS. -/
  | ceMiss
  /-- `INIT_TIMEOUT` (R318): INIT has not ended within 10 ms and the CE raises a program fault of kind INIT timeout. -/
  | initTimeout
  /-- `CE_RESET` (R339): Writing CE_CTL.RST resets the CE and runs INIT, or completes with STATE. -/
  | ceReset
  /-- `CE_ACTIVATE` (R345): Writing CE_CTL.ACT stops the CE and starts activation of the named image slot. -/
  | ceActivate (slot : Fin 2)
  /-- `IMAGE_VERIFICATION_COMPLETE` (R346): Header and signature verification ends; a failure ends activation with FORMAT or AUTH. -/
  | imageVerificationComplete
  /-- `IMAGE_LOAD_COMPLETE` (R345): The image sections are loaded, the slot is marked active and INIT runs. -/
  | imageLoadComplete
  /-- `BOOT_IMAGE_LOAD` (R347): In BOOT the last-activated image is verified and loaded, falling back to the other slot. -/
  | bootImageLoad
  /-- `KEY_LOAD_WRITE` (R350): A write of CE_KEYLDi loads a key word as a Belay write of the proposer. -/
  | keyLoadWrite (who : Writer) (i : Fin 16) (v : Word)
  /-- `KEY_INSTALL` (R350): A CE_KEYCTL install stages the loaded key for a slot, or completes with FORMAT. -/
  | keyInstall (who : Writer) (slot : Fin 4)
  /-- `KEY_ERASE` (R350): A CE_KEYCTL erase stages an empty slot. -/
  | keyErase (who : Writer) (slot : Fin 4)
  /-- `CE_MISS_CLR` (R349): Writing 1 to CE_MISS.CLR clears the miss, skip and late counts. -/
  | ceMissClr
  /-- `CE_CHK_CLR` (R349): Writing 1 to CE_CHK.CLR clears the check counts and SUSP. -/
  | ceChkClr
  /-- `CE_DURMAX_CLR` (R349): Writing 1 to CE_DURMAX.CLR clears MAX. -/
  | ceDurmaxClr
  /-- `GRID_EVALUATION` (R355): The supervisor evaluates a measurement copy, places it in a zone and acts on the state. -/
  | gridEvaluation
  /-- `GRID_STALE` (R358): The clocked staleness timer exceeds STALE in CONNECTED or RIDE and requests a block trip. -/
  | gridStale
  /-- `CURVE_POINT_TIMER_EXPIRY` (R365): A curve point's timer reaches t and the point becomes active. -/
  | curvePointTimerExpiry (c : Fin 16) (k : Fin 16)
  /-- `RIDE_EXIT` (R368): The zone has been continuous for EXIT ms in RIDE and return to CONNECTED is requested. -/
  | rideExit
  /-- `ISL_ROCOF` (R372): ROCOF at or above threshold over T ms requests a block trip. -/
  | islRocof
  /-- `ISL_ACTIVE` (R378): The hit count reaches ACNT and a block trip with cause ISL_ACTIVE is requested. -/
  | islActive
  /-- `CODE_PERIOD_BOUNDARY` (R377): A code period begins and a new GRD_CODE takes effect. -/
  | codePeriodBoundary
  /-- `ENTER_SERVICE_TIMER` (R381): Enter-service conditions have held for DELAY s and CONNOK becomes 1. -/
  | enterServiceTimer
  /-- `GRD_CNT_CLR` (R382): Writing 1 to GRD_CNT.CLR clears the three counts. -/
  | grdCntClr
  /-- `SYMBOL_LOCK` (R392): A receiver declares symbol lock after 64 consecutive correct idles. -/
  | symbolLock (n : Fin 8)
  /-- `TRAINING_SEQUENCE_COMPLETE` (R392): 256 error-free training sequences with acknowledge are received and the TBL-to-TBP relation is measured. -/
  | trainingSequenceComplete (n : Fin 8) (far : Fin 4) (ts : TrainSeq)
  /-- `MISWIRE_RETRY` (R393): A refused port trains again every 1 s. -/
  | miswireRetry (n : Fin 8)
  /-- `LNK_UP` (R392): The 1 ms TBL measurement completes and the port is up. -/
  | lnkUp (n : Fin 8)
  /-- `LNK_DOWN` (R419): LOS for 10 us, code errors or 4 failing headers take a port down and post LNK_DOWN. -/
  | lnkDown (n : Fin 8) (los : Bool)
  /-- `RETRAIN_START` (R419): After 1 ms of electrical idle a downed port trains again. -/
  | retrainStart (n : Fin 8)
  /-- `DOWN_FRAME` (R404): A device receives a down frame, takes its position, forms an offset, forwards the frame and latches its outgoing data. -/
  | downFrame (f : DownFrame)
  /-- `UP_FRAME` (R410): A device inserts its up slots and packets into the passing up frame, or a manager receives it. -/
  | upFrame (f : UpFrame)
  /-- `RD` (R414): A register read packet reads registers and answers RDR. -/
  | rd (p : Packet)
  /-- `RDR` (R414): A read response returns the values to the requester. -/
  | rdr (p : Packet) (dma : Bool)
  /-- `WR` (R414): A register write packet writes registers, as a commit when marked, and answers WRR. -/
  | wr (p : Packet)
  /-- `WRR` (R414): A write response returns the status to the requester. -/
  | wrr (p : Packet)
  /-- `PARW` (R414): A parameter write packet from a manager writes the general part of the parameter window. -/
  | parw (p : Packet)
  /-- `BOPEN` (R415): A bulk open claims a free bulk buffer and answers BACK. -/
  | bopen (p : Packet)
  /-- `BDATA` (R414): A bulk data packet writes one block of the target and answers BACK. -/
  | bdata (p : Packet)
  /-- `BACK` (R414): A bulk acknowledge returns the next block expected. -/
  | back (p : Packet)
  /-- `ALARM` (R450): An alarm packet reaches a manager and is merged or relayed. -/
  | alarmPacket (p : Packet)
  /-- `LOG` (R452): A log packet reaches a manager and is queued or captured. -/
  | logPacket (p : Packet)
  /-- `TRACE` (R451): A trace packet reaches a manager and is queued or captured. -/
  | tracePacket (p : Packet)
  /-- `TRIPREP` (R450): A trip report packet reaches a manager and is merged or relayed. -/
  | tripRep (p : Packet)
  /-- `PACKET_RELAY` (R413): A manager relays a packet not addressed to itself towards its destination. -/
  | packetRelay (p : Packet)
  /-- `TXN_RESEND` (R416): A packet without response after TO frames is resent with ATT + 1. -/
  | txnResend (tag : BitVec 8)
  /-- `LNK_TXN_TIMEOUT` (R417): The last attempt has no response; the transaction ends and LNK_TXN_TIMEOUT is posted. -/
  | lnkTxnTimeout (tag : BitVec 8)
  /-- `BULK_TIMEOUT` (R415): A bulk transfer without BDATA for 1 s is closed and its buffer released. -/
  | bulkTimeout (b : Fin 8)
  /-- `NOFRM` (R420): No down frame for 4 x PER sets NOFRM and stops offsets. -/
  | nofrm (n : Fin 8)
  /-- `LNK_ERR_CLR` (R421): Writing 1 to LNK_ERRn.CLR clears the port's error counts. -/
  | lnkErrClr (n : Fin 8)
  /-- `LNK_TXCNT2_CLR` (R421): Writing 1 to LNK_TXCNT2.CLR clears TMO, RTRY and DUP. -/
  | lnkTxcnt2Clr
  /-- `PARTNER_LOST` (R424): An admitted partner's AGE reaches LOSTF, it becomes lost and PARTNER_LOST is posted. -/
  | partnerLost (p : Fin 1024)
  /-- `ADMISSION_START` (R432): A manager starts admitting a new partner with RD transactions. -/
  | admissionStart
  /-- `PARTNER_FORGET` (R425): Writing PLT_PQRY.FORGET sets the entry absent and releases its slot and row. -/
  | partnerForget
  /-- `PHASE_OFFSET_CHANGE` (R437): A commit of PLT_PHA.OFS adds the change to the phases of the carriers in CARS as phase-only sets. -/
  | phaseOffsetChange
  /-- `PHASE_REBALANCE` (R438): Writing PLT_PHM.REBAL moves switching partners until slot counts differ by at most 1. -/
  | phaseRebalance
  /-- `PLANT_CODE_CHANGE` (R442): A change of PLT_CODE timing writes ON = 0 to every partner, then the new code. -/
  | plantCodeChange
  /-- `RELAY_HOLD_EXPIRY` (R450): A relay entry has waited HOLD frame starts and may be sent. -/
  | relayHoldExpiry
  /-- `PLT_DROP1_CLR` (R453): Writing 1 to PLT_DROP1.CLR clears the drop counts and PLT_COAL. -/
  | pltDrop1Clr
  /-- `EVENT_RECORD_WRITE` (R584): A held event is written to the event ring when space is free. -/
  | eventRecordWrite
  /-- `SAFETY_CYCLE` (R454): Each safety channel reads its inputs every 0.5 ms, cross-compares and decides its safety state. -/
  | safetyCycle (sb : Bool) (beat : Bool) (lenOk : Bool) (nodes : BitVec 4)
  /-- `OUTPUT_SWITCH_OFF` (R457): ODLY after a safe decision each channel turns off its switch of both outputs. -/
  | outputSwitchOff (sb : Bool)
  /-- `SELF_TEST_COMPLETE` (R456): The BOOT self-test of both channels completes. -/
  | selfTestComplete (ok : Bool)
  /-- `SAFETY_RECORD_WRITE` (R461): A latched cause is written to the retained safety record within 10 ms. -/
  | safetyRecordWrite
  /-- `SAFETY_RECORD_AGE_UPDATE` (R461): Once a minute the channels rewrite the test age and real time in the safety record. -/
  | safetyRecordAgeUpdate
  /-- `OUTPUT_OFF_PULSE` (R464): Once a second each channel turns its switch of an energised output off for OPW. -/
  | outputOffPulse (sb : Bool) (n : Fin 2)
  /-- `OFF_PULSE_END` (R464): The off-pulse ends and the channel checks that the node followed. -/
  | offPulseEnd (sb : Bool) (n : Fin 2) (followed : Bool)
  /-- `OUT_OC` (R465): Coil current above 0.6 A turns both switches off and is an OUT_OC fault. -/
  | outOc (sb : Bool) (n : Fin 2)
  /-- `OUT_OPEN` (R465): Coil current below IMIN for 10 ms is an OUT_OPEN fault. -/
  | outOpen (sb : Bool) (n : Fin 2)
  /-- `FB` (R466): A feedback contact reading wrong beyond TOPEN is an FB fault. -/
  | fb (sb : Bool) (n : Fin 2) (low : Bool)
  /-- `SAF_CMD_TEST` (R467): Writing SAF_CMD.TEST starts an isolation test, or completes with STATE. -/
  | safCmdTest
  /-- `ISOLATION_TEST_OPEN_TIME` (R468): TOPEN after de-energising, the test lanes are taken and the reference channels converted. -/
  | isolationTestOpenTime (a117 : Fin 4096) (a118 : Fin 4096) (b117 : Fin 4096) (b118 : Fin 4096)
  /-- `ISOLATION_TEST_SAMPLE` (R468): Every 0.5 ms over TWIN each test lane converts the pole channels. -/
  | isolationTestSample (sb : Bool) (codes : List (Int × Int)) (fb : Bool)
  /-- `ISOLATION_TEST_END` (R469): The test ends and is decided inconclusive, fail or pass. -/
  | isolationTestEnd (a117 : Fin 4096) (a118 : Fin 4096) (b117 : Fin 4096) (b118 : Fin 4096)
  /-- `SAF_TEST_DUE` (R471): WARN hours before the 24 h run out SAF_TEST_DUE is posted. -/
  | safTestDue
  /-- `TEST_OVERDUE` (R471): 24 h pass without a pass, TESTOK clears, and in CONNECTED or RIDE a safe reaction follows. -/
  | testOverdue
  /-- `FILTERED_INPUT_CHANGE` (R473): A filtered safety input changes level and a pair that leaves its active level demands. -/
  | filteredInputChange (sb : Bool) (x : Fin 8) (high : Bool)
  /-- `TEST_PULSE` (R474): A test-pulse output pulses low for 400 us and the inputs it feeds are checked. -/
  | testPulse (sb : Bool) (stay : BitVec 4) (fell : BitVec 4)
  /-- `DISC` (R475): A disagreement lasting beyond the discrepancy time latches a DISC fault. -/
  | disc (sb : Bool) (k : Fin 4)
  /-- `ACKNOWLEDGE` (R478): A SAFACK press of 50 ms to 5 s is released and each channel clears causes whose condition has ended. -/
  | acknowledge (ms : Nat)
  /-- `SAF_ACK_STUCK` (R477): A SAFACK press reaches 5 s, raising ACK_STUCK and posting SAF_ACK_STUCK. -/
  | safAckStuck
  /-- `SAF_CMD_ACK` (R479): Writing SAF_CMD.ACK is an acknowledge when RACK = 1, else completes with STATE. -/
  | safCmdAck (who : Writer)
  /-- `NET_MISMATCH` (R484): 4 consecutive bad judged frames make a safe reaction with cause NET_MISMATCH. -/
  | netMismatch (sb : Bool)
  /-- `NET_LOSS` (R484): No good frame for 4.5 x PER makes a safe reaction with cause NET_LOSS. -/
  | netLoss (sb : Bool)
  /-- `SAF_SINGLE` (R486): Only one network has delivered valid copies for SINGLE s; SINGLE is set and SAF_SINGLE posted. -/
  | safSingle (sb : Bool)
  /-- `BELAY_STAGE_WRITE` (R492): A write to an RWB field opens or adds to the Belay stage, or completes with STATE or AUTH. -/
  | belayStageWrite (who : Writer) (off : Nat) (v : Word)
  /-- `BELAY_STAGE_TIMEOUT` (R492): A stage without a proposal for 60 s is discarded with outcome timeout. -/
  | belayStageTimeout
  /-- `SAF_BLY_PROP` (R493): Writing SAF_BLY_PROP proposes the check value; matching channels make the change pending. -/
  | safBlyProp (who : Writer) (cv : Word)
  /-- `SAF_BLY_CONF` (R494): Writing SAF_BLY_CONF confirms a pending change from a party other than the proposer. -/
  | safBlyConf (who : Writer) (cv : Word)
  /-- `COMKEY_RELEASE` (R491): A COMKEY press of 1 s to 5 s is released and confirms the pending value. -/
  | comkeyRelease (ms : Nat)
  /-- `BELAY_PENDING_TIMEOUT` (R495): A pending change not confirmed within 60 s is discarded with outcome timeout. -/
  | belayPendingTimeout
  /-- `BELAY_EFFECTIVE` (R496): After the Cairn write the staged fields apply at one instant, CONF is set and BELAY_EFFECTIVE posted. -/
  | belayEffective
  /-- `BELAY_ABORT` (R498): Writing SAF_BLY_CTL.ABORT discards the stage or pending change. -/
  | belayAbort (who : Writer)
  /-- `SAF_CNT_CLR` (R502): Writing 1 to SAF_CNT.CLR clears the three safety counts. -/
  | safCntClr
  /-- `CYCLE_WINDOW_END` (R510): At a wrap of the grid angle the window's powers are computed and added to the accumulators. -/
  | cycleWindowEnd
  /-- `PULSE_COUNT` (R512): A pulse input change stable for DB ms to the active level counts one pulse. -/
  | pulseCount (k : Fin 8) (active : Bool) (ms : Nat)
  /-- `TALLY_COMMIT` (R517): Every 1 s a snapshot of the accumulators is taken and written to the tally store. -/
  | tallyCommit
  /-- `TALLY_WRITE_COMPLETE` (R516): The tally record write completes with its sequence number raised. -/
  | tallyWriteComplete
  /-- `FINAL_COMMIT_COMPLETE` (R518): The final commit's write completes within 1 ms. -/
  | finalCommitComplete
  /-- `MTR_CTL_SNAP` (R520): Writing MTR_CTL.SNAP copies all accumulators and pulse totals into the read registers. -/
  | mtrCtlSnap
  /-- `MTR_CTL_CLR` (R520): Writing MTR_CTL.CLR in STANDBY zeroes all accumulators and commits, else completes with STATE. -/
  | mtrCtlClr
  /-- `MTR_CNT_CLR` (R523): Writing 1 to MTR_CNT.CLR clears the three counts. -/
  | mtrCntClr
  /-- `MTR_TLOST_CLEAR` (R523): Writing 1 to MTR_STAT.TLOST clears it. -/
  | mtrTlostClear
  /-- `BIVOUAC_POWER_ON` (R525): HVST or HVCELL reaches its threshold and the Bivouac domain powers on. -/
  | bivouacPowerOn (hvst cell : Nat)
  /-- `BIVOUAC_POWER_OFF` (R528): The supply in use falls below 1.8 V and the domain powers off, losing TBK. -/
  | bivouacPowerOff
  /-- `BURST_CUT_OFF` (R526): HVST falls below 2.0 V and the burst loads are cut off. -/
  | burstCutOff
  /-- `BURST_RECONNECT` (R526): HVST rises to 2.6 V and the burst loads reconnect. -/
  | burstReconnect
  /-- `CELL_SWITCH` (R527): HVST falls below 1.9 V and TBK and the supervisor move to the primary cell. -/
  | cellSwitch
  /-- `STORE_RETURN` (R527): HVST reaches 2.2 V and TBK and the supervisor return to the store. -/
  | storeReturn
  /-- `SUPERVISOR_SAMPLE` (R529): Once a second without VANA the supervisor compares its references and thresholds. -/
  | supervisorSample (hvst cell : Nat)
  /-- `BURST_END` (R539): A burst ends, setting UNDER when the store ends below 2.0 V. -/
  | burstEnd (hvst : Nat)
  /-- `VOC_SAMPLE` (R534): Every VOCP + 1 s the harvester disconnects HVIN to sample Voc. -/
  | vocSample
  /-- `VOC_SAMPLE_END` (R534): After 5 ms Voc is sampled and regulation resumes at FRAC of it. -/
  | vocSampleEnd (mv : Nat)
  /-- `IRRADIANCE_MEASUREMENT` (R541): Every P seconds an irradiance measurement shorts HVIN. -/
  | irradianceMeasurement (hvst cell : Nat)
  /-- `IRRADIANCE_MEASUREMENT_END` (R541): After 2 ms ISC and G are written to BVQ_IRR. -/
  | irradianceMeasurementEnd (isc : Fin 4096)
  /-- `WAKE_RELEASE` (R542): Writing BVQ_WAKE2.REL releases BVWAKE. -/
  | wakeRelease
  /-- `BIVOUAC_RECORD_COMMIT` (R547): The Bivouac record is committed to MRAM at cut-off or every LOGH hours. -/
  | bivouacRecordCommit (hvst cell : Nat)
  /-- `REAL_TIME_SET` (R545): Writing BVQ_RTSH submits a real time to load at the next whole second. -/
  | realTimeSet (hi : Word)
  /-- `REAL_TIME_LOAD` (R545): At the next whole TBK second RTB is loaded and RTV becomes 1. -/
  | realTimeLoad
  /-- `REAL_TIME_SYNC` (R546): Every 64 s while synced and locked the plant-time seconds are loaded into RTB. -/
  | realTimeSync
  /-- `CAIRN_WRITE_START` (R550): 10 ms after a retained field changes the module starts writing the older Cairn copy. -/
  | cairnWriteStart
  /-- `CAIRN_WRITE_COMPLETE` (R550): A Cairn write completes, starting another if changes arrived meanwhile. -/
  | cairnWriteComplete
  /-- `CAIRN_RESTORE` (R553): At BOOT the newest valid Cairn copy is restored class by class and plant time is rebased. -/
  | cairnRestore (badA badB : Bool)
  /-- `CAIRN_FACTORY_RESET` (R554): Writing BVQ_CAIRN.FACT in STANDBY invalidates both copies and resets the module. -/
  | cairnFactoryReset
  /-- `HOLDUP_CHECK` (R557): Every 10 ms in BOOT the hold-up energy and voltage are checked and HUOK set on pass. -/
  | holdupCheck (v : Nat)
  /-- `HOLDUP_RECHECK` (R558): Once a second after BOOT the hold-up check is repeated. -/
  | holdupRecheck (v : Nat)
  /-- `SUPPLY_FAILURE` (R559): HUSNS below the failure level for 2 us declares supply failure, turns off the pairs and runs the final commit. -/
  | supplyFailure
  /-- `SUPPLY_RECOVERY` (R560): HUSNS at or above 1.05 x VFAIL for 10 ms releases reset and starts BOOT. -/
  | supplyRecovery
  /-- `HUWEAK_CLEAR` (R561): Writing 1 to BVQ_STAT.HUWEAK clears it. -/
  | huweakClear
  /-- `BVQ_UNDER_CLEAR` (R561): Writing 1 to BVQ_BST.UNDER clears it. -/
  | bvqUnderClear
  /-- `COMMAND_DOORBELL` (R567): Writing a command producer doorbell announces descriptors, or is ignored as overflow. -/
  | commandDoorbell (r : Fin 16) (i : BitVec 16)
  /-- `COMPLETION_DOORBELL` (R567): Writing a completion consumer doorbell releases completions. -/
  | completionDoorbell (r : Fin 16) (i : BitVec 16)
  /-- `EVENT_RING_DOORBELL` (R567): Writing the event ring consumer doorbell releases event records. -/
  | eventRingDoorbell (i : BitVec 16)
  /-- `CAPTURE_RING_DOORBELL` (R567): Writing the capture ring consumer doorbell releases capture records. -/
  | captureRingDoorbell (i : BitVec 16)
  /-- `DESCRIPTOR_FETCH` (R569): The module fetches a descriptor when in-flight and completion room allow. -/
  | descriptorFetch (r : Fin 16) (d : Desc) (dma : Bool)
  /-- `NOP_DESCRIPTOR` (R575): A NOP descriptor does nothing and completes. -/
  | nopDescriptor (r : Fin 16)
  /-- `SETW` (R576): A SETW writes its offset and value pairs as one commit. -/
  | setw (r : Fin 16) (buf : List Word) (dma : Bool)
  /-- `SETR` (R575): A SETR reads registers into the host buffer. -/
  | setr (r : Fin 16) (dma : Bool)
  /-- `PWMSET` (R577): A PWMSET merges an update set into the carrier's staging slot. -/
  | pwmset (r : Fin 16) (buf : List Word) (dma : Bool)
  /-- `IMGW` (R577): An IMGW writes an image into the inactive slot. -/
  | imgw (r : Fin 16) (buf : List Word) (dma : Bool)
  /-- `LNKTX_WR` (R581): An LNKTX write sends a Cewlink WR and completes with its remote status. -/
  | lnktxWr (r : Fin 16) (buf : List Word) (dma : Bool)
  /-- `LNKTX_RD` (R581): An LNKTX read sends a Cewlink RD and returns the values. -/
  | lnktxRd (r : Fin 16)
  /-- `CAPCTL_ARM` (R589): A CAPCTL arm arms a capture window. -/
  | capctlArm (r : Fin 16)
  /-- `CAPCTL_TRIGGER` (R590): A CAPCTL trigger triggers an armed capture window. -/
  | capctlTrigger (r : Fin 16)
  /-- `CAPCTL_DISARM` (R590): A CAPCTL disarm freezes a capture window at once. -/
  | capctlDisarm (r : Fin 16)
  /-- `CAPRD` (R592): A CAPRD reads a frozen window into host memory. -/
  | caprd (r : Fin 16)
  /-- `TXFRM` (R598): A TXFRM sends an Ethernet frame with FCS, optionally timestamped. -/
  | txfrm (r : Fin 16) (buf : List Word) (dma : Bool)
  /-- `RXBUF` (R598): An RXBUF provides a buffer for a received Ethernet frame. -/
  | rxbuf (r : Fin 16)
  /-- `PARMW` (R315): A PARMW writes bytes into the general part of the CE parameter window. -/
  | parmw (r : Fin 16) (buf : List Word) (dma : Bool)
  /-- `INTERRUPT_MODERATION_EXPIRY` (R582): The interrupt spacing of a vector ends and a deferred signal is sent. -/
  | interruptModerationExpiry (v : Fin 32)
  /-- `RING_DISABLE` (R573): Writing HST_RINGr_CFG.EN to 0 stops fetching from the ring. -/
  | ringDisable (r : Fin 16)
  /-- `RING_IDLE` (R573): The disabled ring's in-flight descriptors complete and IDLE is set. -/
  | ringIdle (r : Fin 16)
  /-- `PCIE_RESET` (R566): A PCIe reset resets the host side of crossing 11, disables every ring and clears HST_ RW fields. -/
  | pcieReset
  /-- `EVENT_RING_ENABLE` (R585): Writing HST_EVR_CFG.EN enables or disables event recording, discarding held events on disable. -/
  | eventRingEnable (en : Bool)
  /-- `CAPTURE_FREEZE` (R590): The post-trigger part has been written and the window freezes. -/
  | captureFreeze (w : Fin 16)
  /-- `CAPTURE_RING_WRITE` (R591): The freeze record is written to the capture ring when space is free. -/
  | captureRingWrite
  /-- `ETH_FRAME_RECEIVE` (R598): A received Ethernet frame is timestamped and written to the oldest RXBUF, or dropped. -/
  | ethFrameReceive (len : Nat) (fcsOk : Bool) (ws : List Word) (dma : Bool)
  /-- `FRAME_EGRESS` (R600): A TXFRM frame has left and its completion carries the egress timestamp. -/
  | frameEgress
  /-- `HST_ETHCNT_CLR` (R601): Writing 1 to HST_ETHCNT.CLR clears both Ethernet counts. -/
  | hstEthcntClr
  /-- `HST_ERR_CLEAR` (R601): Writing 1 to HST_ERR.DBOVF or DMAERR clears it. -/
  | hstErrClear (mask : BitVec 2)
  /-- `ARM` (R605): The ARM request moves STANDBY to ARMED after an isolation test passes. -/
  | arm
  /-- `CONNECT` (R605): The CONNECT request moves ARMED to CONNECTED when CONNOK, CONNPERM and TESTOK hold. -/
  | connect
  /-- `STOP` (R605): The STOP request moves ARMED, CONNECTED or RIDE to STANDBY. -/
  | stop
  /-- `CLEAR` (R609): The CLEAR request leaves TRIPPED or SAFE when every recorded cause's clear condition holds. -/
  | clear
  /-- `TRIP` (R609): The TRIP request makes a block trip with cause COMMAND. -/
  | trip
  /-- `RESET` (R605): The RESET request resets the main domain and starts BOOT. -/
  | reset
  /-- `AUTOMATIC_REQUEST` (R604): With AUTO = 1 the module makes ARM in STANDBY or CONNECT in ARMED by itself. -/
  | automaticRequest
  /-- `AUTOMATIC_CLEAR` (R610): With GRIDRST = 1 and only grid causes, the zone continuous for RDLY s makes CLEAR by itself. -/
  | automaticClear
  /-- `TCLOSE_EXPIRY` (R607): TCLOSE after entering CONNECTED the pairs start at their next period start. -/
  | tcloseExpiry
  /-- `NRST_ASSERT` (R613): nRST held low for 10 us or more resets the main domain. -/
  | nrstAssert (ns : Nat)
  /-- `NRST_RELEASE` (R612): nRST is released with supplies in range and the module enters BOOT. -/
  | nrstRelease
  /-- `BOOT_COMPLETE` (R614): Every start-up step is complete and BOOT ends in STANDBY, TRIPPED or SAFE. -/
  | bootComplete
  /-- `LOS_DEASSERTED` (R392): LKnLOS is deasserted on a port that its role enables, and the port starts training. -/
  | losDeasserted (n : Fin 8)
  /-- `SAMPLING_INSTANT` (R272): A later entry of a run, an injected entry or a restarted entry samples at the first TBA edge that satisfies ACQ, and its conversion is in progress from there. -/
  | samplingInstant (lane : Fin 16)
  /-- `NOTCH_EDGE` (R203): At the computed counts of a refresh notch or hold pulse the upper switch turns off, or the lower refresh pulse ends after RT. -/
  | notchEdge (m : Fin 24)
  /-- `ETH_LINK_CHANGE` (R597): The 1000BASE-X port gains or loses link, with clause 37 auto-negotiation when enabled, and HST_ETH.LINK follows. -/
  | ethLinkChange (up : Bool)
  /-- `IMAGE_WRITE_COMPLETE` (R577): An IMGW that has been writing an image into the inactive MRAM slot finishes and its completion is written. -/
  | imageWriteComplete
  /-- `CAPRD_COMPLETE` (R592): A running CAPRD finishes its DMA of a frozen window and completes with the bytes written. -/
  | caprdComplete (r : Fin 16) (dma : Bool)
  /-- `RAIL_OUT_OF_RANGE` (R612): A main rail leaves its recommended range, and every PWMn land is held low and both switches of each safety output pair are off until the rails return. -/
  | railOutOfRange (inRange : Bool)
  deriving DecidableEq, Repr

end Sys2Proof
end

