-- ==== Sys2Proof/Decode.lean ====
section
/-! DEFINITION. The command a word spells. The spec's table of commands gives no row any bits, so no word spells one. -/

namespace Sys2Proof

/-- The command spelled by the low `nbits` bits of `w`: none, whatever the word. -/
def decodeTableWord (_nbits _w : Nat) : Option Instr := none

end Sys2Proof
end

