-- ==== Sys2Proof/Config.lean ====
section
/-! DEFINITION. What one module's making fixes and the values the spec leaves open. The opaque constants have no body:
nothing in Lean can evaluate them, and a statement holds whatever they are. -/

namespace Sys2Proof.Config

/-- The factory serial number (R453: "factory"). -/
opaque serial : BitVec 64

/-- The factory calibration of the pace monitor: ring cycles of one window to an estimated multiply-accumulate time in ps
(R32, R36). -/
opaque paceCal : Nat → BitVec 12

/-- Free values: the value of the n-th happening whose value the spec leaves open. -/
opaque free : Nat → Word

/-- The actual value of a quantity that a table of the spec bounds by Min and Max, as an offset into the bounds: by quantity
and by instant (R654). -/
opaque actual : Nat → Nat → Nat

/-- How PARTNER_REFUSED codes its causes ROLE, TOPO, FULL and NOROW (0 to 3), which R433 names and does not number. -/
opaque refusalCode : Nat → Word

end Sys2Proof.Config
end

