-- ==== Sys2Proof/Machine/Tab.lean ====
section
/-! DEFINITION. Sparse tables of plain data: a list of (key, value) pairs with strictly rising keys and no entry equal
to what an unlisted key reads as. The register file, the byte memory of the control engine, host memory and the other
large stores of the module all have this one form. -/

namespace Sys2Proof.Machine

/-- A sparse table. -/
abbrev Tab (α : Type) := List (Nat × α)

/-- The entry listed for a key, if there is one. -/
def Tab.look {α : Type} : Tab α → Nat → Option α
  | [], _ => none
  | (k, v) :: t, n => if n = k then some v else Tab.look t n

/-- What a table answers for a key, `d` giving what an unlisted key reads as. -/
def Tab.get {α : Type} (d : Nat → α) (t : Tab α) (n : Nat) : α := (Tab.look t n).getD (d n)

/-- The table with `v` listed for key `n`, in its place. -/
def Tab.put {α : Type} : Tab α → Nat → α → Tab α
  | [], n, v => [(n, v)]
  | (k, w) :: t, n, v =>
    if n < k then (n, v) :: (k, w) :: t
    else if n = k then (n, v) :: t
    else (k, w) :: Tab.put t n v

/-- The table with no entry for key `n`. -/
def Tab.del {α : Type} : Tab α → Nat → Tab α
  | [], _ => []
  | (k, w) :: t, n => if n = k then Tab.del t n else (k, w) :: Tab.del t n

/-- Writes `v` for key `n`, keeping the canonical form: writing what an unlisted key reads as removes the entry. -/
def Tab.set {α : Type} [DecidableEq α] (d : Nat → α) (t : Tab α) (n : Nat) (v : α) : Tab α :=
  if v = d n then Tab.del t n else Tab.put t n v

/-- Every key of the table is above `n`. -/
def Tab.above {α : Type} (n : Nat) : Tab α → Bool
  | [] => true
  | (k, _) :: t => decide (n < k) && Tab.above n t

/-- The canonical form: strictly rising keys, no entry equal to what its key reads as when unlisted. -/
def Tab.wf {α : Type} [DecidableEq α] (d : Nat → α) : Tab α → Bool
  | [] => true
  | (k, v) :: t => Tab.above k t && decide (v ≠ d k) && Tab.wf d t

end Sys2Proof.Machine
end

