-- ==== Sys2Proof/Machine/RegMap.lean ====
section
/-! DEFINITION. The setup register map, as the register tables of the spec's chapters give it (R12 to R14, R618, and the
rule named at each row): for every register its offset, its fields, each field's place, access code, value after reset or
factory default, and the clamps that depend on the field alone. `R.<register>_<field>` names a field by its offset and
bits; an indexed register takes its index. Clamps that depend on other fields stand in Commit.lean. -/

namespace Sys2Proof.Machine

/-- A register field: the byte offset of its register in BAR0, its lowest bit and its width. -/
structure Fld where
  off : Nat
  lo  : Nat
  w   : Nat
  deriving DecidableEq, Repr

/-- The field's value in a register word. -/
def Fld.get (x : Fld) (v : Word) : Nat := (v.extractLsb' x.lo x.w).toNat

/-- The bits of a register that the field covers. -/
def Fld.mask (x : Fld) : Word := BitVec.ofNat 32 ((2 ^ x.w - 1) <<< x.lo)

/-- A register word with the field set to `n` (its low `w` bits), every other bit as before. -/
def Fld.put (x : Fld) (v : Word) (n : Nat) : Word :=
  (v &&& ~~~x.mask) ||| (BitVec.ofNat 32 ((n % 2 ^ x.w) <<< x.lo) &&& x.mask)

/-- The access codes of R12. -/
inductive Acc where
  | rw | ro | w1c | wo | rwc | rwb
  deriving DecidableEq, Repr

/-- One field row of a register table: place, access code, value after reset or factory default, and the ranges that a
write clamps to one value. -/
structure FieldSpec where
  lo : Nat
  w : Nat
  acc : Acc
  dflt : Nat
  clamps : List (Nat × Nat × Nat) := []
  deriving DecidableEq, Repr

/-- One row of the map: the first offset, the step to the next register of the row, how many there are, and the fields. -/
structure RegSpec where
  base : Nat
  stride : Nat
  count : Nat
  fields : List FieldSpec
  deriving DecidableEq, Repr

/-- Whether a register of this row stands at the offset. -/
def RegSpec.has (r : RegSpec) (off : Nat) : Bool :=
  decide (r.base ≤ off) &&
    (if r.count = 1 then decide (off = r.base)
     else decide ((off - r.base) % r.stride = 0) && decide ((off - r.base) / r.stride < r.count))

/-- The value after reset of a register of this row: every field at its value or factory default, reserved bits 0. -/
def RegSpec.resetWord (r : RegSpec) : Word :=
  BitVec.ofNat 32 (r.fields.foldl (fun a f => a + f.dflt * 2 ^ f.lo) 0)


/-- The `SYS_` registers. -/
def RegMap.sys : List RegSpec := [
  -- SYS_ID (R21)
  ⟨0x0, 0, 1, [⟨0, 16, .ro, 29206, []⟩, ⟨16, 1, .ro, 1, []⟩, ⟨20, 4, .ro, 1, []⟩, ⟨24, 4, .ro, 1, []⟩]⟩,
  -- SYS_PACE (R33)
  ⟨0x40, 0, 1, [⟨0, 16, .ro, 0, []⟩, ⟨16, 12, .ro, 0, []⟩, ⟨28, 1, .ro, 0, []⟩]⟩,
  -- SYS_PACE_CFG (R34)
  ⟨0x44, 0, 1, [⟨0, 12, .rwc, 2900, []⟩, ⟨12, 1, .rwc, 1, []⟩]⟩,
  -- SYS_PACE_EXT (R35)
  ⟨0x48, 0, 1, [⟨0, 12, .ro, 4095, []⟩, ⟨12, 12, .ro, 0, []⟩, ⟨24, 1, .w1c, 0, []⟩]⟩,
  -- SYS_OWN_QRY (R52)
  ⟨0x80, 0, 1, [⟨0, 16, .rw, 0, []⟩, ⟨16, 16, .ro, 0, []⟩]⟩,
  -- SYS_OWN_LAST (R54)
  ⟨0x84, 0, 1, [⟨0, 16, .ro, 0, []⟩, ⟨16, 16, .ro, 0, []⟩]⟩,
  -- SYS_OWN_LASTC (R55)
  ⟨0x88, 0, 1, [⟨0, 16, .ro, 0, []⟩, ⟨16, 1, .ro, 0, []⟩, ⟨24, 8, .ro, 0, []⟩]⟩,
  -- SYS_STATE (R617)
  ⟨0x100, 0, 1, [⟨0, 4, .ro, 0, []⟩, ⟨4, 4, .ro, 0, []⟩, ⟨8, 8, .ro, 0, []⟩, ⟨16, 1, .ro, 0, []⟩,
    ⟨17, 4, .ro, 15, []⟩]⟩,
  -- SYS_CMD (R617)
  ⟨0x104, 0, 1, [⟨0, 3, .wo, 0, []⟩]⟩,
  -- SYS_CTL (R617)
  ⟨0x108, 0, 1, [⟨0, 1, .rwc, 0, []⟩, ⟨1, 1, .rwc, 0, []⟩, ⟨8, 8, .rwc, 5, [(0, 0, 1)]⟩, ⟨16, 4, .rwc, 3, []⟩,
    ⟨20, 12, .rwc, 100, [(501, 4095, 500)]⟩]⟩,
  -- SYS_TCAUSE (R617)
  ⟨0x10c, 0, 1, [⟨0, 8, .ro, 0, []⟩, ⟨8, 8, .ro, 0, []⟩, ⟨16, 8, .ro, 0, []⟩, ⟨24, 8, .ro, 0, []⟩]⟩,
  -- SYS_RSTC (R617)
  ⟨0x110, 0, 1, [⟨0, 3, .ro, 0, []⟩]⟩]

/-- The `CLK_` registers. -/
def RegMap.clk : List RegSpec := [
  -- CLK_REF (R92)
  ⟨0x1000, 0, 1, [⟨0, 2, .rwc, 0, [(2, 3, 1)]⟩, ⟨4, 1, .rwb, 0, []⟩, ⟨8, 4, .rwc, 0, []⟩]⟩,
  -- CLK_STAT (R93)
  ⟨0x1004, 0, 1, [⟨0, 1, .ro, 0, []⟩, ⟨1, 1, .ro, 1, []⟩, ⟨2, 3, .ro, 0, []⟩, ⟨5, 3, .ro, 0, []⟩,
    ⟨8, 1, .ro, 1, []⟩]⟩,
  -- CLK_LOSS (R94)
  ⟨0x1008, 0, 1, [⟨0, 8, .ro, 0, []⟩, ⟨8, 8, .ro, 0, []⟩, ⟨16, 8, .ro, 0, []⟩, ⟨24, 7, .ro, 0, []⟩,
    ⟨31, 1, .w1c, 0, []⟩]⟩,
  -- CLK_CKO (R95)
  ⟨0x1010, 4, 4, [⟨0, 1, .rwc, 0, []⟩, ⟨1, 2, .rwc, 0, []⟩, ⟨3, 8, .rwc, 0, []⟩, ⟨11, 3, .rwc, 2, [(4, 7, 3)]⟩,
    ⟨14, 1, .rwc, 0, []⟩, ⟨15, 1, .rwc, 0, []⟩]⟩]

/-- The `TIM_` registers. -/
def RegMap.tim : List RegSpec := [
  -- TIM_TBP_LO (R101)
  ⟨0x2000, 0, 1, [⟨0, 32, .ro, 0, []⟩]⟩,
  -- TIM_TBP_HI (R101)
  ⟨0x2004, 0, 1, [⟨0, 32, .ro, 0, []⟩]⟩,
  -- TIM_PT_NS (R104)
  ⟨0x2010, 0, 1, [⟨0, 30, .ro, 0, []⟩]⟩,
  -- TIM_PT_SECL (R104)
  ⟨0x2014, 0, 1, [⟨0, 32, .ro, 0, []⟩]⟩,
  -- TIM_PT_SECH (R104)
  ⟨0x2018, 0, 1, [⟨0, 16, .ro, 0, []⟩, ⟨16, 16, .ro, 0, []⟩]⟩,
  -- TIM_SRV (R117)
  ⟨0x2020, 0, 1, [⟨0, 4, .rwc, 2, []⟩, ⟨4, 4, .rwc, 6, []⟩, ⟨8, 8, .rwc, 8, [(0, 0, 1)]⟩,
    ⟨16, 11, .rwc, 200, [(0, 0, 1), (1954, 2047, 1953)]⟩]⟩,
  -- TIM_SRV2 (R117)
  ⟨0x2024, 0, 1, [⟨0, 16, .rwc, 10, [(0, 0, 1)]⟩, ⟨16, 8, .rwc, 20, [(0, 0, 1)]⟩, ⟨24, 8, .rwc, 0, []⟩]⟩,
  -- TIM_SRVSRC (R117)
  ⟨0x2028, 0, 1, [⟨0, 3, .rwc, 1, [(5, 7, 0)]⟩, ⟨3, 3, .rwc, 2, [(5, 7, 0)]⟩, ⟨6, 3, .rwc, 0, [(5, 7, 0)]⟩,
    ⟨9, 3, .rwc, 0, [(5, 7, 0)]⟩]⟩,
  -- TIM_HOSTOFS_NS (R117)
  ⟨0x2030, 0, 1, [⟨0, 32, .wo, 0, []⟩]⟩,
  -- TIM_HOSTOFS_S (R117)
  ⟨0x2034, 0, 1, [⟨0, 32, .wo, 0, []⟩]⟩,
  -- TIM_LASTOFS (R117)
  ⟨0x2038, 0, 1, [⟨0, 32, .ro, 0, []⟩]⟩,
  -- TIM_RATE (R117)
  ⟨0x203c, 0, 1, [⟨0, 32, .ro, 0, []⟩]⟩,
  -- TIM_PTC_LATE (R127)
  ⟨0x2040, 0, 1, [⟨0, 16, .w1c, 0, []⟩]⟩,
  -- TIM_PTC_NS (R126)
  ⟨0x2100, 16, 16, [⟨0, 30, .rwc, 0, [(1000000000, 1073741823, 999999999)]⟩]⟩,
  -- TIM_PTC_S (R126)
  ⟨0x2104, 16, 16, [⟨0, 32, .rwc, 0, []⟩]⟩,
  -- TIM_PTC_IVL (R126)
  ⟨0x2108, 16, 16, [⟨0, 32, .rwc, 0, []⟩]⟩,
  -- TIM_PTC_CFG (R126)
  ⟨0x210c, 16, 16, [⟨0, 3, .rwc, 0, [(4, 7, 0)]⟩, ⟨4, 4, .rwc, 0, []⟩, ⟨8, 2, .rwc, 1, [(0, 0, 1)]⟩,
    ⟨12, 4, .rwc, 0, []⟩, ⟨16, 9, .rwc, 0, []⟩]⟩]

/-- The `XDC_` registers. -/
def RegMap.xdc : List RegSpec := [
  -- XDC_STAT (R143)
  ⟨0x3000, 4, 18, [⟨0, 12, .ro, 0, []⟩, ⟨12, 12, .ro, 0, []⟩, ⟨24, 7, .ro, 0, []⟩, ⟨31, 1, .w1c, 0, []⟩]⟩,
  -- XDC_CLR (R144)
  ⟨0x3080, 0, 1, [⟨0, 18, .wo, 0, []⟩]⟩]

/-- The `PWM_` registers. -/
def RegMap.pwm : List RegSpec := [
  -- PWM_CAR_CFG (R158)
  ⟨0x4000, 16, 16, [⟨0, 1, .rwc, 0, []⟩, ⟨1, 2, .rwc, 3, [(0, 0, 3)]⟩, ⟨3, 2, .rwc, 1, [(0, 0, 1), (2, 2, 1)]⟩,
    ⟨5, 1, .rwc, 0, []⟩, ⟨6, 4, .rwc, 0, []⟩]⟩,
  -- PWM_CAR_PER (R158)
  ⟨0x4004, 16, 16, [⟨0, 18, .rwc, 20000, [(0, 799, 800), (200001, 262143, 200000)]⟩]⟩,
  -- PWM_CAR_PH (R158)
  ⟨0x4008, 16, 16, [⟨0, 24, .rwc, 0, []⟩]⟩,
  -- PWM_CAR_EFF (R158)
  ⟨0x400c, 16, 16, [⟨0, 19, .ro, 0, []⟩, ⟨19, 4, .ro, 0, []⟩, ⟨23, 1, .ro, 0, []⟩, ⟨24, 1, .ro, 0, []⟩]⟩,
  -- PWM_PAIR_CFG (R150)
  ⟨0x4100, 16, 24, [⟨0, 2, .rwc, 0, [(3, 3, 0)]⟩, ⟨2, 4, .rwc, 0, []⟩, ⟨6, 4, .rwc, 0, []⟩, ⟨10, 1, .rwc, 0, []⟩,
    ⟨11, 1, .rwc, 0, []⟩]⟩,
  -- PWM_PAIR_DUTY (R150)
  ⟨0x4104, 16, 24, [⟨0, 24, .rwc, 0, []⟩, ⟨24, 2, .rwc, 0, []⟩]⟩,
  -- PWM_PAIR_DT (R150)
  ⟨0x4108, 16, 24, [⟨0, 12, .rwc, 0, []⟩, ⟨16, 12, .rwc, 0, []⟩]⟩,
  -- PWM_PAIR_MINP (R150)
  ⟨0x410c, 16, 24, [⟨0, 10, .rwc, 0, []⟩]⟩,
  -- PWM_SH_STAT (R182)
  ⟨0x4300, 0, 1, [⟨0, 1, .ro, 0, []⟩, ⟨1, 1, .w1c, 0, []⟩, ⟨2, 3, .ro, 0, []⟩]⟩,
  -- PWM_COMMIT (R182)
  ⟨0x4304, 0, 1, [⟨0, 1, .wo, 0, []⟩, ⟨1, 1, .wo, 0, []⟩]⟩,
  -- PWM_STAT (R182)
  ⟨0x4308, 0, 1, [⟨0, 8, .ro, 0, []⟩, ⟨8, 8, .ro, 0, []⟩, ⟨16, 1, .w1c, 0, []⟩]⟩]

/-- The `ATC_` registers. -/
def RegMap.atc : List RegSpec := [
  -- ATC_CFG (R190)
  ⟨0x5000, 8, 16, [⟨0, 6, .rwc, 0, []⟩, ⟨6, 2, .rwc, 1, [(0, 0, 1)]⟩, ⟨8, 2, .rwc, 0, []⟩, ⟨10, 4, .rwc, 0, []⟩]⟩,
  -- ATC_TIME (R190)
  ⟨0x5004, 8, 16, [⟨0, 16, .rwc, 0, []⟩, ⟨16, 16, .rwc, 1, [(0, 0, 1)]⟩]⟩,
  -- ATC_MISS (R190)
  ⟨0x5080, 0, 1, [⟨0, 16, .w1c, 0, []⟩]⟩]

/-- The `GDI_` registers. -/
def RegMap.gdi : List RegSpec := [
  -- GDI_LEG_PON (R200)
  ⟨0x6000, 32, 16, [⟨0, 10, .rwc, 0, []⟩, ⟨16, 10, .rwc, 0, []⟩]⟩,
  -- GDI_LEG_POFF (R200)
  ⟨0x6004, 32, 16, [⟨0, 10, .rwc, 0, []⟩, ⟨16, 10, .rwc, 0, []⟩]⟩,
  -- GDI_LEG_SW (R200)
  ⟨0x6008, 32, 16, [⟨0, 12, .rwc, 0, []⟩, ⟨16, 12, .rwc, 0, []⟩]⟩,
  -- GDI_LEG_MRG (R200)
  ⟨0x600c, 32, 16, [⟨0, 10, .rwc, 100, []⟩, ⟨16, 10, .rwc, 0, []⟩]⟩,
  -- GDI_LEG_CFG (R200)
  ⟨0x6010, 32, 16, [⟨0, 2, .rwc, 1, [(3, 3, 2)]⟩, ⟨2, 3, .rwc, 0, [(3, 7, 0)]⟩, ⟨5, 3, .rwc, 0, [(3, 7, 0)]⟩,
    ⟨8, 1, .rwc, 0, []⟩, ⟨16, 12, .rwc, 0, []⟩]⟩,
  -- GDI_LEG_BSR (R200)
  ⟨0x6014, 32, 16, [⟨0, 8, .rwc, 8, [(0, 0, 1)]⟩, ⟨8, 11, .rwc, 400, [(0, 39, 40), (2001, 2047, 2000)]⟩]⟩,
  -- GDI_LEG_LIM (R200)
  ⟨0x6018, 32, 16, [⟨0, 12, .ro, 0, []⟩, ⟨16, 12, .ro, 0, []⟩, ⟨31, 1, .ro, 0, []⟩]⟩,
  -- GDI_STAGE0 (R200)
  ⟨0x6200, 0, 1, [⟨0, 32, .rwc, 0, []⟩]⟩,
  -- GDI_STAGE1 (R200)
  ⟨0x6204, 0, 1, [⟨0, 16, .rwc, 0, []⟩]⟩,
  -- GDI_GDFL (R200)
  ⟨0x6210, 0, 1, [⟨0, 32, .ro, 0, []⟩]⟩,
  -- GDI_GDFH (R200)
  ⟨0x6214, 0, 1, [⟨0, 16, .ro, 0, []⟩]⟩,
  -- GDI_BS (R200)
  ⟨0x6218, 0, 1, [⟨0, 24, .ro, 0, []⟩]⟩,
  -- GDI_BSCNT (R200)
  ⟨0x621c, 0, 1, [⟨0, 16, .ro, 0, []⟩, ⟨16, 15, .ro, 0, []⟩, ⟨31, 1, .w1c, 0, []⟩]⟩]

/-- The `TRP_` registers. -/
def RegMap.trp : List RegSpec := [
  -- TRP_SRC_CFG (R232)
  ⟨0x7000, 8, 88, [⟨0, 1, .rwb, 0, []⟩, ⟨1, 1, .rwb, 0, []⟩, ⟨2, 2, .rwb, 3, [(0, 0, 3)]⟩, ⟨4, 1, .rwb, 0, []⟩,
    ⟨5, 1, .rwb, 0, []⟩, ⟨6, 1, .rwb, 0, []⟩, ⟨8, 4, .rwb, 0, []⟩, ⟨12, 8, .rwb, 0, []⟩, ⟨31, 1, .ro, 0, []⟩]⟩,
  -- TRP_SRC_GRP (R232)
  ⟨0x7004, 8, 88, [⟨0, 16, .rwb, 0, []⟩]⟩,
  -- TRP_GRP_CFG (R233)
  ⟨0x7300, 16, 16, [⟨0, 1, .rwb, 0, []⟩, ⟨1, 1, .rwb, 1, []⟩, ⟨2, 1, .rwb, 1, []⟩, ⟨16, 16, .rwb, 0, []⟩]⟩,
  -- TRP_GRP_BLK (R233)
  ⟨0x7304, 16, 16, [⟨0, 16, .rwb, 800, []⟩]⟩,
  -- TRP_GRP_STAT (R233)
  ⟨0x7308, 16, 16, [⟨0, 1, .w1c, 0, []⟩, ⟨1, 1, .ro, 0, []⟩, ⟨2, 1, .ro, 0, []⟩, ⟨3, 1, .ro, 0, []⟩,
    ⟨4, 1, .ro, 0, []⟩, ⟨8, 7, .ro, 0, []⟩]⟩,
  -- TRP_GRP_CNT (R233)
  ⟨0x730c, 16, 16, [⟨0, 12, .ro, 0, []⟩, ⟨12, 8, .ro, 0, []⟩, ⟨20, 11, .ro, 0, []⟩, ⟨31, 1, .w1c, 0, []⟩]⟩,
  -- TRP_BLK (R234)
  ⟨0x7400, 0, 1, [⟨0, 12, .rwb, 800, [(4001, 4095, 4000)]⟩, ⟨16, 1, .ro, 0, []⟩]⟩,
  -- TRP_BLKSC (R234)
  ⟨0x7404, 0, 1, [⟨0, 4, .ro, 0, []⟩, ⟨4, 4, .ro, 0, []⟩]⟩]

/-- The `CMP_` registers. -/
def RegMap.cmp : List RegSpec := [
  -- CMP_CFG (R253)
  ⟨0x8000, 8, 24, [⟨0, 1, .rwb, 0, []⟩, ⟨1, 1, .rwb, 0, []⟩, ⟨2, 2, .rwb, 0, []⟩]⟩,
  -- CMP_THR (R253)
  ⟨0x8004, 8, 24, [⟨0, 10, .rwb, 1023, []⟩, ⟨16, 10, .rwb, 0, []⟩]⟩,
  -- CMP_STAT (R254)
  ⟨0x80c0, 0, 1, [⟨0, 24, .ro, 0, []⟩]⟩,
  -- CMP_STAT2 (R254)
  ⟨0x80c4, 0, 1, [⟨0, 24, .ro, 0, []⟩]⟩,
  -- CMP_RDY (R254)
  ⟨0x80c8, 0, 1, [⟨0, 24, .ro, 0, []⟩]⟩,
  -- CMP_CHK (R254)
  ⟨0x80d0, 0, 1, [⟨0, 1, .rwc, 1, []⟩, ⟨1, 7, .rwc, 8, [(0, 0, 1)]⟩]⟩,
  -- CMP_CHKF (R254)
  ⟨0x80d4, 0, 1, [⟨0, 24, .w1c, 0, []⟩]⟩,
  -- CMP_OUT_CFG (R254)
  ⟨0x8100, 4, 8, [⟨0, 1, .rwc, 0, []⟩, ⟨1, 5, .rwc, 0, [(24, 31, 23)]⟩, ⟨6, 3, .rwc, 3, [(0, 0, 3), (5, 7, 3)]⟩]⟩]

/-- The `ADC_` registers. -/
def RegMap.adc : List RegSpec := [
  -- ADC_CTL (R300)
  ⟨0x9000, 0, 1, [⟨0, 8, .rwc, 20, [(0, 7, 8)]⟩, ⟨8, 1, .rwc, 1, []⟩]⟩,
  -- ADC_AINMODE (R300)
  ⟨0x9004, 0, 1, [⟨0, 32, .rwc, 0, []⟩]⟩,
  -- ADC_LANECL (R300)
  ⟨0x9008, 0, 1, [⟨0, 16, .rwc, 61440, []⟩]⟩,
  -- ADC_TRIG (R300)
  ⟨0x9010, 4, 16, [⟨0, 2, .rwc, 0, []⟩]⟩,
  -- ADC_REG_CFG (R300)
  ⟨0x9080, 0, 1, [⟨0, 1, .rwc, 0, []⟩, ⟨1, 5, .rwc, 0, []⟩, ⟨6, 3, .rwc, 0, []⟩]⟩,
  -- ADC_INJ_CFG (R300)
  ⟨0x9084, 0, 1, [⟨0, 1, .rwc, 0, []⟩, ⟨1, 4, .rwc, 0, []⟩, ⟨5, 3, .rwc, 1, []⟩]⟩,
  -- ADC_MON_CFG (R300)
  ⟨0x9088, 0, 1, [⟨0, 2, .rwc, 0, [(3, 3, 1)]⟩, ⟨2, 8, .rwc, 0, []⟩, ⟨10, 3, .rwc, 4, []⟩]⟩,
  -- ADC_SWTRIG (R300)
  ⟨0x908c, 0, 1, [⟨0, 3, .wo, 0, []⟩]⟩,
  -- ADC_STAT (R302)
  ⟨0x9090, 0, 1, [⟨0, 1, .ro, 0, []⟩, ⟨1, 6, .ro, 0, []⟩, ⟨7, 5, .ro, 31, []⟩, ⟨12, 1, .ro, 0, []⟩,
    ⟨13, 1, .w1c, 0, []⟩]⟩,
  -- ADC_SLFAIL (R302)
  ⟨0x9094, 0, 1, [⟨0, 17, .ro, 0, []⟩]⟩,
  -- ADC_DROP (R302)
  ⟨0x90a0, 0, 1, [⟨0, 8, .ro, 0, []⟩, ⟨8, 8, .ro, 0, []⟩, ⟨16, 8, .ro, 0, []⟩, ⟨24, 7, .ro, 0, []⟩,
    ⟨31, 1, .w1c, 0, []⟩]⟩,
  -- ADC_OVRL (R302)
  ⟨0x90a4, 0, 1, [⟨0, 16, .w1c, 0, []⟩]⟩,
  -- ADC_PEEK (R302)
  ⟨0x90a8, 0, 1, [⟨0, 8, .rw, 0, []⟩]⟩,
  -- ADC_PEEKV (R302)
  ⟨0x90ac, 0, 1, [⟨0, 32, .ro, 0, []⟩]⟩,
  -- ADC_REG (R301)
  ⟨0x9100, 4, 32, [⟨0, 7, .rwc, 0, [(119, 127, 118)]⟩, ⟨8, 4, .rwc, 0, []⟩, ⟨12, 1, .rwc, 0, []⟩]⟩,
  -- ADC_INJ (R301)
  ⟨0x9180, 4, 16, [⟨0, 7, .rwc, 0, [(119, 127, 118)]⟩, ⟨8, 4, .rwc, 0, []⟩, ⟨12, 1, .rwc, 0, []⟩]⟩,
  -- ADC_MON (R301)
  ⟨0x9400, 8, 256, [⟨0, 7, .rwc, 0, [(119, 127, 118)]⟩, ⟨8, 4, .rwc, 0, []⟩, ⟨12, 1, .rwc, 0, []⟩,
    ⟨16, 8, .rwc, 0, []⟩]⟩,
  -- ADC_MOND (R301)
  ⟨0x9404, 8, 256, [⟨0, 16, .rwc, 0, []⟩]⟩]

/-- The `CE_` registers. -/
def RegMap.ce : List RegSpec := [
  -- CE_CTL (R349)
  ⟨0xa000, 0, 1, [⟨0, 1, .rwc, 1, []⟩, ⟨1, 1, .rwc, 1, []⟩, ⟨2, 1, .wo, 0, []⟩, ⟨3, 1, .wo, 0, []⟩,
    ⟨4, 1, .wo, 0, []⟩]⟩,
  -- CE_DL (R349)
  ⟨0xa004, 0, 1, [⟨0, 20, .rwc, 400, [(0, 39, 40), (1000001, 1048575, 1000000)]⟩, ⟨20, 8, .rwc, 3, [(0, 0, 1)]⟩]⟩,
  -- CE_STAT (R349)
  ⟨0xa008, 0, 1, [⟨0, 1, .ro, 0, []⟩, ⟨1, 1, .ro, 0, []⟩, ⟨2, 1, .ro, 0, []⟩, ⟨3, 1, .ro, 0, []⟩,
    ⟨4, 1, .ro, 0, []⟩, ⟨5, 1, .ro, 0, []⟩, ⟨6, 2, .ro, 0, []⟩, ⟨8, 8, .ro, 0, []⟩, ⟨16, 8, .ro, 0, []⟩]⟩,
  -- CE_CYC (R349)
  ⟨0xa00c, 0, 1, [⟨0, 32, .ro, 0, []⟩]⟩,
  -- CE_MISS (R349)
  ⟨0xa010, 0, 1, [⟨0, 16, .ro, 0, []⟩, ⟨16, 8, .ro, 0, []⟩, ⟨24, 7, .ro, 0, []⟩, ⟨31, 1, .w1c, 0, []⟩]⟩,
  -- CE_CHK (R349)
  ⟨0xa014, 0, 1, [⟨0, 12, .ro, 0, []⟩, ⟨12, 12, .ro, 0, []⟩, ⟨24, 4, .ro, 0, []⟩, ⟨28, 3, .ro, 0, []⟩,
    ⟨31, 1, .w1c, 0, []⟩]⟩,
  -- CE_DUR (R349)
  ⟨0xa018, 0, 1, [⟨0, 20, .ro, 0, []⟩]⟩,
  -- CE_DURMAX (R349)
  ⟨0xa01c, 0, 1, [⟨0, 20, .ro, 0, []⟩, ⟨31, 1, .w1c, 0, []⟩]⟩,
  -- CE_FAULT (R349)
  ⟨0xa020, 0, 1, [⟨0, 15, .ro, 0, []⟩, ⟨15, 3, .ro, 0, []⟩, ⟨18, 8, .ro, 0, []⟩, ⟨26, 3, .ro, 0, []⟩]⟩,
  -- CE_FADDR (R349)
  ⟨0xa024, 0, 1, [⟨0, 32, .ro, 0, []⟩]⟩,
  -- CE_IMG (R349)
  ⟨0xa028, 0, 1, [⟨0, 32, .ro, 0, []⟩]⟩,
  -- CE_IMGV (R349)
  ⟨0xa02c, 0, 1, [⟨0, 32, .ro, 0, []⟩]⟩,
  -- CE_KROM (R349)
  ⟨0xa030, 0, 1, [⟨0, 16, .ro, 1, []⟩]⟩,
  -- CE_KEY (R349)
  ⟨0xa040, 4, 4, [⟨0, 24, .ro, 0, []⟩, ⟨31, 1, .ro, 0, []⟩]⟩,
  -- CE_KEYLD (R349)
  ⟨0xa080, 4, 16, [⟨0, 32, .wo, 0, []⟩]⟩,
  -- CE_KEYCTL (R349)
  ⟨0xa0c0, 0, 1, [⟨0, 2, .wo, 0, []⟩, ⟨8, 1, .wo, 0, []⟩]⟩]

/-- The `GRD_` registers. -/
def RegMap.grd : List RegSpec := [
  -- GRD_CFG (R382)
  ⟨0xb000, 0, 1, [⟨0, 1, .rwb, 1, []⟩, ⟨1, 7, .rwb, 20, [(0, 0, 1), (101, 127, 100)]⟩, ⟨8, 16, .rwb, 200, []⟩]⟩,
  -- GRD_HYS (R382)
  ⟨0xb004, 0, 1, [⟨0, 16, .rwb, 164, []⟩, ⟨16, 16, .rwb, 20, []⟩]⟩,
  -- GRD_ENTV (R382)
  ⟨0xb008, 0, 1, [⟨0, 16, .rwc, 15073, []⟩, ⟨16, 16, .rwc, 17203, []⟩]⟩,
  -- GRD_ENTFL (R382)
  ⟨0xb00c, 0, 1, [⟨0, 17, .rwc, 49500, []⟩]⟩,
  -- GRD_ENTFH (R382)
  ⟨0xb010, 0, 1, [⟨0, 17, .rwc, 50100, []⟩]⟩,
  -- GRD_ENTD (R382)
  ⟨0xb014, 0, 1, [⟨0, 12, .rwc, 180, [(3601, 4095, 3600)]⟩]⟩,
  -- GRD_CRVN (R382)
  ⟨0xb020, 4, 4, [⟨0, 5, .rwb, 0, [(17, 31, 16)]⟩, ⟨8, 5, .rwb, 0, [(17, 31, 16)]⟩,
    ⟨16, 5, .rwb, 0, [(17, 31, 16)]⟩, ⟨24, 5, .rwb, 0, [(17, 31, 16)]⟩]⟩,
  -- GRD_ROC (R382)
  ⟨0xb040, 0, 1, [⟨0, 9, .rwb, 100, [(0, 9, 10), (501, 511, 500)]⟩, ⟨9, 1, .rwb, 0, []⟩, ⟨16, 16, .rwb, 100, []⟩]⟩,
  -- GRD_VS (R382)
  ⟨0xb044, 0, 1, [⟨0, 8, .rwb, 100, [(0, 19, 20), (201, 255, 200)]⟩, ⟨8, 1, .rwb, 0, []⟩]⟩,
  -- GRD_AIL (R382)
  ⟨0xb048, 0, 1, [⟨0, 1, .rwb, 0, []⟩, ⟨1, 3, .rwb, 2, [(0, 0, 1)]⟩, ⟨16, 16, .rwb, 1573, []⟩]⟩,
  -- GRD_CODE (R382)
  ⟨0xb050, 0, 1, [⟨0, 10, .rw, 0, []⟩, ⟨10, 4, .rw, 6, [(0, 4, 5), (11, 15, 10)]⟩,
    ⟨14, 6, .rw, 10, [(0, 4, 5), (41, 63, 40)]⟩, ⟨20, 5, .rw, 10, [(0, 4, 5), (21, 31, 20)]⟩, ⟨31, 1, .rw, 0, []⟩]⟩,
  -- GRD_SP (R382)
  ⟨0xb060, 0, 1, [⟨0, 16, .rwc, 16384, [(16385, 65535, 16384)]⟩, ⟨16, 3, .rwc, 0, [(4, 7, 0)]⟩,
    ⟨19, 1, .rwc, 1, []⟩]⟩,
  -- GRD_SPQ (R382)
  ⟨0xb064, 0, 1, [⟨0, 16, .rwc, 0, []⟩, ⟨16, 16, .rwc, 16384, []⟩]⟩,
  -- GRD_SPR (R382)
  ⟨0xb068, 0, 1, [⟨0, 16, .rwc, 164, [(0, 0, 1)]⟩, ⟨16, 8, .rwc, 30, [(0, 0, 1), (31, 255, 30)]⟩]⟩,
  -- GRD_RCI (R382)
  ⟨0xb070, 0, 1, [⟨0, 7, .rwc, 32, [(97, 127, 96)]⟩, ⟨7, 1, .rwc, 0, []⟩, ⟨8, 16, .rwc, 1638, []⟩]⟩,
  -- GRD_MPPT (R382)
  ⟨0xb080, 4, 12, [⟨0, 1, .rwc, 0, []⟩, ⟨1, 1, .rwc, 0, []⟩, ⟨2, 1, .rwc, 1, []⟩, ⟨16, 16, .rwc, 82, []⟩]⟩,
  -- GRD_SCAN (R382)
  ⟨0xb0b0, 0, 1, [⟨0, 6, .rwc, 5, [(0, 0, 1), (61, 63, 60)]⟩, ⟨8, 6, .rwc, 32, [(0, 7, 8)]⟩,
    ⟨16, 8, .rwc, 128, []⟩]⟩,
  -- GRD_DER (R382)
  ⟨0xb0c0, 0, 1, [⟨0, 7, .rwc, 112, []⟩, ⟨8, 8, .rwc, 95, []⟩, ⟨16, 8, .rwc, 115, []⟩, ⟨24, 7, .rwc, 20, []⟩]⟩,
  -- GRD_VV0 (R382)
  ⟨0xb0d0, 0, 1, [⟨0, 16, .rwc, 14746, []⟩, ⟨16, 16, .rwc, 7373, []⟩]⟩,
  -- GRD_VV1 (R382)
  ⟨0xb0d4, 0, 1, [⟨0, 16, .rwc, 16056, []⟩, ⟨16, 16, .rwc, 0, []⟩]⟩,
  -- GRD_VV2 (R382)
  ⟨0xb0d8, 0, 1, [⟨0, 16, .rwc, 16712, []⟩, ⟨16, 16, .rwc, 0, []⟩]⟩,
  -- GRD_VV3 (R382)
  ⟨0xb0dc, 0, 1, [⟨0, 16, .rwc, 18022, []⟩, ⟨16, 16, .rwc, 58163, []⟩]⟩,
  -- GRD_STAT (R382)
  ⟨0xb0e0, 0, 1, [⟨0, 3, .ro, 0, []⟩, ⟨3, 1, .ro, 0, []⟩, ⟨4, 1, .ro, 0, []⟩, ⟨5, 1, .ro, 0, []⟩,
    ⟨6, 1, .ro, 1, []⟩, ⟨8, 3, .ro, 0, []⟩, ⟨16, 8, .ro, 0, []⟩]⟩,
  -- GRD_STAT2 (R382)
  ⟨0xb0e4, 0, 1, [⟨0, 4, .ro, 0, []⟩, ⟨4, 4, .ro, 0, []⟩]⟩,
  -- GRD_LASTC (R382)
  ⟨0xb0e8, 0, 1, [⟨0, 32, .ro, 0, []⟩]⟩,
  -- GRD_CNT (R382)
  ⟨0xb0ec, 0, 1, [⟨0, 8, .ro, 0, []⟩, ⟨8, 8, .ro, 0, []⟩, ⟨16, 8, .ro, 0, []⟩, ⟨31, 1, .w1c, 0, []⟩]⟩,
  -- GRD_CRV_P (R383)
  ⟨0xb800, 8, 256, [⟨0, 32, .rwb, 0, []⟩]⟩,
  -- GRD_CRV_P (R383)
  ⟨0xb804, 8, 256, [⟨0, 17, .rwb, 0, []⟩]⟩]

/-- The `LNK_` registers. -/
def RegMap.lnk : List RegSpec := [
  -- LNK_CFG (R421)
  ⟨0xc000, 0, 1, [⟨0, 2, .rwc, 1, []⟩, ⟨2, 10, .rwc, 100, [(0, 49, 50), (1001, 1023, 1000)]⟩]⟩,
  -- LNK_TXN (R421)
  ⟨0xc004, 0, 1, [⟨0, 8, .rwc, 10, [(0, 0, 1)]⟩, ⟨8, 2, .rwc, 2, []⟩, ⟨10, 4, .rwc, 4, [(0, 0, 1)]⟩]⟩,
  -- LNK_STAT (R421)
  ⟨0xc008, 0, 1, [⟨0, 8, .ro, 0, []⟩]⟩,
  -- LNK_PORT (R421)
  ⟨0xc010, 4, 8, [⟨0, 3, .ro, 0, []⟩, ⟨3, 1, .ro, 0, []⟩, ⟨4, 1, .ro, 0, []⟩, ⟨5, 1, .ro, 0, []⟩,
    ⟨6, 8, .ro, 0, []⟩, ⟨14, 2, .ro, 0, []⟩]⟩,
  -- LNK_ERR (R421)
  ⟨0xc030, 4, 8, [⟨0, 12, .ro, 0, []⟩, ⟨12, 8, .ro, 0, []⟩, ⟨20, 7, .ro, 0, []⟩, ⟨31, 1, .w1c, 0, []⟩]⟩,
  -- LNK_DLY (R421)
  ⟨0xc050, 4, 8, [⟨0, 32, .ro, 0, []⟩]⟩,
  -- LNK_LINE (R421)
  ⟨0xc070, 4, 4, [⟨0, 9, .ro, 0, []⟩, ⟨9, 9, .ro, 0, []⟩]⟩,
  -- LNK_TXCNT (R421)
  ⟨0xc080, 0, 1, [⟨0, 16, .ro, 0, []⟩, ⟨16, 16, .ro, 0, []⟩]⟩,
  -- LNK_TXCNT2 (R421)
  ⟨0xc084, 0, 1, [⟨0, 16, .ro, 0, []⟩, ⟨31, 1, .w1c, 0, []⟩]⟩]

/-- The `PLT_` registers. -/
def RegMap.plt : List RegSpec := [
  -- PLT_TSTAT (R118)
  ⟨0xd000, 0, 1, [⟨0, 1, .ro, 1, []⟩, ⟨1, 1, .ro, 0, []⟩, ⟨2, 3, .ro, 0, []⟩, ⟨5, 1, .ro, 0, []⟩,
    ⟨6, 1, .ro, 0, []⟩, ⟨16, 8, .ro, 0, []⟩]⟩,
  -- PLT_SERL (R453)
  ⟨0xd004, 0, 1, [⟨0, 32, .ro, 0, []⟩]⟩,
  -- PLT_SERH (R453)
  ⟨0xd008, 0, 1, [⟨0, 32, .ro, 0, []⟩]⟩,
  -- PLT_ASG (R453)
  ⟨0xd010, 0, 1, [⟨0, 10, .rw, 0, []⟩, ⟨10, 10, .rw, 0, []⟩, ⟨20, 1, .rw, 0, []⟩]⟩,
  -- PLT_PHA (R453)
  ⟨0xd014, 0, 1, [⟨0, 24, .rwc, 0, []⟩]⟩,
  -- PLT_PHC (R453)
  ⟨0xd018, 0, 1, [⟨0, 16, .rwc, 1, []⟩]⟩,
  -- PLT_CRD0 (R453)
  ⟨0xd020, 0, 1, [⟨0, 8, .rwc, 8, []⟩, ⟨8, 8, .rwc, 4, []⟩, ⟨16, 8, .rwc, 2, []⟩, ⟨24, 8, .rwc, 0, []⟩]⟩,
  -- PLT_CRD1 (R453)
  ⟨0xd024, 0, 1, [⟨0, 4, .rwc, 4, []⟩, ⟨4, 4, .rwc, 4, []⟩, ⟨8, 4, .rwc, 2, []⟩, ⟨12, 4, .rwc, 0, []⟩,
    ⟨16, 1, .rwc, 0, []⟩, ⟨17, 7, .rwc, 20, []⟩]⟩,
  -- PLT_DROP0 (R453)
  ⟨0xd028, 0, 1, [⟨0, 16, .ro, 0, []⟩, ⟨16, 16, .ro, 0, []⟩]⟩,
  -- PLT_DROP1 (R453)
  ⟨0xd02c, 0, 1, [⟨0, 16, .ro, 0, []⟩, ⟨16, 15, .ro, 0, []⟩, ⟨31, 1, .w1c, 0, []⟩]⟩,
  -- PLT_COAL (R453)
  ⟨0xd030, 0, 1, [⟨0, 32, .ro, 0, []⟩]⟩,
  -- PLT_MCFG (R453)
  ⟨0xd040, 0, 1, [⟨0, 1, .rwc, 1, []⟩, ⟨1, 5, .rwc, 20, [(0, 1, 2)]⟩, ⟨6, 1, .rwc, 1, []⟩, ⟨7, 1, .rwc, 1, []⟩,
    ⟨8, 1, .rwc, 0, []⟩]⟩,
  -- PLT_SP0 (R453)
  ⟨0xd044, 0, 1, [⟨0, 16, .rwc, 16384, []⟩, ⟨16, 16, .rwc, 16384, []⟩]⟩,
  -- PLT_SP1 (R453)
  ⟨0xd048, 0, 1, [⟨0, 16, .rwc, 0, []⟩, ⟨16, 16, .rwc, 16384, []⟩]⟩,
  -- PLT_SP2 (R453)
  ⟨0xd04c, 0, 1, [⟨0, 16, .rwc, 164, []⟩, ⟨16, 3, .rwc, 0, []⟩, ⟨19, 1, .rwc, 0, []⟩, ⟨24, 8, .ro, 0, []⟩]⟩,
  -- PLT_PHM (R453)
  ⟨0xd060, 0, 1, [⟨0, 5, .rwc, 4, [(0, 0, 1), (17, 31, 16)]⟩, ⟨5, 5, .rwc, 1, [(0, 0, 1), (17, 31, 16)]⟩,
    ⟨10, 1, .wo, 0, []⟩]⟩,
  -- PLT_PHB (R453)
  ⟨0xd064, 0, 1, [⟨0, 24, .rwc, 0, []⟩]⟩,
  -- PLT_CODE (R453)
  ⟨0xd068, 0, 1, [⟨0, 10, .rwc, 0, []⟩, ⟨10, 4, .rwc, 6, [(0, 4, 5), (11, 15, 10)]⟩,
    ⟨14, 6, .rwc, 10, [(0, 4, 5), (41, 63, 40)]⟩, ⟨20, 5, .rwc, 10, [(0, 4, 5), (21, 31, 20)]⟩,
    ⟨31, 1, .rwc, 0, []⟩]⟩,
  -- PLT_PCNT (R453)
  ⟨0xd070, 0, 1, [⟨0, 11, .ro, 0, []⟩, ⟨11, 11, .ro, 0, []⟩, ⟨22, 10, .ro, 0, []⟩]⟩,
  -- PLT_PQRY (R453)
  ⟨0xd074, 0, 1, [⟨0, 10, .rw, 0, []⟩, ⟨10, 3, .ro, 0, []⟩, ⟨13, 4, .ro, 0, []⟩, ⟨17, 10, .ro, 0, []⟩,
    ⟨27, 1, .wo, 0, []⟩]⟩,
  -- PLT_PQSER (R453)
  ⟨0xd078, 0, 1, [⟨0, 32, .ro, 0, []⟩]⟩,
  -- PLT_PQTRP (R453)
  ⟨0xd07c, 0, 1, [⟨0, 8, .ro, 0, []⟩]⟩,
  -- PLT_ZP (R453)
  ⟨0xd080, 0, 1, [⟨0, 32, .ro, 0, []⟩]⟩,
  -- PLT_ZQ (R453)
  ⟨0xd084, 0, 1, [⟨0, 32, .ro, 0, []⟩]⟩]

/-- The `SAF_` registers. -/
def RegMap.saf : List RegSpec := [
  -- SAF_CFG (R501)
  ⟨0xe000, 0, 1, [⟨0, 1, .rwb, 0, []⟩, ⟨1, 1, .rwb, 0, []⟩, ⟨8, 4, .rwb, 5, [(11, 15, 10)]⟩,
    ⟨12, 4, .rwb, 4, [(0, 0, 1), (13, 15, 12)]⟩, ⟨16, 8, .rwb, 50, [(0, 9, 10), (251, 255, 250)]⟩,
    ⟨24, 8, .rwb, 20, [(0, 9, 10), (101, 255, 100)]⟩]⟩,
  -- SAF_TST (R501)
  ⟨0xe004, 0, 1, [⟨0, 4, .rwb, 14, []⟩, ⟨4, 4, .rwb, 15, []⟩]⟩,
  -- SAF_OUT (R501)
  ⟨0xe008, 0, 1, [⟨0, 9, .rwb, 200, [(0, 49, 50), (301, 511, 300)]⟩,
    ⟨16, 8, .rwb, 20, [(0, 4, 5), (101, 255, 100)]⟩]⟩,
  -- SAF_IN (R501)
  ⟨0xe010, 4, 4, [⟨0, 2, .rwb, 0, [(3, 3, 0)]⟩, ⟨2, 1, .rwb, 1, []⟩, ⟨3, 1, .rwb, 1, []⟩, ⟨4, 1, .rwb, 0, []⟩,
    ⟨8, 4, .rwb, 4, [(0, 0, 1)]⟩, ⟨16, 11, .rwb, 100, [(0, 9, 10), (2001, 2047, 2000)]⟩]⟩,
  -- SAF_VCHK (R501)
  ⟨0xe020, 4, 6, [⟨0, 5, .rwb, 0, []⟩, ⟨8, 5, .rwb, 0, []⟩, ⟨13, 1, .rwb, 0, []⟩, ⟨14, 1, .rwb, 0, []⟩,
    ⟨16, 12, .rwb, 400, [(2048, 4095, 2047)]⟩]⟩,
  -- SAF_NET (R501)
  ⟨0xe040, 0, 1, [⟨0, 1, .rwb, 0, []⟩, ⟨1, 1, .rwb, 1, []⟩, ⟨2, 1, .rwb, 0, []⟩, ⟨8, 8, .rwb, 10, [(0, 0, 1)]⟩]⟩,
  -- SAF_STAT (R502)
  ⟨0xe080, 0, 1, [⟨0, 1, .ro, 1, []⟩, ⟨1, 2, .ro, 0, []⟩, ⟨3, 1, .ro, 0, []⟩, ⟨4, 1, .ro, 0, []⟩,
    ⟨8, 4, .ro, 0, []⟩, ⟨12, 4, .ro, 0, []⟩, ⟨16, 1, .ro, 0, []⟩, ⟨17, 1, .ro, 0, []⟩, ⟨18, 1, .ro, 0, []⟩,
    ⟨24, 8, .ro, 0, []⟩]⟩,
  -- SAF_FLT (R502)
  ⟨0xe084, 0, 1, [⟨0, 22, .ro, 0, []⟩]⟩,
  -- SAF_TSTAT (R502)
  ⟨0xe088, 0, 1, [⟨0, 16, .ro, 0, []⟩, ⟨16, 2, .ro, 0, []⟩, ⟨18, 6, .ro, 0, []⟩]⟩,
  -- SAF_CV (R502)
  ⟨0xe08c, 0, 1, [⟨0, 32, .ro, 0, []⟩]⟩,
  -- SAF_CNT (R502)
  ⟨0xe090, 0, 1, [⟨0, 8, .ro, 0, []⟩, ⟨8, 8, .ro, 0, []⟩, ⟨16, 15, .ro, 0, []⟩, ⟨31, 1, .w1c, 0, []⟩]⟩,
  -- SAF_CMD (R502)
  ⟨0xe0a0, 0, 1, [⟨0, 1, .wo, 0, []⟩, ⟨1, 1, .wo, 0, []⟩]⟩,
  -- SAF_BLY_STAT (R502)
  ⟨0xe0c0, 0, 1, [⟨0, 2, .ro, 0, []⟩, ⟨2, 2, .ro, 0, []⟩, ⟨8, 8, .ro, 0, []⟩, ⟨16, 3, .ro, 0, []⟩]⟩,
  -- SAF_BLY_CV (R502)
  ⟨0xe0c4, 0, 1, [⟨0, 32, .ro, 0, []⟩]⟩,
  -- SAF_BLY_PROP (R502)
  ⟨0xe0c8, 0, 1, [⟨0, 32, .wo, 0, []⟩]⟩,
  -- SAF_BLY_CONF (R502)
  ⟨0xe0cc, 0, 1, [⟨0, 32, .wo, 0, []⟩]⟩,
  -- SAF_BLY_CTL (R502)
  ⟨0xe0d0, 0, 1, [⟨0, 1, .wo, 0, []⟩]⟩]

/-- The `MTR_` registers. -/
def RegMap.mtr : List RegSpec := [
  -- MTR_CFG (R523)
  ⟨0xf000, 0, 1, [⟨0, 1, .rwc, 1, []⟩, ⟨1, 1, .rwc, 0, []⟩, ⟨2, 1, .rwc, 0, []⟩]⟩,
  -- MTR_SRC (R523)
  ⟨0xf004, 0, 1, [⟨0, 5, .rwc, 0, []⟩, ⟨5, 5, .rwc, 0, []⟩, ⟨10, 5, .rwc, 0, []⟩, ⟨15, 5, .rwc, 0, []⟩,
    ⟨20, 5, .rwc, 0, []⟩, ⟨25, 5, .rwc, 0, []⟩]⟩,
  -- MTR_SCL (R523)
  ⟨0xf010, 4, 6, [⟨0, 32, .rwc, 0, []⟩]⟩,
  -- MTR_CTL (R523)
  ⟨0xf030, 0, 1, [⟨0, 1, .wo, 0, []⟩, ⟨1, 1, .wo, 0, []⟩]⟩,
  -- MTR_STAT (R523)
  ⟨0xf034, 0, 1, [⟨0, 1, .ro, 0, []⟩, ⟨1, 1, .ro, 0, []⟩, ⟨2, 1, .w1c, 0, []⟩]⟩,
  -- MTR_CNT (R523)
  ⟨0xf038, 0, 1, [⟨0, 12, .ro, 0, []⟩, ⟨12, 12, .ro, 0, []⟩, ⟨24, 7, .ro, 0, []⟩, ⟨31, 1, .w1c, 0, []⟩]⟩,
  -- MTR_TSEQ (R523)
  ⟨0xf03c, 0, 1, [⟨0, 32, .ro, 0, []⟩]⟩,
  -- MTR_PIN (R523)
  ⟨0xf040, 4, 8, [⟨0, 1, .rwc, 0, []⟩, ⟨1, 6, .rwc, 10, [(0, 0, 1), (51, 63, 50)]⟩]⟩,
  -- MTR_PWT (R523)
  ⟨0xf060, 4, 8, [⟨0, 32, .rwc, 1, []⟩]⟩,
  -- MTR_ACC_LO (R523)
  ⟨0xf100, 8, 40, [⟨0, 32, .ro, 0, []⟩]⟩,
  -- MTR_ACC_HI (R523)
  ⟨0xf104, 8, 40, [⟨0, 32, .ro, 0, []⟩]⟩,
  -- MTR_PLS_TOTL (R523)
  ⟨0xf280, 16, 8, [⟨0, 32, .ro, 0, []⟩]⟩,
  -- MTR_PLS_TOTH (R523)
  ⟨0xf284, 16, 8, [⟨0, 32, .ro, 0, []⟩]⟩,
  -- MTR_PLS (R523)
  ⟨0xf288, 16, 8, [⟨0, 32, .ro, 0, []⟩]⟩,
  -- MTR_LAST (R523)
  ⟨0xf300, 4, 6, [⟨0, 32, .ro, 0, []⟩]⟩]

/-- The `BVQ_` registers. -/
def RegMap.bvq : List RegSpec := [
  -- BVQ_STAT (R561)
  ⟨0x10000, 0, 1, [⟨0, 2, .ro, 0, []⟩, ⟨2, 1, .ro, 0, []⟩, ⟨3, 1, .ro, 0, []⟩, ⟨4, 1, .ro, 0, []⟩,
    ⟨5, 1, .w1c, 0, []⟩]⟩,
  -- BVQ_VST (R561)
  ⟨0x10004, 0, 1, [⟨0, 10, .ro, 0, []⟩, ⟨10, 10, .ro, 0, []⟩, ⟨20, 10, .ro, 0, []⟩]⟩,
  -- BVQ_HARV (R561)
  ⟨0x10008, 0, 1, [⟨0, 8, .rwc, 15, []⟩, ⟨8, 6, .rwc, 49, [(0, 31, 32), (58, 63, 57)]⟩]⟩,
  -- BVQ_ST (R561)
  ⟨0x1000c, 0, 1, [⟨0, 16, .rwc, 100, []⟩, ⟨16, 1, .rwc, 1, []⟩, ⟨17, 1, .rwc, 1, []⟩, ⟨18, 1, .rwc, 1, []⟩,
    ⟨19, 8, .rwc, 180, [(0, 129, 130), (211, 255, 210)]⟩, ⟨27, 5, .rwc, 1, [(0, 0, 1)]⟩]⟩,
  -- BVQ_RES (R561)
  ⟨0x10010, 0, 1, [⟨0, 16, .rwc, 10000, []⟩]⟩,
  -- BVQ_IRRCFG (R561)
  ⟨0x10014, 0, 1, [⟨0, 12, .rwc, 60, [(0, 0, 1), (3601, 4095, 3600)]⟩, ⟨16, 16, .rwc, 0, []⟩]⟩,
  -- BVQ_IRR (R561)
  ⟨0x10018, 0, 1, [⟨0, 12, .ro, 0, []⟩, ⟨16, 16, .ro, 0, []⟩]⟩,
  -- BVQ_WAKE (R561)
  ⟨0x1001c, 0, 1, [⟨0, 1, .rwc, 0, []⟩, ⟨1, 12, .rwc, 50, []⟩, ⟨13, 4, .rwc, 3, [(0, 0, 1)]⟩]⟩,
  -- BVQ_WAKE2 (R561)
  ⟨0x10020, 0, 1, [⟨0, 16, .rwc, 50, []⟩, ⟨16, 1, .wo, 0, []⟩]⟩,
  -- BVQ_RTL (R561)
  ⟨0x10028, 0, 1, [⟨0, 32, .ro, 0, []⟩]⟩,
  -- BVQ_RTH (R561)
  ⟨0x1002c, 0, 1, [⟨0, 16, .ro, 0, []⟩]⟩,
  -- BVQ_RTSL (R561)
  ⟨0x10030, 0, 1, [⟨0, 32, .wo, 0, []⟩]⟩,
  -- BVQ_RTSH (R561)
  ⟨0x10034, 0, 1, [⟨0, 16, .wo, 0, []⟩]⟩,
  -- BVQ_LRT (R561)
  ⟨0x10038, 0, 1, [⟨0, 32, .ro, 0, []⟩]⟩,
  -- BVQ_BST (R561)
  ⟨0x10040, 0, 1, [⟨0, 8, .ro, 0, []⟩, ⟨8, 8, .ro, 0, []⟩, ⟨16, 7, .ro, 0, []⟩, ⟨23, 1, .w1c, 0, []⟩]⟩,
  -- BVQ_CELLT (R561)
  ⟨0x10044, 0, 1, [⟨0, 32, .ro, 0, []⟩]⟩,
  -- BVQ_HUCFG (R561)
  ⟨0x10050, 0, 1, [⟨0, 16, .rwc, 0, []⟩, ⟨16, 8, .rwc, 96, [(0, 15, 16)]⟩, ⟨24, 8, .rwc, 10, []⟩]⟩,
  -- BVQ_HUV (R561)
  ⟨0x10054, 0, 1, [⟨0, 16, .rwc, 1000, []⟩, ⟨16, 16, .rwc, 900, []⟩]⟩,
  -- BVQ_HUSTAT (R561)
  ⟨0x10058, 0, 1, [⟨0, 16, .ro, 0, []⟩, ⟨16, 16, .ro, 0, []⟩]⟩,
  -- BVQ_CAIRN (R561)
  ⟨0x10060, 0, 1, [⟨0, 2, .ro, 0, []⟩, ⟨2, 1, .ro, 0, []⟩, ⟨3, 1, .ro, 0, []⟩, ⟨4, 1, .ro, 0, []⟩,
    ⟨8, 1, .wo, 0, []⟩]⟩,
  -- BVQ_CSEQL (R561)
  ⟨0x10064, 0, 1, [⟨0, 32, .ro, 0, []⟩]⟩,
  -- BVQ_CSEQH (R561)
  ⟨0x10068, 0, 1, [⟨0, 32, .ro, 0, []⟩]⟩]

/-- The `HST_` registers. -/
def RegMap.hst : List RegSpec := [
  -- HST_WRES (R601)
  ⟨0x11000, 0, 1, [⟨0, 3, .ro, 0, []⟩, ⟨4, 8, .ro, 0, []⟩, ⟨12, 20, .ro, 0, []⟩]⟩,
  -- HST_ERR (R601)
  ⟨0x11004, 0, 1, [⟨0, 1, .w1c, 0, []⟩, ⟨1, 1, .w1c, 0, []⟩, ⟨4, 4, .ro, 0, []⟩, ⟨8, 9, .ro, 0, []⟩]⟩,
  -- HST_IMOD (R601)
  ⟨0x1100c, 0, 1, [⟨0, 16, .rw, 0, []⟩]⟩,
  -- HST_RING_QBL (R601)
  ⟨0x11100, 32, 16, [⟨0, 32, .rw, 0, []⟩]⟩,
  -- HST_RING_QBH (R601)
  ⟨0x11104, 32, 16, [⟨0, 32, .rw, 0, []⟩]⟩,
  -- HST_RING_CBL (R601)
  ⟨0x11108, 32, 16, [⟨0, 32, .rw, 0, []⟩]⟩,
  -- HST_RING_CBH (R601)
  ⟨0x1110c, 32, 16, [⟨0, 32, .rw, 0, []⟩]⟩,
  -- HST_RING_CFG (R601)
  ⟨0x11110, 32, 16, [⟨0, 1, .rw, 0, []⟩, ⟨1, 4, .rw, 4, [(0, 3, 4), (13, 15, 12)]⟩, ⟨5, 1, .rw, 0, []⟩,
    ⟨8, 5, .rw, 0, []⟩]⟩,
  -- HST_RING_STAT (R601)
  ⟨0x11114, 32, 16, [⟨0, 16, .ro, 0, []⟩, ⟨16, 9, .ro, 0, []⟩, ⟨31, 1, .ro, 1, []⟩]⟩,
  -- HST_EVR_BL (R601)
  ⟨0x11300, 0, 1, [⟨0, 32, .rw, 0, []⟩]⟩,
  -- HST_EVR_BH (R601)
  ⟨0x11304, 0, 1, [⟨0, 32, .rw, 0, []⟩]⟩,
  -- HST_EVR_CFG (R601)
  ⟨0x11308, 0, 1, [⟨0, 1, .rw, 0, []⟩, ⟨1, 4, .rw, 4, [(0, 3, 4), (13, 15, 12)]⟩, ⟨8, 5, .rw, 0, []⟩,
    ⟨13, 1, .rwc, 1, []⟩]⟩,
  -- HST_EVR_STAT (R601)
  ⟨0x1130c, 0, 1, [⟨0, 16, .ro, 0, []⟩, ⟨16, 16, .ro, 0, []⟩]⟩,
  -- HST_EVR_OFF (R601)
  ⟨0x11310, 0, 1, [⟨0, 16, .ro, 0, []⟩]⟩,
  -- HST_CPR_BL (R601)
  ⟨0x11320, 0, 1, [⟨0, 32, .rw, 0, []⟩]⟩,
  -- HST_CPR_BH (R601)
  ⟨0x11324, 0, 1, [⟨0, 32, .rw, 0, []⟩]⟩,
  -- HST_CPR_CFG (R601)
  ⟨0x11328, 0, 1, [⟨0, 1, .rw, 0, []⟩, ⟨1, 4, .rw, 4, [(0, 3, 4), (13, 15, 12)]⟩, ⟨8, 5, .rw, 0, []⟩]⟩,
  -- HST_CPR_STAT (R601)
  ⟨0x1132c, 0, 1, [⟨0, 16, .ro, 0, []⟩]⟩,
  -- HST_CAP_REG (R601)
  ⟨0x11400, 16, 16, [⟨0, 13, .rwc, 0, []⟩, ⟨16, 14, .rwc, 0, [(8193, 16383, 8192)]⟩]⟩,
  -- HST_CAP_CFG (R601)
  ⟨0x11404, 16, 16, [⟨0, 1, .rwc, 0, []⟩, ⟨1, 7, .rwc, 0, []⟩, ⟨12, 4, .rwc, 8, []⟩, ⟨16, 1, .rwc, 0, []⟩,
    ⟨20, 4, .rwc, 0, []⟩, ⟨24, 4, .rwc, 0, []⟩]⟩,
  -- HST_CAP_TRG (R601)
  ⟨0x11408, 16, 16, [⟨0, 6, .rwc, 0, []⟩, ⟨16, 16, .rwc, 0, []⟩]⟩,
  -- HST_CAP_STAT (R601)
  ⟨0x1140c, 16, 16, [⟨0, 2, .ro, 0, []⟩, ⟨2, 1, .ro, 0, []⟩, ⟨16, 16, .ro, 0, []⟩]⟩,
  -- HST_CAPRW (R601)
  ⟨0x11500, 0, 1, [⟨0, 4, .rw, 0, []⟩, ⟨4, 25, .rw, 0, []⟩]⟩,
  -- HST_CAPRD (R601)
  ⟨0x11600, 4, 64, [⟨0, 32, .ro, 0, []⟩]⟩,
  -- HST_ETH (R601)
  ⟨0x11700, 0, 1, [⟨0, 1, .rwc, 0, []⟩, ⟨1, 1, .rwc, 1, []⟩, ⟨2, 1, .ro, 0, []⟩, ⟨4, 12, .rwc, 0, []⟩,
    ⟨16, 12, .rwc, 0, []⟩]⟩,
  -- HST_ETHCNT (R601)
  ⟨0x11704, 0, 1, [⟨0, 16, .ro, 0, []⟩, ⟨16, 15, .ro, 0, []⟩, ⟨31, 1, .w1c, 0, []⟩]⟩]

/-- The whole map, page by page (R618). -/
def RegMap.all : List RegSpec :=
  RegMap.sys ++ RegMap.clk ++ RegMap.tim ++ RegMap.xdc ++ RegMap.pwm ++ RegMap.atc ++
  RegMap.gdi ++ RegMap.trp ++ RegMap.cmp ++ RegMap.adc ++ RegMap.ce ++ RegMap.grd ++
  RegMap.lnk ++ RegMap.plt ++ RegMap.saf ++ RegMap.mtr ++ RegMap.bvq ++ RegMap.hst

/-- The page of an offset (R618): the registers of block number p stand on page p. -/
def RegMap.page (off : Nat) : List RegSpec :=
  match off / 0x1000 with
  | 0 => RegMap.sys
  | 1 => RegMap.clk
  | 2 => RegMap.tim
  | 3 => RegMap.xdc
  | 4 => RegMap.pwm
  | 5 => RegMap.atc
  | 6 => RegMap.gdi
  | 7 => RegMap.trp
  | 8 => RegMap.cmp
  | 9 => RegMap.adc
  | 10 => RegMap.ce
  | 11 => RegMap.grd
  | 12 => RegMap.lnk
  | 13 => RegMap.plt
  | 14 => RegMap.saf
  | 15 => RegMap.mtr
  | 16 => RegMap.bvq
  | 17 => RegMap.hst
  | _ => []

/-- The row of the map that an offset belongs to; none where the offset holds no register (R619). -/
def RegMap.find (off : Nat) : Option RegSpec := (RegMap.page off).find? (·.has off)

/-- What a register reads after reset with no valid Cairn copy (R14). -/
def RegMap.resetWord (off : Nat) : Word :=
  match RegMap.find off with
  | some r => r.resetWord
  | none => 0

namespace R

/-- R21 -/
def SYS_ID_PARTNO : Fld := ⟨0x0, 0, 16⟩
/-- R21 -/
def SYS_ID_CAPMEM : Fld := ⟨0x0, 16, 1⟩
/-- R21 -/
def SYS_ID_CDREV : Fld := ⟨0x0, 20, 4⟩
/-- R21 -/
def SYS_ID_MSREV : Fld := ⟨0x0, 24, 4⟩
/-- R33 -/
def SYS_PACE_CNT : Fld := ⟨0x40, 0, 16⟩
/-- R33 -/
def SYS_PACE_MACPS : Fld := ⟨0x40, 16, 12⟩
/-- R33 -/
def SYS_PACE_SLOW : Fld := ⟨0x40, 28, 1⟩
/-- R34 -/
def SYS_PACE_CFG_LIM : Fld := ⟨0x44, 0, 12⟩
/-- R34 -/
def SYS_PACE_CFG_EVEN : Fld := ⟨0x44, 12, 1⟩
/-- R35 -/
def SYS_PACE_EXT_MINPS : Fld := ⟨0x48, 0, 12⟩
/-- R35 -/
def SYS_PACE_EXT_MAXPS : Fld := ⟨0x48, 12, 12⟩
/-- R35 -/
def SYS_PACE_EXT_CLR : Fld := ⟨0x48, 24, 1⟩
/-- R52 -/
def SYS_OWN_QRY_RESID : Fld := ⟨0x80, 0, 16⟩
/-- R52 -/
def SYS_OWN_QRY_OWNER : Fld := ⟨0x80, 16, 16⟩
/-- R54 -/
def SYS_OWN_LAST_RESID : Fld := ⟨0x84, 0, 16⟩
/-- R54 -/
def SYS_OWN_LAST_OWNER : Fld := ⟨0x84, 16, 16⟩
/-- R55 -/
def SYS_OWN_LASTC_CLAIM : Fld := ⟨0x88, 0, 16⟩
/-- R55 -/
def SYS_OWN_LASTC_RESTORE : Fld := ⟨0x88, 16, 1⟩
/-- R55 -/
def SYS_OWN_LASTC_COUNT : Fld := ⟨0x88, 24, 8⟩
/-- R617 -/
def SYS_STATE_ST : Fld := ⟨0x100, 0, 4⟩
/-- R617 -/
def SYS_STATE_PREV : Fld := ⟨0x100, 4, 4⟩
/-- R617 -/
def SYS_STATE_CHG : Fld := ⟨0x100, 8, 8⟩
/-- R617 -/
def SYS_STATE_HOLDSB : Fld := ⟨0x100, 16, 1⟩
/-- R617 -/
def SYS_STATE_WAIT : Fld := ⟨0x100, 17, 4⟩
/-- R617 -/
def SYS_CMD_REQ : Fld := ⟨0x104, 0, 3⟩
/-- R617 -/
def SYS_CTL_AUTO : Fld := ⟨0x108, 0, 1⟩
/-- R617 -/
def SYS_CTL_GRIDRST : Fld := ⟨0x108, 1, 1⟩
/-- R617 -/
def SYS_CTL_RDLY : Fld := ⟨0x108, 8, 8⟩
/-- R617 -/
def SYS_CTL_RETRY : Fld := ⟨0x108, 16, 4⟩
/-- R617 -/
def SYS_CTL_TCLOSE : Fld := ⟨0x108, 20, 12⟩
/-- R617 -/
def SYS_TCAUSE_FIRST : Fld := ⟨0x10c, 0, 8⟩
/-- R617 -/
def SYS_TCAUSE_SECOND : Fld := ⟨0x10c, 8, 8⟩
/-- R617 -/
def SYS_TCAUSE_DET : Fld := ⟨0x10c, 16, 8⟩
/-- R617 -/
def SYS_TCAUSE_COUNT : Fld := ⟨0x10c, 24, 8⟩
/-- R617 -/
def SYS_RSTC_CAUSE : Fld := ⟨0x110, 0, 3⟩
/-- R92 -/
def CLK_REF_SRC : Fld := ⟨0x1000, 0, 2⟩
/-- R92 -/
def CLK_REF_OSCACT : Fld := ⟨0x1000, 4, 1⟩
/-- R92 -/
def CLK_REF_RETCAR : Fld := ⟨0x1000, 8, 4⟩
/-- R93 -/
def CLK_STAT_REFOK : Fld := ⟨0x1004, 0, 1⟩
/-- R93 -/
def CLK_STAT_ONOSC : Fld := ⟨0x1004, 1, 1⟩
/-- R93 -/
def CLK_STAT_LOCK : Fld := ⟨0x1004, 2, 3⟩
/-- R93 -/
def CLK_STAT_STABLE : Fld := ⟨0x1004, 5, 3⟩
/-- R93 -/
def CLK_STAT_COARSE : Fld := ⟨0x1004, 8, 1⟩
/-- R94 -/
def CLK_LOSS_PLLA : Fld := ⟨0x1008, 0, 8⟩
/-- R94 -/
def CLK_LOSS_PLLB : Fld := ⟨0x1008, 8, 8⟩
/-- R94 -/
def CLK_LOSS_PLLC : Fld := ⟨0x1008, 16, 8⟩
/-- R94 -/
def CLK_LOSS_REF : Fld := ⟨0x1008, 24, 7⟩
/-- R94 -/
def CLK_LOSS_CLR : Fld := ⟨0x1008, 31, 1⟩
/-- R95 -/
def CLK_CKO_EN (k : Nat) : Fld := ⟨0x1010 + 4 * k, 0, 1⟩
/-- R95 -/
def CLK_CKO_SRC (k : Nat) : Fld := ⟨0x1010 + 4 * k, 1, 2⟩
/-- R95 -/
def CLK_CKO_DIV (k : Nat) : Fld := ⟨0x1010 + 4 * k, 3, 8⟩
/-- R95 -/
def CLK_CKO_FMT (k : Nat) : Fld := ⟨0x1010 + 4 * k, 11, 3⟩
/-- R95 -/
def CLK_CKO_STRONG (k : Nat) : Fld := ⟨0x1010 + 4 * k, 14, 1⟩
/-- R95 -/
def CLK_CKO_LOSS (k : Nat) : Fld := ⟨0x1010 + 4 * k, 15, 1⟩
/-- R101 -/
def TIM_TBP_LO_VAL : Fld := ⟨0x2000, 0, 32⟩
/-- R101 -/
def TIM_TBP_HI_VAL : Fld := ⟨0x2004, 0, 32⟩
/-- R104 -/
def TIM_PT_NS_NS : Fld := ⟨0x2010, 0, 30⟩
/-- R104 -/
def TIM_PT_SECL_SEC : Fld := ⟨0x2014, 0, 32⟩
/-- R104 -/
def TIM_PT_SECH_SEC : Fld := ⟨0x2018, 0, 16⟩
/-- R104 -/
def TIM_PT_SECH_FRAC : Fld := ⟨0x2018, 16, 16⟩
/-- R117 -/
def TIM_SRV_KPSH : Fld := ⟨0x2020, 0, 4⟩
/-- R117 -/
def TIM_SRV_KISH : Fld := ⟨0x2020, 4, 4⟩
/-- R117 -/
def TIM_SRV_LOCKTH : Fld := ⟨0x2020, 8, 8⟩
/-- R117 -/
def TIM_SRV_RATEMAX : Fld := ⟨0x2020, 16, 11⟩
/-- R117 -/
def TIM_SRV2_STEPTH : Fld := ⟨0x2024, 0, 16⟩
/-- R117 -/
def TIM_SRV2_HOSTTO : Fld := ⟨0x2024, 16, 8⟩
/-- R117 -/
def TIM_SRV2_PPSDLY : Fld := ⟨0x2024, 24, 8⟩
/-- R117 -/
def TIM_SRVSRC_P0 : Fld := ⟨0x2028, 0, 3⟩
/-- R117 -/
def TIM_SRVSRC_P1 : Fld := ⟨0x2028, 3, 3⟩
/-- R117 -/
def TIM_SRVSRC_P2 : Fld := ⟨0x2028, 6, 3⟩
/-- R117 -/
def TIM_SRVSRC_P3 : Fld := ⟨0x2028, 9, 3⟩
/-- R117 -/
def TIM_HOSTOFS_NS_VAL : Fld := ⟨0x2030, 0, 32⟩
/-- R117 -/
def TIM_HOSTOFS_S_VAL : Fld := ⟨0x2034, 0, 32⟩
/-- R117 -/
def TIM_LASTOFS_VAL : Fld := ⟨0x2038, 0, 32⟩
/-- R117 -/
def TIM_RATE_VAL : Fld := ⟨0x203c, 0, 32⟩
/-- R127 -/
def TIM_PTC_LATE_PTC : Fld := ⟨0x2040, 0, 16⟩
/-- R126 -/
def TIM_PTC_NS_NS (k : Nat) : Fld := ⟨0x2100 + 16 * k, 0, 30⟩
/-- R126 -/
def TIM_PTC_S_SEC (k : Nat) : Fld := ⟨0x2104 + 16 * k, 0, 32⟩
/-- R126 -/
def TIM_PTC_IVL_VAL (k : Nat) : Fld := ⟨0x2108 + 16 * k, 0, 32⟩
/-- R126 -/
def TIM_PTC_CFG_MODE (k : Nat) : Fld := ⟨0x210c + 16 * k, 0, 3⟩
/-- R126 -/
def TIM_PTC_CFG_CAR (k : Nat) : Fld := ⟨0x210c + 16 * k, 4, 4⟩
/-- R126 -/
def TIM_PTC_CFG_CEVT (k : Nat) : Fld := ⟨0x210c + 16 * k, 8, 2⟩
/-- R126 -/
def TIM_PTC_CFG_GRP (k : Nat) : Fld := ⟨0x210c + 16 * k, 12, 4⟩
/-- R126 -/
def TIM_PTC_CFG_TGT (k : Nat) : Fld := ⟨0x210c + 16 * k, 16, 9⟩
/-- R143 -/
def XDC_STAT_LOST (k : Nat) : Fld := ⟨0x3000 + 4 * k, 0, 12⟩
/-- R143 -/
def XDC_STAT_DISC (k : Nat) : Fld := ⟨0x3000 + 4 * k, 12, 12⟩
/-- R143 -/
def XDC_STAT_RSYNC (k : Nat) : Fld := ⟨0x3000 + 4 * k, 24, 7⟩
/-- R143 -/
def XDC_STAT_OVR (k : Nat) : Fld := ⟨0x3000 + 4 * k, 31, 1⟩
/-- R144 -/
def XDC_CLR_XID : Fld := ⟨0x3080, 0, 18⟩
/-- R158 -/
def PWM_CAR_CFG_EN (k : Nat) : Fld := ⟨0x4000 + 16 * k, 0, 1⟩
/-- R158 -/
def PWM_CAR_CFG_MODE (k : Nat) : Fld := ⟨0x4000 + 16 * k, 1, 2⟩
/-- R158 -/
def PWM_CAR_CFG_UPD (k : Nat) : Fld := ⟨0x4000 + 16 * k, 3, 2⟩
/-- R158 -/
def PWM_CAR_CFG_SYNC (k : Nat) : Fld := ⟨0x4000 + 16 * k, 5, 1⟩
/-- R158 -/
def PWM_CAR_CFG_GRP (k : Nat) : Fld := ⟨0x4000 + 16 * k, 6, 4⟩
/-- R158 -/
def PWM_CAR_PER_PER (k : Nat) : Fld := ⟨0x4004 + 16 * k, 0, 18⟩
/-- R158 -/
def PWM_CAR_PH_PHASE (k : Nat) : Fld := ⟨0x4008 + 16 * k, 0, 24⟩
/-- R158 -/
def PWM_CAR_EFF_PER (k : Nat) : Fld := ⟨0x400c + 16 * k, 0, 19⟩
/-- R158 -/
def PWM_CAR_EFF_DIDX (k : Nat) : Fld := ⟨0x400c + 16 * k, 19, 4⟩
/-- R158 -/
def PWM_CAR_EFF_COARSE (k : Nat) : Fld := ⟨0x400c + 16 * k, 23, 1⟩
/-- R158 -/
def PWM_CAR_EFF_RUN (k : Nat) : Fld := ⟨0x400c + 16 * k, 24, 1⟩
/-- R150 -/
def PWM_PAIR_CFG_MODE (k : Nat) : Fld := ⟨0x4100 + 16 * k, 0, 2⟩
/-- R150 -/
def PWM_PAIR_CFG_CAR (k : Nat) : Fld := ⟨0x4100 + 16 * k, 2, 4⟩
/-- R150 -/
def PWM_PAIR_CFG_LEG (k : Nat) : Fld := ⟨0x4100 + 16 * k, 6, 4⟩
/-- R150 -/
def PWM_PAIR_CFG_ARM (k : Nat) : Fld := ⟨0x4100 + 16 * k, 10, 1⟩
/-- R150 -/
def PWM_PAIR_CFG_RPT (k : Nat) : Fld := ⟨0x4100 + 16 * k, 11, 1⟩
/-- R150 -/
def PWM_PAIR_DUTY_DUTY (k : Nat) : Fld := ⟨0x4104 + 16 * k, 0, 24⟩
/-- R150 -/
def PWM_PAIR_DUTY_FORCE (k : Nat) : Fld := ⟨0x4104 + 16 * k, 24, 2⟩
/-- R150 -/
def PWM_PAIR_DT_DTR (k : Nat) : Fld := ⟨0x4108 + 16 * k, 0, 12⟩
/-- R150 -/
def PWM_PAIR_DT_DTF (k : Nat) : Fld := ⟨0x4108 + 16 * k, 16, 12⟩
/-- R150 -/
def PWM_PAIR_MINP_MINP (k : Nat) : Fld := ⟨0x410c + 16 * k, 0, 10⟩
/-- R182 -/
def PWM_SH_STAT_PEND : Fld := ⟨0x4300, 0, 1⟩
/-- R182 -/
def PWM_SH_STAT_DROP : Fld := ⟨0x4300, 1, 1⟩
/-- R182 -/
def PWM_SH_STAT_RES : Fld := ⟨0x4300, 2, 3⟩
/-- R182 -/
def PWM_COMMIT_GO : Fld := ⟨0x4304, 0, 1⟩
/-- R182 -/
def PWM_COMMIT_ABORT : Fld := ⟨0x4304, 1, 1⟩
/-- R182 -/
def PWM_STAT_REFUSED : Fld := ⟨0x4308, 0, 8⟩
/-- R182 -/
def PWM_STAT_MERGED : Fld := ⟨0x4308, 8, 8⟩
/-- R182 -/
def PWM_STAT_CLR : Fld := ⟨0x4308, 16, 1⟩
/-- R190 -/
def ATC_CFG_SRC (k : Nat) : Fld := ⟨0x5000 + 8 * k, 0, 6⟩
/-- R190 -/
def ATC_CFG_EDGE (k : Nat) : Fld := ⟨0x5000 + 8 * k, 6, 2⟩
/-- R190 -/
def ATC_CFG_FN (k : Nat) : Fld := ⟨0x5000 + 8 * k, 8, 2⟩
/-- R190 -/
def ATC_CFG_TGT (k : Nat) : Fld := ⟨0x5000 + 8 * k, 10, 4⟩
/-- R190 -/
def ATC_TIME_DLY (k : Nat) : Fld := ⟨0x5004 + 8 * k, 0, 16⟩
/-- R190 -/
def ATC_TIME_WID (k : Nat) : Fld := ⟨0x5004 + 8 * k, 16, 16⟩
/-- R190 -/
def ATC_MISS_ATC : Fld := ⟨0x5080, 0, 16⟩
/-- R200 -/
def GDI_LEG_PON_MIN (k : Nat) : Fld := ⟨0x6000 + 32 * k, 0, 10⟩
/-- R200 -/
def GDI_LEG_PON_MAX (k : Nat) : Fld := ⟨0x6000 + 32 * k, 16, 10⟩
/-- R200 -/
def GDI_LEG_POFF_MIN (k : Nat) : Fld := ⟨0x6004 + 32 * k, 0, 10⟩
/-- R200 -/
def GDI_LEG_POFF_MAX (k : Nat) : Fld := ⟨0x6004 + 32 * k, 16, 10⟩
/-- R200 -/
def GDI_LEG_SW_TON (k : Nat) : Fld := ⟨0x6008 + 32 * k, 0, 12⟩
/-- R200 -/
def GDI_LEG_SW_TOFF (k : Nat) : Fld := ⟨0x6008 + 32 * k, 16, 12⟩
/-- R200 -/
def GDI_LEG_MRG_MARGIN (k : Nat) : Fld := ⟨0x600c + 32 * k, 0, 10⟩
/-- R200 -/
def GDI_LEG_MRG_TSET (k : Nat) : Fld := ⟨0x600c + 32 * k, 16, 10⟩
/-- R200 -/
def GDI_LEG_CFG_GDFM (k : Nat) : Fld := ⟨0x6010 + 32 * k, 0, 2⟩
/-- R200 -/
def GDI_LEG_CFG_KINDU (k : Nat) : Fld := ⟨0x6010 + 32 * k, 2, 3⟩
/-- R200 -/
def GDI_LEG_CFG_KINDL (k : Nat) : Fld := ⟨0x6010 + 32 * k, 5, 3⟩
/-- R200 -/
def GDI_LEG_CFG_BS (k : Nat) : Fld := ⟨0x6010 + 32 * k, 8, 1⟩
/-- R200 -/
def GDI_LEG_CFG_SOFFD (k : Nat) : Fld := ⟨0x6010 + 32 * k, 16, 12⟩
/-- R200 -/
def GDI_LEG_BSR_MAX (k : Nat) : Fld := ⟨0x6014 + 32 * k, 0, 8⟩
/-- R200 -/
def GDI_LEG_BSR_T (k : Nat) : Fld := ⟨0x6014 + 32 * k, 8, 11⟩
/-- R200 -/
def GDI_LEG_LIM_DTMIN (k : Nat) : Fld := ⟨0x6018 + 32 * k, 0, 12⟩
/-- R200 -/
def GDI_LEG_LIM_BLKMIN (k : Nat) : Fld := ⟨0x6018 + 32 * k, 16, 12⟩
/-- R200 -/
def GDI_LEG_LIM_BLKWARN (k : Nat) : Fld := ⟨0x6018 + 32 * k, 31, 1⟩
/-- R200 -/
def GDI_STAGE0_STG : Fld := ⟨0x6200, 0, 32⟩
/-- R200 -/
def GDI_STAGE1_STG : Fld := ⟨0x6204, 0, 16⟩
/-- R200 -/
def GDI_GDFL_FLT : Fld := ⟨0x6210, 0, 32⟩
/-- R200 -/
def GDI_GDFH_FLT : Fld := ⟨0x6214, 0, 16⟩
/-- R200 -/
def GDI_BS_HOLD : Fld := ⟨0x6218, 0, 24⟩
/-- R200 -/
def GDI_BSCNT_REFR : Fld := ⟨0x621c, 0, 16⟩
/-- R200 -/
def GDI_BSCNT_LOW : Fld := ⟨0x621c, 16, 15⟩
/-- R200 -/
def GDI_BSCNT_CLR : Fld := ⟨0x621c, 31, 1⟩
/-- R232 -/
def TRP_SRC_CFG_EN (k : Nat) : Fld := ⟨0x7000 + 8 * k, 0, 1⟩
/-- R232 -/
def TRP_SRC_CFG_POL (k : Nat) : Fld := ⟨0x7000 + 8 * k, 1, 1⟩
/-- R232 -/
def TRP_SRC_CFG_CMPSEL (k : Nat) : Fld := ⟨0x7000 + 8 * k, 2, 2⟩
/-- R232 -/
def TRP_SRC_CFG_BLNK (k : Nat) : Fld := ⟨0x7000 + 8 * k, 4, 1⟩
/-- R232 -/
def TRP_SRC_CFG_HARD (k : Nat) : Fld := ⟨0x7000 + 8 * k, 5, 1⟩
/-- R232 -/
def TRP_SRC_CFG_SC (k : Nat) : Fld := ⟨0x7000 + 8 * k, 6, 1⟩
/-- R232 -/
def TRP_SRC_CFG_SCLEG (k : Nat) : Fld := ⟨0x7000 + 8 * k, 8, 4⟩
/-- R232 -/
def TRP_SRC_CFG_FLT (k : Nat) : Fld := ⟨0x7000 + 8 * k, 12, 8⟩
/-- R232 -/
def TRP_SRC_CFG_ACT (k : Nat) : Fld := ⟨0x7000 + 8 * k, 31, 1⟩
/-- R232 -/
def TRP_SRC_GRP_MASK (k : Nat) : Fld := ⟨0x7004 + 8 * k, 0, 16⟩
/-- R233 -/
def TRP_GRP_CFG_EN (k : Nat) : Fld := ⟨0x7300 + 16 * k, 0, 1⟩
/-- R233 -/
def TRP_GRP_CFG_MODE (k : Nat) : Fld := ⟨0x7300 + 16 * k, 1, 1⟩
/-- R233 -/
def TRP_GRP_CFG_BLK (k : Nat) : Fld := ⟨0x7300 + 16 * k, 2, 1⟩
/-- R233 -/
def TRP_GRP_CFG_LEGS (k : Nat) : Fld := ⟨0x7300 + 16 * k, 16, 16⟩
/-- R233 -/
def TRP_GRP_BLK_MAX (k : Nat) : Fld := ⟨0x7304 + 16 * k, 0, 16⟩
/-- R233 -/
def TRP_GRP_STAT_LATCH (k : Nat) : Fld := ⟨0x7308 + 16 * k, 0, 1⟩
/-- R233 -/
def TRP_GRP_STAT_ACT (k : Nat) : Fld := ⟨0x7308 + 16 * k, 1, 1⟩
/-- R233 -/
def TRP_GRP_STAT_CUT (k : Nat) : Fld := ⟨0x7308 + 16 * k, 2, 1⟩
/-- R233 -/
def TRP_GRP_STAT_SCB (k : Nat) : Fld := ⟨0x7308 + 16 * k, 3, 1⟩
/-- R233 -/
def TRP_GRP_STAT_MULTI (k : Nat) : Fld := ⟨0x7308 + 16 * k, 4, 1⟩
/-- R233 -/
def TRP_GRP_STAT_FIRST (k : Nat) : Fld := ⟨0x7308 + 16 * k, 8, 7⟩
/-- R233 -/
def TRP_GRP_CNT_CBC (k : Nat) : Fld := ⟨0x730c + 16 * k, 0, 12⟩
/-- R233 -/
def TRP_GRP_CNT_LAT (k : Nat) : Fld := ⟨0x730c + 16 * k, 12, 8⟩
/-- R233 -/
def TRP_GRP_CNT_BLNK (k : Nat) : Fld := ⟨0x730c + 16 * k, 20, 11⟩
/-- R233 -/
def TRP_GRP_CNT_CLR (k : Nat) : Fld := ⟨0x730c + 16 * k, 31, 1⟩
/-- R234 -/
def TRP_BLK_SCWIN : Fld := ⟨0x7400, 0, 12⟩
/-- R234 -/
def TRP_BLK_SC : Fld := ⟨0x7400, 16, 1⟩
/-- R234 -/
def TRP_BLKSC_LEGA : Fld := ⟨0x7404, 0, 4⟩
/-- R234 -/
def TRP_BLKSC_LEGB : Fld := ⟨0x7404, 4, 4⟩
/-- R253 -/
def CMP_CFG_EN (k : Nat) : Fld := ⟨0x8000 + 8 * k, 0, 1⟩
/-- R253 -/
def CMP_CFG_DIFF (k : Nat) : Fld := ⟨0x8000 + 8 * k, 1, 1⟩
/-- R253 -/
def CMP_CFG_HYS (k : Nat) : Fld := ⟨0x8000 + 8 * k, 2, 2⟩
/-- R253 -/
def CMP_THR_HI (k : Nat) : Fld := ⟨0x8004 + 8 * k, 0, 10⟩
/-- R253 -/
def CMP_THR_LO (k : Nat) : Fld := ⟨0x8004 + 8 * k, 16, 10⟩
/-- R254 -/
def CMP_STAT_HI : Fld := ⟨0x80c0, 0, 24⟩
/-- R254 -/
def CMP_STAT2_LO : Fld := ⟨0x80c4, 0, 24⟩
/-- R254 -/
def CMP_RDY_RDY : Fld := ⟨0x80c8, 0, 24⟩
/-- R254 -/
def CMP_CHK_EN : Fld := ⟨0x80d0, 0, 1⟩
/-- R254 -/
def CMP_CHK_TOL : Fld := ⟨0x80d0, 1, 7⟩
/-- R254 -/
def CMP_CHKF_FAIL : Fld := ⟨0x80d4, 0, 24⟩
/-- R254 -/
def CMP_OUT_CFG_EN (k : Nat) : Fld := ⟨0x8100 + 4 * k, 0, 1⟩
/-- R254 -/
def CMP_OUT_CFG_SRC (k : Nat) : Fld := ⟨0x8100 + 4 * k, 1, 5⟩
/-- R254 -/
def CMP_OUT_CFG_SEL (k : Nat) : Fld := ⟨0x8100 + 4 * k, 6, 3⟩
/-- R300 -/
def ADC_CTL_ACQ : Fld := ⟨0x9000, 0, 8⟩
/-- R300 -/
def ADC_CTL_ROT : Fld := ⟨0x9000, 8, 1⟩
/-- R300 -/
def ADC_AINMODE_DIFF : Fld := ⟨0x9004, 0, 32⟩
/-- R300 -/
def ADC_LANECL_MON : Fld := ⟨0x9008, 0, 16⟩
/-- R300 -/
def ADC_TRIG_SEQ (k : Nat) : Fld := ⟨0x9010 + 4 * k, 0, 2⟩
/-- R300 -/
def ADC_REG_CFG_EN : Fld := ⟨0x9080, 0, 1⟩
/-- R300 -/
def ADC_REG_CFG_LAST : Fld := ⟨0x9080, 1, 5⟩
/-- R300 -/
def ADC_REG_CFG_BUF : Fld := ⟨0x9080, 6, 3⟩
/-- R300 -/
def ADC_INJ_CFG_EN : Fld := ⟨0x9084, 0, 1⟩
/-- R300 -/
def ADC_INJ_CFG_LAST : Fld := ⟨0x9084, 1, 4⟩
/-- R300 -/
def ADC_INJ_CFG_BUF : Fld := ⟨0x9084, 5, 3⟩
/-- R300 -/
def ADC_MON_CFG_MODE : Fld := ⟨0x9088, 0, 2⟩
/-- R300 -/
def ADC_MON_CFG_LAST : Fld := ⟨0x9088, 2, 8⟩
/-- R300 -/
def ADC_MON_CFG_BUF : Fld := ⟨0x9088, 10, 3⟩
/-- R300 -/
def ADC_SWTRIG_SEQ : Fld := ⟨0x908c, 0, 3⟩
/-- R302 -/
def ADC_STAT_CALOK : Fld := ⟨0x9090, 0, 1⟩
/-- R302 -/
def ADC_STAT_RUN : Fld := ⟨0x9090, 1, 6⟩
/-- R302 -/
def ADC_STAT_CALSL : Fld := ⟨0x9090, 7, 5⟩
/-- R302 -/
def ADC_STAT_NOSPARE : Fld := ⟨0x9090, 12, 1⟩
/-- R302 -/
def ADC_STAT_MONLOSS : Fld := ⟨0x9090, 13, 1⟩
/-- R302 -/
def ADC_SLFAIL_FAIL : Fld := ⟨0x9094, 0, 17⟩
/-- R302 -/
def ADC_DROP_REG : Fld := ⟨0x90a0, 0, 8⟩
/-- R302 -/
def ADC_DROP_INJ : Fld := ⟨0x90a0, 8, 8⟩
/-- R302 -/
def ADC_DROP_MON : Fld := ⟨0x90a0, 16, 8⟩
/-- R302 -/
def ADC_DROP_EARLY : Fld := ⟨0x90a0, 24, 7⟩
/-- R302 -/
def ADC_DROP_CLR : Fld := ⟨0x90a0, 31, 1⟩
/-- R302 -/
def ADC_OVRL_LANE : Fld := ⟨0x90a4, 0, 16⟩
/-- R302 -/
def ADC_PEEK_ENT : Fld := ⟨0x90a8, 0, 8⟩
/-- R302 -/
def ADC_PEEKV_VAL : Fld := ⟨0x90ac, 0, 32⟩
/-- R301 -/
def ADC_REG_CH (k : Nat) : Fld := ⟨0x9100 + 4 * k, 0, 7⟩
/-- R301 -/
def ADC_REG_LANE (k : Nat) : Fld := ⟨0x9100 + 4 * k, 8, 4⟩
/-- R301 -/
def ADC_REG_LEFT (k : Nat) : Fld := ⟨0x9100 + 4 * k, 12, 1⟩
/-- R301 -/
def ADC_INJ_CH (k : Nat) : Fld := ⟨0x9180 + 4 * k, 0, 7⟩
/-- R301 -/
def ADC_INJ_LANE (k : Nat) : Fld := ⟨0x9180 + 4 * k, 8, 4⟩
/-- R301 -/
def ADC_INJ_LEFT (k : Nat) : Fld := ⟨0x9180 + 4 * k, 12, 1⟩
/-- R301 -/
def ADC_MON_CH (k : Nat) : Fld := ⟨0x9400 + 8 * k, 0, 7⟩
/-- R301 -/
def ADC_MON_LANE (k : Nat) : Fld := ⟨0x9400 + 8 * k, 8, 4⟩
/-- R301 -/
def ADC_MON_LEFT (k : Nat) : Fld := ⟨0x9400 + 8 * k, 12, 1⟩
/-- R301 -/
def ADC_MON_REP (k : Nat) : Fld := ⟨0x9400 + 8 * k, 16, 8⟩
/-- R301 -/
def ADC_MOND_DLY (k : Nat) : Fld := ⟨0x9404 + 8 * k, 0, 16⟩
/-- R349 -/
def CE_CTL_EN : Fld := ⟨0xa000, 0, 1⟩
/-- R349 -/
def CE_CTL_BKG : Fld := ⟨0xa000, 1, 1⟩
/-- R349 -/
def CE_CTL_RST : Fld := ⟨0xa000, 2, 1⟩
/-- R349 -/
def CE_CTL_ACT : Fld := ⟨0xa000, 3, 1⟩
/-- R349 -/
def CE_CTL_ACTSL : Fld := ⟨0xa000, 4, 1⟩
/-- R349 -/
def CE_DL_DL : Fld := ⟨0xa004, 0, 20⟩
/-- R349 -/
def CE_DL_MISSMAX : Fld := ⟨0xa004, 20, 8⟩
/-- R349 -/
def CE_STAT_LOADED : Fld := ⟨0xa008, 0, 1⟩
/-- R349 -/
def CE_STAT_RUN : Fld := ⟨0xa008, 1, 1⟩
/-- R349 -/
def CE_STAT_HOLD : Fld := ⟨0xa008, 2, 1⟩
/-- R349 -/
def CE_STAT_MTRIP : Fld := ⟨0xa008, 3, 1⟩
/-- R349 -/
def CE_STAT_ACTIVE : Fld := ⟨0xa008, 4, 1⟩
/-- R349 -/
def CE_STAT_ACTBUSY : Fld := ⟨0xa008, 5, 1⟩
/-- R349 -/
def CE_STAT_ACTRES : Fld := ⟨0xa008, 6, 2⟩
/-- R349 -/
def CE_STAT_CONSEC : Fld := ⟨0xa008, 8, 8⟩
/-- R349 -/
def CE_STAT_SUSP : Fld := ⟨0xa008, 16, 8⟩
/-- R349 -/
def CE_CYC_CNT : Fld := ⟨0xa00c, 0, 32⟩
/-- R349 -/
def CE_MISS_MISS : Fld := ⟨0xa010, 0, 16⟩
/-- R349 -/
def CE_MISS_SKIP : Fld := ⟨0xa010, 16, 8⟩
/-- R349 -/
def CE_MISS_LATE : Fld := ⟨0xa010, 24, 7⟩
/-- R349 -/
def CE_MISS_CLR : Fld := ⟨0xa010, 31, 1⟩
/-- R349 -/
def CE_CHK_RETRY1 : Fld := ⟨0xa014, 0, 12⟩
/-- R349 -/
def CE_CHK_RETRY2 : Fld := ⟨0xa014, 12, 12⟩
/-- R349 -/
def CE_CHK_PARF : Fld := ⟨0xa014, 24, 4⟩
/-- R349 -/
def CE_CHK_PARS : Fld := ⟨0xa014, 28, 3⟩
/-- R349 -/
def CE_CHK_CLR : Fld := ⟨0xa014, 31, 1⟩
/-- R349 -/
def CE_DUR_LAST : Fld := ⟨0xa018, 0, 20⟩
/-- R349 -/
def CE_DURMAX_MAX : Fld := ⟨0xa01c, 0, 20⟩
/-- R349 -/
def CE_DURMAX_CLR : Fld := ⟨0xa01c, 31, 1⟩
/-- R349 -/
def CE_FAULT_PC : Fld := ⟨0xa020, 0, 15⟩
/-- R349 -/
def CE_FAULT_LANE : Fld := ⟨0xa020, 15, 3⟩
/-- R349 -/
def CE_FAULT_OP : Fld := ⟨0xa020, 18, 8⟩
/-- R349 -/
def CE_FAULT_KIND : Fld := ⟨0xa020, 26, 3⟩
/-- R349 -/
def CE_FADDR_ADDR : Fld := ⟨0xa024, 0, 32⟩
/-- R349 -/
def CE_IMG_ID : Fld := ⟨0xa028, 0, 32⟩
/-- R349 -/
def CE_IMGV_VER : Fld := ⟨0xa02c, 0, 32⟩
/-- R349 -/
def CE_KROM_VER : Fld := ⟨0xa030, 0, 16⟩
/-- R349 -/
def CE_KEY_FP (k : Nat) : Fld := ⟨0xa040 + 4 * k, 0, 24⟩
/-- R349 -/
def CE_KEY_VALID (k : Nat) : Fld := ⟨0xa040 + 4 * k, 31, 1⟩
/-- R349 -/
def CE_KEYLD_VAL (k : Nat) : Fld := ⟨0xa080 + 4 * k, 0, 32⟩
/-- R349 -/
def CE_KEYCTL_SLOT : Fld := ⟨0xa0c0, 0, 2⟩
/-- R349 -/
def CE_KEYCTL_OP : Fld := ⟨0xa0c0, 8, 1⟩
/-- R382 -/
def GRD_CFG_EN : Fld := ⟨0xb000, 0, 1⟩
/-- R382 -/
def GRD_CFG_STALE : Fld := ⟨0xb000, 1, 7⟩
/-- R382 -/
def GRD_CFG_EXIT : Fld := ⟨0xb000, 8, 16⟩
/-- R382 -/
def GRD_HYS_VH : Fld := ⟨0xb004, 0, 16⟩
/-- R382 -/
def GRD_HYS_FH : Fld := ⟨0xb004, 16, 16⟩
/-- R382 -/
def GRD_ENTV_VLO : Fld := ⟨0xb008, 0, 16⟩
/-- R382 -/
def GRD_ENTV_VHI : Fld := ⟨0xb008, 16, 16⟩
/-- R382 -/
def GRD_ENTFL_FLO : Fld := ⟨0xb00c, 0, 17⟩
/-- R382 -/
def GRD_ENTFH_FHI : Fld := ⟨0xb010, 0, 17⟩
/-- R382 -/
def GRD_ENTD_DELAY : Fld := ⟨0xb014, 0, 12⟩
/-- R382 -/
def GRD_CRVN_C0 (k : Nat) : Fld := ⟨0xb020 + 4 * k, 0, 5⟩
/-- R382 -/
def GRD_CRVN_C1 (k : Nat) : Fld := ⟨0xb020 + 4 * k, 8, 5⟩
/-- R382 -/
def GRD_CRVN_C2 (k : Nat) : Fld := ⟨0xb020 + 4 * k, 16, 5⟩
/-- R382 -/
def GRD_CRVN_C3 (k : Nat) : Fld := ⟨0xb020 + 4 * k, 24, 5⟩
/-- R382 -/
def GRD_ROC_TH : Fld := ⟨0xb040, 0, 9⟩
/-- R382 -/
def GRD_ROC_EN : Fld := ⟨0xb040, 9, 1⟩
/-- R382 -/
def GRD_ROC_T : Fld := ⟨0xb040, 16, 16⟩
/-- R382 -/
def GRD_VS_TH : Fld := ⟨0xb044, 0, 8⟩
/-- R382 -/
def GRD_VS_EN : Fld := ⟨0xb044, 8, 1⟩
/-- R382 -/
def GRD_AIL_EN : Fld := ⟨0xb048, 0, 1⟩
/-- R382 -/
def GRD_AIL_ACNT : Fld := ⟨0xb048, 1, 3⟩
/-- R382 -/
def GRD_AIL_ATH : Fld := ⟨0xb048, 16, 16⟩
/-- R382 -/
def GRD_CODE_ROW : Fld := ⟨0xb050, 0, 10⟩
/-- R382 -/
def GRD_CODE_LOG2L : Fld := ⟨0xb050, 10, 4⟩
/-- R382 -/
def GRD_CODE_TC : Fld := ⟨0xb050, 14, 6⟩
/-- R382 -/
def GRD_CODE_AMP : Fld := ⟨0xb050, 20, 5⟩
/-- R382 -/
def GRD_CODE_ON : Fld := ⟨0xb050, 31, 1⟩
/-- R382 -/
def GRD_SP_PSET : Fld := ⟨0xb060, 0, 16⟩
/-- R382 -/
def GRD_SP_QMODE : Fld := ⟨0xb060, 16, 3⟩
/-- R382 -/
def GRD_SP_SRC : Fld := ⟨0xb060, 19, 1⟩
/-- R382 -/
def GRD_SPQ_QSET : Fld := ⟨0xb064, 0, 16⟩
/-- R382 -/
def GRD_SPQ_PF : Fld := ⟨0xb064, 16, 16⟩
/-- R382 -/
def GRD_SPR_RAMP : Fld := ⟨0xb068, 0, 16⟩
/-- R382 -/
def GRD_SPR_TO : Fld := ⟨0xb068, 16, 8⟩
/-- R382 -/
def GRD_RCI_K : Fld := ⟨0xb070, 0, 7⟩
/-- R382 -/
def GRD_RCI_NEG : Fld := ⟨0xb070, 7, 1⟩
/-- R382 -/
def GRD_RCI_DB : Fld := ⟨0xb070, 8, 16⟩
/-- R382 -/
def GRD_MPPT_EN (k : Nat) : Fld := ⟨0xb080 + 4 * k, 0, 1⟩
/-- R382 -/
def GRD_MPPT_ALG (k : Nat) : Fld := ⟨0xb080 + 4 * k, 1, 1⟩
/-- R382 -/
def GRD_MPPT_SCAN (k : Nat) : Fld := ⟨0xb080 + 4 * k, 2, 1⟩
/-- R382 -/
def GRD_MPPT_STEP (k : Nat) : Fld := ⟨0xb080 + 4 * k, 16, 16⟩
/-- R382 -/
def GRD_SCAN_MIN : Fld := ⟨0xb0b0, 0, 6⟩
/-- R382 -/
def GRD_SCAN_STEPS : Fld := ⟨0xb0b0, 8, 6⟩
/-- R382 -/
def GRD_SCAN_LO : Fld := ⟨0xb0b0, 16, 8⟩
/-- R382 -/
def GRD_DER_CH : Fld := ⟨0xb0c0, 0, 7⟩
/-- R382 -/
def GRD_DER_T1 : Fld := ⟨0xb0c0, 8, 8⟩
/-- R382 -/
def GRD_DER_T2 : Fld := ⟨0xb0c0, 16, 8⟩
/-- R382 -/
def GRD_DER_MINP : Fld := ⟨0xb0c0, 24, 7⟩
/-- R382 -/
def GRD_VV0_V : Fld := ⟨0xb0d0, 0, 16⟩
/-- R382 -/
def GRD_VV0_Q : Fld := ⟨0xb0d0, 16, 16⟩
/-- R382 -/
def GRD_VV1_V : Fld := ⟨0xb0d4, 0, 16⟩
/-- R382 -/
def GRD_VV1_Q : Fld := ⟨0xb0d4, 16, 16⟩
/-- R382 -/
def GRD_VV2_V : Fld := ⟨0xb0d8, 0, 16⟩
/-- R382 -/
def GRD_VV2_Q : Fld := ⟨0xb0d8, 16, 16⟩
/-- R382 -/
def GRD_VV3_V : Fld := ⟨0xb0dc, 0, 16⟩
/-- R382 -/
def GRD_VV3_Q : Fld := ⟨0xb0dc, 16, 16⟩
/-- R382 -/
def GRD_STAT_ZONE : Fld := ⟨0xb0e0, 0, 3⟩
/-- R382 -/
def GRD_STAT_HOLD : Fld := ⟨0xb0e0, 3, 1⟩
/-- R382 -/
def GRD_STAT_CONNOK : Fld := ⟨0xb0e0, 4, 1⟩
/-- R382 -/
def GRD_STAT_STALE : Fld := ⟨0xb0e0, 5, 1⟩
/-- R382 -/
def GRD_STAT_AISUSP : Fld := ⟨0xb0e0, 6, 1⟩
/-- R382 -/
def GRD_STAT_HITS : Fld := ⟨0xb0e0, 8, 3⟩
/-- R382 -/
def GRD_STAT_CAUSE : Fld := ⟨0xb0e0, 16, 8⟩
/-- R382 -/
def GRD_STAT2_CRV : Fld := ⟨0xb0e4, 0, 4⟩
/-- R382 -/
def GRD_STAT2_PT : Fld := ⟨0xb0e4, 4, 4⟩
/-- R382 -/
def GRD_LASTC_C : Fld := ⟨0xb0e8, 0, 32⟩
/-- R382 -/
def GRD_CNT_RIDE : Fld := ⟨0xb0ec, 0, 8⟩
/-- R382 -/
def GRD_CNT_CESS : Fld := ⟨0xb0ec, 8, 8⟩
/-- R382 -/
def GRD_CNT_STALE : Fld := ⟨0xb0ec, 16, 8⟩
/-- R382 -/
def GRD_CNT_CLR : Fld := ⟨0xb0ec, 31, 1⟩
/-- R383 -/
def GRD_CRV_P_T (k : Nat) : Fld := ⟨0xb800 + 8 * k, 0, 32⟩
/-- R383 -/
def GRD_CRV_P_X (k : Nat) : Fld := ⟨0xb804 + 8 * k, 0, 17⟩
/-- R421 -/
def LNK_CFG_ROLE : Fld := ⟨0xc000, 0, 2⟩
/-- R421 -/
def LNK_CFG_PER : Fld := ⟨0xc000, 2, 10⟩
/-- R421 -/
def LNK_TXN_TO : Fld := ⟨0xc004, 0, 8⟩
/-- R421 -/
def LNK_TXN_RETRY : Fld := ⟨0xc004, 8, 2⟩
/-- R421 -/
def LNK_TXN_UPQ : Fld := ⟨0xc004, 10, 4⟩
/-- R421 -/
def LNK_STAT_LATEF : Fld := ⟨0xc008, 0, 8⟩
/-- R421 -/
def LNK_PORT_ST (k : Nat) : Fld := ⟨0xc010 + 4 * k, 0, 3⟩
/-- R421 -/
def LNK_PORT_LOS (k : Nat) : Fld := ⟨0xc010 + 4 * k, 3, 1⟩
/-- R421 -/
def LNK_PORT_END (k : Nat) : Fld := ⟨0xc010 + 4 * k, 4, 1⟩
/-- R421 -/
def LNK_PORT_NOFRM (k : Nat) : Fld := ⟨0xc010 + 4 * k, 5, 1⟩
/-- R421 -/
def LNK_PORT_POS (k : Nat) : Fld := ⟨0xc010 + 4 * k, 6, 8⟩
/-- R421 -/
def LNK_PORT_FAR (k : Nat) : Fld := ⟨0xc010 + 4 * k, 14, 2⟩
/-- R421 -/
def LNK_ERR_CRC (k : Nat) : Fld := ⟨0xc030 + 4 * k, 0, 12⟩
/-- R421 -/
def LNK_ERR_STOMP (k : Nat) : Fld := ⟨0xc030 + 4 * k, 12, 8⟩
/-- R421 -/
def LNK_ERR_RETR (k : Nat) : Fld := ⟨0xc030 + 4 * k, 20, 7⟩
/-- R421 -/
def LNK_ERR_CLR (k : Nat) : Fld := ⟨0xc030 + 4 * k, 31, 1⟩
/-- R421 -/
def LNK_DLY_D (k : Nat) : Fld := ⟨0xc050 + 4 * k, 0, 32⟩
/-- R421 -/
def LNK_LINE_NDEV (k : Nat) : Fld := ⟨0xc070 + 4 * k, 0, 9⟩
/-- R421 -/
def LNK_LINE_NMAX (k : Nat) : Fld := ⟨0xc070 + 4 * k, 9, 9⟩
/-- R421 -/
def LNK_TXCNT_TMO : Fld := ⟨0xc080, 0, 16⟩
/-- R421 -/
def LNK_TXCNT_RTRY : Fld := ⟨0xc080, 16, 16⟩
/-- R421 -/
def LNK_TXCNT2_DUP : Fld := ⟨0xc084, 0, 16⟩
/-- R421 -/
def LNK_TXCNT2_CLR : Fld := ⟨0xc084, 31, 1⟩
/-- R118 -/
def PLT_TSTAT_UNSYNC : Fld := ⟨0xd000, 0, 1⟩
/-- R118 -/
def PLT_TSTAT_LOCKED : Fld := ⟨0xd000, 1, 1⟩
/-- R118 -/
def PLT_TSTAT_SRC : Fld := ⟨0xd000, 2, 3⟩
/-- R118 -/
def PLT_TSTAT_HOLD : Fld := ⟨0xd000, 5, 1⟩
/-- R118 -/
def PLT_TSTAT_OSC : Fld := ⟨0xd000, 6, 1⟩
/-- R118 -/
def PLT_TSTAT_STEPS : Fld := ⟨0xd000, 16, 8⟩
/-- R453 -/
def PLT_SERL_SER : Fld := ⟨0xd004, 0, 32⟩
/-- R453 -/
def PLT_SERH_SER : Fld := ⟨0xd008, 0, 32⟩
/-- R453 -/
def PLT_ASG_PART : Fld := ⟨0xd010, 0, 10⟩
/-- R453 -/
def PLT_ASG_ZONE : Fld := ⟨0xd010, 10, 10⟩
/-- R453 -/
def PLT_ASG_ADM : Fld := ⟨0xd010, 20, 1⟩
/-- R453 -/
def PLT_PHA_OFS : Fld := ⟨0xd014, 0, 24⟩
/-- R453 -/
def PLT_PHC_CARS : Fld := ⟨0xd018, 0, 16⟩
/-- R453 -/
def PLT_CRD0_TRIP : Fld := ⟨0xd020, 0, 8⟩
/-- R453 -/
def PLT_CRD0_ALARM : Fld := ⟨0xd020, 8, 8⟩
/-- R453 -/
def PLT_CRD0_LOG : Fld := ⟨0xd020, 16, 8⟩
/-- R453 -/
def PLT_CRD0_TRACE : Fld := ⟨0xd020, 24, 8⟩
/-- R453 -/
def PLT_CRD1_BTRIP : Fld := ⟨0xd024, 0, 4⟩
/-- R453 -/
def PLT_CRD1_BALARM : Fld := ⟨0xd024, 4, 4⟩
/-- R453 -/
def PLT_CRD1_BLOG : Fld := ⟨0xd024, 8, 4⟩
/-- R453 -/
def PLT_CRD1_BTRACE : Fld := ⟨0xd024, 12, 4⟩
/-- R453 -/
def PLT_CRD1_TRLINK : Fld := ⟨0xd024, 16, 1⟩
/-- R453 -/
def PLT_CRD1_HOLD : Fld := ⟨0xd024, 17, 7⟩
/-- R453 -/
def PLT_DROP0_TRIP : Fld := ⟨0xd028, 0, 16⟩
/-- R453 -/
def PLT_DROP0_ALARM : Fld := ⟨0xd028, 16, 16⟩
/-- R453 -/
def PLT_DROP1_LOG : Fld := ⟨0xd02c, 0, 16⟩
/-- R453 -/
def PLT_DROP1_TRACE : Fld := ⟨0xd02c, 16, 15⟩
/-- R453 -/
def PLT_DROP1_CLR : Fld := ⟨0xd02c, 31, 1⟩
/-- R453 -/
def PLT_COAL_CNT : Fld := ⟨0xd030, 0, 32⟩
/-- R453 -/
def PLT_MCFG_ADMIT : Fld := ⟨0xd040, 0, 1⟩
/-- R453 -/
def PLT_MCFG_LOSTF : Fld := ⟨0xd040, 1, 5⟩
/-- R453 -/
def PLT_MCFG_PW : Fld := ⟨0xd040, 6, 1⟩
/-- R453 -/
def PLT_MCFG_RELAY : Fld := ⟨0xd040, 7, 1⟩
/-- R453 -/
def PLT_MCFG_AILMODE : Fld := ⟨0xd040, 8, 1⟩
/-- R453 -/
def PLT_SP0_PSET : Fld := ⟨0xd044, 0, 16⟩
/-- R453 -/
def PLT_SP0_PLIM : Fld := ⟨0xd044, 16, 16⟩
/-- R453 -/
def PLT_SP1_QSET : Fld := ⟨0xd048, 0, 16⟩
/-- R453 -/
def PLT_SP1_PF : Fld := ⟨0xd048, 16, 16⟩
/-- R453 -/
def PLT_SP2_RAMP : Fld := ⟨0xd04c, 0, 16⟩
/-- R453 -/
def PLT_SP2_QMODE : Fld := ⟨0xd04c, 16, 3⟩
/-- R453 -/
def PLT_SP2_CONNPERM : Fld := ⟨0xd04c, 19, 1⟩
/-- R453 -/
def PLT_SP2_SEQ : Fld := ⟨0xd04c, 24, 8⟩
/-- R453 -/
def PLT_PHM_M : Fld := ⟨0xd060, 0, 5⟩
/-- R453 -/
def PLT_PHM_MZ : Fld := ⟨0xd060, 5, 5⟩
/-- R453 -/
def PLT_PHM_REBAL : Fld := ⟨0xd060, 10, 1⟩
/-- R453 -/
def PLT_PHB_BASE : Fld := ⟨0xd064, 0, 24⟩
/-- R453 -/
def PLT_CODE_ROW : Fld := ⟨0xd068, 0, 10⟩
/-- R453 -/
def PLT_CODE_LOG2L : Fld := ⟨0xd068, 10, 4⟩
/-- R453 -/
def PLT_CODE_TC : Fld := ⟨0xd068, 14, 6⟩
/-- R453 -/
def PLT_CODE_AMP : Fld := ⟨0xd068, 20, 5⟩
/-- R453 -/
def PLT_CODE_ON : Fld := ⟨0xd068, 31, 1⟩
/-- R453 -/
def PLT_PCNT_ADM : Fld := ⟨0xd070, 0, 11⟩
/-- R453 -/
def PLT_PCNT_LOST : Fld := ⟨0xd070, 11, 11⟩
/-- R453 -/
def PLT_PCNT_NEW : Fld := ⟨0xd070, 22, 10⟩
/-- R453 -/
def PLT_PQRY_PART : Fld := ⟨0xd074, 0, 10⟩
/-- R453 -/
def PLT_PQRY_ST : Fld := ⟨0xd074, 10, 3⟩
/-- R453 -/
def PLT_PQRY_SLOT : Fld := ⟨0xd074, 13, 4⟩
/-- R453 -/
def PLT_PQRY_ROW : Fld := ⟨0xd074, 17, 10⟩
/-- R453 -/
def PLT_PQRY_FORGET : Fld := ⟨0xd074, 27, 1⟩
/-- R453 -/
def PLT_PQSER_SER : Fld := ⟨0xd078, 0, 32⟩
/-- R453 -/
def PLT_PQTRP_CAUSE : Fld := ⟨0xd07c, 0, 8⟩
/-- R453 -/
def PLT_ZP_P : Fld := ⟨0xd080, 0, 32⟩
/-- R453 -/
def PLT_ZQ_Q : Fld := ⟨0xd084, 0, 32⟩
/-- R501 -/
def SAF_CFG_OUTM : Fld := ⟨0xe000, 0, 1⟩
/-- R501 -/
def SAF_CFG_RACK : Fld := ⟨0xe000, 1, 1⟩
/-- R501 -/
def SAF_CFG_ODLY : Fld := ⟨0xe000, 8, 4⟩
/-- R501 -/
def SAF_CFG_WARN : Fld := ⟨0xe000, 12, 4⟩
/-- R501 -/
def SAF_CFG_TOPEN : Fld := ⟨0xe000, 16, 8⟩
/-- R501 -/
def SAF_CFG_TWIN : Fld := ⟨0xe000, 24, 8⟩
/-- R501 -/
def SAF_TST_LANEA : Fld := ⟨0xe004, 0, 4⟩
/-- R501 -/
def SAF_TST_LANEB : Fld := ⟨0xe004, 4, 4⟩
/-- R501 -/
def SAF_OUT_OPW : Fld := ⟨0xe008, 0, 9⟩
/-- R501 -/
def SAF_OUT_IMIN : Fld := ⟨0xe008, 16, 8⟩
/-- R501 -/
def SAF_IN_MODE (k : Nat) : Fld := ⟨0xe010 + 4 * k, 0, 2⟩
/-- R501 -/
def SAF_IN_TP (k : Nat) : Fld := ⟨0xe010 + 4 * k, 2, 1⟩
/-- R501 -/
def SAF_IN_ACKM (k : Nat) : Fld := ⟨0xe010 + 4 * k, 3, 1⟩
/-- R501 -/
def SAF_IN_PROP (k : Nat) : Fld := ⟨0xe010 + 4 * k, 4, 1⟩
/-- R501 -/
def SAF_IN_FLT (k : Nat) : Fld := ⟨0xe010 + 4 * k, 8, 4⟩
/-- R501 -/
def SAF_IN_DISC (k : Nat) : Fld := ⟨0xe010 + 4 * k, 16, 11⟩
/-- R501 -/
def SAF_VCHK_CH (k : Nat) : Fld := ⟨0xe020 + 4 * k, 0, 5⟩
/-- R501 -/
def SAF_VCHK_RCH (k : Nat) : Fld := ⟨0xe020 + 4 * k, 8, 5⟩
/-- R501 -/
def SAF_VCHK_OUT (k : Nat) : Fld := ⟨0xe020 + 4 * k, 13, 1⟩
/-- R501 -/
def SAF_VCHK_EN (k : Nat) : Fld := ⟨0xe020 + 4 * k, 14, 1⟩
/-- R501 -/
def SAF_VCHK_THR (k : Nat) : Fld := ⟨0xe020 + 4 * k, 16, 12⟩
/-- R501 -/
def SAF_NET_EN : Fld := ⟨0xe040, 0, 1⟩
/-- R501 -/
def SAF_NET_FOLLOW : Fld := ⟨0xe040, 1, 1⟩
/-- R501 -/
def SAF_NET_UPACT : Fld := ⟨0xe040, 2, 1⟩
/-- R501 -/
def SAF_NET_SINGLE : Fld := ⟨0xe040, 8, 8⟩
/-- R502 -/
def SAF_STAT_SAFE : Fld := ⟨0xe080, 0, 1⟩
/-- R502 -/
def SAF_STAT_OUT : Fld := ⟨0xe080, 1, 2⟩
/-- R502 -/
def SAF_STAT_CONF : Fld := ⟨0xe080, 3, 1⟩
/-- R502 -/
def SAF_STAT_TESTOK : Fld := ⟨0xe080, 4, 1⟩
/-- R502 -/
def SAF_STAT_DEM : Fld := ⟨0xe080, 8, 4⟩
/-- R502 -/
def SAF_STAT_DISC : Fld := ⟨0xe080, 12, 4⟩
/-- R502 -/
def SAF_STAT_ACKREQ : Fld := ⟨0xe080, 16, 1⟩
/-- R502 -/
def SAF_STAT_ACKSTUCK : Fld := ⟨0xe080, 17, 1⟩
/-- R502 -/
def SAF_STAT_SINGLE : Fld := ⟨0xe080, 18, 1⟩
/-- R502 -/
def SAF_STAT_CAUSE : Fld := ⟨0xe080, 24, 8⟩
/-- R502 -/
def SAF_FLT_F : Fld := ⟨0xe084, 0, 22⟩
/-- R502 -/
def SAF_TSTAT_AGE : Fld := ⟨0xe088, 0, 16⟩
/-- R502 -/
def SAF_TSTAT_RES : Fld := ⟨0xe088, 16, 2⟩
/-- R502 -/
def SAF_TSTAT_POLES : Fld := ⟨0xe088, 18, 6⟩
/-- R502 -/
def SAF_CV_CV : Fld := ⟨0xe08c, 0, 32⟩
/-- R502 -/
def SAF_CNT_DEM : Fld := ⟨0xe090, 0, 8⟩
/-- R502 -/
def SAF_CNT_DACC : Fld := ⟨0xe090, 8, 8⟩
/-- R502 -/
def SAF_CNT_BAD : Fld := ⟨0xe090, 16, 15⟩
/-- R502 -/
def SAF_CNT_CLR : Fld := ⟨0xe090, 31, 1⟩
/-- R502 -/
def SAF_CMD_TEST : Fld := ⟨0xe0a0, 0, 1⟩
/-- R502 -/
def SAF_CMD_ACK : Fld := ⟨0xe0a0, 1, 1⟩
/-- R502 -/
def SAF_BLY_STAT_ST : Fld := ⟨0xe0c0, 0, 2⟩
/-- R502 -/
def SAF_BLY_STAT_PARTY : Fld := ⟨0xe0c0, 2, 2⟩
/-- R502 -/
def SAF_BLY_STAT_REMAIN : Fld := ⟨0xe0c0, 8, 8⟩
/-- R502 -/
def SAF_BLY_STAT_LAST : Fld := ⟨0xe0c0, 16, 3⟩
/-- R502 -/
def SAF_BLY_CV_CV : Fld := ⟨0xe0c4, 0, 32⟩
/-- R502 -/
def SAF_BLY_PROP_CV : Fld := ⟨0xe0c8, 0, 32⟩
/-- R502 -/
def SAF_BLY_CONF_CV : Fld := ⟨0xe0cc, 0, 32⟩
/-- R502 -/
def SAF_BLY_CTL_ABORT : Fld := ⟨0xe0d0, 0, 1⟩
/-- R523 -/
def MTR_CFG_EN : Fld := ⟨0xf000, 0, 1⟩
/-- R523 -/
def MTR_CFG_WIRE : Fld := ⟨0xf000, 1, 1⟩
/-- R523 -/
def MTR_CFG_FNOM : Fld := ⟨0xf000, 2, 1⟩
/-- R523 -/
def MTR_SRC_VA : Fld := ⟨0xf004, 0, 5⟩
/-- R523 -/
def MTR_SRC_VB : Fld := ⟨0xf004, 5, 5⟩
/-- R523 -/
def MTR_SRC_VC : Fld := ⟨0xf004, 10, 5⟩
/-- R523 -/
def MTR_SRC_IA : Fld := ⟨0xf004, 15, 5⟩
/-- R523 -/
def MTR_SRC_IB : Fld := ⟨0xf004, 20, 5⟩
/-- R523 -/
def MTR_SRC_IC : Fld := ⟨0xf004, 25, 5⟩
/-- R523 -/
def MTR_SCL_K (k : Nat) : Fld := ⟨0xf010 + 4 * k, 0, 32⟩
/-- R523 -/
def MTR_CTL_SNAP : Fld := ⟨0xf030, 0, 1⟩
/-- R523 -/
def MTR_CTL_CLR : Fld := ⟨0xf030, 1, 1⟩
/-- R523 -/
def MTR_STAT_FNOM : Fld := ⟨0xf034, 0, 1⟩
/-- R523 -/
def MTR_STAT_RUN : Fld := ⟨0xf034, 1, 1⟩
/-- R523 -/
def MTR_STAT_TLOST : Fld := ⟨0xf034, 2, 1⟩
/-- R523 -/
def MTR_CNT_FILL : Fld := ⟨0xf038, 0, 12⟩
/-- R523 -/
def MTR_CNT_OVR : Fld := ⟨0xf038, 12, 12⟩
/-- R523 -/
def MTR_CNT_BNC : Fld := ⟨0xf038, 24, 7⟩
/-- R523 -/
def MTR_CNT_CLR : Fld := ⟨0xf038, 31, 1⟩
/-- R523 -/
def MTR_TSEQ_SEQ : Fld := ⟨0xf03c, 0, 32⟩
/-- R523 -/
def MTR_PIN_EN (k : Nat) : Fld := ⟨0xf040 + 4 * k, 0, 1⟩
/-- R523 -/
def MTR_PIN_DB (k : Nat) : Fld := ⟨0xf040 + 4 * k, 1, 6⟩
/-- R523 -/
def MTR_PWT_W (k : Nat) : Fld := ⟨0xf060 + 4 * k, 0, 32⟩
/-- R523 -/
def MTR_ACC_LO_VAL (k : Nat) : Fld := ⟨0xf100 + 8 * k, 0, 32⟩
/-- R523 -/
def MTR_ACC_HI_VAL (k : Nat) : Fld := ⟨0xf104 + 8 * k, 0, 32⟩
/-- R523 -/
def MTR_PLS_TOTL_VAL (k : Nat) : Fld := ⟨0xf280 + 16 * k, 0, 32⟩
/-- R523 -/
def MTR_PLS_TOTH_VAL (k : Nat) : Fld := ⟨0xf284 + 16 * k, 0, 32⟩
/-- R523 -/
def MTR_PLS_CNT (k : Nat) : Fld := ⟨0xf288 + 16 * k, 0, 32⟩
/-- R523 -/
def MTR_LAST_VAL (k : Nat) : Fld := ⟨0xf300 + 4 * k, 0, 32⟩
/-- R561 -/
def BVQ_STAT_SRC : Fld := ⟨0x10000, 0, 2⟩
/-- R561 -/
def BVQ_STAT_CUT : Fld := ⟨0x10000, 2, 1⟩
/-- R561 -/
def BVQ_STAT_RTV : Fld := ⟨0x10000, 3, 1⟩
/-- R561 -/
def BVQ_STAT_HUOK : Fld := ⟨0x10000, 4, 1⟩
/-- R561 -/
def BVQ_STAT_HUWEAK : Fld := ⟨0x10000, 5, 1⟩
/-- R561 -/
def BVQ_VST_HVST : Fld := ⟨0x10004, 0, 10⟩
/-- R561 -/
def BVQ_VST_CELL : Fld := ⟨0x10004, 10, 10⟩
/-- R561 -/
def BVQ_VST_VOC : Fld := ⟨0x10004, 20, 10⟩
/-- R561 -/
def BVQ_HARV_VOCP : Fld := ⟨0x10008, 0, 8⟩
/-- R561 -/
def BVQ_HARV_FRAC : Fld := ⟨0x10008, 8, 6⟩
/-- R561 -/
def BVQ_ST_C : Fld := ⟨0x1000c, 0, 16⟩
/-- R561 -/
def BVQ_ST_CELLEN : Fld := ⟨0x1000c, 16, 1⟩
/-- R561 -/
def BVQ_ST_CHG : Fld := ⟨0x1000c, 17, 1⟩
/-- R561 -/
def BVQ_ST_SYNC : Fld := ⟨0x1000c, 18, 1⟩
/-- R561 -/
def BVQ_ST_VMAX : Fld := ⟨0x1000c, 19, 8⟩
/-- R561 -/
def BVQ_ST_LOGH : Fld := ⟨0x1000c, 27, 5⟩
/-- R561 -/
def BVQ_RES_RES : Fld := ⟨0x10010, 0, 16⟩
/-- R561 -/
def BVQ_IRRCFG_P : Fld := ⟨0x10014, 0, 12⟩
/-- R561 -/
def BVQ_IRRCFG_K : Fld := ⟨0x10014, 16, 16⟩
/-- R561 -/
def BVQ_IRR_ISC : Fld := ⟨0x10018, 0, 12⟩
/-- R561 -/
def BVQ_IRR_G : Fld := ⟨0x10018, 16, 16⟩
/-- R561 -/
def BVQ_WAKE_EN : Fld := ⟨0x1001c, 0, 1⟩
/-- R561 -/
def BVQ_WAKE_TH : Fld := ⟨0x1001c, 1, 12⟩
/-- R561 -/
def BVQ_WAKE_N : Fld := ⟨0x1001c, 13, 4⟩
/-- R561 -/
def BVQ_WAKE2_E : Fld := ⟨0x10020, 0, 16⟩
/-- R561 -/
def BVQ_WAKE2_REL : Fld := ⟨0x10020, 16, 1⟩
/-- R561 -/
def BVQ_RTL_SEC : Fld := ⟨0x10028, 0, 32⟩
/-- R561 -/
def BVQ_RTH_SEC : Fld := ⟨0x1002c, 0, 16⟩
/-- R561 -/
def BVQ_RTSL_SEC : Fld := ⟨0x10030, 0, 32⟩
/-- R561 -/
def BVQ_RTSH_SEC : Fld := ⟨0x10034, 0, 16⟩
/-- R561 -/
def BVQ_LRT_SEC : Fld := ⟨0x10038, 0, 32⟩
/-- R561 -/
def BVQ_BST_REF : Fld := ⟨0x10040, 0, 8⟩
/-- R561 -/
def BVQ_BST_CELL : Fld := ⟨0x10040, 8, 8⟩
/-- R561 -/
def BVQ_BST_CUT : Fld := ⟨0x10040, 16, 7⟩
/-- R561 -/
def BVQ_BST_UNDER : Fld := ⟨0x10040, 23, 1⟩
/-- R561 -/
def BVQ_CELLT_MIN : Fld := ⟨0x10044, 0, 32⟩
/-- R561 -/
def BVQ_HUCFG_C : Fld := ⟨0x10050, 0, 16⟩
/-- R561 -/
def BVQ_HUCFG_DIV : Fld := ⟨0x10050, 16, 8⟩
/-- R561 -/
def BVQ_HUCFG_MRG : Fld := ⟨0x10050, 24, 8⟩
/-- R561 -/
def BVQ_HUV_VFAIL : Fld := ⟨0x10054, 0, 16⟩
/-- R561 -/
def BVQ_HUV_VMIN : Fld := ⟨0x10054, 16, 16⟩
/-- R561 -/
def BVQ_HUSTAT_V : Fld := ⟨0x10058, 0, 16⟩
/-- R561 -/
def BVQ_HUSTAT_E : Fld := ⟨0x10058, 16, 16⟩
/-- R561 -/
def BVQ_CAIRN_SRC : Fld := ⟨0x10060, 0, 2⟩
/-- R561 -/
def BVQ_CAIRN_PEND : Fld := ⟨0x10060, 2, 1⟩
/-- R561 -/
def BVQ_CAIRN_BADA : Fld := ⟨0x10060, 3, 1⟩
/-- R561 -/
def BVQ_CAIRN_BADB : Fld := ⟨0x10060, 4, 1⟩
/-- R561 -/
def BVQ_CAIRN_FACT : Fld := ⟨0x10060, 8, 1⟩
/-- R561 -/
def BVQ_CSEQL_SEQ : Fld := ⟨0x10064, 0, 32⟩
/-- R561 -/
def BVQ_CSEQH_SEQ : Fld := ⟨0x10068, 0, 32⟩
/-- R601 -/
def HST_WRES_STATUS : Fld := ⟨0x11000, 0, 3⟩
/-- R601 -/
def HST_WRES_CNT : Fld := ⟨0x11000, 4, 8⟩
/-- R601 -/
def HST_WRES_OFS : Fld := ⟨0x11000, 12, 20⟩
/-- R601 -/
def HST_ERR_DBOVF : Fld := ⟨0x11004, 0, 1⟩
/-- R601 -/
def HST_ERR_DMAERR : Fld := ⟨0x11004, 1, 1⟩
/-- R601 -/
def HST_ERR_RING : Fld := ⟨0x11004, 4, 4⟩
/-- R601 -/
def HST_ERR_INFL : Fld := ⟨0x11004, 8, 9⟩
/-- R601 -/
def HST_IMOD_US : Fld := ⟨0x1100c, 0, 16⟩
/-- R601 -/
def HST_RING_QBL_VAL (k : Nat) : Fld := ⟨0x11100 + 32 * k, 0, 32⟩
/-- R601 -/
def HST_RING_QBH_VAL (k : Nat) : Fld := ⟨0x11104 + 32 * k, 0, 32⟩
/-- R601 -/
def HST_RING_CBL_VAL (k : Nat) : Fld := ⟨0x11108 + 32 * k, 0, 32⟩
/-- R601 -/
def HST_RING_CBH_VAL (k : Nat) : Fld := ⟨0x1110c + 32 * k, 0, 32⟩
/-- R601 -/
def HST_RING_CFG_EN (k : Nat) : Fld := ⟨0x11110 + 32 * k, 0, 1⟩
/-- R601 -/
def HST_RING_CFG_LOG2SZ (k : Nat) : Fld := ⟨0x11110 + 32 * k, 1, 4⟩
/-- R601 -/
def HST_RING_CFG_PRIO (k : Nat) : Fld := ⟨0x11110 + 32 * k, 5, 1⟩
/-- R601 -/
def HST_RING_CFG_VEC (k : Nat) : Fld := ⟨0x11110 + 32 * k, 8, 5⟩
/-- R601 -/
def HST_RING_STAT_CI (k : Nat) : Fld := ⟨0x11114 + 32 * k, 0, 16⟩
/-- R601 -/
def HST_RING_STAT_INFL (k : Nat) : Fld := ⟨0x11114 + 32 * k, 16, 9⟩
/-- R601 -/
def HST_RING_STAT_IDLE (k : Nat) : Fld := ⟨0x11114 + 32 * k, 31, 1⟩
/-- R601 -/
def HST_EVR_BL_VAL : Fld := ⟨0x11300, 0, 32⟩
/-- R601 -/
def HST_EVR_BH_VAL : Fld := ⟨0x11304, 0, 32⟩
/-- R601 -/
def HST_EVR_CFG_EN : Fld := ⟨0x11308, 0, 1⟩
/-- R601 -/
def HST_EVR_CFG_LOG2SZ : Fld := ⟨0x11308, 1, 4⟩
/-- R601 -/
def HST_EVR_CFG_VEC : Fld := ⟨0x11308, 8, 5⟩
/-- R601 -/
def HST_EVR_CFG_LINK : Fld := ⟨0x11308, 13, 1⟩
/-- R601 -/
def HST_EVR_STAT_PI : Fld := ⟨0x1130c, 0, 16⟩
/-- R601 -/
def HST_EVR_STAT_DROP : Fld := ⟨0x1130c, 16, 16⟩
/-- R601 -/
def HST_EVR_OFF_CNT : Fld := ⟨0x11310, 0, 16⟩
/-- R601 -/
def HST_CPR_BL_VAL : Fld := ⟨0x11320, 0, 32⟩
/-- R601 -/
def HST_CPR_BH_VAL : Fld := ⟨0x11324, 0, 32⟩
/-- R601 -/
def HST_CPR_CFG_EN : Fld := ⟨0x11328, 0, 1⟩
/-- R601 -/
def HST_CPR_CFG_LOG2SZ : Fld := ⟨0x11328, 1, 4⟩
/-- R601 -/
def HST_CPR_CFG_VEC : Fld := ⟨0x11328, 8, 5⟩
/-- R601 -/
def HST_CPR_STAT_PI : Fld := ⟨0x1132c, 0, 16⟩
/-- R601 -/
def HST_CAP_REG_BASE (k : Nat) : Fld := ⟨0x11400 + 16 * k, 0, 13⟩
/-- R601 -/
def HST_CAP_REG_SIZE (k : Nat) : Fld := ⟨0x11400 + 16 * k, 16, 14⟩
/-- R601 -/
def HST_CAP_CFG_EN (k : Nat) : Fld := ⟨0x11404 + 16 * k, 0, 1⟩
/-- R601 -/
def HST_CAP_CFG_SRC (k : Nat) : Fld := ⟨0x11404 + 16 * k, 1, 7⟩
/-- R601 -/
def HST_CAP_CFG_PRE (k : Nat) : Fld := ⟨0x11404 + 16 * k, 12, 4⟩
/-- R601 -/
def HST_CAP_CFG_AUTO (k : Nat) : Fld := ⟨0x11404 + 16 * k, 16, 1⟩
/-- R601 -/
def HST_CAP_CFG_PTCA (k : Nat) : Fld := ⟨0x11404 + 16 * k, 20, 4⟩
/-- R601 -/
def HST_CAP_CFG_PTCT (k : Nat) : Fld := ⟨0x11404 + 16 * k, 24, 4⟩
/-- R601 -/
def HST_CAP_TRG_MASK (k : Nat) : Fld := ⟨0x11408 + 16 * k, 0, 6⟩
/-- R601 -/
def HST_CAP_TRG_EVCODE (k : Nat) : Fld := ⟨0x11408 + 16 * k, 16, 16⟩
/-- R601 -/
def HST_CAP_STAT_ST (k : Nat) : Fld := ⟨0x1140c + 16 * k, 0, 2⟩
/-- R601 -/
def HST_CAP_STAT_WRAP (k : Nat) : Fld := ⟨0x1140c + 16 * k, 2, 1⟩
/-- R601 -/
def HST_CAP_STAT_LOST (k : Nat) : Fld := ⟨0x1140c + 16 * k, 16, 16⟩
/-- R601 -/
def HST_CAPRW_WIN : Fld := ⟨0x11500, 0, 4⟩
/-- R601 -/
def HST_CAPRW_BLK : Fld := ⟨0x11500, 4, 25⟩
/-- R601 -/
def HST_CAPRD_VAL (k : Nat) : Fld := ⟨0x11600 + 4 * k, 0, 32⟩
/-- R601 -/
def HST_ETH_EN : Fld := ⟨0x11700, 0, 1⟩
/-- R601 -/
def HST_ETH_AN : Fld := ⟨0x11700, 1, 1⟩
/-- R601 -/
def HST_ETH_LINK : Fld := ⟨0x11700, 2, 1⟩
/-- R601 -/
def HST_ETH_TXLAT : Fld := ⟨0x11700, 4, 12⟩
/-- R601 -/
def HST_ETH_RXLAT : Fld := ⟨0x11700, 16, 12⟩
/-- R601 -/
def HST_ETHCNT_RXDROP : Fld := ⟨0x11704, 0, 16⟩
/-- R601 -/
def HST_ETHCNT_FCS : Fld := ⟨0x11704, 16, 15⟩
/-- R601 -/
def HST_ETHCNT_CLR : Fld := ⟨0x11704, 31, 1⟩

end R

end Sys2Proof.Machine
end

