-- ==== Sys2Proof/Machine/State.lean ====
section
/-! DEFINITION. The state of the module as plain data: the register file, the internal state of every block, the queue of
waiting commands, and the state right after reset. Register fields stand in the register file and nowhere else; what the
spec lets a block remember beside its registers stands in the block's structure, each field naming its rule. -/

namespace Sys2Proof.Machine

/-- The module's supply condition (R602, R605): the nine device states are OFF, KEEPALIVE and the seven of
`SYS_STATE.ST` while the main domain is powered. -/
inductive Power where
  | off | keepalive | main
  deriving DecidableEq, Repr

/-- The two ordering codes (R5 to R7). -/
inductive Part where
  | c8 | c0
  deriving DecidableEq, Repr

/-- Who gets the outcome of an ARM request once its isolation test has ended (R467, R470): nobody, for the module's own
request; `HST_WRES`; a descriptor by ring and index; a request of Cewlink; the destination register of a lane. -/
inductive ArmFor where
  | auto
  | host
  | ring (r idx : Nat)
  | link (q : Packet)
  | lane (l : Nat)
  deriving DecidableEq, Repr

/-- An ARM request whose isolation test is running, with the first status other than DONE of the commands before it and
after it in its unit, and the index of each (R656); `idx` is its own. -/
structure ArmWait where
  who : ArmFor
  idx : Nat := 0
  pre : Nat := 0
  preIdx : Nat := 0
  post : Nat := 0
  postIdx : Nat := 0
  deriving DecidableEq, Repr

/-- `SYS_`: the ownership map and what the state machine remembers beside its registers. -/
structure SysSt where
  /-- R41 to R43: resource ID ↦ owner ID, unlisted = free. -/
  own : Tab Nat := []
  /-- R609: every recorded block-trip cause with its detail, oldest first. -/
  causes : List (Nat × Nat) := []
  /-- R611: TBP at the entry to TRIPPED. -/
  tripAt : Nat := 0
  /-- R608: a block trip was requested during BOOT. -/
  bootTrip : Bool := false
  /-- R607: pairs held until this TBP after the entry to CONNECTED. -/
  closeAt : Option Nat := none
  /-- R610: TBP of the automatic clears of the last 3,600 s, newest first. -/
  autoClears : List Nat := []
  /-- R610: since when `GRD_STAT.ZONE` has been continuous. -/
  contSince : Option Nat := none
  /-- R467: the ARM request whose isolation test is running. -/
  arm : Option ArmWait := none
  /-- R57: the refused restore claims of classes safety and protection, each a resource and its claimer. -/
  refusals : List (Nat × Nat) := []
  /-- R612, R614: main rails within range, and nRST high. -/
  railsOk : Bool := true
  nrst : Bool := true
  /-- R614: parts of start-up that have come about: Cairn restored, hold-up passed. -/
  restored : Bool := false
  deriving DecidableEq, Repr

/-- `CLK_`: the reference monitor, the PLLs and the clock outputs. -/
structure ClkSt where
  /-- R62: consecutive windows in tolerance, up to ten. -/
  good : Nat := 0
  /-- R61: the held OSC25-to-CKREF ratio in units of 2^-32. -/
  ratio : Nat := 2 ^ 32
  /-- R68: TBP at the lock declaration of PLLA, PLLB, PLLC (keys 0 to 2). -/
  lockAt : Tab Nat := []
  /-- R69, R70: consumers of each PLL on the bypass, one bit per PLL. -/
  bypass : Nat := 7
  /-- R90: each output's configuration word in effect. -/
  cko : Tab Nat := []
  /-- R91: outputs whose source is lost with `LOSS` = 1 and that hold low, one bit each. -/
  ckoLow : Nat := 0
  /-- R65: TBP from which on each PLL (keys 0 to 2) can have counted reference cycles within its phase window. -/
  lockFrom : Tab Nat := []
  deriving DecidableEq, Repr

/-- R107 to R111: what the servo remembers of one source. -/
structure SrcMeas where
  /-- TBP of its last measurement. -/
  last : Option Nat := none
  valid : Bool := false
  deriving DecidableEq, Repr

/-- One plant-time compare unit's running state (R119 to R122). -/
structure PtcSt where
  /-- The next match of modes 1 and 2, as plant time in 2^-41 ns. -/
  next : Option Nat := none
  /-- The placed match of mode 3, as a TBP value. -/
  placed : List Nat := []
  deriving DecidableEq, Repr

/-- `TIM_`: plant time, the servo and the compare units. -/
structure TimSt where
  /-- R102: the base pair; plant time in units of 2^-41 ns. -/
  ptb : Nat := 0
  tbpb : Nat := 0
  /-- R102, R108: the integral and proportional rate terms in units of 2^-40. -/
  rhoI : Int := 0
  rhoP : Int := 0
  src : Tab SrcMeas := []
  /-- R108: the first measurement after a change of source only sets Tm. -/
  fresh : Bool := true
  inLock : Nat := 0
  outLock : Nat := 0
  /-- The `TIM_HOSTOFS_NS` word written last (R110). -/
  hostNs : Nat := 0
  ptc : Tab PtcSt := []
  deriving DecidableEq, Repr

/-- R583: one event record. -/
structure EvRec where
  code : Nat
  seq : Nat
  ns : Nat
  sec : Nat
  frac : Nat
  inst : Nat
  block : Nat
  det0 : Nat
  det1 : Nat
  det2 : Nat
  deriving DecidableEq, Repr

/-- R128 to R137: one declared crossing. A mailbox uses `src`, `flight`, `pend` and `dst`; an event crossing `cnt` and
`got`; every crossing the reset flags. FIFO contents stand in `XdcSt.fifo`. -/
structure Crossing where
  src : List Nat := []
  flight : Option (List Nat) := none
  pend : Option (List Nat) := none
  dst : List Nat := []
  cnt : Nat := 0
  got : Nat := 0
  inReset : Bool := false
  /-- R137: a side has been reset and the resynchronisation handshake is outstanding. -/
  resync : Bool := false
  deriving DecidableEq, Repr

/-- `XDC_`: the eighteen declared crossings (R142). -/
structure XdcSt where
  x : Tab Crossing := []
  /-- FIFO contents, key 32 × XID + channel (lane, port or direction). -/
  fifo : Tab (List Nat) := []
  /-- The word each FIFO's destination took last, same key. -/
  took : Tab Nat := []
  /-- R131: trip and fault reports waiting in crossing 3 while the event writer cannot take them; a report without an
  event is a trip turn-off. -/
  rep3 : List (Option EvRec) := []
  deriving DecidableEq, Repr

/-- R175: a staging slot. `regs` lists the register words staged, by offset. -/
structure Slot where
  regs : Tab Word := []
  /-- R176: a field reached the slot through the shadow path. -/
  shadow : Bool := false
  deriving DecidableEq, Repr

/-- One carrier's running state (R151 to R161, R74, R75). -/
structure CarSt where
  /-- TBP of the present period's start and of the next one. -/
  start : Nat := 0
  next : Nat := 0
  /-- R171: the plant time of the present period's start. -/
  startPt : Nat := 0
  /-- R157: enabled and waiting for the first period start. -/
  starting : Bool := false
  /-- R157: enabled with `SYNC` = 1 and waiting for its group's sync. -/
  waitSync : Bool := false
  stopPend : Bool := false
  /-- R74: the present period is a bridging period. -/
  bridging : Bool := false
  /-- The carrier's mid boundary or peak of the present period has come. -/
  peaked : Bool := false
  /-- R153: the grid's G. -/
  grid : Int := 0
  /-- R154: TBP of a sync that the next period start follows, and of one that arrived too late for it. -/
  syncAt : Option Nat := none
  lateAt : Option Nat := none
  /-- The d of the present period. -/
  d : Int := 0
  /-- R83: what the present period start found: the phase in force before, the sync and the grid, and whether it was the
  first, for a carrier that restarts the period on its fine values. -/
  phase0 : Nat := 0
  sync0 : Option Nat := none
  grid0 : Int := 0
  first0 : Bool := false
  slot : Slot := {}
  /-- R176: what the last latch point took, for the boundary that follows. -/
  taken : Option Slot := none
  deriving DecidableEq, Repr

/-- One output pair's running state (R162 to R170, R201 to R208, R217 to R219). -/
structure PairSt where
  /-- The levels at the lands. -/
  up : Bool := false
  lo : Bool := false
  /-- TBP at the last turn-off and turn-on of each switch. -/
  offUp : Option Nat := none
  offLo : Option Nat := none
  onUp : Nat := 0
  onLo : Nat := 0
  /-- On-times of the present period, in TBP counts. -/
  hon : Nat := 0
  lon : Nat := 0
  /-- R167: region code of the period; `mixed` = it changed at the mid boundary. -/
  region : Nat := 6
  mixed : Bool := false
  /-- The level of the reference waveform W now (R162), and TBP of its last edge. -/
  w : Bool := false
  wAt : Nat := 0
  /-- The planned rise and fall of W still to come, as TBP instants. -/
  rise : Option Nat := none
  fall : Option Nat := none
  /-- R166: the turn-on waiting for its dead time; true = upper. -/
  wait : Option (Bool × Nat) := none
  /-- R202, R203: the notch of the period: where it starts, where the lower pulse starts and ends, and how far it has
  come (0 to 3). -/
  notch : Option (Nat × Nat × Nat) := none
  nph : Nat := 0
  /-- R204: the notch waits for the refresh ATC's window. -/
  nAtc : Bool := false
  /-- R201: the refresh counter, the bootstrap-low report, and whether the lower switch was on for RT. -/
  c : Nat := 0
  bsLow : Bool := false
  lowOk : Bool := false
  /-- R170: flags of the report being formed. -/
  notched : Bool := false
  cut : Bool := false
  /-- R217: no turn-on before the next period start; R208: for another reason than the GDF source of its upper switch. -/
  blocked : Bool := false
  byOther : Bool := false
  /-- R199: the lands go low at this TBP. -/
  soft : Option Nat := none
  deriving DecidableEq, Repr

/-- `PWM_`: carriers, pairs and the shadow path. -/
structure PwmSt where
  cars : Tab CarSt := []
  pairs : Tab PairSt := []
  /-- R179: the shadow copy, by register offset. -/
  shadow : Tab Word := []
  /-- R181: periods counted, and the TBP at which the present span of a stopped carrier began. -/
  shCount : Nat := 0
  shFrom : Nat := 0
  /-- R179: the values last committed through the shadow path, for the Cairn image. -/
  cairn : Tab Word := []
  /-- R154: TBP of the last sync of each carrier group, plus 1; 0 = none yet. -/
  sync : Tab Nat := []
  deriving DecidableEq, Repr

/-- One auxiliary timer channel (R186, R187, R189): what the source event took for the pending opening, and the open window. -/
structure AtcSt where
  /-- The pending opening, its use and target, and the instant at which its window closes. -/
  pend : Option Nat := none
  pFn : Nat := 0
  pTgt : Nat := 0
  pClose : Nat := 0
  /-- When the open window opened and when it closes, its use and target. -/
  opened : Option Nat := none
  close : Option Nat := none
  fn : Nat := 0
  tgt : Nat := 0
  /-- R214: the window has stayed open past `MAX` and masks no more. -/
  spent : Bool := false
  deriving DecidableEq, Repr

/-- One GDF land (R191 to R193). -/
structure GdfSt where
  low : Bool := false
  /-- TBP since which the low has been decoded. -/
  since : Nat := 0
  deriving DecidableEq, Repr

/-- One trip source (R210 to R213). -/
structure TsrcSt where
  /-- Asserted before its filter. -/
  raw : Bool := false
  /-- TBP at which `raw` took its present value. -/
  since : Nat := 0
  /-- Groups on which the present assertion has acted, and groups whose blanking has masked it. -/
  acted : Nat := 0
  masked : Nat := 0
  deriving DecidableEq, Repr

/-- `GDI_` and `TRP_`. -/
structure TrpSt where
  gdf : Tab GdfSt := []
  src : Tab TsrcSt := []
  /-- R222: TBP at which each group latched. -/
  latAt : Tab Nat := []
  /-- R220: carriers, one bit each, already counted for each group in their present period. -/
  counted : Tab Nat := []
  /-- R233: the pairs, one bit each, that a cut of each group holds off now. -/
  cutBy : Tab Nat := []
  /-- R226, R227: leg and TBP of the last short event. -/
  short : Option (Nat × Nat) := none
  /-- R227, R460: the isolation request to SA and SB. -/
  isoReq : Bool := false
  deriving DecidableEq, Repr

/-- `CMP_`: the 24 comparators. -/
structure CmpSt where
  /-- R241: TBP at which each enabled comparator makes its decision. -/
  decideAt : Tab Nat := []
  /-- The input as last seen, in units of 0.25 nV. -/
  input : Tab Int := []
  /-- R243: the words `CMP_n_THR` has left since the DACs of a comparator last stood still. -/
  thrFrom : Tab (List Word) := []
  /-- R252: TBP + 1 of each comparator's last threshold change. -/
  thrAt : Tab Nat := []
  /-- R248: levels of CMPO0 to CMPO7, one bit each. -/
  outs : Nat := 0
  deriving DecidableEq, Repr

/-- A conversion planned or in progress (R272, R282, R286). `seq` is 0 regular, 1 injected, 2 monitor. -/
structure Conv where
  seq : Nat
  ent : Nat
  ch : Nat
  lane : Nat
  left : Bool
  /-- The TBA edge it sampled at. -/
  at_ : Nat := 0
  /-- R291: the plant time of that edge. -/
  pt : Nat := 0
  rst : Bool := false
  dfr : Bool := false
  /-- R290: TAG. -/
  tag : Nat := 0
  /-- R269, R270: it returns 0 with `FLT`. -/
  flt : Bool := false
  /-- R255: it samples a differential pair. -/
  diff : Bool := false
  /-- R251: the level a DAC channel had at the sampling edge, in units of 0.25 nV. -/
  dac : Int := 0
  /-- R252: the threshold had changed within the last 1.0 µs before that edge. -/
  moved : Bool := false
  /-- R297: crossing 5 has discarded a word of its result. -/
  lost : Bool := false
  deriving DecidableEq, Repr

/-- One converter lane (R260 to R262, R266). -/
structure LaneSt where
  slice : Nat := 0
  /-- The channel its multiplexer selects, and the TBA edge of its last switch. -/
  mux : Nat := 0
  swAt : Nat := 0
  conv : Option Conv := none
  /-- The sequence of its last conversion. -/
  lastSeq : Option Nat := none
  /-- R266: a spare tracks beside the slice since this TBA edge. -/
  overlap : Option Nat := none
  deriving DecidableEq, Repr

/-- One sequence (R277 to R288). -/
structure SeqSt where
  /-- Entries of the present run not yet sampled, ascending. -/
  todo : List Conv := []
  running : Bool := false
  queued : Bool := false
  runs : Nat := 0
  /-- The start edge and its plant time. -/
  edge : Nat := 0
  edgePt : Nat := 0
  /-- R276: the TBA edge of the last trigger. -/
  last : Option Nat := none
  /-- R593: the values and flags of the present run, for the capture path. -/
  vals : Tab Nat := []
  flg : Nat := 0
  loss : Bool := false
  /-- R284, R288: the entry words the run started with; monitor entries are two words. -/
  ents : List (Word × Word) := []
  /-- R295: the monitor walk's first buffer, taken with its table. -/
  buf : Nat := 0
  /-- R278: the monitor pass started from the queue. -/
  dfr : Bool := false
  deriving DecidableEq, Repr

/-- Runs collected for one capture record (R593): their number, the flags, the first start edge and the words. -/
structure Pack where
  n : Nat := 0
  flg : Nat := 0
  t : Word := 0
  ws : List Word := []
  deriving DecidableEq, Repr

/-- `ADC_`: lanes, slices and sequences. -/
structure AdcSt where
  lanes : Tab LaneSt := []
  reg : SeqSt := {}
  inj : SeqSt := {}
  mon : SeqSt := {}
  /-- R285, R286: the walk's pointer, the repeat index, the previous issue's sampling edge and its `DLY` in µs. -/
  ptr : Nat := 0
  rep : Nat := 0
  prev : Nat := 0
  dly : Nat := 0
  /-- The spare slice, the next slice in rotation, and the lane being handed over. -/
  spare : Option Nat := some 16
  rot : Nat := 0
  hand : Option Nat := none
  /-- TBA edge of the last rotation step. -/
  rotAt : Nat := 0
  /-- R468: the walk's next entry has waited for an isolation test. -/
  held : Bool := false
  /-- R302: word 0 of the latest result of each monitor entry. -/
  latest : Tab Word := []
  /-- R593: the runs collected for the next capture record of types 0x01 and 0x02 (keys 0 and 1). -/
  pack : Tab Pack := []
  deriving DecidableEq, Repr

/-- R577: an IMGW that is being written: its descriptor by ring and index, the slot and the image. -/
structure ImgWrite where
  r : Nat
  idx : Nat
  slot : Nat
  ws : List Word
  deriving DecidableEq, Repr

/-- R578: what a completion carries beside its descriptor. -/
structure Comp where
  status : Nat
  reason : Nat := 0
  det0 : Nat := 0
  det1 : Nat := 0
  deriving DecidableEq, Repr

/-- R569: a descriptor in flight; `comp` is its completion once it has one and waits for its turn. -/
structure Flight where
  d : Desc
  idx : Nat
  started : Bool := false
  comp : Option Comp := none
  deriving DecidableEq, Repr

/-- One ring pair (R567 to R573). `STAT.CI`, `STAT.INFL` and `STAT.IDLE` are register fields. -/
structure RingSt where
  /-- The command producer and completion consumer doorbells. -/
  prod : Nat := 0
  cons : Nat := 0
  /-- Completion producer index. -/
  cprod : Nat := 0
  infl : List Flight := []
  deriving DecidableEq, Repr

/-- One MSI-X vector (R582). -/
structure VecSt where
  /-- TBP of its last signal, the number of signals, and a signal held back. -/
  last : Option Nat := none
  sent : Nat := 0
  held : Bool := false
  deriving DecidableEq, Repr

/-- One capture window's region (R589 to R592): whole records, oldest first, each a list of words. -/
structure WinSt where
  recs : List (List Word) := []
  /-- R590: words still to write after the trigger. -/
  left : Nat := 0
  /-- R591: trigger source, plant-time nanoseconds and seconds, and the offset in bytes. -/
  trg : Nat := 0
  trgNs : Nat := 0
  trgSec : Nat := 0
  trgOff : Nat := 0
  /-- R594: records lost since the last record written. -/
  gap : Nat := 0
  deriving DecidableEq, Repr

/-- `HST_`: rings, event ring, capture and the Ethernet port. -/
structure HstSt where
  rings : Tab RingSt := []
  /-- R570: the ring served last in each priority. -/
  lastRing : Tab Nat := []
  /-- R584: events waiting for ring space, oldest first. -/
  held : List EvRec := []
  evSeq : Nat := 0
  evCons : Nat := 0
  /-- R584: EV_LOST is owed, and a drop has been counted since the queue last had room. -/
  evLost : Bool := false
  evDropped : Bool := false
  capCons : Nat := 0
  /-- R591: freeze records waiting for the capture ring. -/
  capWait : List (List Word) := []
  wins : Tab WinSt := []
  /-- R594: capture is paused, and CAP_LOSS is owed at its resumption. -/
  capPaused : Bool := false
  capOwed : Bool := false
  vecs : Tab VecSt := []
  /-- Host memory as the module has written it, by byte address of each word. -/
  mem : Tab Word := []
  /-- R567: the last value written to each doorbell, by BAR2 offset. -/
  bells : Tab Nat := []
  /-- R577: the IMGW writes running, oldest first. -/
  imgw : List ImgWrite := []
  /-- R598: the Ethernet frames sent, oldest first, each with its bytes. -/
  ethTx : List (Nat × List Word) := []
  deriving DecidableEq, Repr

/-- R452: an alarm or trip-report entry of a class queue or of the relay. -/
structure AlarmEnt where
  code : Nat
  count : Nat := 1
  fns : Nat
  fs : Nat
  lns : Nat
  ls : Nat
  part : Nat := 0
  /-- Partners merged (`NPART` is their number). -/
  parts : List Nat := []
  det : Nat := 0
  /-- R450: frame starts the entry has still to wait. -/
  hold : Nat := 0
  deriving DecidableEq, Repr


/-- `PLT_`, the part every device has: class queues and credits (R446 to R452). -/
structure QueSt where
  trip : List AlarmEnt := []
  alarm : List AlarmEnt := []
  log : List Packet := []
  trace : List Packet := []
  /-- R446: credit counters in 1/64 packet, classes 1 to 4 as keys; full at reset, and so listed as the shortfall from
  full. -/
  spent : Tab Nat := []
  /-- R429: `ASEQ`. -/
  aseq : Nat := 0
  deriving DecidableEq, Repr


/-- R303, R329: a value register of a CE lane with its residue modulo 7. -/
structure VReg where
  val : Word := 0
  res : Nat := 0
  deriving DecidableEq, Repr

/-- R303, R329: an accumulator with its residue. -/
structure AReg where
  val : BitVec 48 := 0
  res : Nat := 0
  deriving DecidableEq, Repr

/-- R303: a register bank of a lane. -/
structure Bank where
  v : Tab VReg := []
  a0 : AReg := {}
  a1 : AReg := {}
  deriving DecidableEq, Repr

/-- What a lane waits for: the other lanes of a BAR mask, a word that differs (WNE), the acknowledge of an update set, the
completion of a setup write with its destination register, a refetch of R335: of an instruction by its index or of a word of the
constant section by its address. -/
inductive LaneWait where
  | none
  | bar (mask : Nat)
  | wne (addr : Nat) (val : Word)
  | ups
  | swr (d status : Nat)
  | fetch (prog : Bool) (at_ : Nat)
  deriving DecidableEq, Repr

/-- Where a lane stands in one of its two parts: running, at which instruction, inside which calls and loops (first and
last instruction and passes left, innermost first). -/
structure Ctx where
  run : Bool := false
  pc : Nat := 0
  calls : List Nat := []
  loops : List (Nat × Nat × Nat) := []
  wait : LaneWait := .none
  deriving DecidableEq, Repr

/-- R303, R308, R321: one lane. `fore` is its cycle or INIT part, `back` its background. -/
structure LaneCe where
  cyc : Bank := {}
  bkg : Bank := {}
  flags : Nat := 0
  fore : Ctx := {}
  back : Ctx := {}
  deriving DecidableEq, Repr

/-- R342: what the loaded program's header says. -/
structure Image where
  id : Nat
  ver : Nat
  plen : Nat
  clen : Nat
  caddr : Nat
  slen : Nat
  saddr : Nat
  cycle : List Nat
  bkg : List Nat
  init : List Nat
  key : Nat
  krom : Nat
  deriving DecidableEq, Repr

/-- What runs in the CE beside its background: nothing, INIT since a TBP value, stopped by a fault or not (R318, R338), or a
cycle. -/
inductive CePart where
  | idle
  | init (since : Nat) (stopped : Bool)
  | cycle
  deriving DecidableEq, Repr

/-- R323, R326, R355: a start match: its TBP, its plant time, and the deadline as it stood in the mode of the match. -/
structure Match where
  at_ : Nat
  pt : Nat
  deadline : Nat
  deriving DecidableEq, Repr

/-- `CE_`: lanes, program, cycle and images. -/
structure CeSt where
  lanes : Tab LaneCe := []
  /-- The loaded program: its header and its program memory, two words an instruction (R334, R342). -/
  img : Option Image := none
  prog : List Word := []
  /-- R334: the 32-bit halves of program memory whose parity bit does not match them. -/
  badProg : List Nat := []
  part : CePart := .idle
  /-- R345: phase of an activation: 0 none, 1 verifying, 2 loading, 3 INIT running; and its slot. -/
  act : Nat := 0
  actSlot : Nat := 0
  /-- TBP of its start. -/
  actAt : Nat := 0
  /-- R344: the two image slots in MRAM, as words. -/
  slots : Tab (List Word) := []
  /-- R347: the slot last activated, kept in MRAM. -/
  lastSlot : Nat := 0
  /-- R343, R350: the installed keys, sixteen words each. -/
  keys : Tab (List Word) := []
  /-- R323, R326: start match and deadline of the present cycle as TBP values; whether the deadline is still to come, whether
  the commit has been sent and whether it has arrived. -/
  start : Nat := 0
  deadline : Nat := 0
  dlPending : Bool := false
  sent : Bool := false
  arrived : Bool := false
  /-- Held update sets, oldest first (R322). -/
  held : List (List Word) := []
  /-- Sets waiting for the acknowledge of crossing 0, oldest first: lane, words, marked last (R174). -/
  ups : List (Nat × List Word × Bool) := []
  /-- R317: starts skipped since the previous cycle, and whether the previous cycle missed. -/
  skips : Nat := 0
  prevMiss : Bool := false
  consec : Nat := 0
  /-- R314: parameter writes completed during the present cycle, oldest first. -/
  parm : List (Nat × List Word) := []
  /-- R327: setup writes of SWR held for their commit, oldest first. -/
  swr : List (Nat × Word) := []
  /-- R323: the start match that crossing 2 is delivering. -/
  matchAt : Option Match := none
  /-- R355: the plant time of the present cycle's start match. -/
  startPt : Nat := 0
  deriving DecidableEq, Repr

/-- `GRD_`: the grid supervisor. -/
structure GrdSt where
  /-- R354: the last copy of the measurement block, with the plant time of its cycle's start match, and whether it waits to
  be evaluated. -/
  copy : List Word := []
  copyAt : Nat := 0
  waiting : Bool := false
  /-- R429: the copy of the last evaluation. -/
  ev : List Word := []
  /-- R356: sequence count of the previous copy, plant time of the last fresh copy. -/
  seq : Option Word := none
  freshAt : Nat := 0
  /-- R505: word 4 of the last fresh copy. -/
  freshF : Word := 0
  /-- R355: the plant time of the last evaluation; R358: of the last evaluation or entry to CONNECTED. -/
  evalAt : Nat := 0
  staleAt : Nat := 0
  /-- R365: running timers by 16 × curve + point: the plant time they started at, plus 1. -/
  timers : Tab Nat := []
  /-- R367: points changed since the last evaluation, by 16 × curve + point. -/
  chg : List Nat := []
  /-- R368: since when the zone has been continuous in RIDE; R372: since when ROCOF has been at or above the threshold;
  R381: since when the enter-service conditions hold. -/
  exitFrom : Option Nat := none
  rocFrom : Option Nat := none
  okFrom : Option Nat := none
  /-- R378: the last word-10 index seen. -/
  idx : Option Word := none
  /-- R365: points whose timer had run its time at the last evaluation, by 16 × curve + point. -/
  active : List Nat := []
    /-- R377: the word of `GRD_CODE` in effect, and the plant time of the last change of the register while it waits for its
  boundary. -/
  code : Option Word := none
  codeAt : Option Nat := none
  /-- R377: the indices of the periods to discard, each up to the plant time by which the period after it has ended. -/
  skip : List (Word × Nat) := []
  /-- R379: plant time until which active detection stays suspended after a return from RIDE. -/
  suspTo : Nat := 0
  deriving DecidableEq, Repr

/-- One result the metering unit uses (R503, R506): its instant in plant time, the grid angle there in 2^-48 turn, and its
12-bit code. -/
structure MtrSmp where
  t : Nat
  th : Int
  c : Int
  deriving DecidableEq, Repr

/-- One pulse input (R512 to R514). -/
structure PlsSt where
  /-- The accepted level, and the counts. -/
  act : Bool := false
  cnt : Nat := 0
  tot : Nat := 0
  deriving DecidableEq, Repr

/-- `MTR_`: the metering unit. -/
structure MtrSt where
  /-- R505: the grid angle in 2^-48 turn at plant time `thAt`; whether metering has started and has seen its first wrap. -/
  run : Bool := false
  wrapped : Bool := false
  th : Int := 0
  thAt : Nat := 0
  /-- The plant time at which the present window began. -/
  winAt : Nat := 0
  /-- R506: the results of the present window of each channel (0 to 5 in the order of `MTR_SRC`), oldest first, and the
  instant, plus 1, of the last result of the window before. -/
  smp : Tab (List MtrSmp) := []
  before : Tab Nat := []
  /-- R507: the present window is a filled cycle, and the one after it is. -/
  bad : Bool := false
  badNext : Bool := false
  /-- R507: powers of the last complete window in 2^-32 mWh per second: set 0 A, B, C, sum with P, Q, S each, then set 1. -/
  pow : Option (List Int) := none
  /-- R510, R511: the 40 accumulators with their remainders, in 2^-32 of the unit. -/
  acc : Tab Nat := []
  pls : Tab PlsSt := []
  /-- R520: the read registers: accumulators 0 to 39, pulse totals 40 to 47, pulse counts 48 to 55. -/
  snap : Tab Nat := []
  /-- R516: the two records of the tally store, 256 words each. -/
  tally : Tab (List Word) := []
  /-- R517, R518: the record being written, its words, and whether it is the final commit. -/
  writing : Option (Nat × List Word × Bool) := none
  /-- TBP of the last periodic commit. -/
  commitAt : Nat := 0
  deriving DecidableEq, Repr

/-- One Cewlink port (R97, R392, R403, R404, R419, R420). -/
structure PortSt where
  /-- R100: TBP at the restart of TBLn. -/
  tblAt : Nat := 0
  /-- Training: 0 started, 1 symbol lock, 2 the TBL-to-TBP relation is being measured; and TBP of the last change of the
  port's condition. -/
  phase : Nat := 0
  at_ : Nat := 0
  /-- Consecutive headers with a failing CRC. -/
  bad : Nat := 0
  /-- Bits 31:0 of the far end's serial number (R392). -/
  farSer : Word := 0
  /-- TBP of the last down frame. -/
  seen : Option Nat := none
  /-- R403: at an up port, frame number, `HOP` and the plant time in 2^-16 ns at which the last down frame with a good header
  arrived; and TURN of that frame, once its up frame has left. -/
  arr : Option (Nat × Nat × Int) := none
  turn : Option Int := none
  /-- R403: at a line or down port, number and departure of the last down frame. -/
  dep : Option (Nat × Int) := none
  /-- R403, R404: the latest delay since the port came up, in 2^-16 ns. -/
  dly : Option Int := none
  /-- R403, R405: the loop time of the last frame at a line or down port, in 2^-8 ns; 0 when not known. -/
  loop : Word := 0
  /-- TBP at which the last frame forwarded from this port began to leave. -/
  outAt : Option Nat := none
  deriving DecidableEq, Repr

/-- Who waits for the response to a request: a host descriptor, by ring and index; a step of an admission (R432); a write of
the code with `ON` = 0 (R442); nobody. -/
inductive TxnFor where
  | ring (r idx : Nat)
  | admission (part step : Nat)
  | codeOff
  | nobody
  deriving DecidableEq, Repr

/-- R416, R417: a request waiting for its response, and the frames since its packet was sent; a packet not yet sent waits in
its queue. -/
structure Txn where
  p : Packet
  frames : Nat := 0
  sent : Bool := false
  who : TxnFor := .nobody
  deriving DecidableEq, Repr

/-- R416: a request executed, and the response kept for it. -/
structure Kept where
  src : Nat
  tag : Nat
  resp : Packet
  deriving DecidableEq, Repr

/-- R415: a bulk transfer: its source, the next block expected, the target slot, what has arrived, the total length and TBP
of the last packet. -/
structure Bulk where
  src : Nat
  slot : Nat
  total : Nat
  next : Nat := 0
  ws : List Word := []
  at_ : Nat := 0
  deriving DecidableEq, Repr

/-- `LNK_`: ports, frames, slots and transactions. -/
structure LnkSt where
  ports : Tab PortSt := []
  /-- R395, R400, R401: the manager's frame number, TBP at which its last down frame has been emitted, `PER` in effect. -/
  frame : Nat := 0
  frameEnd : Nat := 0
  per : Nat := 100
  /-- R409: the banks selected for the present frame, and a device's present frame number. -/
  bankUp : Bool := false
  bankDn : Bool := false
  curFrm : Option Nat := none
  /-- R398: this device's number, 256 × line + position. -/
  num : Nat := 0
  /-- R408: the numbers of the latest frames delivered, newest first, by partner number (1024 is a device's own down slot);
  TBP of the last first copy and whether it came on Woad; and what has been delivered since the last frame start. -/
  last : Tab (List Nat) := []
  lastAt : Tab (Nat × Bool) := []
  dlv : List Nat := []
  /-- The frame each port has sent last. -/
  out : Tab LinkFrame := []
  /-- R409: the up slot a device has taken for the present frame. -/
  upSnap : List Word := []
  /-- Packets of class 0 waiting for an up frame, and packets waiting for a line's down frame. -/
  upq : List Packet := []
  dnq : Tab (List Packet) := []
  txns : List Txn := []
  tag : Nat := 0
  kept : List Kept := []
  /-- The eight bulk buffers. -/
  bulk : Tab Bulk := []
  deriving DecidableEq, Repr

/-- R422: an entry of the partner table. `st` is its code; `zone` says that the partner is a zone manager, `zslot` its zone
slot (R436); `stopped` that a refused entry's slot has stopped for `LOSTF` frames (R423). -/
structure Partner where
  st : Nat := 0
  serial : Nat := 0
  slot : Nat := 0
  row : Nat := 0
  cause : Nat := 0
  zone : Bool := false
  zslot : Nat := 0
  stopped : Nat := 0
  /-- The serial an admission in progress has read. -/
  readSer : Nat := 0
  deriving DecidableEq, Repr

/-- `PLT_`: what a manager keeps. -/
structure PltSt where
  tab : Tab Partner := []
  /-- R437: a change of `PLT_PHA.OFS` that waits to be applied. -/
  dOfs : Nat := 0
  /-- R442: 0 none, 1 a timing change waits, 2 `ON` = 0 has been sent, 3 a change of the row alone waits. -/
  code : Nat := 0
  /-- R444: the words last taken from the manager's own down slot. -/
  rly : List Word := []
  /-- R436: a zone manager's zone slot z. -/
  z : Option Nat := none
  deriving DecidableEq, Repr

/-- What one safety channel keeps of the safe data it checks (R483, R484, R486). -/
structure NetCh where
  /-- Valid copies of frames not yet judged: frame number, network, first word of the half. -/
  copies : List (Nat × Bool × Word) := []
  /-- The last frame judged, plus 1; consecutive bad frames; TBP of the last good one and, per network, of the last valid
  copy. -/
  judged : Nat := 0
  badRun : Nat := 0
  goodAt : Nat := 0
  mad : Nat := 0
  woad : Nat := 0
  /-- R484: whose last valid half carried `STOP`: partner numbers, 1024 for the manager. -/
  stops : List Nat := []
  deriving DecidableEq, Repr

/-- One safety channel: SA or SB (R454 to R478). -/
structure ChanSt where
  /-- R472: the eight filtered inputs, and TBP + 1 at which each pair's present disagreement began. -/
  ins : Nat := 0
  disAt : Tab Nat := []
  /-- Demands, DISC and INPUT_TP latched, one bit per pair; R476: how far each pair's latched fault has come (1 safe, 2 active
  again). -/
  dem : Nat := 0
  disc : Nat := 0
  tp : Nat := 0
  prog : Tab Nat := []
  /-- Faults latched and faults whose condition persists, as bits of `SAF_FLT`. -/
  flt : Nat := 0
  cond : Nat := 0
  /-- The safe reaction is in force; the other channel has informed this one; TBP at which its switches go off. -/
  safe : Bool := true
  told : Bool := false
  offAt : Option Nat := none
  /-- R462, R463: its switches that are on, one bit per output. -/
  sw : Nat := 0
  /-- R464: TBP + 1 of the last off-pulse by output, and the outputs now in a pulse. -/
  pulseAt : Tab Nat := []
  pulse : Nat := 0
  /-- R455, R465: consecutive cycles with differing decisions, without heartbeat, and with a node mismatch by output. -/
  differ : Nat := 0
  noBeat : Nat := 0
  nodeBad : Tab Nat := []
  /-- R468, R469: the isolation test as this channel sees it: a reference out of range, the largest |code| of `CH` and `RCH`
  by entry, a feedback contact seen low; and its last result (0 none, 1 pass, 2 fail, 3 inconclusive). -/
  refBad : Bool := false
  maxCh : Tab Nat := []
  maxRef : Tab Nat := []
  fbLow : Bool := false
  result : Nat := 0
  /-- R479 to R487: what this channel holds of the safety network. -/
  net : NetCh := {}
  deriving DecidableEq, Repr

/-- R461: the retained safety record, per channel what it has latched, the first cause, the age of the last pass and the real
time at which the record was written. -/
structure SafRec where
  fltA : Nat := 0
  fltB : Nat := 0
  demA : Nat := 0
  demB : Nat := 0
  discA : Nat := 0
  discB : Nat := 0
  tpA : Nat := 0
  tpB : Nat := 0
  cause : Nat := 0
  age : Nat := 65535
  rt : Option Nat := none
  deriving DecidableEq, Repr

/-- R492 to R498: the Belay stage or the pending change. -/
structure BelaySt where
  /-- Staged registers by offset, with the whole word as it would stand; staged key slots, none for an erase. -/
  regs : Tab Word := []
  keys : Tab (Option (List Word)) := []
  /-- R350: the key words loaded. -/
  load : Tab Word := []
  /-- TBP at which the stage was opened or the change became pending. -/
  at_ : Nat := 0
  /-- R496: the confirming party while the change is being applied, and how far its Cairn write has come: 1 waits for a write
  in progress, 2 being written, 3 written. -/
  party : Nat := 0
  wr : Nat := 0
  deriving DecidableEq, Repr

/-- `SAF_`: both channels, the isolation test, the outputs' timing, the safety record and the Belay procedure. -/
structure SafSt where
  a : ChanSt := {}
  b : ChanSt := {}
  /-- R459: the channel in whose present safety cycle the safe reaction began; true = SB. -/
  fresh : Option Bool := none
  /-- R468: the test in progress: 0 none, 1 opening, 2 converting; TBP at which the phase began. -/
  test : Nat := 0
  testAt : Nat := 0
  /-- R466: TBP of each output's last change. -/
  outAt : Tab Nat := []
  /-- R461: TBP of the last minute counted in `AGE`; whether SAF_TEST_DUE has been posted since the last pass. -/
  ageAt : Nat := 0
  due : Bool := false
  /-- R456, R478: the BOOT self-test has passed since CHANNEL or SELFTEST was latched. -/
  selfOk : Bool := false
  /-- R461: the retained safety record in MRAM, as last written. -/
  record : Option SafRec := none
  /-- R486: the outgoing safety slots as last latched: by partner number, 1024 for a device's own up slot. -/
  tx : Tab (List Word) := []
  /-- R490: the confirmed check value. -/
  confCv : Option Word := none
  /-- R492 to R498: the Belay procedure. -/
  belay : BelaySt := {}
  deriving DecidableEq, Repr


/-- A Cairn copy (R549): sequence number; the words of the registers that hold RWC or RWB fields, those fields only; key
slots; retained claims; the confirmed check value. `bad` = magic, part number, CRC, length or layout fails. -/
structure Cairn where
  seq : Nat
  regs : Tab Word
  keys : Tab (List Word)
  own : Tab Nat
  conf : Option Word
  bad : Bool := false
  deriving DecidableEq, Repr

/-- The Bivouac record (R547). -/
structure BvqRec where
  rt : Nat
  rtv : Bool
  bst : Word
  cellt : Word
  irr : Word
  deriving DecidableEq, Repr

/-- `BVQ_`: the Bivouac domain, the Cairn image and the hold-up check. -/
structure BvqSt where
  /-- R544: `RTB`, the TBK count, and its part below a whole count in 1/390,625. -/
  rtb : Nat := 0
  tbk : Nat := 0
  sub : Nat := 0
  /-- R545: the word written to `BVQ_RTSL`, and the value to load with the TBK second at which it is loaded. -/
  rtsl : Word := 0
  load : Option (Nat × Nat) := none
  /-- R546: the TBK second of the last synchronisation. -/
  syncAt : Nat := 0
  /-- R536 to R539: requests pending (bit 0 wake, 1 record commit, 2 irradiance); the burst in progress; whether it runs from
  the store; TBK second at which the record and the irradiance fell due last. -/
  due : Nat := 0
  burst : Option Nat := none
  stored : Bool := false
  recAt : Nat := 0
  irrAt : Nat := 0
  /-- R534, R535: TBK count at which the Voc sample in progress began, TBK second of the last one, and whether the harvester
  idles. -/
  voc : Option Nat := none
  vocAt : Nat := 0
  idle : Bool := true
  /-- R541: TBK count at which the irradiance measurement in progress began. -/
  irr : Option Nat := none
  /-- R527: TBK second from which time on the cell has not been counted yet, and the seconds below a whole minute counted. -/
  cellFrom : Option Nat := none
  cellPart : Nat := 0
  /-- R542, R543: the level of BVWAKE; consecutive measurements at or above `TH` and below it; whether a wake may be
  requested again. -/
  wake : Bool := false
  hits : Nat := 0
  lows : Nat := 0
  again : Bool := true
  /-- R547: the two record slots of the MRAM and the slot written last. -/
  recs : Tab BvqRec := []
  recSlot : Nat := 1
  /-- R549: Cairn copies A (0) and B (1) in the MRAM. -/
  cairn : Tab Cairn := []
  /-- R550: TBP at which a Cairn write is due; the copy being written, its content and TBP of its start; a change committed
  during the write. -/
  cairnAt : Option Nat := none
  cairnWr : Option (Nat × Cairn × Nat) := none
  cairnMore : Bool := false
  /-- R557, R558: TBP of the last hold-up check, and whether HOLDUP_LOW has been posted. -/
  huAt : Option Nat := none
  huLow : Bool := false
  /-- R559, R560: the main supply has been declared failing and the final commit is running; the module is held in reset
  after it. -/
  failing : Bool := false
  held : Bool := false
  deriving DecidableEq, Repr

/-- The whole state of the module and the queue of commands waiting for it. -/
structure State where
  /-- Waiting commands, first in, first out. -/
  pending : List Instr := []
  /-- R5: the ordering code of the part. -/
  part : Part := .c8
  power : Power := .main
  /-- R97, R98: TBP, from 0 at the start of BOOT. -/
  tbp : Nat := 0
  /-- Every setup register, by byte offset in BAR0; unlisted registers read their value after reset. -/
  regs : Tab Word := []
  /-- CE data memory, by byte address; unlisted bytes read 0. -/
  mem : List Host.Cell := []
  /-- R334: the bytes of CE data memory whose parity bit does not match them. -/
  upsets : List Nat := []
  /-- The value the last register read returned. -/
  rdata : Word := 0
  /-- R15, R104, R627: captured high words by path and register, and captured plant times by path. -/
  capHi : Tab Word := []
  capPt : Tab Nat := []
  /-- The model's own count of free values taken; no statement rests on it. -/
  free : Nat := 0
  /-- The internal state of one block; its own structure above says what each field holds. -/
  sys : SysSt := {}
  clk : ClkSt := {}
  tim : TimSt := {}
  xdc : XdcSt := {}
  pwm : PwmSt := {}
  atc : Tab AtcSt := []
  trp : TrpSt := {}
  cmp : CmpSt := {}
  adc : AdcSt := {}
  ce : CeSt := {}
  grd : GrdSt := {}
  mtr : MtrSt := {}
  lnk : LnkSt := {}
  plt : PltSt := {}
  saf : SafSt := {}
  bvq : BvqSt := {}
  que : QueSt := {}
  hst : HstSt := {}
  deriving DecidableEq, Repr

/-- Why a step could stop with a fault. No meaning of this model raises one: every error the spec describes is an effect
on the state. The type is here because the interface asks for it. -/
inductive Fault where
  /-- Raised by no meaning; safe. -/
  | none
  deriving DecidableEq, Repr

/-- Why a command could be turned away. -/
inductive Refusal where
  /-- Raised by an arm of `exec` whose command has no meaning yet; safe. -/
  | notModelled (mnemonic : String)
  deriving DecidableEq, Repr

/-- What one step answers. -/
abbrev Out := Host.Outcome State Fault Refusal

/-- The module right after nRST is first released at power-on with blank MRAM: BOOT entered, every register at its value
after reset or factory default, TBP 0, no command waiting (R14, R60, R98, R105, R614). -/
def State.reset : State := {}

end Sys2Proof.Machine
end

