-- ==== Sys2Proof/Machine/Ops.lean ====
section
/-! DEFINITION. The named operations every family is written over: reading and writing registers and fields, counts that
saturate, the module's time, the declared crossings, the posting of events with all that an event reaches (event ring,
Cewlink queues, capture windows), and interrupt vectors. -/

namespace Sys2Proof.Machine

/-! ### Registers and fields -/

/-- The stored word of the register at an offset. -/
def State.reg (s : State) (off : Nat) : Word := Tab.get RegMap.resetWord s.regs off

/-- Stores a register word. -/
def State.setReg (s : State) (off : Nat) (v : Word) : State :=
  { s with regs := Tab.set RegMap.resetWord s.regs off v }

/-- The value of a register field. -/
def State.f (s : State) (x : Fld) : Nat := x.get (s.reg x.off)

/-- Stores a register field; the register's other bits stay. -/
def State.setF (s : State) (x : Fld) (n : Nat) : State := s.setReg x.off (x.put (s.reg x.off) n)

/-- A one-bit field as a truth value. -/
def State.on (s : State) (x : Fld) : Bool := decide (s.f x ≠ 0)

/-- Raises a count field by `k`, saturating at the field's largest value. -/
def State.count (s : State) (x : Fld) (k : Nat) : State := s.setF x (satAdd (2 ^ x.w - 1) (s.f x) k)

/-- One bit of a field. -/
def State.bitAt (s : State) (x : Fld) (i : Nat) : Bool := (s.f x).testBit i

/-- Sets or clears one bit of a field. -/
def State.setBit (s : State) (x : Fld) (i : Nat) (b : Bool) : State :=
  let v := s.f x
  s.setF x (if b then v ||| 2 ^ i else if v.testBit i then v - 2 ^ i else v)

/-- Clears in a field the bits of a write-one-to-clear mask. -/
def State.clearMask (s : State) (x : Fld) (m : Nat) : State := s.setF x (s.f x &&& ((2 ^ x.w - 1) ^^^ (m % 2 ^ x.w)))

/-- Takes the next free value (a value the spec leaves open). -/
def State.takeFree (s : State) : Word × State := (Config.free s.free, { s with free := s.free + 1 })

/-- The actual value of quantity `q` now, free between the Min and the Max that a table of the spec gives it (R654). -/
def State.within (s : State) (q lo hi : Nat) : Nat :=
  lo + Config.actual q (s.tbp + s.bvq.tbk) % (hi - lo + 1)

/-! ### Mode and state -/

/-- Whether the module is in coarse mode (R73). -/
def State.coarse (s : State) : Bool := s.on R.CLK_STAT_COARSE

/-- TBP counts of one count of the module's present mode (R16). -/
def State.unit (s : State) : Nat := if s.coarse then 16 else 1

/-- A fine duration in TBP counts of the present mode, ÷ 16 rounded up in coarse mode (R16). -/
def State.dur (s : State) (fine : Nat) : Nat := if s.coarse then 16 * ceilDiv fine 16 else fine

/-- The same with the ÷ 16 rounded down (R214). -/
def State.durDown (s : State) (fine : Nat) : Nat := if s.coarse then 16 * (fine / 16) else fine

/-- The same with the ÷ 16 rounded to the nearest count (R122, R189). -/
def State.durNear (s : State) (fine : Nat) : Nat := if s.coarse then 16 * ((fine + 8) / 16) else fine

/-- The instant at which something planned for `t` happens: in coarse mode the first tick at or after it (R74). -/
def State.onTick (s : State) (t : Nat) : Nat := if s.coarse then s.tbp + 16 * ceilDiv (t - s.tbp) 16 else t

/-- The device states of `SYS_STATE.ST` (R617). -/
abbrev stBoot : Nat := 0
abbrev stStandby : Nat := 1
abbrev stArmed : Nat := 2
abbrev stConnected : Nat := 3
abbrev stRide : Nat := 4
abbrev stTripped : Nat := 5
abbrev stSafe : Nat := 6

/-- The present device state while the main domain is powered. -/
def State.st (s : State) : Nat := s.f R.SYS_STATE_ST

/-- Whether the main domain is powered (R602: OFF and KEEPALIVE run nothing). -/
def State.live (s : State) : Bool := decide (s.power = .main)

/-- What happens only while the main domain is powered: in OFF and KEEPALIVE nothing of it runs (R602). -/
def State.onMain (s t : State) : State := if s.live then t else s

/-- Whether the present state is one of those listed. -/
def State.inSt (s : State) (l : List Nat) : Bool := s.live && l.contains s.st

/-- The states that R602 lists for an isolation test, an image activation, a CE reset and the Belay of `SAF_` fields. -/
def State.quiet (s : State) : Bool := s.inSt [stStandby, stTripped, stSafe]

/-! ### Time (R97 to R105) -/

/-- The common divisor of plant time: one second in units of 2^-41 ns. -/
def second : Nat := 1000000000 * 2 ^ 41

/-- Plant time at a TBP value, in units of 2^-41 ns (R102); on OSC25 after Cairn restore the held ratio multiplies (R78). -/
def State.ptAt (s : State) (t : Nat) : Nat :=
  let run : Int := (((t - s.tim.tbpb) * 5 : Nat) : Int) * (2 ^ 40 + s.tim.rhoI + s.tim.rhoP)
  let run := if s.on R.CLK_STAT_ONOSC && s.sys.restored then run * s.clk.ratio / 2 ^ 32 else run
  s.tim.ptb + run.toNat

/-- The rate of plant time, in its units of 2^-41 ns per TBP count (R78, R102). -/
def State.ptSlope (s : State) : Int :=
  let v : Int := 5 * (2 ^ 40 + s.tim.rhoI + s.tim.rhoP)
  if s.on R.CLK_STAT_ONOSC && s.sys.restored then v * s.clk.ratio / 2 ^ 32 else v

/-- Plant time now. -/
def State.pt (s : State) : Nat := s.ptAt s.tbp

/-- Plant time as the registers and records show it: to the nearest 2^-16 ns (R18, and the worked example under R104). -/
def ptShown (p : Nat) : Nat := (p + 2 ^ 24) / 2 ^ 25

/-- Seconds, nanoseconds and the fraction of R18. -/
def ptSec (p : Nat) : Nat := ptShown p / (1000000000 * 2 ^ 16)
def ptNs (p : Nat) : Nat := ptShown p / 2 ^ 16 % 1000000000
def ptFrac (p : Nat) : Nat := ptShown p % 2 ^ 16

/-- The instant in the format of result word 1 of R290: nanoseconds and seconds bits 1:0. -/
def ptWord (p : Nat) : Word := BitVec.ofNat 32 (ptNs p + (ptSec p % 4) * 2 ^ 30)

/-- Rebases plant time at the present TBP, so that a change of rate leaves it continuous (R103). Until Cairn restore has ended
the base pair stays 0 and plant time counts up with TBP (R105). -/
def State.rebase (s : State) : State :=
  if s.sys.restored then { s with tim := { s.tim with ptb := s.pt, tbpb := s.tbp } } else s

/-- TBA is TBP ÷ 2 rounded down (R99). -/
def State.tba (s : State) : Nat := s.tbp / 2

/-- TBP counts in one microsecond, millisecond and second. -/
def perUs : Nat := 400
def perMs : Nat := 400000
def perSec : Nat := 400000000

/-- TBK advances by the time of n TBP counts: 32,768 Hz against 400 MHz is 32 in 390,625 (R101). -/
def State.tbkBy (s : State) (n : Nat) : State :=
  let v := s.bvq.sub + 32 * n
  { s with bvq := { s.bvq with tbk := s.bvq.tbk + v / 390625, sub := v % 390625 } }

/-- What passes while no command waits: with the main domain powered one TBP edge, in coarse mode of 16 counts (R73); in
KEEPALIVE one cycle of TBK; in OFF nothing (R602). -/
def State.tick (s : State) : State :=
  match s.power with
  | .main => ({ s with tbp := s.tbp + s.unit } : State).tbkBy s.unit
  | .keepalive => { s with bvq := { s.bvq with tbk := s.bvq.tbk + 1 } }
  | .off => s

/-! ### Block structures kept in tables -/

def State.car (s : State) (k : Nat) : CarSt := Tab.get (fun _ => {}) s.pwm.cars k
def State.setCar (s : State) (k : Nat) (c : CarSt) : State :=
  { s with pwm := { s.pwm with cars := Tab.set (fun _ => {}) s.pwm.cars k c } }
def State.pair (s : State) (m : Nat) : PairSt := Tab.get (fun _ => {}) s.pwm.pairs m
def State.setPair (s : State) (m : Nat) (p : PairSt) : State :=
  { s with pwm := { s.pwm with pairs := Tab.set (fun _ => {}) s.pwm.pairs m p } }
def State.atcOf (s : State) (n : Nat) : AtcSt := Tab.get (fun _ => {}) s.atc n
def State.setAtc (s : State) (n : Nat) (a : AtcSt) : State :=
  { s with atc := Tab.set (fun _ => {}) s.atc n a }
def State.xing (s : State) (x : Nat) : Crossing := Tab.get (fun _ => {}) s.xdc.x x
def State.setXing (s : State) (x : Nat) (c : Crossing) : State :=
  { s with xdc := { s.xdc with x := Tab.set (fun _ => {}) s.xdc.x x c } }
def State.win (s : State) (w : Nat) : WinSt := Tab.get (fun _ => {}) s.hst.wins w
def State.setWin (s : State) (w : Nat) (c : WinSt) : State :=
  { s with hst := { s.hst with wins := Tab.set (fun _ => {}) s.hst.wins w c } }
def State.ring (s : State) (r : Nat) : RingSt := Tab.get (fun _ => {}) s.hst.rings r
def State.setRing (s : State) (r : Nat) (c : RingSt) : State :=
  { s with hst := { s.hst with rings := Tab.set (fun _ => {}) s.hst.rings r c } }

def State.port (s : State) (n : Nat) : PortSt := Tab.get (fun _ => {}) s.lnk.ports n
def State.setPort (s : State) (n : Nat) (q : PortSt) : State :=
  { s with lnk := { s.lnk with ports := Tab.set (fun _ => {}) s.lnk.ports n q } }

/-- The state a list of indices leaves when each is served in turn. -/
def State.each (s : State) (l : List Nat) (g : Nat → State → State) : State := l.foldl (fun a i => g i a) s

/-! ### Memory: the control engine's data memory and host memory -/

/-- A byte of CE data memory. -/
def State.byte (s : State) (a : Nat) : Byte := Tab.get (fun _ => 0) s.mem a

/-- Stores a byte of CE data memory with its right parity (R334). -/
def State.setByte (s : State) (a : Nat) (b : Byte) : State :=
  { s with mem := Tab.set (fun _ => 0) s.mem a b, upsets := s.upsets.filter (· ≠ a) }

/-- A little-endian word of CE data memory (R312). -/
def State.word (s : State) (a : Nat) : Word :=
  s.byte (a + 3) ++ s.byte (a + 2) ++ s.byte (a + 1) ++ s.byte a

/-- Stores a little-endian word of CE data memory. -/
def State.setWord (s : State) (a : Nat) (v : Word) : State :=
  (((s.setByte a (v.extractLsb' 0 8)).setByte (a + 1) (v.extractLsb' 8 8)).setByte (a + 2)
    (v.extractLsb' 16 8)).setByte (a + 3) (v.extractLsb' 24 8)

/-- Stores consecutive words of CE data memory. -/
def State.setWords (s : State) (a : Nat) : List Word → State
  | [] => s
  | v :: vs => (s.setWord a v).setWords (a + 4) vs

/-- Consecutive words of CE data memory. -/
def State.words (s : State) (a n : Nat) : List Word := (List.range n).map fun i => s.word (a + 4 * i)

/-- A word the module has written to host memory. -/
def State.hostWord (s : State) (a : Nat) : Word := Tab.get (fun _ => 0) s.hst.mem a

/-- Writes consecutive words to host memory. -/
def State.hostWrite (s : State) (a : Nat) : List Word → State
  | [] => s
  | v :: vs =>
    ({ s with hst := { s.hst with mem := Tab.set (fun _ => 0) s.hst.mem a v } } : State).hostWrite (a + 4) vs

/-! ### Interrupt vectors (R582) -/

/-- A completion, event or capture record signals its vector; a signal inside the spacing of `HST_IMOD.US` is held to its
end. -/
def State.signal (s : State) (v : Nat) : State :=
  let c := Tab.get (fun _ => ({} : VecSt)) s.hst.vecs v
  let due := match c.last with
    | none => true
    | some t => decide (t + s.f R.HST_IMOD_US * perUs ≤ s.tbp)
  let c := if due then { c with last := some s.tbp, sent := c.sent + 1, held := false } else { c with held := true }
  { s with hst := { s.hst with vecs := Tab.set (fun _ => {}) s.hst.vecs v c } }

/-! ### Capture windows (R588 to R595) -/

/-- Whether window w writes records: armed, or in its post-trigger part with something left to write. -/
def State.winOpen (s : State) (w : Nat) : Bool :=
  decide (s.f (R.HST_CAP_STAT_ST w) = 1) ||
    (decide (s.f (R.HST_CAP_STAT_ST w) = 2) && decide (0 < (s.win w).left))

/-- The words of a window's region: `SIZE` MiB (R588). -/
def State.winSize (s : State) (w : Nat) : Nat := s.f (R.HST_CAP_REG_SIZE w) * 2 ^ 18

/-- The words a list of records holds. -/
def recsLen (l : List (List Word)) : Nat := l.foldl (fun a r => a + r.length) 0

/-- Drops the oldest whole records until the rest fits. -/
def dropOld : Nat → List (List Word) → List (List Word)
  | _, [] => []
  | size, r :: rs => if recsLen (r :: rs) ≤ size then r :: rs else dropOld size rs

/-- Writes one record into one window's region as a ring (R589); a record that does not fit at all is lost. -/
def State.winPut (s : State) (w : Nat) (r : List Word) : State :=
  let c := s.win w
  let all := c.recs ++ [r]
  let kept := dropOld (s.winSize w) all
  let s := if kept.length < all.length then s.setF (R.HST_CAP_STAT_WRAP w) 1 else s
  s.setWin w { c with recs := kept, left := c.left - r.length,
                      trgOff := if s.f (R.HST_CAP_STAT_ST w) = 2 then c.trgOff + 4 * r.length else c.trgOff }

/-- The header and payload of a capture record (R593). -/
def capRecord (ty flg n : Nat) (t : Word) (body : List Word) : List Word :=
  BitVec.ofNat 32 (ty + (body.length + 2) * 2 ^ 8 + (flg % 256) * 2 ^ 16 + (n % 256) * 2 ^ 24) :: t :: body

/-- A record of type `ty` reaches every window that takes it; while capture is paused it is counted in `LOST` (R589,
R594). -/
def State.capture (s : State) (ty flg n : Nat) (t : Word) (body : List Word) : State :=
  s.each (List.range 16) fun w s =>
    if s.winOpen w && (s.f (R.HST_CAP_CFG_SRC w)).testBit (ty - 1) then
      if s.hst.capPaused then
        ({ s with hst := { s.hst with capOwed := true } }.count (R.HST_CAP_STAT_LOST w) 1).setWin w
          { s.win w with gap := (s.win w).gap + 1 }
      else s.winPut w (capRecord ty flg n t body)
    else s

/-- Whether some window would take a record of type `ty` (R595). -/
def State.captures (s : State) (ty : Nat) : Bool :=
  (List.range 16).any fun w => s.winOpen w && (s.f (R.HST_CAP_CFG_SRC w)).testBit (ty - 1)

/-- What a trigger does to an armed window beside posting CAP_TRIGGER (R590). -/
def State.winTrigger (s : State) (w src : Nat) : State :=
  (s.setF (R.HST_CAP_STAT_ST w) 2).setWin w
    { s.win w with left := (16 - s.f (R.HST_CAP_CFG_PRE w)) * s.winSize w / 16, trg := src,
                   trgNs := ptNs s.pt, trgSec := ptSec s.pt % 2 ^ 32, trgOff := 0 }

/-- Whether source number `src` of R590 (1 to 6) triggers window w now. -/
def State.winHit (s : State) (w src : Nat) : Bool :=
  decide (s.f (R.HST_CAP_STAT_ST w) = 1) && (s.f (R.HST_CAP_TRG_MASK w)).testBit (src - 1)

/-! ### Events (R583 to R587, R658, R659) -/

/-- The class of an event code (R587): 0 alarm, 1 trip, 2 log. -/
def evClass (code : Nat) : Nat :=
  if [0x0105, 0x0107, 0x0202, 0x0301, 0x0401, 0x0402, 0x0901, 0x0A04, 0x0A05, 0x0A06, 0x0C01, 0x0C04, 0x0D01, 0x0D03,
      0x0E03, 0x0E04, 0x0E0B, 0x0E0C, 0x0F02, 0x1101].contains code then 2
  else if [0x0701, 0x0702, 0x0A01, 0x0A02, 0x0B02].contains code then 1
  else 0

/-- The eight words of an event record (R583), `PHASE` given. -/
def EvRec.words (e : EvRec) (phase : Nat) : List Word :=
  [BitVec.ofNat 32 (e.code + e.seq % 2 ^ 16 * 2 ^ 16), BitVec.ofNat 32 e.ns, BitVec.ofNat 32 e.sec,
   BitVec.ofNat 32 (e.frac + e.inst % 256 * 2 ^ 16 + e.block % 32 * 2 ^ 24), BitVec.ofNat 32 e.det0,
   BitVec.ofNat 32 e.det1, BitVec.ofNat 32 e.det2, BitVec.ofNat 32 (phase * 2 ^ 31)]

/-- Merges an alarm into the entry of its code, or makes a new entry (R449); a full queue drops it (R448). -/
def State.queueAlarm (s : State) (a : AlarmEnt) : State :=
  if s.que.alarm.any (·.code = a.code) then
    let l := s.que.alarm.map fun e =>
      if e.code = a.code then { e with count := satAdd 65535 e.count a.count, lns := a.lns, ls := a.ls, det := a.det } else e
    ({ s with que := { s.que with alarm := l } }).count ⟨0xD030, 0, 32⟩ 1
  else if s.que.alarm.length < 32 then
    { s with que := { s.que with alarm := s.que.alarm ++ [a], aseq := (s.que.aseq + 1) % 256 } }
  else s.count R.PLT_DROP0_ALARM 1

/-- Queues a trip report (R448). -/
def State.queueTrip (s : State) (a : AlarmEnt) : State :=
  if s.que.trip.length < 8 then { s with que := { s.que with trip := s.que.trip ++ [a] } }
  else s.count R.PLT_DROP0_TRIP 1

/-- Queues a LOG packet; a full queue sends it to local capture, or drops and counts it (R448, R595). -/
def State.queueLog (s : State) (p : Packet) : State :=
  if s.que.log.length < 32 then { s with que := { s.que with log := s.que.log ++ [p] } }
  else if s.part = .c8 && s.captures 7 then s.capture 7 0 1 (ptWord s.pt) p.body
  else s.count R.PLT_DROP1_LOG 1

/-- The Cewlink side of a posted event (R586). -/
def State.linkEvent (s : State) (e : EvRec) : State :=
  if s.on R.HST_EVR_CFG_LINK && (s.f R.LNK_CFG_ROLE = 1 || s.f R.LNK_CFG_ROLE = 2) then
    let ent : AlarmEnt :=
      { code := e.code, fns := e.ns, fs := e.sec, lns := e.ns, ls := e.sec, part := s.f R.PLT_ASG_PART,
        parts := [s.f R.PLT_ASG_PART], det := e.det0 }
    match evClass e.code with
    | 0 => s.queueAlarm ent
    | 1 => s.queueTrip { ent with code := e.det0, det := e.det1 }
    | _ => s.queueLog { ty := 0x31, cls := 3, len := 32, body := e.words 0 }
  else s

/-- The event-ring side of a posted event: held for the ring, dropped when the held queue is full, or not written while
the ring is disabled (R584, R585). -/
def State.ringEvent (s : State) (e : EvRec) : State :=
  if s.on R.HST_EVR_CFG_EN then
    if s.hst.held.length < 64 then { s with hst := { s.hst with held := s.hst.held ++ [e] } }
    else
      let s := s.count R.HST_EVR_STAT_DROP 1
      if s.hst.evDropped then s
      else { s with hst := { s.hst with evDropped := true, evLost := true } }
  else s.count R.HST_EVR_OFF_CNT 1

/-- Posts a record: it takes the next sequence number and reaches the event ring, Cewlink and the capture windows; each
window whose trigger names its code is triggered and posts CAP_TRIGGER in turn. `fuel` bounds that chain: sixteen
windows are triggered at most once each. -/
def State.emitN : Nat → EvRec → State → State
  | 0, _, s => s
  | fuel + 1, e, s =>
    let e := { e with seq := s.hst.evSeq }
    let s : State := { s with hst := { s.hst with evSeq := (s.hst.evSeq + 1) % 2 ^ 16 } }
    let s := (s.ringEvent e).linkEvent e
    let s := s.capture 6 0 1 (BitVec.ofNat 32 (e.ns + e.sec % 4 * 2 ^ 30)) (e.words 0)
    s.each (List.range 16) fun w s =>
      if s.winHit w 6 && s.f (R.HST_CAP_TRG_EVCODE w) = e.code then
        State.emitN fuel
          { code := 0x1101, seq := 0, ns := ptNs s.pt, sec := ptSec s.pt % 2 ^ 32, frac := ptFrac s.pt, inst := w,
            block := 17, det0 := 0, det1 := 0, det2 := 0 } (s.winTrigger w 6)
      else s

/-- Posts a finished record. -/
def State.emit (s : State) (e : EvRec) : State := State.emitN 18 e s

/-- The record of an event that happens now. -/
def State.evNow (s : State) (code inst d0 d1 d2 : Nat) : EvRec :=
  { code, seq := 0, ns := ptNs s.pt, sec := ptSec s.pt % 2 ^ 32, frac := ptFrac s.pt, inst, block := code / 256,
    det0 := d0, det1 := d1, det2 := d2 }

/-- Posts an event with its plant-time instant (R583, R658). -/
def State.post (s : State) (code inst : Nat) (d0 d1 d2 : Nat := 0) : State := s.emit (s.evNow code inst d0 d1 d2)

/-- One trigger source of R590 reaches every armed window that enables it: 1 PTC, 2 CAPCTL, 3 group latch, 4 block trip
request, 5 safe reaction. -/
def State.capTriggerAll (s : State) (src : Nat) (only : Nat → Bool) : State :=
  s.each (List.range 16) fun w s =>
    if s.winHit w src && only w then (s.winTrigger w src).post 0x1101 w else s

/-! ### Declared crossings (R128 to R137) -/

/-- `OVR` is set, and a rising edge posts XDC_OVERRUN (R143). -/
def State.overrun (s : State) (x : Nat) : State :=
  if s.on (R.XDC_STAT_OVR x) then s else (s.setF (R.XDC_STAT_OVR x) 1).post 0x0302 x

/-- One event enters an event crossing (R130 to R132, R136); `true` when it was counted. -/
def State.xEvent (s : State) (x : Nat) : Bool × State :=
  let c := s.xing x
  if c.inReset then (false, s.count (R.XDC_STAT_DISC x) 1)
  else if 15 ≤ c.cnt then (false, (s.count (R.XDC_STAT_LOST x) 1).overrun x)
  else (true, s.setXing x { c with cnt := c.cnt + 1 })

/-- The source of the mailbox with key `key`, one of crossing x, produces a value (R128, R129, R136): it is requested, or waits
as the single pending value and replaces the one already pending. -/
def State.produceAt (s : State) (x key : Nat) (v : List Nat) : State :=
  let c := s.xing key
  if c.inReset then (s.count (R.XDC_STAT_DISC x) 1).setXing key { c with src := v }
  else match c.flight with
    | none => s.setXing key { c with src := v, flight := some v }
    | some _ =>
      let s := if c.pend.isSome then s.count (R.XDC_STAT_LOST x) 1 else s
      s.setXing key { c with src := v, pend := some v }

/-- The source of a mailbox crossing produces a value. -/
def State.xProduce (s : State) (x : Nat) (v : List Nat) : State := s.produceAt x x v

/-- The registers that the mixed-signal die shows through crossing 7 (R32, R93, R254, R302). -/
def status7 : List Nat := [0x40, 0x1004, 0x80C0, 0x80C4, 0x80C8, 0x9090, 0x9094]

/-- The status on the mixed-signal die, one word for each of those registers. `ADC_STAT.MONLOSS` is cleared by a write, which a
read of the same path must show (R620): it is no part of what the crossing carries. -/
def State.statusNow (s : State) : List Nat :=
  status7.map fun o => (if o = 0x9090 then R.ADC_STAT_MONLOSS.put (s.reg o) 0 else s.reg o).toNat

/-- The whole status is produced once when a command has changed it. -/
def State.produceStatus (s t : State) : State :=
  if t.statusNow = s.statusNow then t else t.xProduce 7 t.statusNow

/-- A command that may change the status of the mixed-signal die. -/
def State.onStatus (s t : State) : State := s.onMain (s.produceStatus t)

/-- What a read of a register of crossing 7 returns: the status delivered last, before the first delivery the value after
reset. -/
def State.statusShown (s : State) (off : Nat) : Word :=
  let w := match (status7.zip (s.xing 7).dst).find? (·.1 = off) with
    | some e => BitVec.ofNat 32 e.2
    | none => RegMap.resetWord off
  if off = 0x9090 then R.ADC_STAT_MONLOSS.put w (s.f R.ADC_STAT_MONLOSS) else w

/-- The mailbox crossing that carries an access of a register (R620): 6 to the mixed-signal die, 14 to the Bivouac domain. -/
def accessX (off : Nat) : Option Nat :=
  if [0x1, 0x8, 0x9].contains (off / 0x1000) then some 6 else if off / 0x1000 = 0x10 then some 14 else none

/-- The key of the other direction of a mailbox that passes values both ways (R142). -/
def backKey (x : Nat) : Nat := 200 + x

/-- A value passes whole through a mailbox whose source waits for the acknowledge: nothing pends and nothing is replaced. -/
def State.carry (s : State) (key : Nat) (v : List Nat) : State := s.setXing key { s.xing key with src := v, dst := v }

/-- A write of a register passes through its mailbox, offset and word; a read passes the offset there and the word back. -/
def State.carryWrite (s : State) (off : Nat) (v : Word) : State :=
  match accessX off with
  | some x => s.carry x [off, v.toNat]
  | none => s
def State.carryRead (s : State) (off : Nat) (v : Word) : State :=
  match accessX off with
  | some x => (s.carry x [off]).carry (backKey x) [v.toNat]
  | none => s

/-- A trip or fault report enters crossing 3 (R131, R132, R584): taken at once while the event writer can take it, else it
waits there, up to 15. -/
def State.report3 (s : State) (e : Option EvRec) : State :=
  if s.on R.HST_EVR_CFG_EN && decide (64 ≤ s.hst.held.length) || !s.xdc.rep3.isEmpty then
    if s.xdc.rep3.length < 15 then { s with xdc := { s.xdc with rep3 := s.xdc.rep3 ++ [e] } }
    else (s.count (R.XDC_STAT_LOST 3) 1).overrun 3
  else match e with
    | some r => s.emit r
    | none => s

/-- Posts an event that travels through crossing 3. -/
def State.post3 (s : State) (code inst : Nat) (d0 d1 d2 : Nat := 0) : State :=
  s.report3 (some (s.evNow code inst d0 d1 d2))

/-- The channels of a FIFO crossing (R142): lanes of 5; ports of 8 and 9, 0 to 3 from the port to the fabric and 4 to 7 from the
fabric to the port; the two directions of 11, 0 from the PCIe side, and of 13, 0 from the fabric. -/
def fifoChans : Nat → Nat
  | 1 => 1
  | 5 => 16
  | 8 => 8
  | 9 => 8
  | 11 => 2
  | 12 => 1
  | 13 => 2
  | _ => 0

/-- The depth of one channel of a FIFO crossing in the units it passes (R142): reports, or words of 32 bits. -/
def fifoDepth : Nat → Nat
  | 1 => 64
  | 5 => 32
  | 8 => 512
  | 9 => 512
  | 11 => 1024
  | 12 => 4096
  | 13 => 64
  | _ => 0

/-- The key of one channel of a FIFO crossing. -/
def fifoKey (x ch : Nat) : Nat := 32 * x + ch

def State.fifo (s : State) (x ch : Nat) : List Nat := Tab.get (fun _ => []) s.xdc.fifo (fifoKey x ch)
def State.setFifo (s : State) (x ch : Nat) (l : List Nat) : State :=
  { s with xdc := { s.xdc with fifo := Tab.set (fun _ => []) s.xdc.fifo (fifoKey x ch) l } }

/-- Whether one channel of a FIFO crossing is full. -/
def State.fifoFull (s : State) (x ch : Nat) : Bool := decide (fifoDepth x ≤ (s.fifo x ch).length)

/-- The keys of a port's own part of crossing 8 or 9, and of its mailbox in crossing 10 (R142). -/
def linkKey (n : Nat) : Nat := 130 + n
def timeKey (n : Nat) : Nat := 120 + n

/-- The link side of the crossings of port n is reset (R616), and is out of reset again. -/
def State.linkReset (s : State) (n : Nat) : State :=
  (s.setXing (linkKey n) { s.xing (linkKey n) with inReset := true, resync := true }).setXing (timeKey n)
    { s.xing (timeKey n) with inReset := true, resync := true }
def State.linkBack (s : State) (n : Nat) : State :=
  (s.setXing (linkKey n) { s.xing (linkKey n) with inReset := false }).setXing (timeKey n)
    { s.xing (timeKey n) with inReset := false }

/-- Port n goes to electrical idle, when it has gone down for at least 1 ms (R419), and the link side of its crossings is in
reset. -/
def State.portIdle (s : State) (n : Nat) (down : Bool) : State :=
  (((s.setF (R.LNK_PORT_ST n) 1).setF (R.LNK_PORT_FAR n) 0).setPort n { at_ := if down then s.tbp else 0 }).linkReset n

/-- Whether port n has spent the time in electrical idle that R419 asks for. -/
def State.idleDone (s : State) (n : Nat) : Bool := (s.port n).at_ = 0 || decide ((s.port n).at_ + perMs ≤ s.tbp)

/-- Port n leaves electrical idle and starts training: TBLn restarts from 0 (R100, R392). -/
def State.trainStart (s : State) (n : Nat) : State :=
  ((s.setF (R.LNK_PORT_ST n) 2).setPort n { at_ := s.tbp, tblAt := s.tbp }).linkBack n

/-- TBLn (R97, R100): 250 MHz from the PLL that shares its reference with TBP, so 5 counts for every 8 of TBP; 48 bits. In
electrical idle it does not run. -/
def State.tbl (s : State) (n : Nat) : Nat :=
  if s.f (R.LNK_PORT_ST n) < 2 then 0 else (s.tbp - (s.port n).tblAt) * 5 / 8 % 2 ^ 48

/-- The span of a timestamp: TBLn has 48 bits, and one of its counts ten steps of 0.4 ns (R97, R402). -/
def stampSpan : Nat := 10 * 2 ^ 48

/-- The present relation of TBLn to TBP (R100, R392): a TBLn instant in steps of 0.4 ns and the TBP count it falls on. Both run
from one reference, 25 steps for 4 counts. -/
def State.relation (s : State) (n : Nat) : List Nat :=
  let k := (s.tbp - (s.port n).tblAt) / 8
  [50 * k % stampSpan, (s.port n).tblAt + 8 * k]

/-- The relation is renewed through crossing 10 at every frame (R402). -/
def State.relate (s : State) (n : Nat) : State := s.produceAt 10 (timeKey n) (s.relation n)

/-- The plant time, in 2^-16 ns, of timestamp `st` of port n, through the relation that crossing 10 has carried last
(R402). -/
def State.stamp (s : State) (n st : Nat) : Int :=
  let r := (s.xing (timeKey n)).dst
  let span : Int := stampSpan
  let d := ((st : Int) - r.getD 0 0 + span / 2) % span - span / 2
  ((s.pt : Int) * 25 + (4 * d - 25 * ((s.tbp : Int) - r.getD 1 0)) * s.ptSlope) / (25 * 2 ^ 25)

/-- A local reset of one side of a crossing (R135, R136, R616): what is in flight is discarded at the resynchronisation. -/
def State.xReset (s : State) (x : Nat) : State := s.setXing x { s.xing x with inReset := true, resync := true }

/-! ### Codes of active detection (R374, R377, R379) -/

/-- One millisecond of plant time. -/
def ptMs : Nat := 1000000 * 2 ^ 41

/-- The code in effect (R377). -/
def State.codeWord (s : State) : Word := s.grd.code.getD (RegMap.resetWord 0xB050)

/-- The length of a code period (R374). -/
def codePeriod (w : Word) : Nat :=
  2 ^ (R.GRD_CODE_LOG2L.get w) * (max 1 (R.GRD_CODE_TC.get w)) * (ptMs / 10)

/-- Whether active detection is suspended in device state `st` at plant time `t` (R379). -/
def State.suspended (s : State) (st t : Nat) : Bool :=
  st ≠ stConnected || decide (t < s.grd.suspTo) || s.on R.PLT_TSTAT_UNSYNC || R.GRD_CODE_ON.get s.codeWord = 0 ||
    !s.on R.GRD_AIL_EN

/-- Active detection is suspended now. -/
def State.aiSusp (s : State) : Bool := s.suspended s.st s.pt

/-- What may suspend active detection has changed: a suspension sets the hit count to 0 (R379). -/
def State.aiShow (s : State) : State :=
  if s.aiSusp then (s.setF R.GRD_STAT_HITS 0).setF R.GRD_STAT_AISUSP 1 else s.setF R.GRD_STAT_AISUSP 0

/-! ### Converter lanes and sequences -/

def State.lane (s : State) (k : Nat) : LaneSt := Tab.get (fun k => { slice := k }) s.adc.lanes k
def State.setLane (s : State) (k : Nat) (l : LaneSt) : State :=
  { s with adc := { s.adc with lanes := Tab.set (fun k => { slice := k }) s.adc.lanes k l } }

/-- The sequences: 0 regular, 1 injected, 2 monitor. -/
def State.adcSeq (s : State) : Nat → SeqSt
  | 0 => s.adc.reg
  | 1 => s.adc.inj
  | _ => s.adc.mon
def State.setSeq (s : State) (q : Nat) (x : SeqSt) : State :=
  match q with
  | 0 => { s with adc := { s.adc with reg := x } }
  | 1 => { s with adc := { s.adc with inj := x } }
  | _ => { s with adc := { s.adc with mon := x } }

end Sys2Proof.Machine
end

