-- ==== Sys2Proof/Machine/Own.lean ====
section
/-! DEFINITION. The ownership map (R41 to R58, R655): the claims a configuration makes, the check of a commit's releases and
claims, and the record of a refusal. -/

namespace Sys2Proof.Machine

/-- The status codes of R578. -/
inductive Status where
  | done | state | conflict | auth | format
  deriving DecidableEq, Repr

/-- R578: 0 DONE; 1 STATE; 2 CONFLICT; 3 AUTH; 4 FORMAT. -/
def Status.code : Status → Nat
  | .done => 0
  | .state => 1
  | .conflict => 2
  | .auth => 3
  | .format => 4

/-- A claim of R44: a resource and the owner claiming it. -/
structure Claim where
  res : Nat
  owner : Nat
  deriving DecidableEq, Repr

/-- R43: class, block number and instance. -/
def ownerId (cls blk inst : Nat) : Nat := cls * 2 ^ 13 + blk * 2 ^ 8 + inst

/-- R42, R636: the resource of a land function number. -/
def landRes (n : Nat) : Nat := 0x0400 + n

/-- A `PWM_` field as last committed through the shadow path (R179): what the pair and carrier claims follow. -/
def State.pwmC (s : State) (x : Fld) : Nat := x.get (Tab.get RegMap.resetWord s.pwm.cairn x.off)

/-- R125: the class of an enabled PTC from its target mask: control, monitor or host. -/
def ptcClass (tgt : Nat) : Nat :=
  if tgt &&& 0b100010111 ≠ 0 then 3 else if tgt.testBit 3 then 4 else 5

/-- R188: the owner of an enabled ATC. -/
def State.atcOwner (s : State) (n : Nat) : Nat :=
  let t := s.f (R.ATC_CFG_TGT n)
  match s.f (R.ATC_CFG_FN n) with
  | 1 => ownerId 2 7 t
  | 2 => ownerId (if s.f (R.ADC_TRIG_SEQ t) = 3 then 4 else 3) 9 t
  | _ => ownerId 2 6 t

/-- R384: the ports each role uses. -/
def rolePorts : Nat → List Nat
  | 0 => []
  | 1 => [0, 1, 4, 5]
  | _ => [0, 1, 2, 3, 4, 5, 6, 7]

/-- R295: the number of result buffers of the monitor table. -/
def monBufs (last : Nat) : Nat := (last + 64) / 64

/-- Every claim the present configuration makes, feature by feature. DESIGN CHOICE (log entry 63): the SAFOUT, SAFTP, SAFACK, COMKEY
and SAFFB lands, which no register enables, are never claimed. -/
def State.claims (s : State) : List Claim :=
  let sel (n : Nat) (p : Nat → Bool) (c : Nat → List Claim) : List Claim :=
    ((List.range n).filter p).flatMap c
  -- R96, R149, R125, R188
  sel 4 (fun n => s.on (R.CLK_CKO_EN n)) (fun n => [⟨landRes (120 + n), ownerId 5 1 n⟩]) ++
  sel 16 (fun k => s.pwmC (R.PWM_CAR_CFG_EN k) ≠ 0) (fun k => [⟨0x0800 + k, ownerId 3 4 k⟩]) ++
  sel 24 (fun m => s.pwmC (R.PWM_PAIR_CFG_MODE m) ≠ 0)
    (fun m => [⟨landRes (2 * m), ownerId 3 4 (32 + m)⟩, ⟨landRes (2 * m + 1), ownerId 3 4 (32 + m)⟩]) ++
  sel 16 (fun n => s.f (R.TIM_PTC_CFG_MODE n) ≠ 0)
    (fun n => [⟨0x1000 + n, ownerId (ptcClass (s.f (R.TIM_PTC_CFG_TGT n))) 2 n⟩]) ++
  sel 16 (fun n => s.f (R.ATC_CFG_FN n) ≠ 0) (fun n => [⟨0x0C00 + n, s.atcOwner n⟩]) ++
  -- R231, R245, R249
  sel 16 (fun g => s.on (R.TRP_GRP_CFG_EN g)) (fun g => [⟨0x1800 + g, ownerId 2 7 g⟩]) ++
  sel 16 (fun i => s.on (R.TRP_SRC_CFG_EN i)) (fun i => [⟨landRes (96 + i), ownerId 2 7 (16 + i)⟩]) ++
  sel 48 (fun i => s.on (R.TRP_SRC_CFG_EN (40 + i))) (fun i => [⟨landRes (48 + i), ownerId 2 7 (56 + i)⟩]) ++
  sel 24 (fun n => s.on (R.CMP_CFG_EN n)) (fun n => [⟨0x1400 + n, ownerId 2 8 n⟩]) ++
  sel 8 (fun k => s.on (R.CMP_OUT_CFG_EN k)) (fun k => [⟨landRes (112 + k), ownerId 4 8 (24 + k)⟩]) ++
  -- R298, R588, R387, R515
  (if s.on R.ADC_REG_CFG_EN then [⟨0x1C18 + s.f R.ADC_REG_CFG_BUF, 0x6910⟩] else []) ++
  (if s.on R.ADC_INJ_CFG_EN then [⟨0x1C18 + s.f R.ADC_INJ_CFG_BUF, 0x6911⟩] else []) ++
  (if s.f R.ADC_MON_CFG_MODE ≠ 0 then
     (List.range (monBufs (s.f R.ADC_MON_CFG_LAST))).map fun i => ⟨0x1C18 + s.f R.ADC_MON_CFG_BUF + i, 0x8912⟩
   else []) ++
  sel 16 (fun w => s.on (R.HST_CAP_CFG_EN w)) (fun w => [⟨0x1C00 + w, ownerId 5 17 w⟩]) ++
  (rolePorts (s.f R.LNK_CFG_ROLE)).map (fun n => ⟨landRes (128 + n), ownerId 3 12 n⟩) ++
  sel 8 (fun k => s.on (R.MTR_PIN_EN k)) (fun k => [⟨landRes (144 + k), ownerId 4 15 k⟩]) ++
  -- the safety input lands of an enabled pair, class safety
  sel 4 (fun k => s.f (R.SAF_IN_MODE k) ≠ 0)
    (fun k => [⟨landRes (162 + 2 * k), ownerId 1 14 (8 + 2 * k)⟩, ⟨landRes (163 + 2 * k), ownerId 1 14 (9 + 2 * k)⟩])

/-- The holder of a resource; 0 is free (R41, R43). -/
def State.owner (s : State) (res : Nat) : Nat := Tab.get (fun _ => 0) s.sys.own res

/-- Records a holder; 0 releases. -/
def State.setOwner (s : State) (res o : Nat) : State :=
  { s with sys := { s.sys with own := Tab.set (fun _ => 0) s.sys.own res o } }

/-- Puts a claim into ascending order of owner ID, then of resource ID (R655). -/
def insertClaim (c : Claim) : List Claim → List Claim
  | [] => [c]
  | d :: l => if c.owner < d.owner || (c.owner = d.owner && c.res ≤ d.res) then c :: d :: l else d :: insertClaim c l

/-- Claims in the order R655 checks them. -/
def sortClaims (l : List Claim) : List Claim := l.foldr insertClaim []

/-- A refused claim: the resource, its holder and the owner refused. -/
structure Conflict where
  res : Nat
  holder : Nat
  claimer : Nat
  deriving DecidableEq, Repr

/-- The checking of R655 over a map from which the releases have been taken (R48): the conflicts found, in order. -/
def checkClaims (own : Tab Nat) : List Claim → List Conflict
  | [] => []
  | c :: l =>
    let h := Tab.get (fun _ => 0) own c.res
    if h = 0 || h = c.owner then checkClaims (Tab.set (fun _ => 0) own c.res c.owner) l
    else ⟨c.res, h, c.owner⟩ :: checkClaims own l

/-- The first conflict in ascending resource-ID order (R46). -/
def firstConflict : List Conflict → Option Conflict
  | [] => none
  | c :: l => match firstConflict l with
    | none => some c
    | some d => if d.res < c.res then some d else some c

/-- R124: two enabled PTCs name one target. A PTC that newly names a target another names is refused; among several new
ones the lowest-numbered names it. `was` and `now` give, for each PTC, the targets it names (bit 9 + g for the sync of
group g in place of bit 4). -/
def ptcTargets (s : State) (n : Nat) : Nat :=
  if s.f (R.TIM_PTC_CFG_MODE n) = 0 then 0
  else
    let t := s.f (R.TIM_PTC_CFG_TGT n)
    (t &&& 0b111101111) ||| (if t.testBit 4 then 2 ^ (9 + s.f (R.TIM_PTC_CFG_GRP n)) else 0)

/-- The target conflicts of a commit from `s` to `t`. -/
def ptcConflicts (s t : State) : List Conflict :=
  (List.range 25).flatMap fun b =>
    let names := (List.range 16).filter fun n => (ptcTargets t n).testBit b
    let old := names.filter fun n => (ptcTargets s n).testBit b
    let keep := (old ++ names).head?
    match keep with
    | none => []
    | some k =>
      (names.filter fun n => n ≠ k && !old.contains n).map fun n =>
        ⟨0x1000 + k, ownerId (ptcClass (t.f (R.TIM_PTC_CFG_TGT k))) 2 k,
          ownerId (ptcClass (t.f (R.TIM_PTC_CFG_TGT n))) 2 n⟩

/-- R588: an enabled window whose region overlaps that of another enabled window. -/
def winConflicts (s t : State) : List Conflict :=
  let on (x : State) (w : Nat) : Bool := x.on (R.HST_CAP_CFG_EN w)
  let lo (w : Nat) := t.f (R.HST_CAP_REG_BASE w)
  let hi (w : Nat) := lo w + t.f (R.HST_CAP_REG_SIZE w)
  (List.range 16).flatMap fun w => (List.range 16).flatMap fun v =>
    if w ≠ v && on t w && on t v && lo w < hi v && lo v < hi w &&
        (!on s w || s.reg (0x11400 + 16 * w) ≠ t.reg (0x11400 + 16 * w)) && (on s v || v < w) then
      [⟨0x1C00 + v, ownerId 5 17 v, ownerId 5 17 w⟩]
    else []

/-- Whether a commit leaves the resource of an old claim to another owner of other block or instance: an ATC whose function or
target changes keeps its present holder, so that the new claim is refused (the worked example after R56); a change of class
alone is no other owner (R125, R188). -/
def claimStays (new : List Claim) (c : Claim) : Bool :=
  decide (0x0C00 ≤ c.res ∧ c.res < 0x1000) && new.any fun d => d.res = c.res && decide (d.owner % 2 ^ 13 ≠ c.owner % 2 ^ 13)

/-- The outcome of the ownership check of a commit that takes the configuration from `s` to `t`: the map after it, or the
conflict that refuses it whole (R44 to R48). -/
def commitMap (s t : State) : Except Conflict (Tab Nat) :=
  let old := s.claims
  let new := t.claims
  let freed := old.filter fun c => !new.contains c && !claimStays new c
  let own := freed.foldl (fun o c => if Tab.get (fun _ => 0) o c.res = c.owner then Tab.set (fun _ => 0) o c.res 0 else o)
    s.sys.own
  let claims := sortClaims (new.filter fun c => !old.contains c)
  match firstConflict (checkClaims own claims ++ ptcConflicts s t ++ winConflicts s t) with
  | some c => .error c
  | none => .ok (claims.foldl (fun o c => Tab.set (fun _ => 0) o c.res c.owner) own)

/-- Records a refusal (R46, R54, R55). -/
def State.refuse (s : State) (c : Conflict) (restore : Bool) : State :=
  ((((s.setF R.SYS_OWN_LAST_RESID c.res).setF R.SYS_OWN_LAST_OWNER c.holder).setF R.SYS_OWN_LASTC_CLAIM c.claimer).setF
    R.SYS_OWN_LASTC_RESTORE (bit restore)).count R.SYS_OWN_LASTC_COUNT 1

end Sys2Proof.Machine
end

