-- ==== Sys2Proof/Machine/Comp.lean ====
section
/-! DEFINITION. Where the outcome of a command goes: `HST_WRES` for a BAR0 write (R565), a completion in a ring (R571, R578,
R582), a response on Cewlink (R414, R416), the destination register of a lane (R327); and with it the addresses of Cewlink
and the routing of packets by them (R384, R413). -/

namespace Sys2Proof.Machine

/-! ### Roles and ports (R384 to R387) -/

def State.role (s : State) : Nat := s.f R.LNK_CFG_ROLE

/-- The kind of port n under a role: 0 unused, 1 line port, 2 up port, 3 down port. -/
def portKind (role n : Nat) : Nat :=
  match role, n % 4 with
  | 1, 0 => 2
  | 1, 1 => 3
  | 2, 2 => 2
  | 2, 3 => 3
  | 2, _ => 1
  | 3, _ => 1
  | _, _ => 0

/-- The up port and the down port of a network under a role; the lines a role heads. -/
def upPort (role net : Nat) : Nat := 4 * net + (if role = 2 then 2 else 0)
def downPort (role net : Nat) : Nat := upPort role net + 1
def lineCount : Nat → Nat
  | 2 => 2
  | 3 => 4
  | _ => 0

/-! ### Addresses (R413) -/

def aPart (a : Nat) : Nat := a % 2 ^ 10
def aZone (a : Nat) : Nat := a / 2 ^ 10 % 2 ^ 10
def aInz (a : Nat) : Bool := a.testBit 20
def aMgr (a : Nat) : Bool := a.testBit 21
def aTop (a : Nat) : Bool := a.testBit 22
def aBcast (a : Nat) : Bool := a.testBit 31

/-- Whether a source is a manager (R434, R491). -/
def fromManager (p : Packet) : Bool := aMgr p.src || aTop p.src

/-- Whether a packet is addressed to this module. -/
def State.mine (s : State) (p : Packet) : Bool :=
  let d := p.dst
  let own (z : Nat) : Bool := z = s.f R.PLT_ASG_ZONE
  if aTop d then s.role = 3
  else if aBcast d then (s.role = 1 || s.role = 2) && (!aInz d || own (aZone d))
  else if aMgr d then
    (s.role = 2 && (!aInz d || aZone d = s.lnk.num)) || (s.role = 3 && !aInz d)
  else (s.role = 1 || s.role = 2) && aPart d = s.lnk.num && (!aInz d || own (aZone d))

/-- This module's own address as a requester: upward, or into its own zone. -/
def State.ownSrc (s : State) (dst : Nat) : Nat :=
  match s.role with
  | 3 => 2 ^ 22
  | 2 => if aTop dst || aInz dst then s.f R.PLT_ASG_PART else 2 ^ 21
  | _ =>
    let z := s.f R.PLT_ASG_ZONE
    if (aTop dst || aInz dst) && z ≠ 0x3FF then s.f R.PLT_ASG_PART + z * 2 ^ 10 + 2 ^ 20 else s.f R.PLT_ASG_PART

/-! ### Queues (R413, R446 to R448) -/

def State.dnQueue (s : State) (line : Nat) : List Packet := Tab.get (fun _ => []) s.lnk.dnq line
def State.setDnQueue (s : State) (line : Nat) (l : List Packet) : State :=
  { s with lnk := { s.lnk with dnq := Tab.set (fun _ => []) s.lnk.dnq line l } }

/-- A packet waits for the next up frame, or for the next down frame of a line. -/
def State.sendUp (s : State) (p : Packet) : State := { s with lnk := { s.lnk with upq := s.lnk.upq ++ [p] } }
def State.sendDown (s : State) (line : Nat) (p : Packet) : State := s.setDnQueue line (s.dnQueue line ++ [p])

/-- Sends a packet towards its `DST`: a device only in up frames, a manager in down frames or, beyond its zone, upward. -/
def State.route (s : State) (p : Packet) : State :=
  let d := p.dst
  let down (s : State) (p : Packet) : State :=
    if aBcast p.dst then s.each (List.range (lineCount s.role)) fun l s => s.sendDown l p
    else s.sendDown (aPart p.dst / 256) p
  match s.role with
  | 3 => if aInz d then s.sendDown (aZone d / 256) p else if aTop d then s else down s p
  | 2 =>
    if aTop d || aMgr d then s.sendUp p
    else if aInz d then
      if aZone d = s.lnk.num then down s { p with dst := d - 2 ^ 20 - aZone d * 2 ^ 10 } else s.sendUp p
    else down s p
  | _ => s.sendUp p

/-- The source of an answer: the address the request was sent to; a worker names its zone to another zone's device, whose packet
has come with `INZ` cleared, and a device that answers a broadcast names itself (R413). -/
def State.answerSrc (s : State) (q : Packet) : Nat :=
  if aBcast q.dst || (s.role = 1 && (aTop q.src || aInz q.src)) then s.ownSrc q.src else q.dst

/-- The answer to a request: back to its source, kept among the last four of that source (R416). -/
def State.answer (s : State) (q p : Packet) : State :=
  let p := { p with dst := q.src, src := s.answerSrc q, tag := q.tag }
  let mine := s.lnk.kept.filter (·.src = q.src)
  let drop := if 4 ≤ mine.length then mine.take (mine.length - 3) else []
  let kept := (s.lnk.kept.filter fun k => !drop.contains k) ++ [{ src := q.src, tag := q.tag, resp := p }]
  ({ s with lnk := { s.lnk with kept := kept } } : State).route p

/-! ### Outcomes of BAR0 writes -/

/-- R565: the outcome of a BAR0 write. `CNT` counts those with a status other than DONE. -/
def State.wres (s : State) (off : Nat) (st : Status) : State :=
  let s := (s.setF R.HST_WRES_STATUS st.code).setF R.HST_WRES_OFS off
  if st = .done then s else s.count R.HST_WRES_CNT 1

/-! ### Completions (R571, R573, R578, R581, R582) -/

/-- The entries of a ring of the host: 2^`LOG2SZ`. -/
def State.ringSize (s : State) (r : Nat) : Nat := 2 ^ s.f (R.HST_RING_CFG_LOG2SZ r)

/-- The words of a completion (R578). -/
def compWords (d : Desc) (c : Comp) (idx : Nat) (phase : Nat) : List Word :=
  [BitVec.ofNat 32 (d.tag % 2 ^ 16 + d.opc % 256 * 2 ^ 16 + c.status % 8 * 2 ^ 24 + c.reason % 32 * 2 ^ 27),
   BitVec.ofNat 32 (idx % 2 ^ 16), BitVec.ofNat 32 c.det0, BitVec.ofNat 32 (c.det1 % 2 ^ 31 + phase * 2 ^ 31)]

/-- Shows the descriptors in flight and whether a disabled ring is idle (R573, R601). -/
def State.showRing (s : State) (r : Nat) : State :=
  let n := (s.ring r).infl.length
  let s := (s.setF (R.HST_RING_STAT_INFL r) n).setF (R.HST_RING_STAT_IDLE r)
    (bit (!s.on (R.HST_RING_CFG_EN r) && decide (n = 0)))
  s.setF R.HST_ERR_INFL ((List.range 16).foldl (fun a r => a + (s.ring r).infl.length) 0)

/-- COMPLETION_WRITE of one descriptor: it is no longer in flight; while the host side is reset its completion is discarded
(R566). -/
def State.writeComp (s : State) (r : Nat) (f : Flight) (c : Comp) : State :=
  let q := s.ring r
  let s := s.setRing r { q with infl := q.infl.drop 1 }
  if (s.xing 11).inReset then s.count (R.XDC_STAT_DISC 11) 1
  else
    let size := s.ringSize r
    let base := s.f (R.HST_RING_CBL_VAL r) + s.f (R.HST_RING_CBH_VAL r) * 2 ^ 32
    let s := s.hostWrite (base + 16 * (q.cprod % size)) (compWords f.d c f.idx (if q.cprod / size % 2 = 0 then 1 else 0))
    let s := s.setRing r { s.ring r with cprod := (q.cprod + 1) % 2 ^ 16 }
    if f.d.noirq then s else s.signal (s.f (R.HST_RING_CFG_VEC r))

/-- Completions of a ring are written in index order; `fuel` bounds their number. -/
def State.flush : Nat → Nat → State → State
  | 0, r, s => s.showRing r
  | fuel + 1, r, s =>
    match (s.ring r).infl with
    | [] => s.showRing r
    | f :: _ =>
      match f.comp with
      | none => s.showRing r
      | some c => State.flush fuel r (s.writeComp r f c)

/-- The descriptor with index `idx` of ring r completes. -/
def State.complete (s : State) (r idx : Nat) (c : Comp) : State :=
  let q := s.ring r
  let l := q.infl.map fun f => if f.idx = idx && f.comp.isNone then { f with comp := some c } else f
  (s.setRing r { q with infl := l }).flush 256 r

/-! ### Changes of the Cairn image (R550) -/

/-- An RWC or RWB field has changed: the image is written 10 ms later; a change during a write starts a further one. -/
def State.cairnTouch (s : State) : State :=
  let s := s.setF R.BVQ_CAIRN_PEND 1
  if s.bvq.cairnWr.isSome then { s with bvq := { s.bvq with cairnMore := true } }
  else if s.bvq.cairnAt.isSome then s
  else { s with bvq := { s.bvq with cairnAt := some (s.tbp + 10 * perMs) } }

/-! ### The outcome of an ARM request (R467, R470, R606) -/

/-- An ARM whose isolation test was running ends with a status; the unit it belongs to completes with the first of its
statuses that is not DONE (R656). -/
def State.armEnd (s : State) (st : Status) : State :=
  match s.sys.arm with
  | none => s
  | some a =>
    let s : State := { s with sys := { s.sys with arm := none } }
    let (code, idx) : Nat × Nat :=
      if a.pre ≠ 0 then (a.pre, a.preIdx) else if st ≠ .done then (st.code, a.idx) else (a.post, a.postIdx)
    match a.who with
    | .auto => s
    | .host => s.wres 0x104 st
    | .ring r i => s.complete r i { status := code, det1 := idx }
    | .link q => s.answer q { ty := 0x13, status := code }
    | .lane l =>
      let c := Tab.get (fun _ => ({} : LaneCe)) s.ce.lanes l
      match c.back.wait with
      | .swr d _ =>
        { s with ce := { s.ce with
          lanes := Tab.set (fun _ => {}) s.ce.lanes l { c with back := { c.back with wait := .swr d code } } } }
      | _ => s

/-- Whether lane l waits for the end of an ARM. -/
def State.armLane (s : State) (l : Nat) : Bool :=
  match s.sys.arm with
  | some a => decide (a.who = .lane l)
  | none => false

end Sys2Proof.Machine
end

