-- ==== Sys2Proof/Machine/Power.lean ====
section
/-! DEFINITION. What every family may do to the power stage: the levels at the `PWMn` lands and the events they raise for
the auxiliary timer channels, turn-off in soft-off order, the trip network's groups, block shorts, block trip requests and
changes of the device state. -/

namespace Sys2Proof.Machine

/-! ### Pairs and carriers -/

/-- The 24 pairs, the 16 carriers. -/
def pairs24 : List Nat := List.range 24
def carriers16 : List Nat := List.range 16

/-- R145: pair m is enabled. -/
def State.pairOn (s : State) (m : Nat) : Bool := s.f (R.PWM_PAIR_CFG_MODE m) = 1 || s.f (R.PWM_PAIR_CFG_MODE m) = 2
def State.pairCar (s : State) (m : Nat) : Nat := s.f (R.PWM_PAIR_CFG_CAR m)
def State.pairLeg (s : State) (m : Nat) : Nat := s.f (R.PWM_PAIR_CFG_LEG m)
def State.carOn (s : State) (k : Nat) : Bool := s.on (R.PWM_CAR_EFF_RUN k)

/-- TBP counts of one count in which carrier k runs (R75, R83). -/
def State.carUnit (s : State) (k : Nat) : Nat := if s.on (R.PWM_CAR_EFF_COARSE k) then 16 else 1

/-- A fine count in the counts carrier k runs in, ÷ 16 rounded up on coarse values (R183). -/
def State.carCnt (s : State) (k fine : Nat) : Nat := if s.on (R.PWM_CAR_EFF_COARSE k) then ceilDiv fine 16 else fine

/-- R167: M = max(MINP, 1), in the counts of the pair's carrier. -/
def State.minPulse (s : State) (m : Nat) : Nat := max (s.carCnt (s.pairCar m) (s.f (R.PWM_PAIR_MINP_MINP m))) 1
def State.dtr (s : State) (m : Nat) : Nat := s.carCnt (s.pairCar m) (s.f (R.PWM_PAIR_DT_DTR m))
def State.dtf (s : State) (m : Nat) : Nat := s.carCnt (s.pairCar m) (s.f (R.PWM_PAIR_DT_DTF m))

/-- RT, the refresh pulse length, in the counts of the pair's carrier (R201, R209). -/
def State.refreshLen (s : State) (m : Nat) : Nat :=
  max (s.carCnt (s.pairCar m) (s.f (R.GDI_LEG_BSR_T (s.pairLeg m)))) (s.minPulse m)

/-- Whether the device state lets pair m switch (R148, R369, R607); none does once the supply is failing (R559). -/
def State.stateAllows (s : State) (m : Nat) : Bool :=
  s.live && !s.bvq.failing &&
    ((s.st = stArmed && s.on (R.PWM_PAIR_CFG_ARM m)) ||
     ((s.st = stConnected || s.st = stRide) && !s.on R.GRD_STAT_HOLD && s.sys.closeAt.isNone))

/-- The groups whose `LEGS` holds leg j. -/
def State.groupsOf (s : State) (j : Nat) : List Nat :=
  (List.range 16).filter fun g => (s.f (R.TRP_GRP_CFG_LEGS g)).testBit j

/-- Whether the trip network holds pair m off for longer than a period: a latch of one of its groups, or a block short
(R221, R227, R228). -/
def State.tripHeld (s : State) (m : Nat) : Bool :=
  s.on R.TRP_BLK_SC || (s.groupsOf (s.pairLeg m)).any fun g => s.on (R.TRP_GRP_STAT_LATCH g)

/-- Whether a switch of pair m may turn on now: the pair is enabled on a running carrier, and nothing holds it; the upper switch
also needs its bootstrap hold released (R145, R157, R207). -/
def State.mayOn (s : State) (m : Nat) (upper : Bool) : Bool :=
  s.pairOn m && s.carOn (s.pairCar m) && s.stateAllows m && s.sys.railsOk && !s.tripHeld m && !(s.pair m).blocked && (s.pair m).soft.isNone &&
    (!upper || !s.bitAt R.GDI_BS_HOLD m)

/-! ### Auxiliary timer channels -/

/-- An enabled ATC's window is scheduled or moved by its source event, which takes the configuration as it stands (R186, R187,
R189). A window that is open for another use or target runs to its close unchanged, and the new opening waits for it. -/
def State.atcSchedule (s : State) (n : Nat) : State :=
  let a := s.atcOf n
  let fn := s.f (R.ATC_CFG_FN n)
  let tgt := s.f (R.ATC_CFG_TGT n)
  let at_ := s.tbp + s.durNear (s.f (R.ATC_TIME_DLY n))
  let wid := s.dur (s.f (R.ATC_TIME_WID n))
  if fn = 1 && a.opened.isSome && a.fn = 1 && a.tgt = tgt then s.setAtc n { a with close := some (at_ + wid) }
  else
    let later := match a.opened, a.close with
      | some _, some c => max at_ c
      | _, _ => at_
    match a.pend with
    | some _ =>
      if fn = 1 && a.pFn = 1 then s.setAtc n { a with pTgt := tgt, pClose := at_ + wid }
      else
        (s.setBit R.ATC_MISS_ATC n (s.bitAt R.ATC_MISS_ATC n || decide (a.pFn ≠ 1))).setAtc n
          { a with pend := some later, pFn := fn, pTgt := tgt, pClose := later + wid }
    | none => s.setAtc n { a with pend := some later, pFn := fn, pTgt := tgt, pClose := later + wid }

/-- A source event of R185 reaches every ATC that selects it: lands 0–47, carriers 48 + k; `edge` 1 turn-on or period
start, 2 turn-off or peak. -/
def State.atcEvent (s : State) (src edge : Nat) : State :=
  s.each (List.range 16) fun n s =>
    if s.f (R.ATC_CFG_FN n) ≠ 0 && s.f (R.ATC_CFG_SRC n) = src && (s.f (R.ATC_CFG_EDGE n)).testBit (edge - 1) then
      s.atcSchedule n
    else s

/-! ### Levels at the lands -/

/-- Turns a switch off at its land: the on-time is added up, the dead time runs from here, and the ATCs follow. -/
def State.landOff (s : State) (m : Nat) (upper : Bool) : State :=
  let p := s.pair m
  if upper then
    if p.up then
      (s.setPair m { p with up := false, offUp := some s.tbp, hon := p.hon + (s.tbp - p.onUp) }).atcEvent (2 * m) 2
    else s
  else if p.lo then
    let from_ := max p.onLo (s.car (s.pairCar m)).start
    let ok := decide (s.refreshLen m * s.carUnit (s.pairCar m) ≤ s.tbp - from_)
    (s.setPair m { p with lo := false, offLo := some s.tbp, lon := p.lon + (s.tbp - p.onLo), lowOk := p.lowOk || ok }).atcEvent
      (2 * m + 1) 2
  else s

/-- Turns a switch on at its land. -/
def State.landOn (s : State) (m : Nat) (upper : Bool) : State :=
  let p := s.pair m
  if upper then
    if p.up then s else (s.setPair m { p with up := true, onUp := s.tbp }).atcEvent (2 * m) 1
  else if p.lo then s
  else (s.setPair m { p with lo := true, onLo := s.tbp }).atcEvent (2 * m + 1) 1

/-- Both lands of pair m low at once, with nothing waiting. -/
def State.pairLow (s : State) (m : Nat) : State :=
  let s := (s.landOff m true).landOff m false
  s.setPair m { s.pair m with wait := none, soft := none }

/-- The soft-off stage of pair m (R199). -/
def State.stage (s : State) (m : Nat) : Nat :=
  if m < 16 then s.f R.GDI_STAGE0_STG / 4 ^ m % 4 else s.f R.GDI_STAGE1_STG / 4 ^ (m - 16) % 4

/-- A trip turn-off of pair m (R199): stage 0 at once, stage s after s × `SOFFD` counts; no switch of it turns on before
its next period start. A pair whose lands are low already only waits. -/
def State.tripOff (s : State) (m : Nat) : State :=
  let p := s.pair m
  let s := s.setPair m { p with wait := none, blocked := true }
  if s.stage m = 0 then s.pairLow m
  else if p.up || p.lo then
    match p.soft with
    | some _ => s
    | none => s.setPair m { s.pair m with
        soft := some (s.tbp + s.stage m * s.dur (s.f (R.GDI_LEG_CFG_SOFFD (s.pairLeg m)))) }
  else s

/-- Every enabled pair that satisfies `p`. -/
def State.pairsWhere (s : State) (p : Nat → Bool) : List Nat := pairs24.filter fun m => s.pairOn m && p m

/-- Turns off every enabled pair of the block under R199. -/
def State.allOff (s : State) : State := s.each (s.pairsWhere fun _ => true) fun m s => s.tripOff m

/-- Trip source i turns pair m off, a number beyond the sources standing for a cause of another kind. The hold pulse in progress
of a pair goes on when only the GDF source of its own upper switch acts (R208). -/
def State.tripPair (s : State) (i m : Nat) : State :=
  let p := s.pair m
  let own := decide (i = 40 + 2 * m)
  let s :=
    if own && s.bitAt R.GDI_BS_HOLD m && p.nph = 1 then
      (s.landOff m true).setPair m { (s.landOff m true).pair m with blocked := true }
    else s.tripOff m
  s.setPair m { s.pair m with byOther := p.byOther || !own }

/-- A trip of the block turns off every enabled pair; the report of a period with a pulse cut short says so (R171, R199). -/
def State.tripAll (s : State) : State :=
  s.each (s.pairsWhere fun _ => true) fun m s =>
    let p := s.pair m
    let s := s.tripPair 88 m
    s.setPair m { s.pair m with cut := p.cut || p.up || p.lo || p.wait.isSome }

/-! ### Device state and block trips -/

/-- Enters a device state (R605, R607, R617): leaving CONNECTED or RIDE first turns off every enabled pair; leaving ARMED
holds them low, but for a turn-off in soft-off order under way; CONNECTED holds the pairs for `TCLOSE`; leaving TRIPPED clears the block short. -/
def State.enter (s : State) (new : Nat) : State :=
  let old := s.st
  if old = new then s
  else
    let running := old = stConnected || old = stRide
    let s := if running && new ≠ stConnected && new ≠ stRide then s.allOff else s
    let s := if old = stTripped then s.setF R.TRP_BLK_SC 0 else s
    let s := if old = stArmed then s.each (s.pairsWhere fun m => (s.pair m).soft.isNone) fun m s => s.pairLow m else s
    let s := { s with sys := { s.sys with
      closeAt := if new = stConnected && old = stArmed then some (s.tbp + s.f R.SYS_CTL_TCLOSE * perMs)
                 else if new = stConnected || new = stRide then s.sys.closeAt else none } }
    -- R358: the staleness timer restarts at each entry to CONNECTED
    let s : State := if new = stConnected then { s with grd := { s.grd with staleAt := s.pt } } else s
    (((s.setF R.SYS_STATE_PREV old).setF R.SYS_STATE_ST new).count R.SYS_STATE_CHG 1).aiShow

/-- R609: whether a cause code belongs to the grid supervisor. -/
def gridCause (c : Nat) : Bool := decide (0x10 ≤ c ∧ c ≤ 0x17)

/-- The smallest of a list of codes; 0 when there is none. -/
def leastCode : List Nat → Nat
  | [] => 0
  | c :: l => if leastCode l = 0 then c else min c (leastCode l)

/-- R611: `FIRST` among simultaneous requests: the lowest code outside 0x10–0x17, or the lowest when all lie inside. -/
def firstCause (l : List Nat) : Nat :=
  let o := l.filter fun c => !gridCause c
  if o.isEmpty then leastCode l else leastCode o

/-- A block trip request (R608, R609, R611). -/
def State.blockTrip (s : State) (code det : Nat) : State :=
  if !s.live then s
  else
    let none_ := s.sys.causes.isEmpty
    let together := !none_ && decide (s.tbp ≤ s.sys.tripAt + 40)
    let causes := s.sys.causes ++ [(code, det)]
    let codes := causes.map (·.1)
    let s := s.count R.SYS_TCAUSE_COUNT 1
    let s : State := { s with sys := { s.sys with causes := causes, tripAt := if none_ then s.tbp else s.sys.tripAt } }
    let s :=
      if none_ then (s.setF R.SYS_TCAUSE_FIRST code).setF R.SYS_TCAUSE_DET det
      else if together then
        let first := firstCause codes
        let rest := codes.erase first
        let s := (s.setF R.SYS_TCAUSE_FIRST first).setF R.SYS_TCAUSE_SECOND (leastCode rest)
        s.setF R.SYS_TCAUSE_DET (((causes.find? (·.1 = first)).map (·.2)).getD 0)
      else if s.f R.SYS_TCAUSE_SECOND = 0 then s.setF R.SYS_TCAUSE_SECOND code
      else s
    let s := s.capTriggerAll 4 fun _ => true
    if s.st = stBoot then { s with sys := { s.sys with bootTrip := true } }
    else if s.st = stTripped || s.st = stSafe then s
    else (s.tripAll.armEnd .state).enter stTripped

/-! ### Trip network -/

/-- Whether the fault of GDFn is asserted (R192, R200). -/
def State.gdfFault (s : State) (n : Nat) : Bool :=
  if n < 32 then s.bitAt R.GDI_GDFL_FLT n else s.bitAt R.GDI_GDFH_FLT (n - 32)

def State.tsrc (s : State) (i : Nat) : TsrcSt := Tab.get (fun _ => {}) s.trp.src i
def State.setTsrc (s : State) (i : Nat) (c : TsrcSt) : State :=
  { s with trp := { s.trp with src := Tab.set (fun _ => {}) s.trp.src i c } }

/-- Whether source i is asserted after its filter. -/
def State.srcOn (s : State) (i : Nat) : Bool := s.on (R.TRP_SRC_CFG_ACT i)

/-- Whether an enabled source acts on group g when asserted. -/
def State.srcOf (s : State) (i g : Nat) : Bool := s.on (R.TRP_SRC_CFG_EN i) && (s.f (R.TRP_SRC_GRP_MASK i)).testBit g

/-- Whether a blanking window of group g masks now (R213, R214). -/
def State.blanked (s : State) (g : Nat) : Bool :=
  (List.range 16).any fun n =>
    (s.atcOf n).fn = 1 && (s.atcOf n).tgt = g && !(s.atcOf n).spent &&
      match (s.atcOf n).opened with
      | some t => decide (s.tbp < t + s.durDown (s.f (R.TRP_GRP_BLK_MAX g)))
      | none => false

/-- Any enabled source of group g is asserted (R233, R223). -/
def State.groupAsserted (s : State) (g : Nat) : Bool := (List.range 88).any fun i => s.srcOf i g && s.srcOn i

/-- Any enabled source acts on group g now: asserted, and not masked by a blanking window (R211, R213, R218). -/
def State.groupActs (s : State) (g : Nat) : Bool :=
  (List.range 88).any fun i => s.srcOf i g && s.srcOn i && !(s.on (R.TRP_SRC_CFG_BLNK i) && s.blanked g)

/-- Shows `TRP_GRPg_STAT.ACT` of every group. -/
def State.showAct (s : State) : State :=
  s.each (List.range 16) fun g s => s.setF (R.TRP_GRP_STAT_ACT g) (bit (s.groupAsserted g))

/-- The pairs of group g's legs. -/
def State.groupPairs (s : State) (g : Nat) : List Nat :=
  s.pairsWhere fun m => (s.f (R.TRP_GRP_CFG_LEGS g)).testBit (s.pairLeg m)

/-- R220: one cut counted for each carrier with a pair of the group, once per period of that carrier. -/
def State.countCut (s : State) (g m : Nat) : State :=
  let k := s.pairCar m
  let seen := Tab.get (fun _ => 0) s.trp.counted g
  if s.carOn k && !seen.testBit k then
    ({ s with trp := { s.trp with counted := Tab.set (fun _ => 0) s.trp.counted g (seen ||| 2 ^ k) } } : State).count
      (R.TRP_GRP_CNT_CBC g) 1
  else s

/-- The pairs that a cut of group g holds off change: `TRP_GRPg_STAT.CUT` is 1 while there is one (R233). -/
def State.setCut (s : State) (g m : Nat) (on : Bool) : State :=
  let v := Tab.get (fun _ => 0) s.trp.cutBy g
  let v := if on then v ||| 2 ^ m else if v.testBit m then v - 2 ^ m else v
  ({ s with trp := { s.trp with cutBy := Tab.set (fun _ => 0) s.trp.cutBy g v } } : State).setF (R.TRP_GRP_STAT_CUT g)
    (bit (decide (v ≠ 0)))

/-- A cycle-by-cycle cut by source i (R217). -/
def State.cutGroup (s : State) (g i : Nat) : State :=
  let s := s.each (s.groupPairs g) fun m s =>
    let s := ((s.tripPair i m).countCut g m).setCut g m true
    s.setPair m { s.pair m with cut := true }
  s.report3 none

/-- A latch of group g by source i (R221, R222, R225); `scb` for a hard source during blanking (R216). -/
def State.latchGroup (s : State) (g i : Nat) (scb : Bool) : State :=
  if s.on (R.TRP_GRP_STAT_LATCH g) then
    if Tab.get (fun _ => 0) s.trp.latAt g = s.tbp && s.f (R.TRP_GRP_STAT_FIRST g) ≠ i then
      (s.setF (R.TRP_GRP_STAT_MULTI g) 1).setF (R.TRP_GRP_STAT_FIRST g) (min i (s.f (R.TRP_GRP_STAT_FIRST g)))
    else s
  else
    let s := ((s.setF (R.TRP_GRP_STAT_LATCH g) 1).setF (R.TRP_GRP_STAT_FIRST g) i).setF (R.TRP_GRP_STAT_SCB g) (bit scb)
    let s := s.count (R.TRP_GRP_CNT_LAT g) 1
    let s : State := { s with trp := { s.trp with latAt := Tab.set (fun _ => 0) s.trp.latAt g s.tbp } }
    let s := s.each (s.groupPairs g) fun m s =>
      let s := s.tripPair i m
      s.setPair m { s.pair m with cut := true }
    let blk := s.on (R.TRP_GRP_CFG_BLK g)
    let s := s.post3 0x0701 g (bit blk) i (s.f (R.TRP_GRP_STAT_MULTI g))
    let s := s.capTriggerAll 3 fun _ => true
    if blk then s.blockTrip 0x01 g else s

/-- A block short of legs a and b (R227). -/
def State.blockShort (s : State) (a b : Nat) : State :=
  if s.on R.TRP_BLK_SC then s
  else
    let s := ((s.setF R.TRP_BLK_SC 1).setF R.TRP_BLKSC_LEGA a).setF R.TRP_BLKSC_LEGB b
    let s := s.tripAll
    let s : State := { s with trp := { s.trp with isoReq := true } }
    (s.post3 0x0702 0 0x02 a b).blockTrip 0x02 (a + 16 * b)

/-- A short event of a leg (R226, R227). -/
def State.shortEvent (s : State) (leg : Nat) : State :=
  let hit := match s.trp.short with
    | some (l, t) => if l ≠ leg && decide (s.tbp ≤ t + s.dur (s.f R.TRP_BLK_SCWIN)) then some l else none
    | none => none
  let s : State := { s with trp := { s.trp with short := some (leg, s.tbp) } }
  match hit with
  | some l => s.blockShort l leg
  | none => s

/-- The leg of a short event of source i (R226). -/
def State.shortLeg (s : State) (i : Nat) : Nat :=
  if i < 40 then s.f (R.TRP_SRC_CFG_SCLEG i) else s.pairLeg ((i - 40) / 2)

/-- What a source that acts does to group g: a cut or a latch by its `MODE`; `scb` for a hard source during blanking, which
latches (R216, R217, R221). -/
def State.hitGroup (s : State) (i g : Nat) (scb : Bool) : State :=
  if scb then s.latchGroup g i true
  else if s.f (R.TRP_GRP_CFG_MODE g) = 0 then s.cutGroup g i
  else s.latchGroup g i false

/-- Asserted source i acts on group g, unless a blanking window masks it (R211, R213, R216, R217, R221). -/
def State.srcActOn (s : State) (i g : Nat) : State :=
  if !s.on (R.TRP_GRP_CFG_EN g) then s
  else
    let c := s.tsrc i
    let hard := s.on (R.TRP_SRC_CFG_HARD i)
    let bl := s.blanked g
    if bl && s.on (R.TRP_SRC_CFG_BLNK i) && !hard then s.setTsrc i { c with masked := c.masked ||| 2 ^ g }
    else if c.acted.testBit g then s
    else
      let s := s.setTsrc i { c with acted := c.acted ||| 2 ^ g }
      let s := s.hitGroup i g (bl && hard)
      if s.on (R.TRP_SRC_CFG_SC i) then s.shortEvent (s.shortLeg i) else s

/-- An enabled, asserted source acts on every group of its mask (R211). -/
def State.srcAct (s : State) (i : Nat) : State :=
  if s.on (R.TRP_SRC_CFG_EN i) && s.srcOn i then
    (s.each (List.range 16) fun g s => if (s.f (R.TRP_SRC_GRP_MASK i)).testBit g then s.srcActOn i g else s).showAct
  else s.showAct

/-- Source i becomes asserted after its filter. -/
def State.srcAssert (s : State) (i : Nat) : State :=
  if s.srcOn i then s
  else ((s.setF (R.TRP_SRC_CFG_ACT i) 1).setTsrc i { s.tsrc i with acted := 0, masked := 0 }).srcAct i

/-- Source i is released after its filter: an assertion that lay wholly inside blanking is counted (R213). -/
def State.srcRelease (s : State) (i : Nat) : State :=
  if !s.srcOn i then s
  else
    let c := s.tsrc i
    let s := s.each (List.range 16) fun g s =>
      if c.masked.testBit g && !c.acted.testBit g then s.count (R.TRP_GRP_CNT_BLNK g) 1 else s
    ((s.setF (R.TRP_SRC_CFG_ACT i) 0).setTsrc i { c with acted := 0, masked := 0 }).showAct

/-- The unfiltered level of source i changes: with `FLT` = 0 it acts at once, else its filter starts (R211). -/
def State.srcRaw (s : State) (i : Nat) (on : Bool) : State :=
  let c := s.tsrc i
  let s := if c.raw = on then s else s.setTsrc i { c with raw := on, since := s.tbp }
  if s.f (R.TRP_SRC_CFG_FLT i) = 0 then (if on then s.srcAssert i else s.srcRelease i) else s

/-- Blankable sources still asserted act on group g at the end of its blanking, one that had acted before the window opened
again (R211, R213, R214). -/
def State.blankEnd (s : State) (g : Nat) : State :=
  if s.blanked g || !s.on (R.TRP_GRP_CFG_EN g) then s
  else s.each (List.range 88) fun i s =>
    if s.srcOf i g && s.srcOn i && s.on (R.TRP_SRC_CFG_BLNK i) then
      if (s.tsrc i).acted.testBit g then s.hitGroup i g false else s.srcActOn i g
    else s

/-- A latch or a block short holds off a pair that a change of its leg or of a group's legs has brought under it (R221, R228). -/
def State.enforceHold (s : State) : State :=
  s.each (s.pairsWhere fun m => s.tripHeld m && ((s.pair m).up || (s.pair m).lo) && (s.pair m).soft.isNone) fun m s =>
    let s := s.tripPair 88 m
    s.setPair m { s.pair m with cut := true }

/-- R211: sources already asserted act on what a commit or restore has just opened to them. -/
def State.srcActAll (s : State) : State := s.each (List.range 88) fun i s => s.srcAct i

end Sys2Proof.Machine
end

