-- ==== Sys2Proof/Machine/Pwm.lean ====
section
/-! DEFINITION. The PWM engine (R145 to R184, R201 to R209, R217 to R220): carriers and their boundaries, the planned
waveform of each pair, dead time, minimum pulse, refresh notches, effective-duty reports, staging slots and the shadow
path. Instants are TBP values; a carrier on coarse values counts 16 TBP counts for one of its own. -/

namespace Sys2Proof.Machine

/-! ### Period, on-time and region -/

/-- R151: a period outside 800–200,000 is clamped into it. -/
def clampPer (p : Nat) : Nat := max 800 (min 200000 p)

/-- R151, R183: the period P of carrier k in the counts it is about to run in; `coarse` divides by 16, to the nearest. -/
def State.period (s : State) (k : Nat) (coarse : Bool) : Nat :=
  let p := clampPer (s.f (R.PWM_CAR_PER_PER k))
  if coarse then (p + 8) / 16 else p

/-- R161: the four bits of a dither index reversed. -/
def bitrev4 (i : Nat) : Nat := i % 2 * 8 + i / 2 % 2 * 4 + i / 4 % 2 * 2 + i / 8 % 2

/-- R159, R161, R183: the on-time of W in counts, for a duty code, a period length and a dither index. -/
def onTime (coarse : Bool) (duty len idx : Nat) : Nat :=
  if coarse then (2 * duty * len + 2 ^ 24) / 2 ^ 25
  else
    let t := (2 * duty * len * 16 + 2 ^ 24) / 2 ^ 25
    if bitrev4 (idx % 16) < t % 16 then t / 16 + 1 else t / 16

/-- The region codes of R167 (A to G are 0 to 6). -/
abbrev regA : Nat := 0
abbrev regB : Nat := 1
abbrev regC : Nat := 2
abbrev regD : Nat := 3
abbrev regE : Nat := 4
abbrev regF : Nat := 5
abbrev regG : Nat := 6

/-- R167, R168: the region of a period of a complementary pair. -/
def regionComp (force ton len dtr dtf m : Nat) : Nat :=
  if force = 1 then regE
  else if force = 3 then regF
  else if force = 2 || ton = 0 then regA
  else
    let b := decide (ton < dtr + m)
    let d := decide (len < ton + dtf + m)
    if b && d then (if 2 * ton ≤ len then regB else regD)
    else if b then regB
    else if d then regD
    else regC

/-- R169: the region of a period of a single-mode pair. -/
def regionSingle (force ton len m : Nat) : Nat :=
  if force = 1 then regE
  else if force = 3 then regF
  else if force = 2 || ton = 0 then regA
  else if ton < m then regB
  else if ton < len then regC
  else regE

/-- R162: where W rises and falls in a period of `len` counts, from its start; none where the edge lies at the start. -/
def waveEdges (mode ton len : Nat) : Option Nat × Option Nat :=
  match mode with
  | 1 => (none, some ton)
  | 2 => (some (len - ton), none)
  | _ => (some ((len - ton) / 2), some (len - ceilDiv (len - ton) 2))

/-- The on-time and region of pair m in a period of `len` counts of its carrier. -/
def State.planned (s : State) (m len : Nat) : Nat × Nat :=
  let k := s.pairCar m
  let ton := onTime (s.on (R.PWM_CAR_EFF_COARSE k)) (s.f (R.PWM_PAIR_DUTY_DUTY m)) len (s.f (R.PWM_CAR_EFF_DIDX k))
  let force := s.f (R.PWM_PAIR_DUTY_FORCE m)
  let reg :=
    if !s.stateAllows m then regG
    else if s.f (R.PWM_PAIR_CFG_MODE m) = 2 then regionSingle force ton len (s.minPulse m)
    else regionComp force ton len (s.dtr m) (s.dtf m) (s.minPulse m)
  (ton, reg)

/-! ### Turning on and off -/

/-- Where a pulse of pair m that has begun by `on` turns off as planned. W of a down carrier falls, and of an up carrier rises, at
the next period start (R162); a notch to come ends an upper pulse (R205). -/
def State.plannedOff (s : State) (m : Nat) (upper : Bool) (on : Nat) : Option Nat :=
  let p := s.pair m
  let byNext (mode : Nat) : Option Nat :=
    if s.f (R.PWM_CAR_CFG_MODE (s.pairCar m)) = mode && p.region = regC then some (s.car (s.pairCar m)).next else none
  if upper then
    match p.fall.or (byNext 2), p.notch with
    | t, some (a, _, _) => if p.nph = 0 && decide (on < a) then some (min (t.getD a) a) else t
    | t, none => t
  else p.rise.or (byNext 1)

/-- Whether a pulse that turns on at `on` would be shorter than M, its turn-off as it would fall (R74, R165). -/
def State.pulseShort (s : State) (m : Nat) (upper : Bool) (on : Nat) : Bool :=
  match s.plannedOff m upper on with
  | some t => decide (s.onTick t < s.onTick on + s.minPulse m * s.carUnit (s.pairCar m))
  | none => false

/-- A switch whose turn-on is due turns on if it may, and if the pulse to its planned turn-off is not below M (R165). -/
def State.turnOn (s : State) (m : Nat) (upper : Bool) : State :=
  let short := s.pulseShort m upper s.tbp
  let s := s.setPair m { s.pair m with wait := none }
  if s.mayOn m upper && !short then s.landOn m upper else s

/-- Moves pair m towards the upper switch, the lower switch or neither: the other switch turns off at once, and the
turn-on waits for the dead time from that turn-off, and from `edge` when a W edge causes it (R164, R166). -/
def State.target (s : State) (m : Nat) (tgt : Option Bool) (edge : Bool) : State :=
  match tgt with
  | none =>
    let s := (s.landOff m true).landOff m false
    s.setPair m { s.pair m with wait := none }
  | some upper =>
    let s := s.landOff m (!upper)
    let p := s.pair m
    let isOn := if upper then p.up else p.lo
    if isOn then s.setPair m { p with wait := none }
    else
      let single := decide (s.f (R.PWM_PAIR_CFG_MODE m) = 2)
      let dt := if single then 0 else (if upper then s.dtr m else s.dtf m) * s.carUnit (s.pairCar m)
      let fromOff := match (if upper then p.offLo else p.offUp) with
        | some t => t + dt
        | none => 0
      let t := max (if edge then s.tbp + dt else s.tbp) fromOff
      let t := match p.wait with
        | some (u, w) => if u = upper && !edge then max w fromOff else t
        | none => t
      if t ≤ s.tbp then s.turnOn m upper else s.setPair m { p with wait := some (upper, t) }

/-- The switch that follows W: the upper while W is high; the lower while it is low, in complementary mode (R145). -/
def State.followW (s : State) (m : Nat) (edge : Bool) : State :=
  if (s.pair m).w then s.target m (some true) edge
  else if s.f (R.PWM_PAIR_CFG_MODE m) = 2 then s.target m none edge
  else s.target m (some false) edge

/-! ### Refresh (R201 to R209) -/

/-- An enabled refresh ATC for leg j (R204). -/
def State.refreshAtc (s : State) (j : Nat) : Bool :=
  (List.range 16).any fun n => s.f (R.ATC_CFG_FN n) = 3 && s.f (R.ATC_CFG_TGT n) = j

/-- A notch that starts at `at_`: where it starts, where the lower pulse starts and ends, moved earlier so that it ends
within the period (R203, R205). -/
def State.notchAt (s : State) (m at_ : Nat) : Nat × Nat × Nat :=
  let u := s.carUnit (s.pairCar m)
  let len := (s.dtf m + s.refreshLen m + s.dtr m) * u
  let a := if at_ + len ≤ (s.car (s.pairCar m)).next then at_ else (s.car (s.pairCar m)).next - len
  (a, a + s.dtf m * u, a + (s.dtf m + s.refreshLen m) * u)

/-- The refresh notch of pair m for the present period, in force (R203) or waiting for its ATC's window (R204). -/
def State.setNotch (s : State) (m : Nat) : State :=
  if s.refreshAtc (s.pairLeg m) then s.setPair m { s.pair m with nAtc := true }
  else
    let c := s.car (s.pairCar m)
    let n := s.dtf m + s.refreshLen m + s.dtr m
    let ns := c.start + (s.f (R.PWM_CAR_EFF_PER (s.pairCar m)) - n) / 2 * s.carUnit (s.pairCar m)
    s.setPair m { s.pair m with notch := some (s.notchAt m ns) }

/-- The refresh part of a period start: the counter, and the notch the period needs (R201 to R205, R208). -/
def State.planRefresh (s : State) (m ton len reg : Nat) : State :=
  let p := s.pair m
  let j := s.pairLeg m
  if s.on (R.GDI_LEG_CFG_BS j) && s.f (R.PWM_PAIR_CFG_MODE m) = 1 then
    let c := if p.lowOk then 0 else p.c + 1
    let due := decide (s.f (R.GDI_LEG_BSR_MAX j) ≤ c) || p.bsLow
    let held := s.bitAt R.GDI_BS_HOLD m
    let has := reg = regA || reg = regB || (reg = regC && decide (s.refreshLen m ≤ len - ton - s.dtf m))
    let p := { p with c := c, bsLow := false, notch := none, nph := 0, nAtc := false }
    if reg ≠ regG && (held || (due && !has)) then
      (s.setPair m p).setNotch m
    else s.setPair m p
  else s.setPair m { p with c := 0, bsLow := false, notch := none, nph := 0, nAtc := false }

/-! ### Reports (R170, R171, R316) -/

/-- The on-times of the period that ends now, both in TBP counts: a switch still on has been on until now. -/
def PairSt.close (p : PairSt) (t : Nat) : PairSt :=
  { p with hon := if p.up then p.hon + (t - p.onUp) else p.hon, onUp := t,
           lon := if p.lo then p.lon + (t - p.onLo) else p.lon, onLo := t }

/-- The four words of R171. -/
def State.reportWords (s : State) (m : Nat) : List Word :=
  let k := s.pairCar m
  let p := s.pair m
  let c := s.car k
  let co := s.on (R.PWM_CAR_EFF_COARSE k) || c.bridging
  let w0 := p.hon * 16 % 2 ^ 23 + m * 2 ^ 23 + (if p.mixed then 7 else p.region) * 2 ^ 28 + bit co * 2 ^ 31
  let w1 := p.lon * 16 % 2 ^ 23 + s.f (R.PWM_CAR_EFF_DIDX k) * 2 ^ 23 + bit p.notched * 2 ^ 27 + bit p.cut * 2 ^ 28 +
    bit (c.d ≠ 0) * 2 ^ 29
  [BitVec.ofNat 32 w0, BitVec.ofNat 32 w1, BitVec.ofNat 32 (s.f (R.PWM_CAR_EFF_PER k)), BitVec.ofNat 32 (c.start % 2 ^ 32)]

/-- One report enters crossing 1, its slot in CE data memory and the capture path; a full crossing loses it (R134, R170,
R316). -/
def State.report (s : State) (m : Nat) : State :=
  let ws := s.reportWords m
  if (s.xing 1).inReset then s.count (R.XDC_STAT_DISC 1) 1
  else if s.fifoFull 1 0 then (s.count (R.XDC_STAT_LOST 1) 1).overrun 1
  else
    let a := 0x1E000 + 32 * m
    let s := (s.setWords a ws).setWord (a + 16) (s.word (a + 16) + 1)
    s.capture 4 0 1 (ptWord (s.car (s.pairCar m)).startPt) ws

/-- The end of a period of pair m: its on-times are closed and its report, if asked for, is produced. -/
def State.endPair (s : State) (m : Nat) : State :=
  let p := s.pair m
  let start := (s.car (s.pairCar m)).start
  let lowOk := p.lowOk || (p.lo && decide (s.refreshLen m * s.carUnit (s.pairCar m) ≤ s.tbp - max p.onLo start))
  let s := s.setPair m { p.close s.tbp with lowOk := lowOk }
  if s.on (R.PWM_PAIR_CFG_RPT m) then s.report m else s

/-! ### A new period of a pair -/

/-- Whether an enabled source other than `own` acts on group g now (R208). -/
def State.actsBut (s : State) (own g : Nat) : Bool :=
  (List.range 88).any fun i => i ≠ own && s.srcOf i g && s.srcOn i && !(s.on (R.TRP_SRC_CFG_BLNK i) && s.blanked g)

/-- The trip check of a period start (R148, R207, R218, R219, R228): whether the groups and the device state let the pair resume,
with the cut's count; a switch that is still on under a group that holds the pair off turns off. -/
def State.resume (s : State) (m : Nat) : State :=
  let own := 40 + 2 * m
  let mine := s.groupsOf (s.pairLeg m)
  let acting := mine.filter fun g => s.on (R.TRP_GRP_CFG_EN g) && s.groupActs g
  let cutting := acting.filter fun g => s.f (R.TRP_GRP_CFG_MODE g) = 0
  let other := s.on R.TRP_BLK_SC || (acting.any fun g => s.actsBut own g) ||
    mine.any fun g => s.on (R.TRP_GRP_STAT_LATCH g) && (s.f (R.TRP_GRP_STAT_FIRST g) ≠ own || s.on (R.TRP_GRP_STAT_MULTI g))
  let s := s.each (List.range 16) fun g s => s.setCut g m (cutting.contains g)
  let p := s.pair m
  if acting.isEmpty && !s.tripHeld m then
    s.setPair m { p with blocked := !s.stateAllows m, byOther := false, cut := false }
  else
    let s := if (p.up || p.lo) && p.soft.isNone then s.tripOff m else s
    let s := s.setPair m { s.pair m with blocked := true, byOther := other, cut := true }
    s.each cutting fun g s => s.countCut g m

/-- The planned waveform of pair m for the period that starts now. -/
def State.planPair (s : State) (m : Nat) : State :=
  let k := s.pairCar m
  let len := s.f (R.PWM_CAR_EFF_PER k)
  let u := s.carUnit k
  let start := (s.car k).start
  let (ton, reg) := s.planned m len
  let s := s.resume m
  let s := s.setPair m { s.pair m with
    hon := 0, lon := 0, region := reg, mixed := false, notched := false, rise := none, fall := none }
  let s := s.planRefresh m ton len reg
  let s := s.setPair m { s.pair m with lowOk := false }
  if reg = regG then
    -- R148, R199: a turn-off in soft-off order under way completes
    let s := if (s.pair m).soft.isSome then s else s.pairLow m
    s.setPair m { s.pair m with w := false }
  else
    let mode := s.f (R.PWM_CAR_CFG_MODE k)
    let (e, f) := waveEdges mode ton len
    let (w, rise, fall) : Bool × Option Nat × Option Nat :=
      if reg = regC then (decide (mode = 1), e.map (fun x => start + x * u), f.map (fun x => start + x * u))
      else if reg = regD || reg = regE then (true, none, none)
      else (false, none, none)
    -- R165: an upper switch that is on stays on where the lower pulse up to W's rise would be shorter than M
    let keep := (s.pair m).up && s.f (R.PWM_PAIR_CFG_MODE m) = 1 && !w && rise.any fun t =>
      decide (s.onTick t < s.onTick (start + s.dtf m * u) + s.minPulse m * u)
    let w := w || keep
    let rise := if keep then none else rise
    let s := s.setPair m { s.pair m with
      w := w, wAt := if w = (s.pair m).w then (s.pair m).wAt else s.tbp, rise := rise, fall := fall }
    if reg = regF then s.target m none false
    else s.followW m (mode = 1 && reg = regC)

/-! ### Carrier boundaries -/

/-- A fraction of a period, to the nearest count. -/
def fracOf (phase p : Nat) : Nat := (2 * phase * p + 2 ^ 24) / 2 ^ 25

/-- R154: the whole number d with −P/2 ≤ d < P/2 that puts an instant on the grid. `t` is the end of the period at its
plain length; all in counts of the carrier. -/
def gridAdjust (t grid : Int) (p : Nat) : Int :=
  let e := (t - grid) % (p : Int)
  let d := -e
  if 2 * d < -(p : Int) then d + p else d

/-- DTMIN of leg j in fine counts (R195). -/
def State.dtMin (s : State) (j : Nat) : Nat :=
  min 4095 (ceilDiv (2 * (s.f (R.GDI_LEG_POFF_MAX j) + s.f (R.GDI_LEG_SW_TOFF j) + s.f (R.GDI_LEG_MRG_MARGIN j) -
    s.f (R.GDI_LEG_PON_MIN j))) 5)

/-- A dead-time word raised to DTMIN (R196). -/
def dtRaise (lo : Nat) (v : Word) : Word :=
  let v := (R.PWM_PAIR_DT_DTR 0).put v (max lo ((R.PWM_PAIR_DT_DTR 0).get v))
  (R.PWM_PAIR_DT_DTF 0).put v (max lo ((R.PWM_PAIR_DT_DTF 0).get v))

/-- Register words go into force together (R177); the dead time of a pair they touch is raised to DTMIN of its leg (R196). -/
def State.applyRegs (s : State) (l : List (Nat × Word)) : State :=
  let s := l.foldl (fun s e => s.setReg e.1 e.2) s
  s.each (pairs24.filter fun m => l.any fun e => decide (0x4100 + 16 * m ≤ e.1 ∧ e.1 < 0x4110 + 16 * m)) fun m s =>
    s.setReg (0x4108 + 16 * m) (dtRaise (s.dtMin (s.pairLeg m)) (s.reg (0x4108 + 16 * m)))

/-- Applies what a boundary takes from the staging slot: every staged register word goes into force together (R177). -/
def State.applySlot (s : State) (sl : Slot) : State := s.applyRegs sl.regs

/-- The instant of the sync whose grid the period that begins now takes up, when it does: of a sync in time for it, or, at a
change of phase, of the last sync (R153 to R155). -/
def State.syncGrid (s : State) (k oldPhase : Nat) : Option Int :=
  let c := s.car k
  match c.syncAt with
  | some t => some t
  | none =>
    let last := Tab.get (fun _ => 0) s.pwm.sync (s.f (R.PWM_CAR_CFG_GRP k))
    if s.f (R.PWM_CAR_PH_PHASE k) = oldPhase then none
    else if c.lateAt.isSome then some c.grid
    else if last = 0 then none
    else some ((last : Int) - 1)

/-- The length adjustment d of the period of carrier k that begins at `start`, with the grid it is on from here (R154, R155);
`oldPhase` is the phase in force before. -/
def State.adjust (s : State) (k start oldPhase : Nat) : Int × Int :=
  let p := s.period k (s.on (R.PWM_CAR_EFF_COARSE k))
  let u := s.carUnit k
  let phase := s.f (R.PWM_CAR_PH_PHASE k)
  if s.on (R.PWM_CAR_CFG_SYNC k) then
    match s.syncGrid k oldPhase with
    | some g => (gridAdjust (((start + p * u : Nat) - (g + (fracOf phase p * u : Nat))) / u) 0 p, g)
    | none => (0, (s.car k).grid)
  else
    let d0 := nearDiv (((phase : Int) - oldPhase) * p) (2 ^ 24)
    (if 2 * d0 < -(p : Int) then d0 + p else if (p : Int) ≤ 2 * d0 then d0 - p else d0, (s.car k).grid)

/-- Pair m at the off level with no edge planned. -/
def State.pairIdle (s : State) (m : Nat) : State :=
  let s := (s.pairLow m).each (List.range 16) fun g s => s.setCut g m false
  s.setPair m { s.pair m with w := false, rise := none, fall := none, notch := none, nph := 0, nAtc := false }

/-- Every pair that is not enabled on a running carrier goes to the off level (R145, R157). -/
def State.idleLoose (s : State) : State :=
  s.each (pairs24.filter fun m => !(s.pairOn m && s.carOn (s.pairCar m))) fun m s => s.pairIdle m

/-- The bound pairs of carrier k. -/
def State.bound (s : State) (k : Nat) : List Nat := s.pairsWhere fun m => s.pairCar m = k

/-- PTC and ATC events of a carrier: valley (1) or peak (2) (R122, R152, R185). The match of a carrier-locked PTC is placed
from here, one count before the next selected event at the latest. -/
def State.carrierEvent (s : State) (k edge : Nat) : State :=
  let s := s.atcEvent (48 + k) edge
  s.each (List.range 16) fun n s =>
    if s.f (R.TIM_PTC_CFG_MODE n) = 3 && s.f (R.TIM_PTC_CFG_CAR n) = k && (s.f (R.TIM_PTC_CFG_CEVT n)).testBit (edge - 1)
    then
      let c := s.car k
      let u := s.carUnit k
      let half := (c.next - c.start) / (2 * u) * u
      let nextEv :=
        if edge = 1 then (if s.f (R.TIM_PTC_CFG_CEVT n) = 3 then c.start + half else c.next)
        else (if s.f (R.TIM_PTC_CFG_CEVT n) = 3 then c.next else c.next + half)
      let t := min (s.tbp + s.durNear (min 65535 (s.f (R.TIM_PTC_IVL_VAL n)))) (nextEv - s.unit)
      let q := Tab.get (fun _ => ({} : PtcSt)) s.tim.ptc n
      { s with tim := { s.tim with
        ptc := Tab.set (fun _ => {}) s.tim.ptc n { q with placed := q.placed ++ [t] } } }
    else s

/-- R181: one period of the shadow's count has passed on carrier k, if k is the lowest carrier the shadow touches. -/
def State.shadowCars (s : State) : List Nat :=
  carriers16.filter fun k => s.pwm.shadow.any fun e =>
    if e.1 < 0x4100 then (e.1 - 0x4000) / 16 = k
    else (R.PWM_PAIR_CFG_CAR ((e.1 - 0x4100) / 16)).get
      ((Tab.look s.pwm.shadow (0x4100 + 16 * ((e.1 - 0x4100) / 16))).getD (s.reg (0x4100 + 16 * ((e.1 - 0x4100) / 16)))) = k

def State.shadowTick (s : State) (k : Nat) : State :=
  if s.shadowCars.head? = some k then { s with pwm := { s.pwm with shCount := s.pwm.shCount + 1 } } else s

/-- The spans of a stopped lowest carrier passed so far join the shadow's count, and a new span begins (R181). -/
def State.shadowSpan (s : State) : State :=
  match s.shadowCars.head? with
  | none => s
  | some k =>
    let n := if s.carOn k then 0 else (s.tbp - s.pwm.shFrom) / clampPer (s.f (R.PWM_CAR_PER_PER k))
    { s with pwm := { s.pwm with shCount := s.pwm.shCount + n, shFrom := s.tbp } }

/-- Begins the period of carrier k that starts now (R152 to R162); `oldPhase` is the phase in force before, `again` says that the
period begins anew on fine values at the instant at which it has begun (R83). -/
def State.openPeriod (s : State) (k : Nat) (first again : Bool) (oldPhase : Nat) : State :=
  let c := s.car k
  let wasCoarse := s.on (R.PWM_CAR_EFF_COARSE k)
  let coarse := s.coarse
  let s := if first && !again && s.shadowCars.head? = some k then s.shadowSpan else s
  let before := s.bound k
  let s := s.applySlot (c.taken.getD {})
  -- a pair that the slot binds to another carrier goes to the off level until that one's period start
  let s := s.each (before.filter fun m => !(s.bound k).contains m) fun m s => s.pairIdle m
  let s := s.setF (R.PWM_CAR_EFF_COARSE k) (bit coarse)
  -- R160: fine periods advance the index; coarse periods hold it, and the first fine one takes the next
  let s := if first then s.setF (R.PWM_CAR_EFF_DIDX k) 0
    else if coarse then s
    else s.setF (R.PWM_CAR_EFF_DIDX k) ((s.f (R.PWM_CAR_EFF_DIDX k) + 1) % 16)
  -- R74: a bridging period ends at the first tick at or after its fine position
  let start := if again || c.bridging || (wasCoarse && !coarse) then s.tbp else c.next
  let (d, grid) := s.adjust k start oldPhase
  let len := ((s.period k coarse : Int) + d).toNat
  let s := s.setCar k { c with taken := none, bridging := false, start := start, startPt := s.ptAt start, peaked := false,
                               starting := false, waitSync := false, syncAt := c.lateAt, lateAt := none, grid := grid, d := d,
                               phase0 := oldPhase, sync0 := c.syncAt, grid0 := c.grid, first0 := first,
                               next := start + len * s.carUnit k }
  let s := ((s.setF (R.PWM_CAR_EFF_PER k) len).setF (R.PWM_CAR_EFF_RUN k) 1).idleLoose
  -- R220: cuts are counted anew in each period
  let s : State := if again then s else { s with trp := { s.trp with
    counted := (s.trp.counted.map fun e => (e.1, if e.2.testBit k then e.2 - 2 ^ k else e.2)).filter fun e => e.2 ≠ 0 } }
  s.each (s.bound k) fun m s => s.planPair m

/-- The period start itself, with the event that PTCs and ATCs select. -/
def State.beginPeriod (s : State) (k : Nat) (first : Bool) : State :=
  (s.openPeriod k first false (s.f (R.PWM_CAR_PH_PHASE k))).carrierEvent k 1

/-- A carrier whose period start has just come restarts that period on its fine values at the return to fine mode (R83), with the
phase change and the sync that the period start took up: the refresh counter and a notch already due stand as it left them. -/
def State.restartFine (s : State) (k : Nat) : State :=
  let s := s.each (s.bound k) fun m s =>
    let p := s.pair m
    s.setPair m { p with lowOk := decide (p.c = 0), c := p.c - 1, bsLow := p.notch.isSome || p.nAtc }
  let c := s.car k
  (s.setCar k { c with syncAt := c.sync0, lateAt := c.syncAt, grid := c.grid0 }).openPeriod k c.first0 true c.phase0

/-- Ends a bootstrap hold whose fault is released, at a period start (R207). -/
def State.endHold (s : State) (m : Nat) : State :=
  if s.bitAt R.GDI_BS_HOLD m && !s.gdfFault (2 * m) then s.setBit R.GDI_BS_HOLD m false else s

/-- Stops carrier k at its period start (R157): its pairs go to the off level, and the fields staged for it are in force
when it is next enabled (R180). -/
def State.stopCarrier (s : State) (k : Nat) : State :=
  let c := s.car k
  let s := s.each (s.bound k) fun m s => s.pairIdle m
  let s := if s.shadowCars.head? = some k then s.shadowSpan else s
  let s := (s.applySlot (c.taken.getD {})).applySlot c.slot
  ((((s.setF (R.PWM_CAR_EFF_RUN k) 0).setF (R.PWM_CAR_EFF_PER k) 0).setF (R.PWM_CAR_EFF_COARSE k) 0).setCar k {}).idleLoose

/-- CARRIER_PERIOD_START: nothing before the instant has come. -/
def State.carrierPeriodStart (s : State) (k : Nat) : State :=
  let c := s.car k
  if s.carOn k then
    if c.next ≤ s.tbp then
      let s := s.each (s.bound k) fun m s => s.endPair m
      let s := s.each (s.bound k) fun m s => s.endHold m
      let s := s.shadowTick k
      if c.stopPend then s.stopCarrier k else s.beginPeriod k false
    else s
  else if c.starting && decide (c.next ≤ s.tbp) then
    ((s.each (s.bound k) fun m s => s.endHold m).shadowTick k).beginPeriod k true
  else s

/-- The peak of the present period, in TBP counts (R152). -/
def State.peakAt (s : State) (k : Nat) : Nat :=
  (s.car k).start + s.f (R.PWM_CAR_EFF_PER k) / 2 * s.carUnit k

/-- CARRIER_PEAK: the event that PTCs and ATCs select. -/
def State.carrierPeak (s : State) (k : Nat) : State :=
  if s.carOn k && decide (s.peakAt k ≤ s.tbp) && !(s.car k).peaked then
    (s.setCar k { s.car k with peaked := true }).carrierEvent k 2
  else s

/-- The falling half of pair m after a mid boundary (R162, R178): a changed on-time moves the fall of W, an on-time of region B too
where W is high; a changed region shows as code 7. A pair held off at its period start resumes at its next one (R369). -/
def State.midPair (s : State) (m : Nat) : State :=
  let k := s.pairCar m
  let len := s.f (R.PWM_CAR_EFF_PER k)
  let (ton, reg) := s.planned m len
  let p := s.pair m
  let s := if reg = p.region then s else s.setPair m { p with mixed := true }
  if reg = regG || p.region = regG then s
  else if reg = regC || (reg = regB && p.w) then
    let fall := (s.car k).start + (len - ceilDiv (len - ton) 2) * s.carUnit k
    let s := s.setPair m { s.pair m with w := true, rise := none, fall := some fall }
    -- R165: where the pulse would be shorter than M the lower switch stays on
    if p.w || (p.lo && s.pulseShort m true (s.tbp + s.dtr m * s.carUnit k)) then s else s.followW m true
  else
    let hi := reg = regD || reg = regE
    let s := s.setPair m { s.pair m with w := hi, rise := none, fall := none }
    if reg = regF then s.target m none false
    else if p.w = hi && (p.region ≠ regF) then s else s.followW m true

/-- CARRIER_MID_BOUNDARY of an up-down carrier with `UPD` = 3: duty-only fields taken for it apply together (R152, R177). -/
def State.carrierMid (s : State) (k : Nat) : State :=
  let c := s.car k
  if s.carOn k && s.f (R.PWM_CAR_CFG_MODE k) = 3 && s.f (R.PWM_CAR_CFG_UPD k) = 3 && decide (s.peakAt k ≤ s.tbp) then
    match c.taken with
    | none => s
    | some sl =>
      let s := (s.applySlot sl).setCar k { c with taken := none }
      s.each (s.bound k) fun m s => s.midPair m
  else s

/-- LATCH_POINT: two counts before a boundary the engine takes the whole slot and empties it; before a mid boundary a slot
that holds a period, a phase or a shadow field waits (R176). -/
def State.latchPoint (s : State) (k : Nat) : State :=
  let c := s.car k
  let two := 2 * s.unit
  let mid := s.f (R.PWM_CAR_CFG_MODE k) = 3 && s.f (R.PWM_CAR_CFG_UPD k) = 3
  let atMid := mid && s.carOn k && decide (s.peakAt k ≤ s.tbp + two) && decide (s.tbp < s.peakAt k)
  let atStart := decide (c.next ≤ s.tbp + two)
  if !(s.carOn k || c.starting) || c.slot.regs.isEmpty then s
  else if atStart then s.setCar k { c with slot := {}, taken := some c.slot }
  else if atMid && !c.slot.shadow && c.slot.regs.all (fun e => decide (0x4100 ≤ e.1)) then
    s.setCar k { c with slot := {}, taken := some c.slot }
  else s

/-! ### Edges -/

/-- PWM_EDGE: W rises or falls at its computed count, turning a switch off (R162, R164). Inside a notch only the level of W
changes; the switches follow it at the notch's end (R205). -/
def State.pwmEdge (s : State) (m : Nat) (rise : Bool) : State :=
  let p := s.pair m
  let due := match (if rise then p.rise else p.fall) with
    | some t => decide (t ≤ s.tbp)
    | none => false
  if due then
    let s := s.setPair m
      { p with w := rise, wAt := s.tbp, rise := if rise then none else p.rise, fall := if rise then p.fall else none }
    -- R165, R205: where the pulse to come would be shorter than M the other switch stays on without interruption
    let dt := (if rise then s.dtr m else s.dtf m) * s.carUnit (s.pairCar m)
    let keep := s.f (R.PWM_PAIR_CFG_MODE m) = 1 && (if rise then p.lo else p.up) && s.pulseShort m rise (s.tbp + dt)
    if p.nph = 1 || keep then s else s.followW m true
  else s

/-- DEAD_TIME_EXPIRY: the switch that waited turns on (R164, R166). -/
def State.deadTime (s : State) (m : Nat) : State :=
  match (s.pair m).wait with
  | some (u, t) => if t ≤ s.tbp then s.turnOn m u else s
  | none => s

/-- Whether a hold pulse of pair m may come through (R208): only the cuts of its own upper GDF source are passed by. -/
def State.holdPulse (s : State) (m : Nat) : Bool :=
  s.bitAt R.GDI_BS_HOLD m && s.stateAllows m && !s.on R.TRP_BLK_SC && !(s.pair m).byOther &&
    (s.groupsOf (s.pairLeg m)).all fun g =>
      !((List.range 88).any fun i => i ≠ 40 + 2 * m && s.srcOf i g && s.srcOn i) &&
        (!s.on (R.TRP_GRP_STAT_LATCH g) || s.f (R.TRP_GRP_STAT_FIRST g) = 40 + 2 * m)

/-- NOTCH_EDGE: the upper switch turns off at the notch's start and the lower refresh pulse waits for its dead time; at the
pulse's end the lower switch turns off and the pair follows W again (R202, R203, R206, R208). -/
def State.notchEdge (s : State) (m : Nat) : State :=
  let p := s.pair m
  match p.notch with
  | none => s
  | some (a, on, off) =>
    if p.nph = 0 && decide (a ≤ s.tbp) then
      if s.holdPulse m || s.mayOn m false then
        let s := (s.landOff m true).count R.GDI_BSCNT_REFR 1
        s.setPair m { s.pair m with nph := 1, notched := true, wait := some (false, max on (s.tbp + (on - a))) }
      else s
    else if p.nph = 1 && decide (off ≤ s.tbp) then
      -- R205: a planned lower pulse keeps its own timing, and goes on where it has begun
      let planned := p.wAt + s.dtf m * s.carUnit (s.pairCar m)
      let short := p.w && (s.setPair m { p with nph := 2, notch := none }).pulseShort m true
        (s.tbp + s.dtr m * s.carUnit (s.pairCar m))
      let goesOn := p.region ≠ regF && s.mayOn m false &&
        ((!p.w && p.region ≠ regE && decide (planned ≤ s.tbp)) || (short && p.lo))
      let s := if goesOn then s else s.landOff m false
      let s := s.setPair m { s.pair m with nph := 2, notch := none,
                                           wait := if p.w || goesOn || p.region = regF then none else some (false, planned) }
      if s.pairOn m && p.region ≠ regF && !(short && goesOn) then s.followW m false else s
    else s

/-- The lower refresh pulse turns on through DEAD_TIME_EXPIRY even where only its own GDF source holds the pair (R208). -/
def State.deadTimeExpiry (s : State) (m : Nat) : State :=
  match (s.pair m).wait with
  | some (false, t) =>
    if (s.pair m).nph = 1 && s.holdPulse m then
      if t ≤ s.tbp then (s.setPair m { s.pair m with wait := none }).landOn m false else s
    else s.deadTime m
  | _ => s.deadTime m

/-! ### Staging slots, update sets and the shadow path -/

/-- Merges register words into carrier k's staging slot as one unit (R175). -/
def State.merge (s : State) (k : Nat) (regs : List (Nat × Word)) (shadow : Bool) : State :=
  let c := s.car k
  let s := if c.slot.regs.isEmpty then s else s.count R.PWM_STAT_MERGED 1
  s.setCar k { c with slot := { regs := regs.foldl (fun t e => Tab.put t e.1 e.2) c.slot.regs,
                                shadow := c.slot.shadow || shadow } }

/-- One update set of R172, taken apart: carrier, period, phase and the pairs with their words. -/
structure UpdateSet where
  car : Nat
  per : Option Nat
  ph : Option Nat
  pairs : List (Nat × Word)
  deriving DecidableEq, Repr

/-- Reads an update set (R172). The refusals of R173 that its words alone decide are answered by their cause code of R658:
3 length, 4 reserved bit. -/
def readSet : List Word → Except Nat UpdateSet
  | [] => .error 3
  | w :: ws =>
    let w0 := w.toNat
    let hasPer := w0.testBit 4
    let hasPh := w0.testBit 5
    let ms := pairs24.filter fun m => w0.testBit (8 + m)
    let need := bit hasPer + bit hasPh + ms.length
    if ws.length ≠ need then .error 3
    else
      let per := if hasPer then ws.head?.map (·.toNat) else none
      let ws1 := if hasPer then ws.drop 1 else ws
      let ph := if hasPh then ws1.head?.map (·.toNat) else none
      let ws2 := if hasPh then ws1.drop 1 else ws1
      if w0 / 64 % 4 ≠ 0 || per.any (fun x => decide (2 ^ 18 ≤ x)) || ph.any (fun x => decide (2 ^ 24 ≤ x)) ||
          ws2.any (fun x => decide (2 ^ 26 ≤ x.toNat)) then .error 4
      else .ok { car := w0 % 16, per := per.map clampPer, ph := ph, pairs := ms.zip ws2 }

/-- Whether carrier k is enabled for an update set: running or about to run, and not disabled by a commit. -/
def State.carEnabled (s : State) (k : Nat) : Bool := s.pwmC (R.PWM_CAR_CFG_EN k) ≠ 0

/-- An update set against the present configuration (R173): the set, or the cause code of its refusal. -/
def State.checkSet (s : State) (ws : List Word) : Except Nat UpdateSet :=
  match readSet ws with
  | .error e => .error e
  | .ok u =>
    if !s.carEnabled u.car then .error 1
    else if u.pairs.any (fun e => !s.pairOn e.1 || s.pairCar e.1 ≠ u.car) then .error 2
    else .ok u

/-- The register words an update set stages (R177, R179). -/
def UpdateSet.regs (u : UpdateSet) : List (Nat × Word) :=
  (match u.per with
    | some p => [(0x4004 + 16 * u.car, BitVec.ofNat 32 p)]
    | none => []) ++
  (match u.ph with
    | some p => [(0x4008 + 16 * u.car, BitVec.ofNat 32 p)]
    | none => []) ++
  u.pairs.map fun e => (0x4104 + 16 * e.1, e.2)

/-- A set is refused and PWM_SET_REFUSED posted; sets of the CE are counted (R173, R658). `from_` is 1 CE, 2 host descriptor. -/
def State.setRefused (s : State) (cause : Nat) (w0 : Word) (from_ : Nat) : State :=
  let s := if from_ = 1 then s.count R.PWM_STAT_REFUSED 1 else s
  s.post 0x0401 (w0.toNat % 16) cause w0.toNat from_

/-- A write to a field of `PWM_CARk` or `PWM_PAIRm` goes to the shadow copy (R179). -/
def State.shadowPut (s : State) (off : Nat) (v : Word) : State :=
  let s : State := if s.pwm.shadow.isEmpty then { s with pwm := { s.pwm with shCount := 0, shFrom := s.tbp } } else s
  let put (x : State) : State := { x with pwm := { x.pwm with shadow := Tab.put x.pwm.shadow off v } }
  -- R181: a lower-numbered carrier goes on counting where the one before has come to
  (put (if (put s).shadowCars.head? = s.shadowCars.head? then s else s.shadowSpan)).setF R.PWM_SH_STAT_PEND 1

/-- Empties the shadow. -/
def State.shadowClear (s : State) : State :=
  ({ s with pwm := { s.pwm with shadow := [], shCount := 0 } } : State).setF R.PWM_SH_STAT_PEND 0

/-- PWM_SHADOW_DROP: the count has reached 64 periods (R181). While the lowest carrier is not running, each span of its
programmed period counts. -/
def State.shadowDrop (s : State) : State :=
  match s.shadowCars.head? with
  | none => s
  | some k =>
    let per := clampPer (s.f (R.PWM_CAR_PER_PER k))
    let n := if s.carOn k then s.pwm.shCount else s.pwm.shCount + (s.tbp - s.pwm.shFrom) / per
    if 64 ≤ n then (s.shadowClear.setF R.PWM_SH_STAT_DROP 1).post 0x0402 k else s

/-- A sync of carrier group g (R153, R154, R157). -/
def State.groupSync (s : State) (g : Nat) : State :=
  let s : State := { s with pwm := { s.pwm with sync := Tab.set (fun _ => 0) s.pwm.sync g (s.tbp + 1) } }
  s.each carriers16 fun k s =>
    let c := s.car k
    if s.on (R.PWM_CAR_CFG_SYNC k) && s.f (R.PWM_CAR_CFG_GRP k) = g then
      if s.carOn k || c.starting then
        if s.tbp + 2 * s.unit ≤ (if c.bridging then s.onTick c.next else c.next) then
          s.setCar k { c with syncAt := some s.tbp, lateAt := none }
        else s.setCar k { c with lateAt := some s.tbp }
      else if c.waitSync then
        let p := s.period k s.coarse
        let off := fracOf (s.f (R.PWM_CAR_PH_PHASE k)) p * s.unit
        s.setCar k { c with waitSync := false, starting := true, grid := s.tbp, next := s.tbp + off }
      else s
    else s

end Sys2Proof.Machine
end

