-- ==== Sys2Proof/Machine/Trips.lean ====
section
/-! DEFINITION. The commands of the auxiliary timer channels (R185 to R190), the gate-drive interface (R191 to R209), the
trip network (R210 to R234) and the window comparators (R235 to R254). -/

namespace Sys2Proof.Machine

/-! ### Auxiliary timer channels -/

/-- One trigger enters crossing 4 on a trigger input (0–15) or a PTC target (16 regular, 17 injected, 18 monitor); each has
a counter of its own (R275). -/
def State.trigEvent (s : State) (ch : Nat) : State :=
  let c := s.xing (100 + ch)
  if (s.xing 4).inReset then s.count (R.XDC_STAT_DISC 4) 1
  else if 15 ≤ c.cnt then (s.count (R.XDC_STAT_LOST 4) 1).overrun 4
  else s.setXing (100 + ch) { c with cnt := c.cnt + 1 }

/-- The refresh ATC's window opens: each pair of the leg whose notch waits for it starts the notch now, and its lower
switch turns off at the later of the window's close and RT after it turned on (R204). -/
def State.refreshOpen (s : State) (j close : Nat) : State :=
  s.each (s.pairsWhere fun m => s.pairLeg m = j && (s.pair m).nAtc) fun m s =>
    let (a, on, off) := s.notchAt m s.tbp
    s.setPair m { s.pair m with nAtc := false, notch := some (a, on, max off close) }

/-- ATC_WINDOW_CLOSE (R186, R213): a blankable source still asserted acts at the close. -/
def State.atcClose (s : State) (n : Nat) : State :=
  let a := s.atcOf n
  match a.opened, a.close with
  | some _, some t =>
    if s.tbp < t then s
    else
      let s := s.setAtc n { a with opened := none, close := none, spent := false }
      if a.fn = 1 then s.blankEnd a.tgt else s
  | _, _ => s

/-- ATC_WINDOW_OPEN (R186): the window has the use, the target and the width that its source event took (R189). -/
def State.atcOpen (s : State) (n : Nat) : State :=
  let a := s.atcOf n
  match a.pend with
  | none => s
  | some t =>
    if s.tbp < t then s
    else
      -- a window that is due to close at this instant closes first
      let s := s.atcClose n
      let close := s.tbp + (a.pClose - t)
      let s := s.setAtc n { s.atcOf n with pend := none, opened := some s.tbp, close := some close, fn := a.pFn, tgt := a.pTgt,
                                           spent := false }
      match a.pFn with
      | 1 => s
      | 2 => s.trigEvent a.pTgt
      | _ => s.refreshOpen a.pTgt close

/-- BLANKING_MAX_EXPIRY (R214). -/
def State.blankMax (s : State) (n : Nat) : State :=
  let a := s.atcOf n
  let g := a.tgt
  match a.opened with
  | some t =>
    if a.fn = 1 && decide (t + s.durDown (s.f (R.TRP_GRP_BLK_MAX g)) ≤ s.tbp) then
      (s.setAtc n { a with spent := true }).blankEnd g
    else s
  | none => s

/-! ### GDF lands -/

def State.gdf (s : State) (n : Nat) : GdfSt := Tab.get (fun _ => {}) s.trp.gdf n
def State.setGdf (s : State) (n : Nat) (g : GdfSt) : State :=
  { s with trp := { s.trp with gdf := Tab.set (fun _ => {}) s.trp.gdf n g } }

/-- How the lands of GDFn's leg are decoded (R192). -/
def State.gdfMode (s : State) (n : Nat) : Nat := s.f (R.GDI_LEG_CFG_GDFM (s.pairLeg (n / 2)))

/-- A bootstrap undervoltage on the upper switch of pair m: the switch turns off through the trip path and is held (R194,
R207). -/
def State.bsHold (s : State) (m : Nat) : State :=
  let j := s.pairLeg m
  if s.f (R.GDI_LEG_CFG_KINDU j) = 2 && s.on (R.GDI_LEG_CFG_BS j) && s.bitAt R.GDI_BS_HOLD m then s.post3 0x0601 j
  else if s.f (R.GDI_LEG_CFG_KINDU j) = 2 && s.on (R.GDI_LEG_CFG_BS j) then
    let s := s.landOff m true
    let p := s.pair m
    let s := match p.wait with
      | some (true, _) => s.setPair m { p with wait := none }
      | _ => s
    let s := s.setBit R.GDI_BS_HOLD m true
    -- R208: the present period gets its pulse too, where the notch is still to come
    let p := s.pair m
    let t := if p.notch.isNone && !p.nAtc && p.nph = 0 && s.carOn (s.pairCar m) && s.pairOn m && p.region ≠ regG then s.setNotch m
      else s
    let late := match (t.pair m).notch with
      | some (a, _, _) => decide (a < s.tbp)
      | none => false
    (if late then s else t).post3 0x0601 j
  else s

/-- The fault of GDFn asserts or is released, and its trip source with it (R192, R210). -/
def State.gdfSet (s : State) (n : Nat) (on : Bool) : State :=
  if s.gdfFault n = on then s
  else
    let s := if n < 32 then s.setBit R.GDI_GDFL_FLT n on else s.setBit R.GDI_GDFH_FLT (n - 32) on
    let s := if on && n % 2 = 0 then s.bsHold (n / 2) else s
    s.srcRaw (40 + n) on

/-- A bootstrap-low report of GDFn (R192, R200). -/
def State.bsReport (s : State) (n : Nat) : State :=
  let s := s.count R.GDI_BSCNT_LOW 1
  if n % 2 = 0 then s.setPair (n / 2) { s.pair (n / 2) with bsLow := true } else s

/-- The 0.4 µs threshold of GDFn in TBP counts: anywhere within ±5 % (R193, R654). -/
def lowFrom (s : State) (n : Nat) : Nat := s.within (1 + n) 152 168

/-- GDF_LAND_CHANGE (R191 to R193): a low that ends before GDF_FAULT_ASSERT is one below the 2.0 µs threshold, which lies within
±5 %. -/
def State.gdfChange (s : State) (n : Nat) (high : Bool) : State :=
  let g := s.gdf n
  if g.low = !high then s
  else
    let s := s.setGdf n { low := !high, since := s.tbp }
    match s.gdfMode n with
    | 0 => s
    | 1 => s.gdfSet n (!high)
    | _ =>
      if !high then s
      else if s.gdfFault n then s.gdfSet n false
      else
        let low := s.tbp - g.since
        if low < lowFrom s n then s
        else if low ≤ 840 then s.bsReport n
        -- a low beyond every 2.0 µs threshold has been a fault (R193)
        else (s.gdfSet n true).gdfSet n false

/-- GDF_FAULT_ASSERT: a coded-mode low has reached 2.0 µs, within the ±5 % of R193. -/
def State.gdfAssert (s : State) (n : Nat) : State :=
  let g := s.gdf n
  if s.gdfMode n = 2 && g.low && decide (g.since + 760 ≤ s.tbp) then s.gdfSet n true else s

/-- GDFn is decoded afresh in its present mode: as if a low had begun now, and a fault is released unless the mode asserts it at
once (R193). -/
def State.gdfRecode (s : State) (n : Nat) : State :=
  let g := s.gdf n
  let s := if g.low then s.setGdf n { g with since := s.tbp } else s
  s.gdfSet n (g.low && decide (s.gdfMode n = 1))

/-- A commit has changed `GDFM` of leg j (R193). -/
def State.gdfModeChange (s : State) (j : Nat) : State :=
  s.each ((List.range 48).filter fun n => s.pairLeg (n / 2) = j) fun n s => s.gdfRecode n

/-- Lands of pairs whose leg in force has changed to one with another mode are decoded in it (R192, R193). -/
def State.gdfFollow (s t : State) : State :=
  t.each ((List.range 48).filter fun n => s.pairLeg (n / 2) ≠ t.pairLeg (n / 2) && s.gdfMode n ≠ t.gdfMode n) fun n t =>
    t.gdfRecode n

/-- SOFT_OFF_STAGE: the lands of the stage's pairs of a leg go low (R199). -/
def State.softStage (s : State) (leg stage : Nat) : State :=
  s.each (s.pairsWhere fun m => s.pairLeg m = leg && s.stage m = stage) fun m s =>
    match (s.pair m).soft with
    | some t => if t ≤ s.tbp + s.unit then s.pairLow m else s
    | none => s

/-! ### Trip sources and groups -/

/-- The output of comparator n that source 16 + n selects (R210, R232). -/
def State.cmpLevel (s : State) (n : Nat) : Bool :=
  let sel := s.f (R.TRP_SRC_CFG_CMPSEL (16 + n))
  (sel.testBit 0 && s.bitAt R.CMP_STAT_HI n) || (sel.testBit 1 && s.bitAt R.CMP_STAT2_LO n)

/-- TRIP_SOURCE_ASSERT: a TRIP land goes to its active level; a comparator or GDF source follows its own output (R210,
R211). -/
def State.tripAssert (s : State) (i : Nat) : State :=
  if i < 16 then s.srcRaw i true
  else if i < 40 then (if s.cmpLevel (i - 16) then s.srcRaw i true else s)
  else if s.gdfFault (i - 40) then s.srcRaw i true
  else s

/-- TRIP_SOURCE_RELEASE. -/
def State.tripRelease (s : State) (i : Nat) : State :=
  if i < 16 then s.srcRaw i false
  else if i < 40 then (if s.cmpLevel (i - 16) then s else s.srcRaw i false)
  else if s.gdfFault (i - 40) then s
  else s.srcRaw i false

/-- TRIP_FILTER_EXPIRY: the source has stood at its level for `FLT` consecutive edges (R211). -/
def State.filterExpiry (s : State) (i : Nat) : State :=
  let c := s.tsrc i
  if s.f (R.TRP_SRC_CFG_FLT i) ≠ 0 && decide (c.raw ≠ s.srcOn i) &&
      decide (c.since + s.dur (s.f (R.TRP_SRC_CFG_FLT i)) ≤ s.tbp) then
    if c.raw then s.srcAssert i else s.srcRelease i
  else s

/-- A write of 1 to `TRP_GRPg_STAT.LATCH` (R223, R224). -/
def State.latchClear (s : State) (g : Nat) : Status × State :=
  if s.groupAsserted g then (.state, s)
  else
    (.done, (((s.setF (R.TRP_GRP_STAT_LATCH g) 0).setF (R.TRP_GRP_STAT_SCB g) 0).setF (R.TRP_GRP_STAT_MULTI g) 0).setF
      (R.TRP_GRP_STAT_FIRST g) 0)

/-! ### Comparators -/

/-- R236: a threshold code in units of 0.25 nV. -/
def State.cmpTh (s : State) (n c : Nat) : Int :=
  if s.on (R.CMP_CFG_DIFF n) then -10000000000 + (c * 19531250 : Nat) else (c * 9765625 : Nat)

/-- The hysteresis h of comparator n in units of 0.25 nV (R253). -/
def State.cmpHys (s : State) (n : Nat) : Int :=
  match s.f (R.CMP_CFG_HYS n) with
  | 0 => 0
  | 1 => 16000000
  | 2 => 48000000
  | _ => 96000000

/-- R235, R239: the input selected from the voltages of AINnP and AINnN; beyond the range it counts as the nearer end. -/
def State.cmpInput (s : State) (n : Nat) (p q : Int) : Int :=
  if s.on (R.CMP_CFG_DIFF n) then clampInt (-10000000000) 10000000000 (p - q) else clampInt 0 10000000000 p

/-- Whether the DACs of comparator n may still be settling from a change of `CMP_n_THR`, which they do within 1.0 µs (R243). -/
def State.cmpMoving (s : State) (n : Nat) : Bool :=
  let t := Tab.get (fun _ => 0) s.cmp.thrAt n
  t ≠ 0 && decide (s.tbp < t - 1 + 400)

/-- A commit changes `CMP_n_THR` from the word `w` (R243). -/
def State.thrMove (s : State) (n : Nat) (w : Word) : State :=
  let l := if s.cmpMoving n then Tab.get (fun _ => []) s.cmp.thrFrom n else []
  { s with cmp := { s.cmp with thrAt := Tab.set (fun _ => 0) s.cmp.thrAt n (s.tbp + 1),
                               thrFrom := Tab.set (fun _ => []) s.cmp.thrFrom n (l ++ [w]) } }

/-- The codes a DAC of comparator n may stand at now: that of `HI` or `LO`, and while it settles those it comes from. -/
def State.dacCodes (s : State) (n : Nat) (hi : Bool) : List Nat :=
  let code (w : Word) : Nat := if hi then w.toNat % 1024 else w.toNat / 2 ^ 16 % 1024
  ((if s.cmpMoving n then Tab.get (fun _ => []) s.cmp.thrFrom n else []) ++ [s.reg (0x8004 + 8 * n)]).map code

/-- The least and the greatest of the codes. -/
def codeSpan (l : List Nat) : Nat × Nat := (l.foldl min 1023, l.foldl max 0)

/-- How far a threshold may lie from R236: an input offset of 5 mV and one code of non-linearity (R250). -/
def State.cmpErr (s : State) (n : Nat) : Nat := 20000000 + (if s.on (R.CMP_CFG_DIFF n) then 19531250 else 9765625)

/-- The threshold of output `HI` or `LO` as it actually is now, referred to the selected input (R243, R250). -/
def State.cmpActual (s : State) (n : Nat) (hi : Bool) : Int :=
  let (a, b) := codeSpan (s.dacCodes n hi)
  s.cmpTh n a - s.cmpErr n + s.within (100 + 2 * n + bit hi) 0 ((s.cmpTh n b - s.cmpTh n a).toNat + 2 * s.cmpErr n)

/-- The bounds of the hysteresis: 20 % or 1 mV, the wider of the two (R250). -/
def hysBounds (h : Nat) : Nat × Nat := if h = 0 then (0, 0) else (h - max (h / 5) 4000000, h + max (h / 5) 4000000)

/-- The hysteresis as it actually is now. -/
def State.cmpHysActual (s : State) (n : Nat) : Int :=
  let (a, b) := hysBounds (s.cmpHys n).toNat
  s.within (160 + n) a b

/-- R238: the outputs after an input `x` between thresholds `vh` and `vl` with hysteresis `h`. -/
def cmpNext (vh vl h x : Int) (hi lo : Bool) : Bool × Bool :=
  (if vh < x then true else if x < vh - h then false else hi, if x < vl then true else if vl + h < x then false else lo)

/-- The level of land CMPOk (R248). -/
def State.cmpoLevel (s : State) (k : Nat) : Bool :=
  let n := s.f (R.CMP_OUT_CFG_SRC k)
  let hi := s.bitAt R.CMP_STAT_HI n
  let lo := s.bitAt R.CMP_STAT2_LO n
  s.on (R.CMP_OUT_CFG_EN k) && s.on (R.CMP_CFG_EN n) && s.bitAt R.CMP_RDY_RDY n &&
    match s.f (R.CMP_OUT_CFG_SEL k) with
    | 1 => hi
    | 2 => lo
    | 4 => !hi && !lo
    | _ => hi || lo

/-- The CMPO lands follow the comparator outputs. -/
def State.showCmpo (s : State) : State :=
  { s with cmp := { s.cmp with outs := (List.range 8).foldl (fun a k => a + bit (s.cmpoLevel k) * 2 ^ k) 0 } }

/-- Sets both outputs of comparator n; the trip source, and the CMPO lands follow (R22, R248). -/
def State.cmpSet (s : State) (n : Nat) (hi lo : Bool) : State :=
  let s := ((s.setBit R.CMP_STAT_HI n hi).setBit R.CMP_STAT2_LO n lo).showCmpo
  s.srcRaw (16 + n) (s.cmpLevel n)

/-- COMPARATOR_OUTPUT_CHANGE: R238 with hysteresis, once the decision of R241 is made. -/
def State.cmpChange (s : State) (n : Nat) (p q : Int) : State :=
  if s.on (R.CMP_CFG_EN n) && s.bitAt R.CMP_RDY_RDY n then
    let x := s.cmpInput n p q
    let o := cmpNext (s.cmpActual n true) (s.cmpActual n false) (s.cmpHysActual n) x
      (s.bitAt R.CMP_STAT_HI n) (s.bitAt R.CMP_STAT2_LO n)
    ({ s with cmp := { s.cmp with input := Tab.set (fun _ => 0) s.cmp.input n x } } : State).cmpSet n o.1 o.2
  else s

/-- A comparator is enabled, or its input changes (R241, R243): outputs inactive, `RDY` 0, the decision 2.0 µs later. -/
def State.cmpHold (s : State) (n : Nat) : State :=
  let s := (s.setBit R.CMP_RDY_RDY n false).cmpSet n false false
  { s with cmp := { s.cmp with decideAt := Tab.set (fun _ => 0) s.cmp.decideAt n (s.tbp + 800) } }

/-- A comparator is disabled (R244). -/
def State.cmpOff (s : State) (n : Nat) : State :=
  let s := (s.setBit R.CMP_RDY_RDY n false).cmpSet n false false
  { s with cmp := { s.cmp with decideAt := Tab.set (fun _ => 0) s.cmp.decideAt n 0 } }

/-- COMPARATOR_DECISION: one decision per output without hysteresis, 2.0 µs ± 0.1 µs after the enable (R241, R242). -/
def State.cmpDecide (s : State) (n : Nat) (p q : Int) : State :=
  let t := Tab.get (fun _ => 0) s.cmp.decideAt n
  if s.on (R.CMP_CFG_EN n) && !s.bitAt R.CMP_RDY_RDY n && decide (t ≤ s.tbp + 40) then
    let x := s.cmpInput n p q
    (s.setBit R.CMP_RDY_RDY n true).cmpSet n (decide (s.cmpActual n true < x)) (decide (x < s.cmpActual n false))
  else s

/-! ### The commands -/

def execAtcWindowOpen (n : Fin 16) (s : State) : Out := .next (s.onMain (s.atcOpen n))
def execAtcWindowClose (n : Fin 16) (s : State) : Out := .next (s.onMain (s.atcClose n))
def execAtcMissClear (mask : BitVec 16) (s : State) : Out :=
  .next (s.onMain ((s.clearMask R.ATC_MISS_ATC mask.toNat).wres 0x5080 .done))
def execBlankingMaxExpiry (n : Fin 16) (s : State) : Out := .next (s.onMain (s.blankMax n))
def execGdfLandChange (n : Fin 48) (high : Bool) (s : State) : Out := .next (s.onMain (s.gdfChange n high))
def execGdfFaultAssert (n : Fin 48) (s : State) : Out := .next (s.onMain (s.gdfAssert n))
def execSoftOffStage (leg : Fin 16) (stage : Fin 4) (s : State) : Out := .next (s.onMain (s.softStage leg stage))

/-- Clears `GDI_BSCNT` (R200). -/
def State.clearBscnt (s : State) : State := (s.setF R.GDI_BSCNT_REFR 0).setF R.GDI_BSCNT_LOW 0
def execGdiBscntClr (s : State) : Out := .next (s.onMain (s.clearBscnt.wres 0x621C .done))

def execTripSourceAssert (src : Fin 88) (s : State) : Out := .next (s.onMain (s.tripAssert src))
def execTripFilterExpiry (src : Fin 88) (s : State) : Out := .next (s.onMain (s.filterExpiry src))
def execTripSourceRelease (src : Fin 88) (s : State) : Out := .next (s.onMain (s.tripRelease src))
def execLatchClear (g : Fin 16) (s : State) : Out :=
  .next (s.onMain ((s.latchClear g).2.wres (0x7308 + 16 * g) (s.latchClear g).1))

/-- Clears the three counts of group g (R233). -/
def State.clearGrpCnt (s : State) (g : Nat) : State :=
  ((s.setF (R.TRP_GRP_CNT_CBC g) 0).setF (R.TRP_GRP_CNT_LAT g) 0).setF (R.TRP_GRP_CNT_BLNK g) 0
def execTrpGrpCntClr (g : Fin 16) (s : State) : Out := .next (s.onMain ((s.clearGrpCnt g).wres (0x730C + 16 * g) .done))

def execComparatorOutputChange (n : Fin 24) (v : LandVolts) (s : State) : Out := .next (s.onStatus (s.cmpChange n v.p v.q))
def execComparatorDecision (n : Fin 24) (v : LandVolts) (s : State) : Out := .next (s.onStatus (s.cmpDecide n v.p v.q))
def execCmpChkfClear (mask : BitVec 24) (s : State) : Out :=
  .next (s.onMain ((s.clearMask R.CMP_CHKF_FAIL mask.toNat).wres 0x80D4 .done))

/-! ### The PWM engine's commands -/

def execCarrierPeriodStart (k : Fin 16) (s : State) : Out := .next (s.onMain (s.gdfFollow (s.carrierPeriodStart k)))
def execCarrierMidBoundary (k : Fin 16) (s : State) : Out := .next (s.onMain (s.carrierMid k))
def execCarrierPeak (k : Fin 16) (s : State) : Out := .next (s.onMain (s.carrierPeak k))
def execLatchPoint (k : Fin 16) (s : State) : Out := .next (s.onMain (s.latchPoint k))
def execPwmEdge (m : Fin 24) (rise : Bool) (s : State) : Out := .next (s.onMain (s.pwmEdge m rise))
def execDeadTimeExpiry (m : Fin 24) (s : State) : Out := .next (s.onMain (s.deadTimeExpiry m))
def execNotchEdge (m : Fin 24) (s : State) : Out := .next (s.onMain (s.notchEdge m))
def execPwmShadowDrop (s : State) : Out := .next (s.onMain s.shadowDrop)
def execPwmCommitAbort (s : State) : Out := .next (s.onMain (s.shadowClear.wres 0x4304 .done))

/-- Clears `PWM_STAT` (R182). -/
def State.clearPwmStat (s : State) : State := (s.setF R.PWM_STAT_REFUSED 0).setF R.PWM_STAT_MERGED 0
def execPwmStatClr (s : State) : Out := .next (s.onMain (s.clearPwmStat.wres 0x4308 .done))
def execPwmShStatDropClear (s : State) : Out := .next (s.onMain ((s.setF R.PWM_SH_STAT_DROP 0).wres 0x4300 .done))

end Sys2Proof.Machine
end

