-- ==== Sys2Proof/Machine/Time.lean ====
section
/-! DEFINITION. Plant time, its servo, the plant-time compare units and the declared crossings (R97 to R144). -/

namespace Sys2Proof.Machine

/-! ### The servo (R106 to R113). Offsets are in units of 2^-16 ns. -/

def State.srcMeas (s : State) (i : Nat) : SrcMeas := Tab.get (fun _ => {}) s.tim.src i
def State.setSrcMeas (s : State) (i : Nat) (m : SrcMeas) : State :=
  { s with tim := { s.tim with src := Tab.set (fun _ => {}) s.tim.src i m } }

/-- `PLT_TSTAT.UNSYNC` is 1 when `LOCKED` = 0 or `OSC` = 1 (R118). -/
def State.showSync (s : State) : State :=
  (s.setF R.PLT_TSTAT_UNSYNC (bit (!s.on R.PLT_TSTAT_LOCKED || s.on R.PLT_TSTAT_OSC))).aiShow

/-- `PLT_TSTAT.OSC` is 1 while plant time runs on the OSC25 bypass, whatever made the module run there (R79, R118); until Cairn
restore plant time only counts up with TBP and the flag stays at its value after reset. -/
def State.showOsc (s : State) : State := (s.setF R.PLT_TSTAT_OSC (bit (s.on R.CLK_STAT_ONOSC && s.sys.restored))).showSync

/-- Loss of lock (R111). -/
def State.unlockServo (s : State) : State :=
  ({ s with tim := { s.tim with inLock := 0, outLock := 0 } } : State).setF R.PLT_TSTAT_LOCKED 0 |>.showSync

/-- Sets both rate terms under R103; `TIM_RATE` shows the integral term. -/
def State.setRate (s : State) (i p : Int) : State :=
  let s := s.rebase
  ({ s with tim := { s.tim with rhoI := i, rhoP := p } } : State).setF R.TIM_RATE_VAL (unsigned 32 i)

/-- The highest-priority valid source; 0 when there is none (R107). -/
def State.bestSource (s : State) : Nat :=
  (([s.f R.TIM_SRVSRC_P0, s.f R.TIM_SRVSRC_P1, s.f R.TIM_SRVSRC_P2, s.f R.TIM_SRVSRC_P3].find? fun c =>
    c ≠ 0 && (s.srcMeas c).valid)).getD 0

/-- Chooses the source again: a change keeps ρi and makes the next measurement set only Tm; with no valid source after
Cairn restore the servo holds (R107, R108, R111). -/
def State.reselect (s : State) : State :=
  let b := s.bestSource
  let old := s.f R.PLT_TSTAT_SRC
  let s := if b = old then s
    else ({ s with tim := { s.tim with fresh := true } } : State).setF R.PLT_TSTAT_SRC b
  if b = 0 then
    let s := if s.tim.rhoP = 0 then s else s.setRate s.tim.rhoI 0
    let s := if s.on R.PLT_TSTAT_LOCKED then s.unlockServo else s
    if s.sys.restored then s.setF R.PLT_TSTAT_HOLD 1 else s
  else s.setF R.PLT_TSTAT_HOLD 0

/-- The states in which plant time may step (R112, R602). -/
def State.stepState (s : State) : Bool := s.inSt [stBoot, stStandby, stTripped, stSafe]

/-- The rate limit of `RATEMAX` ppm in units of 2^-40. -/
def State.rateMax (s : State) : Int := ((s.f R.TIM_SRV_RATEMAX * 2 ^ 40 / 1000000 : Nat) : Int)

/-- A step of plant time by e (R112): ρi stays, ρp is 0, the step is counted and posted, and the servo loses lock. DESIGN CHOICE
(log entry 63): a step that would take plant time below 0 leaves it at 0, and `PT_STEP` carries the step in whole nanoseconds,
rounded down, as the low 32 bits of a signed number in `DET0`. -/
def State.ptStep (s : State) (e : Int) : State :=
  let s := s.setRate s.tim.rhoI 0
  let s : State := { s with tim := { s.tim with ptb := ((s.tim.ptb : Int) + e * 2 ^ 25).toNat } }
  let s := (s.unlockServo).count R.PLT_TSTAT_STEPS 1
  s.post 0x0201 0 (unsigned 32 (e / 2 ^ 16))

/-- One offset measurement e of source `i` (R107, R108, R111 to R113). Until Cairn restore has ended ρ stays 0 and plant time does
not step (R105). DESIGN CHOICE (log entry 63): two measurements at one TBP edge count as one count apart. -/
def State.measure (s : State) (i : Nat) (e : Int) : State :=
  let m := s.srcMeas i
  let s := (s.setSrcMeas i { last := some s.tbp, valid := true }).reselect
  if s.f R.PLT_TSTAT_SRC ≠ i then s
  else
    let s := s.setF R.TIM_LASTOFS_VAL (unsigned 32 (clampInt (-(2 ^ 31)) (2 ^ 31 - 1) (e / 2 ^ 8)))
    if !s.sys.restored then s
    else match s.tim.fresh, m.last with
    | false, some last =>
      let win : Int := (s.f R.TIM_SRV_LOCKTH * 2 ^ 14 : Nat)
      let big := decide ((s.f R.TIM_SRV2_STEPTH * 1000 * 2 ^ 16 : Nat) < e.natAbs)
      let inn := decide ((e.natAbs : Int) ≤ win)
      let out := decide (4 * win < (e.natAbs : Int))
      if big && s.stepState then s.ptStep e
      else
        let tm := max 1 (s.tbp - last)
        let i' := s.tim.rhoI + nearDiv (e * 2 ^ 25) (5 * tm * 2 ^ s.f R.TIM_SRV_KISH)
        let p' := nearDiv (e * 2 ^ 25) (5 * tm * 2 ^ s.f R.TIM_SRV_KPSH)
        let sum := clampInt (-s.rateMax) s.rateMax (i' + p')
        let s := s.setRate i' (sum - i')
        { s with tim := { s.tim with
          inLock := if inn then min 16 (s.tim.inLock + 1) else 0,
          outLock := if out then min 4 (s.tim.outLock + 1) else 0 } }
    | _, _ => { s with tim := { s.tim with fresh := false } }

/-- PPS_EDGE (R109): e is the nearest whole second minus the plant time of the edge, less `PPSDLY`; while locked, an edge
more than 100 ms from a whole second is ignored. -/
def State.ppsEdge (s : State) : State :=
  let t : Int := (s.pt : Int) - (s.f R.TIM_SRV2_PPSDLY * 4 * 2 ^ 41 : Nat)
  let r := t % (second : Int)
  let e : Int := if 2 * r < second then -r else second - r
  if s.on R.PLT_TSTAT_LOCKED && decide ((100000000 * 2 ^ 41 : Nat) < e.natAbs) then s else s.measure 4 (e / 2 ^ 25)

/-- R110: a submitted host offset. -/
def State.hostOffset (s : State) (sec : Word) : State :=
  s.measure 3 (sec.toInt * 1000000000 * 2 ^ 16 + signed 32 s.tim.hostNs * 2 ^ 12)

/-- R107: how long a source stays valid, in TBP counts. -/
def State.validFor (s : State) (i : Nat) : Nat :=
  match i with
  | 3 => s.f R.TIM_SRV2_HOSTTO * 100 * perMs
  | 4 => 2500 * perMs
  | _ => 4 * s.lnk.per * perUs

/-- SERVO_SOURCE_TIMEOUT (R107, R111). -/
def State.sourceTimeout (s : State) (i : Nat) : State :=
  let m := s.srcMeas i
  match m.last with
  | some t => if m.valid && decide (t + s.validFor i ≤ s.tbp) then (s.setSrcMeas i { m with valid := false }).reselect else s
  | none => s

/-- The link of a network is no longer up: its source, 1 or 2, is valid no more (R107). -/
def State.sourceDown (s : State) (i : Nat) : State :=
  if (s.srcMeas i).valid then (s.setSrcMeas i { s.srcMeas i with valid := false }).reselect else s

/-- The same for the network of port n, when that is the module's upstream port. -/
def State.upLost (s : State) (n : Nat) : State :=
  if (s.role = 1 || s.role = 2) && n = upPort s.role (n / 4) then s.sourceDown (1 + n / 4) else s

/-- SERVO_LOCK and SERVO_LOCK_LOSS (R111). -/
def State.servoLock (s : State) : State :=
  if s.tim.inLock = 16 && s.f R.PLT_TSTAT_SRC ≠ 0 then (s.setF R.PLT_TSTAT_LOCKED 1).showSync else s
def State.servoLoss (s : State) : State :=
  if s.on R.PLT_TSTAT_LOCKED && (s.tim.outLock = 4 || s.f R.PLT_TSTAT_SRC = 0) then s.unlockServo else s

/-! ### Compare units (R119 to R127) -/

def State.ptc (s : State) (n : Nat) : PtcSt := Tab.get (fun _ => {}) s.tim.ptc n
def State.setPtc (s : State) (n : Nat) (q : PtcSt) : State :=
  { s with tim := { s.tim with ptc := Tab.set (fun _ => {}) s.tim.ptc n q } }

/-- R119: the compare value is the one nearest the present plant time whose seconds have the low 32 bits given. -/
def State.ptcCompare (s : State) (n : Nat) : Nat :=
  let lo := s.f (R.TIM_PTC_S_SEC n)
  let ns := s.f (R.TIM_PTC_NS_NS n)
  let hi := ptSec s.pt / 2 ^ 32
  let at_ (h : Nat) : Nat := (h * 2 ^ 32 + lo) * second + ns * 2 ^ 41
  let dist (x : Nat) : Nat := max x s.pt - min x s.pt
  let c := at_ hi
  let c := if dist (at_ (hi + 1)) < dist c then at_ (hi + 1) else c
  if 0 < hi && dist (at_ (hi - 1)) < dist c then at_ (hi - 1) else c

/-- R122: the interval of a periodic unit, in plant time. -/
def State.ptcIvl (s : State) (n : Nat) : Nat := max 1000 (s.f (R.TIM_PTC_IVL_VAL n)) * 2 ^ 41

/-- A commit or restore has written PTC n (R121, R126): a one-shot already past matches at once and is late; a periodic
unit already past first matches at the next grid point. -/
def State.ptcArm (s : State) (n : Nat) : State :=
  match s.f (R.TIM_PTC_CFG_MODE n) with
  | 1 =>
    let c := s.ptcCompare n
    let s := if c < s.pt then s.setBit R.TIM_PTC_LATE_PTC n true else s
    s.setPtc n { next := some c }
  | 2 =>
    let c := s.ptcCompare n
    let iv := s.ptcIvl n
    s.setPtc n { next := some (if c < s.pt then c + ((s.pt - c) / iv + 1) * iv else c) }
  | _ => s.setPtc n {}

/-- Whether PTC n matches now (R119, R120). -/
def State.ptcDue (s : State) (n : Nat) : Bool :=
  match s.f (R.TIM_PTC_CFG_MODE n) with
  | 0 => false
  | 3 => match (s.ptc n).placed with
    | t :: _ => decide (t ≤ s.tbp)
    | [] => false
  | _ => match (s.ptc n).next with
    | some t => decide (t ≤ s.pt)
    | none => false

/-- Arms a capture window (R589): `LOST` and `WRAP` clear and the contents go. -/
def State.winArm (s : State) (w : Nat) : State :=
  (((s.setF (R.HST_CAP_STAT_LOST w) 0).setF (R.HST_CAP_STAT_WRAP w) 0).setF (R.HST_CAP_STAT_ST w) 1).setWin w {}

/-- The match itself: a one-shot goes to `MODE` 0 and gives up its claim (R51, R120), a periodic unit moves to its next
grid point after the present plant time (R114). -/
def State.ptcAdvance (s : State) (n : Nat) : State :=
  let q := s.ptc n
  match s.f (R.TIM_PTC_CFG_MODE n) with
  | 1 => ((s.setF (R.TIM_PTC_CFG_MODE n) 0).setOwner (0x1000 + n) 0).setPtc n {}
  | 2 => match q.next with
    | some t => s.setPtc n { q with next := some (t + ((s.pt - t) / s.ptcIvl n + 1) * s.ptcIvl n) }
    | none => s
  | _ => s.setPtc n { q with placed := q.placed.drop 1 }

/-- The start match of a cycle as it is now: its instant, its plant time, and the deadline and the latch margin of R323 and R326
in the mode of the match. -/
def State.startMatch (s : State) : Match :=
  { at_ := s.tbp, pt := s.pt, deadline := s.tbp + s.durDown (s.f R.CE_DL_DL) }

/-- The targets of a match but target 8, the plant frame (R126). -/
def State.ptcTargets (s : State) (n tgt grp : Nat) : State :=
  let s : State :=
    if tgt.testBit 0 then
      let s : State := { s with ce := { s.ce with matchAt := some (s.ce.matchAt.getD s.startMatch) } }
      (s.xEvent 2).2
    else s
  let s := if tgt.testBit 1 then s.trigEvent 16 else s
  let s := if tgt.testBit 2 then s.trigEvent 17 else s
  let s := if tgt.testBit 3 then s.trigEvent 18 else s
  let s := if tgt.testBit 4 then s.groupSync grp else s
  let s := if tgt.testBit 5 then s.each (List.range 16) fun w s =>
      if s.on (R.HST_CAP_CFG_EN w) && s.f (R.HST_CAP_CFG_PTCA w) = n then s.winArm w else s
    else s
  let s := if tgt.testBit 6 then s.capTriggerAll 1 fun w => s.f (R.HST_CAP_CFG_PTCT w) = n else s
  if tgt.testBit 7 then s.post 0x0202 n else s

/-! ### Crossings (R128 to R138, R143, R144) -/

/-- Whether a crossing is a mailbox, an event crossing or a FIFO (R142). -/
def isMailbox (x : Nat) : Bool := [0, 6, 7, 10, 14, 15, 16, 17].contains x
def isEventX (x : Nat) : Bool := [2, 3, 4].contains x
def isFifo (x : Nat) : Bool := [1, 5, 8, 9, 11, 12, 13].contains x

/-- One mailbox hands over: the destination takes the whole value and acknowledges, and a pending value is requested next (R128,
R129). -/
def State.deliverKey (s : State) (key : Nat) : State :=
  let c := s.xing key
  match c.inReset, c.flight with
  | false, some v => s.setXing key { c with dst := v, flight := c.pend, pend := none }
  | _, _ => s

/-- The transfer of one mailbox crossing; crossing 0 is acknowledged by UPDATE_SET_ACKNOWLEDGE (R174). -/
def State.mailbox (s : State) (x : Nat) : State :=
  let c := s.xing x
  if !isMailbox x then s
  else if x = 0 then
    match c.inReset, c.flight with
    | false, some v => s.setXing x { c with dst := v }
    | _, _ => s
  else s.deliverKey x

/-- MAILBOX_TRANSFER: crossing 10 has one mailbox for each port (R142). -/
def State.mailboxes (s : State) (x : Nat) : State :=
  if x = 10 then s.each (List.range 8) fun n s => s.deliverKey (timeKey n) else s.mailbox x

/-- EVENT_HANDSHAKE: delivers the count accumulated and clears it (R130), once the count delivered before has been taken (R131). The reports of crossing 3 are posted once the
event writer can take them (R131, R584). -/
def State.handshake (s : State) (x : Nat) : State :=
  if !isEventX x || (s.xing x).inReset then s
  else if x = 3 then
    if s.on R.HST_EVR_CFG_EN && decide (64 ≤ s.hst.held.length) then s
    else
      let l := s.xdc.rep3
      let s : State := { s with xdc := { s.xdc with rep3 := [] } }
      l.foldl (fun s e => match e with
        | some r => s.emit r
        | none => s) s
  else if x = 4 then
    s.each (List.range 19) fun ch s =>
      let c := s.xing (100 + ch)
      if c.got ≠ 0 then s
      else s.setXing (100 + ch) { c with got := if ch < 16 && s.f (R.ADC_TRIG_SEQ ch) = 0 then 0 else c.cnt, cnt := 0 }
  else
    let c := s.xing x
    if c.got = 0 then s.setXing x { c with got := c.cnt, cnt := 0 } else s

/-- Whether the producer of one channel of a FIFO crossing is clocked and cannot wait (R134, R142, R594): it is not when the word
comes from the self-timed fabric, as in the directions from the fabric of 8, 9, 11 and 13. -/
def clockedFifo (x ch : Nat) : Bool :=
  match x with
  | 1 => true
  | 5 => true
  | 8 => decide (ch < 4)
  | 9 => decide (ch < 4)
  | 11 => decide (ch = 0)
  | 12 => true
  | 13 => decide (ch = 1)
  | _ => false

/-- The port whose link side a channel of crossing 8 or 9 belongs to. -/
def fifoPort (x ch : Nat) : Option Nat := if x = 8 || x = 9 then some (4 * (x - 8) + ch % 4) else none

/-- Whether a side of one channel of a FIFO crossing is in reset: the crossing's own, or the port's link side (R136, R616). -/
def State.fifoInReset (s : State) (x ch : Nat) : Bool :=
  (s.xing x).inReset || (match fifoPort x ch with
    | some n => (s.xing (linkKey n)).inReset
    | none => false)

/-- What a word lost in a full crossing means to its block: the result of the conversion in progress on the lane, else of the
lane's last one, is lost with its run marked (R297); a capture record is (R594). -/
def State.fifoLoss (s : State) (x ch : Nat) : State :=
  if x = 5 then
    let l := s.lane ch
    let s := match l.conv with
      | some c => s.setLane ch { l with conv := some { c with lost := true } }
      | none => s
    match (l.conv.map (·.seq)).or l.lastSeq with
    | some 2 | none => s.setF R.ADC_STAT_MONLOSS 1
    | some q => s.setSeq q { s.adcSeq q with loss := true }
  else if x = 12 then
    let s : State := { s with hst := { s.hst with capOwed := true } }
    s.each (List.range 16) fun w s =>
      if s.winOpen w then (s.count (R.HST_CAP_STAT_LOST w) 1).setWin w { s.win w with gap := (s.win w).gap + 1 } else s
  else s

/-- Capture resumes after a pause or an overrun: each window that lost records takes a gap record, and CAP_LOSS is posted
(R593, R594). -/
def State.captureResume (s : State) : State :=
  let s : State := { s with hst := { s.hst with capPaused := false, capOwed := false } }
  let s := s.each (List.range 16) fun w s =>
    let c := s.win w
    if c.gap = 0 then s
    else (s.setWin w { c with gap := 0 }).winPut w (capRecord 8 0 1 (ptWord s.pt) [BitVec.ofNat 32 c.gap])
  s.post 0x1102 0

/-- FIFO_WORD_TRANSFER (R133, R134, R136). -/
def State.fifoMove (s : State) (x ch : Nat) (act : FifoAct) : State :=
  if fifoChans x ≤ ch then s
  else match act with
    | .enter v =>
      if s.fifoInReset x ch then s.count (R.XDC_STAT_DISC x) 1
      else if s.fifoFull x ch then
        if clockedFifo x ch then ((s.count (R.XDC_STAT_LOST x) 1).overrun x).fifoLoss x ch else s
      else s.setFifo x ch (s.fifo x ch ++ [v.toNat])
    | .take =>
      match s.fifo x ch with
      | [] => s
      | v :: l =>
        let s := s.setFifo x ch l
        let s : State := { s with xdc := { s.xdc with took := Tab.set (fun _ => 0) s.xdc.took (fifoKey x ch) v } }
        if x = 12 && s.hst.capOwed && !s.hst.capPaused then s.captureResume else s

/-- The units in flight in a crossing. -/
def State.inFlight (s : State) (x : Nat) : Nat :=
  let c := s.xing x
  bit c.flight.isSome + bit c.pend.isSome + c.cnt +
    (if isFifo x then (List.range 32).foldl (fun a ch => a + (s.fifo x ch).length) 0 else 0) +
    (if x = 3 then s.xdc.rep3.length else 0) +
    (if x = 4 then (List.range 19).foldl (fun a ch => a + (s.xing (100 + ch)).cnt) 0 else 0)

/-- One crossing's content is discarded: `DISC` and `RSYNC` count (R137). -/
def State.resyncCount (s : State) (x n : Nat) : State := (s.count (R.XDC_STAT_DISC x) n).count (R.XDC_STAT_RSYNC x) 1

/-- The resynchronisation of the link side of port n in crossing 8 or 9: both its directions are emptied (R137, R616). -/
def State.linkResync (s : State) (n : Nat) : State :=
  let x := 8 + n / 4
  let c := n % 4
  if !(s.xing (linkKey n)).resync || (s.xing (linkKey n)).inReset then s
  else
    let s := s.resyncCount x ((s.fifo x c).length + (s.fifo x (c + 4)).length)
    (((s.setFifo x c []).setFifo x (c + 4) []).setXing (linkKey n) {}).post 0x0301 x

/-- The same of its mailbox in crossing 10, which sends the present value of its source once (R138). -/
def State.timeResync (s : State) (n : Nat) : State :=
  let c := s.xing (timeKey n)
  if !c.resync || c.inReset then s
  else
    let s := s.resyncCount 10 (bit c.flight.isSome + bit c.pend.isSome)
    (s.setXing (timeKey n) { src := c.src, dst := c.dst, flight := if c.src.isEmpty then none else some c.src }).post 0x0301 10

/-- After the resynchronisation of crossing 0 the source sends its present value, the update set it last sent, once (R138): it
waits for its acknowledge like any other. -/
def State.resendSet (s : State) : State :=
  let ws := (s.xing 0).src
  { s with ce := { s.ce with ups := if ws.isEmpty then [] else [(0, ws.map (BitVec.ofNat 32), false)] } }

/-- XDC_RESYNC: once both sides are out of reset the handshake discards what is in flight, and a mailbox sends the present
value of its source once (R137, R138). -/
def State.resync (s : State) (x : Nat) : State :=
  let c := s.xing x
  if !c.resync then s
  else
    let s := s.resyncCount x (s.inFlight x)
    let s := if isFifo x then s.each (List.range 32) fun ch s => s.setFifo x ch [] else s
    let s : State := if x = 3 then { s with xdc := { s.xdc with rep3 := [] } } else s
    let s := if x = 4 then s.each (List.range 19) fun ch s => s.setXing (100 + ch) {} else s
    let again := if isMailbox x && !c.src.isEmpty then some c.src else none
    let s := s.setXing x { src := c.src, dst := c.dst, flight := again }
    let s := if x = 0 then s.resendSet else s
    s.post 0x0301 x

/-- XDC_RESYNC of a crossing, with that of the ports whose link side has been reset (R616). -/
def State.resyncAll (s : State) (x : Nat) : State :=
  let s := s.resync x
  if x = 8 || x = 9 then s.each (List.range 4) fun i s => s.linkResync (4 * (x - 8) + i)
  else if x = 10 then s.each (List.range 8) fun n s => s.timeResync n
  else s

/-- XDC_CLR (R144). -/
def State.xdcClear (s : State) (mask : Nat) : State :=
  s.each (List.range 18) fun x s =>
    if mask.testBit x then
      ((s.setF (R.XDC_STAT_LOST x) 0).setF (R.XDC_STAT_DISC x) 0).setF (R.XDC_STAT_RSYNC x) 0
    else s

/-! ### The commands -/

def execPpsEdge (s : State) : Out := .next (s.onMain s.ppsEdge)
def execHostOffsetSubmit (sec : Word) (s : State) : Out := .next (s.onMain ((s.hostOffset sec).wres 0x2034 .done))
def execServoSourceTimeout (src : Fin 5) (s : State) : Out := .next (s.onMain (s.sourceTimeout src))
def execServoLock (s : State) : Out := .next (s.onMain s.servoLock)
def execServoLockLoss (s : State) : Out := .next (s.onMain s.servoLoss)
def execMailboxTransfer (x : Fin 18) (s : State) : Out := .next (s.onMain (s.mailboxes x))
def execEventHandshake (x : Fin 18) (s : State) : Out := .next (s.onMain (s.handshake x))
def execFifoWordTransfer (x : Fin 18) (ch : Fin 32) (act : FifoAct) (s : State) : Out := .next (s.onMain (s.fifoMove x ch act))
def execXdcResync (x : Fin 18) (s : State) : Out := .next (s.onMain (s.resyncAll x))
def execXdcClr (mask : BitVec 18) (s : State) : Out := .next (s.onMain ((s.xdcClear mask.toNat).wres 0x3080 .done))
def execXdcOvrClear (x : Fin 18) (s : State) : Out :=
  .next (s.onMain ((s.setF (R.XDC_STAT_OVR x) 0).wres (0x3000 + 4 * x) .done))
def execTimPtcLateClear (mask : BitVec 16) (s : State) : Out :=
  .next (s.onMain ((s.clearMask R.TIM_PTC_LATE_PTC mask.toNat).wres 0x2040 .done))

end Sys2Proof.Machine
end

