-- ==== Sys2Proof/Machine/Clock.lean ====
section
/-! DEFINITION. The pace monitor (R32 to R37), the reference monitor, the PLLs, coarse mode and the clock outputs (R59 to
R96, R657). -/

namespace Sys2Proof.Machine

/-- PACE_WINDOW_END: the report and its extremes (R32 to R36); a rising edge of `SLOW` posts PACE_SLOW when enabled. A read shows
the report once crossing 7 has delivered it. DESIGN CHOICE (log entry 63): `SLOW` is judged with the report, so a change of
`LIM` acts from the next one. -/
def State.paceWindow (s : State) (cycles : Nat) : State :=
  let ps := (Config.paceCal cycles).toNat
  let was := s.on R.SYS_PACE_SLOW
  let slow := decide (s.f R.SYS_PACE_CFG_LIM < ps)
  let s := ((s.setF R.SYS_PACE_CNT cycles).setF R.SYS_PACE_MACPS ps).setF R.SYS_PACE_SLOW (bit slow)
  let s := (s.setF R.SYS_PACE_EXT_MINPS (min ps (s.f R.SYS_PACE_EXT_MINPS))).setF R.SYS_PACE_EXT_MAXPS
    (max ps (s.f R.SYS_PACE_EXT_MAXPS))
  if slow && !was && s.on R.SYS_PACE_CFG_EVEN then s.post 0x0001 0 else s

/-- Resets both extremes to their values after reset (R35). -/
def State.paceExtClear (s : State) : State := (s.setF R.SYS_PACE_EXT_MINPS 0xFFF).setF R.SYS_PACE_EXT_MAXPS 0

/-- Whether a window is in tolerance (R62): CKREF had its edges throughout, `ok`, and its frequency, 25 MHz divided by the ratio
of OSC25 to CKREF in units of 2^-32, lay within ±5 % of 25 MHz. -/
def inTolerance (ok : Bool) (ratio : Nat) : Bool :=
  ok && decide (95 * ratio ≤ 100 * 2 ^ 32 ∧ 100 * 2 ^ 32 ≤ 105 * ratio)

/-- The configuration word of clock output n in effect (R90). -/
def State.ckoWord (s : State) (n : Nat) : Word := BitVec.ofNat 32 (Tab.get (fun _ => 0) s.clk.cko n)

/-- The outputs with `LOSS` = 1 whose tap is lost complete their high phase and hold low (R91). -/
def State.ckoLose (s : State) (tap : Nat) : State :=
  s.each (List.range 4) fun n s =>
    let w := s.ckoWord n
    if (R.CLK_CKO_EN 0).get w ≠ 0 && (R.CLK_CKO_SRC 0).get w = tap && (R.CLK_CKO_LOSS 0).get w ≠ 0 then
      { s with clk := { s.clk with ckoLow := s.clk.ckoLow ||| 2 ^ n } }
    else s

/-- The outputs of a tap return to it with the tap's consumers (R91). -/
def State.ckoReturn (s : State) (tap : Nat) : State :=
  s.each (List.range 4) fun n s =>
    if (R.CLK_CKO_SRC 0).get (s.ckoWord n) = tap && s.clk.ckoLow.testBit n then
      { s with clk := { s.clk with ckoLow := s.clk.ckoLow - 2 ^ n } }
    else s

/-- Coarse mode begins with the switch to the bypass (R70, R73, R74, R80): running carriers begin their bridging periods,
and capture pauses. DESIGN CHOICE (log entry 63): the coarse mode in which BOOT starts has no such beginning and does not pause
capture. -/
def State.coarseEnter (s : State) : State :=
  if s.coarse then s
  else
    let s := s.setF R.CLK_STAT_COARSE 1
    let s := s.each carriers16 fun k s =>
      if s.carOn k then s.setCar k { s.car k with bridging := true } else s
    let s : State := if s.part = .c8 then { s with hst := { s.hst with capPaused := true } } else s
    s.post 0x0106 0

/-- The network of PLLB (ports 0–3) or PLLC (ports 4–7) goes to electrical idle (R86). -/
def State.networkIdle (s : State) (p : Nat) : State :=
  s.each (List.range 4) fun i s =>
    let n := 4 * (p - 1) + i
    if s.f (R.LNK_PORT_ST n) = 0 then s
    else (s.portIdle n false).upLost n

/-- The same ports switch back and start link training (R87, R392). -/
def State.networkTrain (s : State) (p : Nat) : State :=
  s.each (List.range 4) fun i s =>
    let n := 4 * (p - 1) + i
    if (rolePorts (s.f R.LNK_CFG_ROLE)).contains n && !s.on (R.LNK_PORT_LOS n) then
      s.trainStart n
    else s

/-- The loss count of PLL p (R94). -/
def lossFld : Nat → Fld
  | 0 => R.CLK_LOSS_PLLA
  | 1 => R.CLK_LOSS_PLLB
  | _ => R.CLK_LOSS_PLLC

/-- 1,024 reference cycles (R65): 40.96 µs in TBP counts. -/
def lockCycles : Nat := 16384

/-- The count of reference cycles of each PLL listed starts again (R65). -/
def State.lockRestart (s : State) (l : List Nat) : State :=
  s.each l fun p s => { s with clk := { s.clk with lockFrom := Tab.set (fun _ => 0) s.clk.lockFrom p s.tbp } }

/-- Whether PLL p can have counted 1,024 reference cycles with a small phase error since its count last had to restart (R65). -/
def State.lockCounted (s : State) (p : Nat) : Bool := decide (Tab.get (fun _ => 0) s.clk.lockFrom p + lockCycles ≤ s.tbp)

/-- A locked PLL is declared unlocked (R66 to R70, R84, R86). -/
def State.pllUnlock (s : State) (p : Nat) : State :=
  if !s.bitAt R.CLK_STAT_LOCK p then s
  else
    let s := (s.setBit R.CLK_STAT_LOCK p false).setBit R.CLK_STAT_STABLE p false
    let s := ((s.count (lossFld p) 1).lockRestart [p]).post (0x0101 + p) 0
    let s : State := { s with clk := { s.clk with bypass := s.clk.bypass ||| 2 ^ p } }
    let s := s.ckoLose (p + 1)
    if p = 0 then s.coarseEnter else s.networkIdle p

/-- PLL_LOCK (R65): a declaration posts no event (R657). The PLLs start after Cairn restore (R60). -/
def State.pllLock (s : State) (p : Nat) : State :=
  if s.sys.restored && s.on R.CLK_STAT_REFOK && s.lockCounted p && !s.bitAt R.CLK_STAT_LOCK p then
    ({ s with clk := { s.clk with lockAt := Tab.set (fun _ => 0) s.clk.lockAt p s.tbp } } : State).setBit
      R.CLK_STAT_LOCK p true
  else s

/-- PLL_STABLE_LOCK (R68, R87, R91): 1 ms of continuous lock. -/
def State.pllStable (s : State) (p : Nat) : State :=
  let t := Tab.get (fun _ => 0) s.clk.lockAt p
  if s.bitAt R.CLK_STAT_LOCK p && !s.bitAt R.CLK_STAT_STABLE p && decide (t + perMs ≤ s.tbp) then
    let s := s.setBit R.CLK_STAT_STABLE p true
    if p = 0 then s
    else
      let b := s.clk.bypass
      let s : State := { s with clk := { s.clk with bypass := if b.testBit p then b - 2 ^ p else b } }
      (s.ckoReturn (p + 1)).networkTrain p
  else s

/-- REF_LOST (R62, R67, R69, R72): every PLL still locked is declared unlocked, all consumers switch to OSC25, and with
`OSCACT` = 0 the block is tripped. -/
def State.refLost (s : State) : State :=
  if !s.on R.CLK_STAT_REFOK then s
  else
    let s := s.rebase
    let s := (s.setF R.CLK_STAT_REFOK 0).count R.CLK_LOSS_REF 1
    let s : State := { s with clk := { s.clk with good := 0 } }
    let s := (s.each [0, 1, 2] fun p s => s.pllUnlock p).lockRestart [0, 1, 2]
    let s := s.post 0x0104 0
    let s := (s.setF R.CLK_STAT_ONOSC 1).coarseEnter
    let s : State := { s with clk := { s.clk with bypass := 7 } }
    let s := (s.ckoLose 0).showOsc
    if s.on R.CLK_REF_OSCACT then s else s.blockTrip 0x03 0

/-- REF_OK: CKREF is declared present after ten windows in tolerance (R62, R69, R657); it is selected after Cairn restore
(R60). -/
def State.refOk (s : State) : State :=
  if s.on R.CLK_STAT_REFOK || decide (s.clk.good < 10) then s
  else
    let s := s.rebase
    let s := (s.setF R.CLK_STAT_REFOK 1).setF R.CLK_STAT_ONOSC (bit !s.sys.restored)
    ((s.ckoReturn 0).showOsc).post 0x0105 0

/-- REF_MONITOR_WINDOW: the window is judged and, while CKREF is present, the ratio of OSC25 to CKREF is held (R61, R62). A
window whose frequency is out of tolerance, or in which the edges stopped, declares CKREF lost. -/
def State.refWindow (s : State) (ok : Bool) (ratio : Nat) : State :=
  let s := s.rebase
  let inTol := inTolerance ok ratio
  let s : State := { s with clk := { s.clk with
    good := if inTol then min 10 (s.clk.good + 1) else 0,
    ratio := if s.on R.CLK_STAT_REFOK && inTol then ratio else s.clk.ratio } }
  if s.on R.CLK_STAT_REFOK && !inTol then s.refLost else s

/-- Whether the boundary that ends coarse mode comes now (R82, R85): of `RETCAR` while it runs, else of the lowest running
carrier, else at once. DESIGN CHOICE (log entry 63): an enabled `RETCAR` carrier that still waits for its first period start counts
as not running, like a disabled one. -/
def State.returnDue (s : State) : Bool :=
  let k := s.f R.CLK_REF_RETCAR
  let run := carriers16.filter fun j => s.carOn j
  let c := if s.carOn k then some k else run.head?
  match c with
  | none => true
  | some j => decide ((s.car j).next ≤ s.tbp) || decide ((s.car j).start = s.tbp)

/-- COARSE_EXIT (R82 to R85, R91): TBP returns to 400 MHz. A carrier whose boundary has just come restarts on its fine
values; every other carrier takes them at its own next boundary. -/
def State.coarseExit (s : State) : State :=
  if s.coarse && s.bitAt R.CLK_STAT_STABLE 0 && s.on R.CLK_STAT_REFOK && s.returnDue then
    let b := s.clk.bypass
    let s : State := { s.setF R.CLK_STAT_COARSE 0 with clk := { s.clk with bypass := if b.testBit 0 then b - 1 else b } }
    let s := s.ckoReturn 1
    let s := s.each (carriers16.filter fun k => s.carOn k) fun k s =>
      if (s.car k).start = s.tbp && decide (s.tbp < (s.car k).next) then
        s.restartFine k
      else s
    let s := s.post 0x0107 0
    if s.hst.capPaused then s.captureResume else s
  else s

/-- CKO_CHANGE: the output's configuration takes effect at the end of its present period (R90), the reaction of R91 to a source
that is lost with it. DESIGN CHOICE (log entry 63): a tap on its bypass counts as lost outside BOOT, whether or not its PLL has
ever locked. -/
def State.ckoChange (s : State) (n : Nat) : State :=
  let tap := s.f (R.CLK_CKO_SRC n)
  let lost := s.st ≠ stBoot && (if tap = 0 then !s.on R.CLK_STAT_REFOK else s.clk.bypass.testBit (tap - 1))
  let low := lost && s.on (R.CLK_CKO_EN n) && s.on (R.CLK_CKO_LOSS n)
  let was := s.clk.ckoLow
  { s with clk := { s.clk with
    cko := Tab.set (fun _ => 0) s.clk.cko n (s.reg (0x1010 + 4 * n)).toNat,
    ckoLow := if low then was ||| 2 ^ n else if was.testBit n then was - 2 ^ n else was } }

/-- Clears the four loss counts (R94). -/
def State.clkLossClear (s : State) : State :=
  (((s.setF R.CLK_LOSS_PLLA 0).setF R.CLK_LOSS_PLLB 0).setF R.CLK_LOSS_PLLC 0).setF R.CLK_LOSS_REF 0

/-! ### The commands -/

def execPaceWindowEnd (cycles : Fin 65536) (s : State) : Out := .next (s.onStatus (s.paceWindow cycles))
def execSysPaceExtClr (s : State) : Out := .next (s.onMain (s.paceExtClear.wres 0x48 .done))
def execRefMonitorWindow (ok : Bool) (ratio : Nat) (s : State) : Out := .next (s.onStatus (s.refWindow ok ratio))
def execRefLost (s : State) : Out := .next (s.onStatus s.refLost)
def execRefOk (s : State) : Out := .next (s.onStatus s.refOk)
def execPllLock (p : Fin 3) (s : State) : Out := .next (s.onStatus (s.pllLock p))
def execPllUnlock (p : Fin 3) (s : State) : Out := .next (s.onStatus (s.pllUnlock p))
def execPllStableLock (p : Fin 3) (s : State) : Out := .next (s.onStatus (s.pllStable p))
def execCoarseExit (s : State) : Out := .next (s.onStatus s.coarseExit)
def execCkoChange (n : Fin 4) (s : State) : Out := .next (s.onMain (s.ckoChange n))
def execClkLossClr (s : State) : Out := .next (s.onMain (s.clkLossClear.wres 0x1008 .done))

end Sys2Proof.Machine
end

