-- ==== Sys2Proof/Machine/Crypto.lean ====
section
/-! DEFINITION. The checks that program images, keys, check values and records need: CRC-32, SHA-256 and the verification
of an ECDSA signature over NIST P-256 (R343, R350, R390, R489). Words and field elements are natural numbers. -/

namespace Sys2Proof.Machine

/-! ### CRC-32 (the IEEE 802.3 polynomial, reflected, initial value and final complement all ones) -/

def crcBits : Nat → Nat → Nat
  | 0, c => c
  | k + 1, c => crcBits k (if c % 2 = 1 then (c / 2) ^^^ 0xEDB88320 else c / 2)

/-- The CRC from an initial value of its own (R481). -/
def crcFrom (init : Nat) (bytes : List Nat) : Nat :=
  (bytes.foldl (fun c b => crcBits 8 (c ^^^ (b % 256))) init) ^^^ 0xFFFFFFFF

def crc32 (bytes : List Nat) : Nat := crcFrom 0xFFFFFFFF bytes

/-- The bytes of a word, lowest first. -/
def wordBytes (w : Word) : List Nat := (List.range 4).map fun i => w.toNat / 256 ^ i % 256

/-! ### SHA-256 -/

def rotr (n x : Nat) : Nat := x / 2 ^ n + x % 2 ^ n * 2 ^ (32 - n)

/-- The largest r with r^e ≤ n, its `bits` lower bits still to be decided. -/
def rootFrom (e n : Nat) : Nat → Nat → Nat
  | 0, r => r
  | bits + 1, r => rootFrom e n bits (if (r + 2 ^ bits) ^ e ≤ n then r + 2 ^ bits else r)

/-- The first 32 bits of the fraction of the e-th root of p. -/
def rootFraction (e p : Nat) : Nat := rootFrom e (p * 2 ^ (32 * e)) 36 0 % 2 ^ 32

/-- The primes up to 311: the first 64. -/
def shaPrimes : List Nat :=
  (List.range 312).filter fun p => decide (2 ≤ p) && (List.range 18).all fun d => d < 2 || p % d ≠ 0 || d = p

/-- FIPS 180-4 takes its 64 round constants from the cube roots of these primes. -/
def shaK : List Nat := shaPrimes.map (rootFraction 3)

/-- The message schedule: `n` further words after the sixteen of the block, newest first. -/
def shaExtend : Nat → List Nat → List Nat
  | 0, w => w
  | n + 1, w =>
    let g (i : Nat) : Nat := w.getD i 0
    let s0 := rotr 7 (g 14) ^^^ rotr 18 (g 14) ^^^ (g 14 / 2 ^ 3)
    let s1 := rotr 17 (g 1) ^^^ rotr 19 (g 1) ^^^ (g 1 / 2 ^ 10)
    shaExtend n ((g 15 + s0 + g 6 + s1) % 2 ^ 32 :: w)

/-- The eight working words of a compression. -/
structure Sha where
  a : Nat
  b : Nat
  c : Nat
  d : Nat
  e : Nat
  f : Nat
  g : Nat
  h : Nat
  deriving DecidableEq, Repr

def shaRound (s : Sha) (kw : Nat × Nat) : Sha :=
  let s1 := rotr 6 s.e ^^^ rotr 11 s.e ^^^ rotr 25 s.e
  let ch := (s.e &&& s.f) ^^^ ((0xFFFFFFFF ^^^ s.e) &&& s.g)
  let t1 := s.h + s1 + ch + kw.1 + kw.2
  let s0 := rotr 2 s.a ^^^ rotr 13 s.a ^^^ rotr 22 s.a
  let mj := (s.a &&& s.b) ^^^ (s.a &&& s.c) ^^^ (s.b &&& s.c)
  ⟨(t1 + s0 + mj) % 2 ^ 32, s.a, s.b, s.c, (s.d + t1) % 2 ^ 32, s.e, s.f, s.g⟩

def shaBlock (s : Sha) (block : List Nat) : Sha :=
  let w := (shaExtend 48 block.reverse).reverse
  let t := (shaK.zip w).foldl shaRound s
  let p (x y : Nat) : Nat := (x + y) % 2 ^ 32
  ⟨p s.a t.a, p s.b t.b, p s.c t.c, p s.d t.d, p s.e t.e, p s.f t.f, p s.g t.g, p s.h t.h⟩

/-- The initial working words come from the square roots of the first eight primes. -/
def shaInit : Sha :=
  let w (p : Nat) : Nat := rootFraction 2 p
  ⟨w 2, w 3, w 5, w 7, w 11, w 13, w 17, w 19⟩

/-- A list cut into pieces of sixteen; `fuel` is at least the number of pieces. -/
def sixteens : Nat → List Nat → List (List Nat)
  | 0, _ => []
  | fuel + 1, l => if l.isEmpty then [] else l.take 16 :: sixteens fuel (l.drop 16)

/-- Big-endian words of a byte list whose length is a multiple of 4. -/
def beWords : List Nat → List Nat
  | a :: b :: c :: d :: l => (((a * 256 + b) * 256 + c) * 256 + d) :: beWords l
  | _ => []

/-- The big-endian number of a byte list. -/
def beNat (l : List Nat) : Nat := l.foldl (fun n b => n * 256 + b % 256) 0

/-- The little-endian number of a byte list. -/
def leNat (l : List Nat) : Nat := beNat l.reverse

/-- The `n` big-endian bytes of a number. -/
def natBe (n x : Nat) : List Nat := (List.range n).map fun i => x / 256 ^ (n - 1 - i) % 256

/-- SHA-256 as a 256-bit number. -/
def sha256 (msg : List Nat) : Nat :=
  let n := msg.length
  let zeros := (119 - n % 64) % 64
  let padded := msg ++ 0x80 :: List.replicate zeros 0 ++ natBe 8 (8 * n)
  let s := (sixteens (n / 64 + 2) (beWords padded)).foldl shaBlock shaInit
  [s.a, s.b, s.c, s.d, s.e, s.f, s.g, s.h].foldl (fun x w => x * 2 ^ 32 + w) 0

/-! ### NIST P-256 -/

def p256 : Nat := 0xFFFFFFFF00000001000000000000000000000000FFFFFFFFFFFFFFFFFFFFFFFF
def p256n : Nat := 0xFFFFFFFF00000000FFFFFFFFFFFFFFFFBCE6FAADA7179E84F3B9CAC2FC632551
def p256b : Nat := 0x5AC635D8AA3A93E7B3EBBD55769886BC651D06B0CC53B0F63BCE3C3E27D2604B
def p256gx : Nat := 0x6B17D1F2E12C4247F8BCE6E563A440F277037D812DEB33A0F4A13945D898C296
def p256gy : Nat := 0x4FE342E2FE1A7F9B8EE7EB4A7C0F9E162BCE33576B315ECECBB6406837BF51F5

/-- a^k modulo m, over the lowest `bits` bits of k. -/
def powMod (m : Nat) : Nat → Nat → Nat → Nat
  | 0, _, _ => 1 % m
  | bits + 1, a, k =>
    let r := powMod m bits (a * a % m) (k / 2)
    if k % 2 = 1 then r * a % m else r

/-- The inverse modulo a prime. -/
def invMod (m a : Nat) : Nat := powMod m 256 a (m - 2)

/-- A point in Jacobian coordinates; z = 0 is the point at infinity. -/
structure JPt where
  x : Nat
  y : Nat
  z : Nat
  deriving DecidableEq, Repr

def subP (a b : Nat) : Nat := (a + p256 - b % p256) % p256

def jDouble (q : JPt) : JPt :=
  if q.z = 0 then q
  else
    let d := q.z * q.z % p256
    let g := q.y * q.y % p256
    let b := q.x * g % p256
    let a := 3 * subP q.x d * (q.x + d) % p256
    let x := subP (a * a % p256) (8 * b)
    let z := subP (subP ((q.y + q.z) * (q.y + q.z) % p256) g) d
    let y := subP (a * subP (4 * b) x % p256) (8 * g * g)
    ⟨x, y, z⟩

def jAdd (q r : JPt) : JPt :=
  if q.z = 0 then r
  else if r.z = 0 then q
  else
    let z1 := q.z * q.z % p256
    let z2 := r.z * r.z % p256
    let u1 := q.x * z2 % p256
    let u2 := r.x * z1 % p256
    let s1 := q.y * r.z * z2 % p256
    let s2 := r.y * q.z * z1 % p256
    if u1 = u2 then (if s1 = s2 then jDouble q else ⟨1, 1, 0⟩)
    else
      let h := subP u2 u1
      let rr := subP s2 s1
      let h2 := h * h % p256
      let h3 := h * h2 % p256
      let v := u1 * h2 % p256
      let x := subP (subP (rr * rr % p256) h3) (2 * v)
      let y := subP (rr * subP v x % p256) (s1 * h3)
      ⟨x, y, h * q.z % p256 * r.z % p256⟩

/-- k·q over the lowest `bits` bits of k. -/
def jMul : Nat → Nat → JPt → JPt
  | 0, _, _ => ⟨1, 1, 0⟩
  | bits + 1, k, q =>
    let r := jMul bits (k / 2) (jDouble q)
    if k % 2 = 1 then jAdd r q else r

/-- Whether (x, y) is a point of P-256 (R350). -/
def onCurve (x y : Nat) : Bool :=
  decide (x < p256) && decide (y < p256) &&
    decide (y * y % p256 = (x * x % p256 * x + (p256 - 3) * x + p256b) % p256)

/-- Whether (r, s) is a signature of the digest e under the public key (x, y). -/
def ecdsaOk (x y e r s : Nat) : Bool :=
  if r = 0 || s = 0 || p256n ≤ r || p256n ≤ s || !onCurve x y then false
  else
    let w := invMod p256n s
    let u1 := e * w % p256n
    let u2 := r * w % p256n
    let q := jAdd (jMul 256 u1 ⟨p256gx, p256gy, 1⟩) (jMul 256 u2 ⟨x, y, 1⟩)
    if q.z = 0 then false
    else
      let zi := invMod p256 q.z
      decide (q.x * (zi * zi % p256) % p256 % p256n = r)

end Sys2Proof.Machine
end

