-- ==== Sys2Proof/Machine/Fp.lean ====
section
/-! DEFINITION. IEEE 754 binary32 as the control engine computes it (R304, R307): to nearest with ties to even, subnormal
operands and results flushed to zero with their sign, no traps. Values are taken apart into sign, integer significand and
exponent; every operation is exact until its one rounding. -/

namespace Sys2Proof.Machine

/-- A binary32 operand: not a number (signalling or not), infinity, or (−1)^neg · m · 2^e. -/
inductive Fp where
  | nan (signalling : Bool)
  | inf (neg : Bool)
  | fin (neg : Bool) (m : Nat) (e : Int)
  deriving DecidableEq, Repr

/-- What an operation returns: its value, the sticky flags it raises (bit 0 invalid, 1 overflow, 2 division by zero), and
whether the value is a quiet NaN whose sign and payload the spec leaves open. -/
structure FpRes where
  v : Word
  fl : Nat := 0
  openNan : Bool := false
  deriving DecidableEq, Repr

/-- The default quiet NaN, of an invalid operation (R307). -/
def fpInvalid : FpRes := { v := 0x7FC00000, fl := 1 }

/-- The result of an operation on a quiet NaN. -/
def fpOpen : FpRes := { v := 0x7FC00000, openNan := true }

/-- Reads an operand; a subnormal counts as zero (R307). -/
def fpRead (w : Word) : Fp :=
  let n := w.toNat
  let neg := n.testBit 31
  let ex : Nat := n / 2 ^ 23 % 256
  let fr := n % 2 ^ 23
  if ex = 255 then (if fr = 0 then .inf neg else .nan (!fr.testBit 22))
  else if ex = 0 then .fin neg 0 0
  else .fin neg (2 ^ 23 + fr) ((ex : Int) - 150)

def fpSign (neg : Bool) : Nat := if neg then 2 ^ 31 else 0
def fpZero (neg : Bool) : FpRes := { v := BitVec.ofNat 32 (fpSign neg) }
def fpInf (neg : Bool) : FpRes := { v := BitVec.ofNat 32 (fpSign neg + 0x7F800000) }

/-- Rounds (−1)^neg · (m + δ) · 2^e, where 0 < δ < 1 exactly when `more`. A caller that sets `more` gives at least 26 bits. -/
def fpRound (neg : Bool) (m : Nat) (e : Int) (more : Bool) : FpRes :=
  if m = 0 then fpZero neg
  else
    let sh : Int := max ((Nat.log2 m : Int) - 23) (-149 - e)
    let q :=
      if sh ≤ 0 then m * 2 ^ (-sh).toNat
      else
        let d := 2 ^ sh.toNat
        let r := m % d
        if d < 2 * r || (2 * r = d && (more || m / d % 2 = 1)) then m / d + 1 else m / d
    let (q, ex) : Nat × Int := if q = 2 ^ 24 then (2 ^ 23, e + sh + 1) else (q, e + sh)
    if q < 2 ^ 23 then fpZero neg
    else if 104 < ex then { fpInf neg with fl := 2 }
    else { v := BitVec.ofNat 32 (fpSign neg + (ex + 150).toNat * 2 ^ 23 + (q - 2 ^ 23)) }

/-- The exact sum of two finite values, rounded; an exact zero of unlike signs is +0. -/
def fpSum (n1 : Bool) (m1 : Nat) (e1 : Int) (n2 : Bool) (m2 : Nat) (e2 : Int) : FpRes :=
  let e := min e1 e2
  let i1 : Int := (m1 * 2 ^ (e1 - e).toNat : Nat)
  let i2 : Int := (m2 * 2 ^ (e2 - e).toNat : Nat)
  let t := (if n1 then -i1 else i1) + (if n2 then -i2 else i2)
  if t = 0 then fpZero (n1 && n2) else fpRound (decide (t < 0)) t.natAbs e false

def fpNeg (w : Word) : Word := w ^^^ 0x80000000

def fpAdd (a b : Word) : FpRes :=
  match fpRead a, fpRead b with
  | .nan sa, .nan sb => if sa || sb then fpInvalid else fpOpen
  | .nan sa, _ => if sa then fpInvalid else fpOpen
  | _, .nan sb => if sb then fpInvalid else fpOpen
  | .inf x, .inf y => if x = y then fpInf x else fpInvalid
  | .inf x, _ => fpInf x
  | _, .inf y => fpInf y
  | .fin n1 m1 e1, .fin n2 m2 e2 => fpSum n1 m1 e1 n2 m2 e2

def fpMul (a b : Word) : FpRes :=
  match fpRead a, fpRead b with
  | .nan sa, .nan sb => if sa || sb then fpInvalid else fpOpen
  | .nan sa, _ => if sa then fpInvalid else fpOpen
  | _, .nan sb => if sb then fpInvalid else fpOpen
  | .inf x, .inf y => fpInf (x != y)
  | .inf x, .fin y m _ => if m = 0 then fpInvalid else fpInf (x != y)
  | .fin x m _, .inf y => if m = 0 then fpInvalid else fpInf (x != y)
  | .fin x m e, .fin y k f => fpRound (x != y) (m * k) (e + f) false

/-- A × B + C with one rounding. -/
def fpFma (a b c : Word) : FpRes :=
  let signalling (x : Fp) : Bool := match x with
    | .nan t => t
    | _ => false
  let isNan (x : Fp) : Bool := match x with
    | .nan _ => true
    | _ => false
  let x := fpRead a
  let y := fpRead b
  let z := fpRead c
  if signalling x || signalling y || signalling z then fpInvalid
  else if isNan x || isNan y || isNan z then fpOpen
  else match x, y, z with
    | .fin n m e, .fin p k f, .fin q l g => fpSum (n != p) (m * k) (e + f) q l g
    | .fin _ _ _, .fin _ _ _, .inf q => fpInf q
    | _, _, _ =>
      let p := fpMul a b
      if p.fl ≠ 0 then p else fpAdd p.v c

def fpDiv (a b : Word) : FpRes :=
  match fpRead a, fpRead b with
  | .nan sa, .nan sb => if sa || sb then fpInvalid else fpOpen
  | .nan sa, _ => if sa then fpInvalid else fpOpen
  | _, .nan sb => if sb then fpInvalid else fpOpen
  | .inf _, .inf _ => fpInvalid
  | .inf x, .fin y _ _ => fpInf (x != y)
  | .fin x _ _, .inf y => fpZero (x != y)
  | .fin x m e, .fin y k f =>
    if k = 0 then (if m = 0 then fpInvalid else { fpInf (x != y) with fl := 4 })
    else fpRound (x != y) (m * 2 ^ 40 / k) (e - f - 40) (decide (m * 2 ^ 40 % k ≠ 0))

/-- The integer square root, bit by bit from bit `k - 1` down. -/
def isqrt : Nat → Nat → Nat → Nat
  | 0, _, r => r
  | k + 1, n, r => if (r + 2 ^ k) * (r + 2 ^ k) ≤ n then isqrt k n (r + 2 ^ k) else isqrt k n r

def fpSqrt (a : Word) : FpRes :=
  match fpRead a with
  | .nan t => if t then fpInvalid else fpOpen
  | .inf neg => if neg then fpInvalid else fpInf false
  | .fin neg m e =>
    if m = 0 then fpZero neg
    else if neg then fpInvalid
    else
      let odd := e % 2 ≠ 0
      let n := m * 2 ^ (if odd then 53 else 52)
      let r := isqrt 41 n 0
      fpRound false r ((e - (if odd then 53 else 52)) / 2) (decide (r * r ≠ n))

/-- −1, 0 or 1, and 0 when unordered (R311); a signalling NaN is an invalid operand. -/
def fpCmp (a b : Word) : Int × Nat :=
  let key (x : Fp) : Option Int := match x with
    | .nan _ => none
    | .inf n => some (if n then -(2 ^ 400) else 2 ^ 400)
    | .fin n m e => some (let v : Int := (m * 2 ^ (e + 149).toNat : Nat); if n then -v else v)
  let sig (x : Fp) : Nat := match x with
    | .nan true => 1
    | _ => 0
  let fl := max (sig (fpRead a)) (sig (fpRead b))
  match key (fpRead a), key (fpRead b) with
  | some x, some y => (if x < y then -1 else if y < x then 1 else 0, fl)
  | _, _ => (0, fl)

/-- n · 2^e in binary32. -/
def fpOfInt (n : Int) (e : Int) : FpRes := fpRound (decide (n < 0)) n.natAbs e false

/-- (−1)^neg · m · 2^e as an integer, to nearest with ties to even. -/
def fpToInt (neg : Bool) (m : Nat) (e : Int) : Int :=
  let n : Nat :=
    if 0 ≤ e then m * 2 ^ e.toNat
    else
      let d := 2 ^ (-e).toNat
      let r := m % d
      if d < 2 * r || (2 * r = d && m / d % 2 = 1) then m / d + 1 else m / d
  if neg then -(n : Int) else n

end Sys2Proof.Machine
end

