-- ==== Sys2Proof/Machine/Trig.lean ====
section
/-! DEFINITION. Sine, cosine and arctangent in fixed point with 62 fractional bits, far finer than the 2^-29 that SINCOS and
ATAN2 allow (R311). Angles are fractions of a half-turn. -/

namespace Sys2Proof.Machine

/-- One, π and π/4 with 62 fractional bits. -/
def fxOne : Int := 2 ^ 62
def fxPi : Int := 14488038916154245684

/-- Fixed-point product. -/
def fxMul (a b : Int) : Int := (a * b).ediv (2 ^ 62)

/-- The alternating series 1 − z/(f₁) · (1 − z/(f₂) · …) over the given factors. -/
def fxSeries (z : Int) : List Nat → Int
  | [] => fxOne
  | f :: l => fxOne - (fxMul z (fxSeries z l)).ediv f

/-- Sine and cosine of an angle of at most π/4, given in fixed point. -/
def fxSinCosSmall (x : Int) : Int × Int :=
  let z := fxMul x x
  (fxMul x (fxSeries z [6, 20, 42, 72, 110, 156, 210, 272, 342]), fxSeries z [2, 12, 30, 56, 90, 132, 182, 240, 306])

/-- Sine and cosine of π·a for a Q1.31 angle a. -/
def fxSinCos (a : Int) : Int × Int :=
  let q := (a + 2 ^ 29).ediv (2 ^ 30)
  let r := a - q * 2 ^ 30
  let (s, c) := fxSinCosSmall ((r * fxPi).ediv (2 ^ 31))
  match q % 4 with
  | 0 => (s, c)
  | 1 => (c, -s)
  | 2 => (-s, -c)
  | _ => (-c, s)

/-- u · (1 − u²·(1/3 − u²·(1/5 − …))) over the odd denominators given. -/
def fxAtanSeries (z : Int) : List Nat → Int
  | [] => 0
  | n :: l => fxOne.ediv n - fxMul z (fxAtanSeries z l)

/-- The arctangent of t in [0, 1], in fixed point. -/
def fxAtanUnit (t : Int) : Int :=
  let core (u : Int) : Int :=
    fxMul u (fxAtanSeries (fxMul u u) [1, 3, 5, 7, 9, 11, 13, 15, 17, 19, 21, 23, 25, 27, 29, 31, 33, 35, 37, 39])
  if 1910000000000000000 < t then fxPi.ediv 4 + core (((t - fxOne) * 2 ^ 62).ediv (t + fxOne)) else core t

/-- atan2(y, x) ÷ π with 47 fractional bits, to nearest, for (y, x) other than (0, 0). -/
def fxAtan2Fine (y x : Int) : Int :=
  let ay : Int := y.natAbs
  let ax : Int := x.natAbs
  let t := if ay ≤ ax then fxAtanUnit ((ay * 2 ^ 62).ediv ax) else fxPi.ediv 2 - fxAtanUnit ((ax * 2 ^ 62).ediv ay)
  let t := if x < 0 then fxPi - t else t
  let t := if y < 0 then -t else t
  (2 * t * 2 ^ 47 + fxPi).ediv (2 * fxPi)

/-- The same with 31 fractional bits. -/
def fxAtan2 (y x : Int) : Int := nearDiv (fxAtan2Fine y x) (2 ^ 16)

end Sys2Proof.Machine
end

