-- ==== Sys2Proof/Machine/Mtr.lean ====
section
/-! DEFINITION. Energy metering (R503 to R523): samples and cycle windows, harmonic powers, import and export
accumulators, pulse inputs, the tally store and its commits. -/

namespace Sys2Proof.Machine

/-- One turn of the grid angle in its unit, 2^-48 turn. -/
def turn : Int := 2 ^ 48

/-- Whether the unit runs: not in OFF, KEEPALIVE or BOOT, with `MTR_CFG.EN` = 1 and the regular sequence enabled. -/
def State.mtrOn (s : State) : Bool :=
  s.live && s.st ≠ stBoot && s.on R.MTR_CFG_EN && s.on R.ADC_REG_CFG_EN

/-- The frequency in mHz the angle follows, and whether it is the nominal one (R505). -/
def State.mtrFreq (s : State) : Nat × Bool :=
  let f := s.grd.freshF.toNat
  if decide (s.grd.freshAt + 100 * 1000000 * 2 ^ 41 < s.pt) || decide (f < 40000 ∨ 75000 < f) then
    (if s.on R.MTR_CFG_FNOM then 60000 else 50000, true)
  else (f, false)

/-- The grid angle at a plant time (R505). -/
def State.mtrTheta (s : State) (t : Nat) : Int :=
  s.mtr.th + (((t : Int) - s.mtr.thAt) * s.mtrFreq.1 * turn).ediv (1000 * second)

/-- Puts the angle's base at the present instant, so that a change of frequency applies from here. -/
def State.mtrRebase (s : State) : State :=
  let th := s.mtrTheta s.pt
  { s with mtr := { s.mtr with th := th, thAt := s.pt } }

/-- Starts or stops the unit with its conditions; at a start no window has begun (R505). -/
def State.mtrFollow (s : State) : State :=
  if s.mtrOn = s.mtr.run then s
  else { s with mtr := { s.mtr with
    run := s.mtrOn, wrapped := false, th := 0, thAt := s.pt, winAt := s.pt, smp := [], before := [], bad := false,
    badNext := false, pow := none, commitAt := s.tbp } }

/-! ### Samples (R503 to R507) -/

/-- The plant time of a result word 1, the nearest at or before now (R290). -/
def State.resultTime (s : State) (w : Word) : Nat :=
  let back := (ptSec s.pt % 4 + 4 - w.toNat / 2 ^ 30) % 4
  (ptSec s.pt - back) * second + w.toNat % 2 ^ 30 * 2 ^ 41

/-- The 12-bit code in a 16-bit value (R289). -/
def codeOf (diff left : Bool) (val : Nat) : Int :=
  match diff, left with
  | true, true => (signed 16 val).ediv 16
  | true, false => signed 16 val
  | false, true => val / 16
  | false, false => val

/-- The regular entry that carries channel i. -/
def State.mtrEntry (s : State) (i : Nat) : Nat := s.f ⟨0xF004, 5 * i, 5⟩

/-- The channels the wiring reads (R509). -/
def State.mtrChans (s : State) : List Nat := if s.on R.MTR_CFG_WIRE then [0, 1, 3, 4] else List.range 6

def State.mtrSmp (s : State) (i : Nat) : List MtrSmp := Tab.get (fun _ => []) s.mtr.smp i

/-- The instant, plus 1, of the last used result of channel i; 0 when there is none. -/
def State.mtrLast (s : State) (i : Nat) : Nat :=
  match (s.mtrSmp i).getLast? with
  | some x => x.t + 1
  | none => Tab.get (fun _ => 0) s.mtr.before i

/-- The last used result of channel i before the wrap, as its instant plus 1; 0 when there is none. -/
def State.mtrLastIn (s : State) (i : Nat) : Nat :=
  match ((s.mtrSmp i).filter (·.th < turn)).getLast? with
  | some x => x.t + 1
  | none => Tab.get (fun _ => 0) s.mtr.before i

/-- 2 ms of plant time (R507). -/
def gapMax : Nat := 2 * 1000000 * 2 ^ 41

/-- Whether the window that ends at `at_` is a filled cycle (R507). A channel whose last used result lies more than 2 ms before
the end has no result within 2 ms of it in either window. -/
def State.mtrFilled (s : State) (at_ : Nat) : Bool :=
  s.mtr.bad || s.mtrChans.any fun i => s.mtrLastIn i ≠ 0 && decide (s.mtrLastIn i - 1 + gapMax < at_)

/-- The window of a result at angle `th` becomes a filled cycle. -/
def State.mtrMark (s : State) (th : Int) : State :=
  if th < turn then { s with mtr := { s.mtr with bad := true } } else { s with mtr := { s.mtr with badNext := true } }

/-- Channel i takes its result of the run that has just ended, with the two words of its slot (R503, R507). -/
def State.mtrTake (s : State) (i : Nat) (w0 w1 : Word) : State :=
  let e := s.mtrEntry i
  let t := s.resultTime w1
  let last := s.mtrLast i
  if decide (R.ADC_REG_CFG_LAST.get (s.reg 0x9080) < e) || (last ≠ 0 && decide (t < last)) then s
  else if w0.getLsbD 19 then s.mtrMark (s.mtrTheta t)
  else
    let s := if w0.getLsbD 16 then s.count R.MTR_CNT_OVR 1 else s
    let s := if last ≠ 0 && decide (last - 1 + gapMax < t) then s.mtrMark (s.mtrTheta t) else s
    let ch := s.f (R.ADC_REG_CH e)
    let diff := decide (ch < 32) && s.bitAt R.ADC_AINMODE_DIFF ch
    let x : MtrSmp := { t, th := s.mtrTheta t, c := codeOf diff (s.on (R.ADC_REG_LEFT e)) (w0.toNat % 2 ^ 16) }
    { s with mtr := { s.mtr with smp := Tab.set (fun _ => []) s.mtr.smp i (s.mtrSmp i ++ [x]) } }

/-- METERING_SAMPLE (R503): the unit takes its results from the buffer of the regular run that has just ended. -/
def State.meterSample (s : State) : State :=
  let s := s.mtrFollow
  if !s.mtr.run then s
  else
    let s := s.mtrChans.foldl (fun s i =>
      let a := 0x1F000 + 512 * s.f R.ADC_REG_CFG_BUF + 8 * s.mtrEntry i
      s.mtrTake i (s.word a) (s.word (a + 4))) s
    s.mtrRebase

/-! ### Harmonics and powers (R506 to R509) -/

/-- Each sample's weight, the time between its neighbours: the last sample of the window before and the first of the next
are neighbours; where there is none, the spacing on the other side stands for it. -/
def weights : Nat → List MtrSmp → List (MtrSmp × Int)
  | _, [] => []
  | prev, [x] => [(x, 2 * ((x.t : Int) - prev))]
  | prev, x :: y :: l => (x, (y.t : Int) - prev) :: weights x.t (y :: l)

/-- The samples of a channel with their weights; `next` are samples already taken for the window that follows. -/
def weighted (before : Nat) (l next : List MtrSmp) : List (MtrSmp × Int) :=
  match l with
  | [] => []
  | x :: r =>
    let prev := if before ≠ 0 then before - 1 else match r with
      | y :: _ => 2 * x.t - y.t
      | [] => x.t
    (weights prev (l ++ next.take 1)).take l.length

/-- The sums of code · weight · cos and · sin for order h, in units of 2^-62 (R506). -/
def harmonic (l : List (MtrSmp × Int)) (h : Nat) : Int × Int :=
  l.foldl (fun (a, b) (x, w) =>
    let (sn, cs) := fxSinCos (signed 32 ((x.th * h).ediv (2 ^ 16) % 2 ^ 32).toNat)
    (a + x.c * w * cs, b + x.c * w * sn)) (0, 0)

/-- Phasor sums of orders 1 to 50; an order at or above half the mean sample rate is 0. `t` is the window's length. -/
def harmonics (l : List (MtrSmp × Int)) (t : Nat) (mHz : Nat) : List (Int × Int) :=
  (List.range 50).map fun i =>
    let h := i + 1
    if l.length * second * 1000 ≤ 2 * h * mHz * t then (0, 0) else harmonic l h

/-- The scale of a channel as (−1)^neg · m · 2^e (R503). -/
def State.mtrScale (s : State) (i : Nat) : Bool × Nat × Int :=
  match fpRead (s.reg (0xF010 + 4 * i)) with
  | .fin n m e => (n, m, e)
  | _ => (false, 0, 0)

/-- A code power over the window, times both scales, in 2^-32 mWh per second. -/
def scalePow (num : Int) (t : Nat) (k1 k2 : Bool × Nat × Int) : Int :=
  let sgn : Int := if k1.1 != k2.1 then -1 else 1
  let m : Int := sgn * (num * k1.2.1 * k2.2.1 * 2 ^ 32 * 10)
  let e := k1.2.2 + k2.2.2
  let den := 36 * 2 * t * t * 2 ^ 124
  if t = 0 then 0 else if 0 ≤ e then nearDiv (m * 2 ^ e.toNat) den else nearDiv m (den * 2 ^ (-e).toNat)

/-- P, Q and S of one voltage and one current (R508). -/
def powerOf (v i : List (Int × Int)) (t : Nat) (kv ki : Bool × Nat × Int) : List Int :=
  let sum (g : Int × Int → Int × Int → Int) : Int := (v.zip i).foldl (fun a x => a + g x.1 x.2) 0
  let sq (l : List (Int × Int)) : Nat := l.foldl (fun a x => a + (x.1 * x.1 + x.2 * x.2).toNat) 0
  let p := sum fun a b => a.1 * b.1 + a.2 * b.2
  let q := sum fun a b => a.1 * b.2 - a.2 * b.1
  let z := isqrt 512 (sq v * sq i) 0
  [scalePow p t kv ki, scalePow q t kv ki, (scalePow z t kv ki).natAbs]

/-- A computed quantity with the error R522 allows, ±0.01 % of reading; the error itself is open. -/
def withError (x : Int) (w : Word) : Int := x + (x * ((w.toNat % 201 : Nat) - 100 : Int)).ediv 1000000

/-- Takes `n` free values. -/
def State.takeFrees (s : State) (n : Nat) : List Word × State :=
  ((List.range n).map fun i => Config.free (s.free + i), { s with free := s.free + n })

/-- One set: P, Q, S of the phases and of the sum, from the phases' values (R508, R509). -/
def setPowers (wire : Bool) (ph : List (List Int)) : List Int :=
  let g (p q : Nat) : Int := (ph.getD p []).getD q 0
  let sum (q : Nat) : Int := g 0 q + g 1 q + g 2 q
  if wire then
    let s := isqrt 256 (sum 0 * sum 0 + sum 1 * sum 1).toNat 0
    List.replicate 9 0 ++ [sum 0, sum 1, s]
  else ph.flatten ++ [sum 0, sum 1, sum 2]

/-- The 24 powers of the window of length t that has just ended (R506 to R509). -/
def State.windowPowers (s : State) (t : Nat) (mHz : Nat) : List Int × State :=
  let wire := s.on R.MTR_CFG_WIRE
  let ph := if wire then [0, 1] else [0, 1, 2]
  let har (i : Nat) : List (Int × Int) :=
    let l := s.mtrSmp i
    harmonics (weighted (Tab.get (fun _ => 0) s.mtr.before i) (l.filter (·.th < turn)) (l.filter (turn ≤ ·.th))) t mHz
  let vs := ph.map fun p => (har p, har (3 + p), s.mtrScale p, s.mtrScale (3 + p))
  let tot := vs.map fun (v, i, kv, ki) => powerOf v i t kv ki
  let fund := vs.map fun (v, i, kv, ki) => powerOf (v.take 1) (i.take 1) t kv ki
  let (fr, s) := s.takeFrees 18
  let err (off : Nat) (l : List (List Int)) : List (List Int) :=
    (List.range l.length).map fun p => (List.range 3).map fun q =>
      withError ((l.getD p []).getD q 0) (fr.getD (off + 3 * p + q) 0)
  (setPowers wire (err 0 tot) ++ setPowers wire (err 9 fund), s)

/-! ### Accumulators (R510, R511) -/

/-- Adds an energy in 2^-32 units to accumulator i, saturating. -/
def State.accAdd (s : State) (i e : Nat) : State :=
  let a := Tab.get (fun _ => 0) s.mtr.acc i
  { s with mtr := { s.mtr with acc := Tab.set (fun _ => 0) s.mtr.acc i (min ((2 ^ 64 - 1) * 2 ^ 32 + (2 ^ 32 - 1)) (a + e)) } }

/-- Adds a window's energies, its powers over a time t of plant time, to every accumulator that advances (R510). -/
def State.addEnergies (s : State) (pow : List Int) (t : Nat) : State :=
  let wire := s.on R.MTR_CFG_WIRE
  s.each (List.range 8) fun k s =>
    if wire && k % 4 ≠ 3 then s
    else
      let g (q : Nat) : Int := pow.getD (3 * k + q) 0
      let e (x : Int) : Nat := x.natAbs * t / second
      let i := 20 * (k / 4) + 5 * (k % 4)
      let s := if g 0 < 0 then s.accAdd i (e (g 0)) else s.accAdd (i + 1) (e (g 0))
      let s := if g 1 < 0 then s.accAdd (i + 2) (e (g 1)) else s.accAdd (i + 3) (e (g 1))
      s.accAdd (i + 4) (e (g 2))

/-- A power in W, var or VA as binary32. -/
def powFloat (x : Int) : Word := (fpOfInt (nearDiv (x * 36 * 2 ^ 20) 10) (-52)).v

/-- `MTR_LASTj` of a window (R523). -/
def State.showLast (s : State) (pow : List Int) (mHz : Nat) : State :=
  let g (i : Nat) : Word := powFloat (pow.getD i 0)
  let put (s : State) (j : Nat) (w : Word) : State := s.setReg (0xF300 + 4 * j) w
  put (put (put (put (put (put s 0 (g 9)) 1 (g 10)) 2 (g 11)) 3 (g 21)) 4 (g 22)) 5
    (fpOfInt (nearDiv ((mHz : Int) * 2 ^ 32) 1000) (-32)).v

/-- CYCLE_WINDOW_END: the grid angle has wrapped; the window's powers and energies are formed, or a filled cycle takes the
powers of the window before (R505 to R511). -/
def State.windowEnd (s : State) : State :=
  let s := s.mtrFollow
  if !s.mtr.run || s.mtrTheta s.pt < turn then s
  else
    let (f, _) := s.mtrFreq
    let m := s.mtr
    let at_ := m.thAt + ((turn - m.th) * 1000 * second / (f * turn)).toNat
    let t := at_ - m.winAt
    let s :=
      if !m.wrapped then s
      else if s.mtrFilled at_ then
        let s := s.count R.MTR_CNT_FILL 1
        match m.pow with
        | some p => (s.addEnergies p t).showLast p f
        | none => s.showLast [] f
      else
        let (p, s) := s.windowPowers t f
        ({ s.addEnergies p t with mtr := { (s.addEnergies p t).mtr with pow := some p } } : State).showLast p f
    let next := m.smp.map fun e => (e.1, (e.2.filter fun x => turn ≤ x.th).map fun x => { x with th := x.th - turn })
    let last (l : List MtrSmp) : Option Nat := ((l.filter fun x => x.th < turn).getLast?).map (·.t + 1)
    let before := m.smp.foldl (fun b e => match last e.2 with
      | some t => Tab.set (fun _ => 0) b e.1 t
      | none => b) m.before
    { s with mtr := { s.mtr with
      wrapped := true, th := m.th - turn, winAt := at_, bad := m.badNext, badNext := false, before := before,
      smp := next.filter fun e => !e.2.isEmpty } }

/-! ### Pulse inputs (R512 to R515) -/

def State.pls (s : State) (k : Nat) : PlsSt := Tab.get (fun _ => {}) s.mtr.pls k

/-- PULSE_COUNT: input k has changed to or from its active level and stayed there for `ms` samples (R512 to R514). -/
def State.pulseCount (s : State) (k : Nat) (active : Bool) (ms : Nat) : State :=
  let p := s.pls k
  if !s.mtrOn || !s.on (R.MTR_PIN_EN k) || p.act = active then s
  else if ms < s.f (R.MTR_PIN_DB k) then s.count R.MTR_CNT_BNC 1
  else
    let p : PlsSt :=
      if active then { act := true, cnt := (p.cnt + 1) % 2 ^ 32, tot := (p.tot + s.f (R.MTR_PWT_W k)) % 2 ^ 64 }
      else { p with act := false }
    { s with mtr := { s.mtr with pls := Tab.set (fun _ => {}) s.mtr.pls k p } }

/-! ### The tally store (R516 to R521) -/

/-- The three words of a 96-bit value: bits 31:0 and 63:32 of the whole part, then the remainder. -/
def accWords (a : Nat) : List Word :=
  [BitVec.ofNat 32 (a / 2 ^ 32), BitVec.ofNat 32 (a / 2 ^ 64), BitVec.ofNat 32 a]

/-- A record without its CRC, then with it (R516). -/
def State.tallyRecord (s : State) (seq : Nat) : List Word :=
  let p := s.pt
  let body : List Word :=
    [BitVec.ofNat 32 seq, BitVec.ofNat 32 (ptNs p), BitVec.ofNat 32 (ptSec p),
     BitVec.ofNat 32 (ptSec p / 2 ^ 32 % 2 ^ 16 + ptFrac p * 2 ^ 16)] ++
    (List.range 40).flatMap (fun i => accWords (Tab.get (fun _ => 0) s.mtr.acc i)) ++
    (List.range 8).flatMap (fun k =>
      [BitVec.ofNat 32 (s.pls k).cnt, BitVec.ofNat 32 (s.pls k).tot, BitVec.ofNat 32 ((s.pls k).tot / 2 ^ 32)]) ++
    List.replicate 107 0
  body ++ [BitVec.ofNat 32 (crc32 (body.flatMap wordBytes))]

/-- Whether a record is valid (R516). -/
def tallyOk (l : List Word) : Bool :=
  l.length = 256 && crc32 ((l.take 255).flatMap wordBytes) = (l.getD 255 0).toNat

/-- The newest valid record, as its index and its sequence number (R516, R519). -/
def State.tallyNewest (s : State) : Option (Nat × Nat) :=
  let g (i : Nat) : Option (Nat × Nat) :=
    match Tab.look s.mtr.tally i with
    | some l => if tallyOk l then some (i, (l.getD 0 0).toNat) else none
    | none => none
  match g 0, g 1 with
  | some a, some b => if a.2 < b.2 then some b else some a
  | some a, none => some a
  | none, b => b

/-- Starts a commit: the snapshot is taken, and the record that does not hold the newest valid copy is written from here on.
A commit in progress is abandoned for it (R517, R518). -/
def State.tallyStart (s : State) (final : Bool) : State :=
  let i := match s.mtr.writing, s.tallyNewest with
    | some w, _ => w.1
    | none, some (j, _) => 1 - j
    | none, none => 0
  let seq := (s.f R.MTR_TSEQ_SEQ + 1) % 2 ^ 32
  { s with mtr := { s.mtr with
    tally := Tab.del s.mtr.tally i, writing := some (i, s.tallyRecord seq, final) } }

/-- TALLY_COMMIT: 400,000,000 TBP counts after the last one (R517). -/
def State.tallyCommit (s : State) : State :=
  let s := s.mtrFollow
  if s.mtr.run && s.mtr.writing.isNone && decide (s.mtr.commitAt + perSec ≤ s.tbp) then
    ({ s with mtr := { s.mtr with commitAt := s.mtr.commitAt + perSec } } : State).tallyStart false
  else s

/-- The record is in the store and its sequence number is shown. -/
def State.tallyWritten (s : State) : State :=
  match s.mtr.writing with
  | none => s
  | some (i, l, _) =>
    ({ s with mtr := { s.mtr with tally := Tab.put s.mtr.tally i l, writing := none } } : State).setReg 0xF03C (l.getD 0 0)

/-- TALLY_WRITE_COMPLETE of a periodic commit. -/
def State.tallyComplete (s : State) : State :=
  match s.mtr.writing with
  | some (_, _, false) => s.tallyWritten
  | _ => s

/-- The final commit (R518): the partial window at the powers of the last complete one, then the snapshot. -/
def State.finalCommit (s : State) : State :=
  let s := match s.mtr.run && s.mtr.wrapped, s.mtr.pow with
    | true, some p => s.addEnergies p (s.pt - s.mtr.winAt)
    | _, _ => s
  s.tallyStart true

/-- TALLY_RESTORE and MTR_TALLY_LOST (R519). -/
def State.tallyRestore (s : State) : State :=
  match s.tallyNewest with
  | none =>
    let s : State := { s with mtr := { s.mtr with acc := [], pls := [] } }
    ((s.setF R.MTR_STAT_TLOST 1).setReg 0xF03C 0).post 0x0F01 0
  | some (i, seq) =>
    let l := (Tab.look s.mtr.tally i).getD []
    let w (k : Nat) : Nat := (l.getD k 0).toNat
    let s := s.setReg 0xF03C (BitVec.ofNat 32 seq)
    let acc := (List.range 40).foldl (fun t j =>
      Tab.set (fun _ => 0) t j ((w (4 + 3 * j) + w (5 + 3 * j) * 2 ^ 32) * 2 ^ 32 + w (6 + 3 * j))) ([] : Tab Nat)
    let pls := (List.range 8).foldl (fun t k =>
      Tab.set (fun _ => ({} : PlsSt)) t k { cnt := w (124 + 3 * k), tot := w (125 + 3 * k) + w (126 + 3 * k) * 2 ^ 32 })
      ([] : Tab PlsSt)
    { s with mtr := { s.mtr with acc := acc, pls := pls } }

/-! ### Commands (R520, R523) -/

/-- Copies all accumulators and pulse totals into the read registers at one instant (R520). -/
def State.mtrSnap (s : State) : State :=
  let t := (List.range 40).foldl (fun t i => Tab.set (fun _ => 0) t i (Tab.get (fun _ => 0) s.mtr.acc i / 2 ^ 32))
    ([] : Tab Nat)
  let t := (List.range 8).foldl (fun t k =>
    Tab.set (fun _ => 0) (Tab.set (fun _ => 0) t (40 + k) (s.pls k).tot) (48 + k) (s.pls k).cnt) t
  { s with mtr := { s.mtr with snap := t } }

/-- Clears every accumulator, remainder and pulse total in STANDBY, and commits at once (R520). -/
def State.mtrClear (s : State) : Status × State :=
  if s.inSt [stStandby] then
    let s : State := { s with mtr := { s.mtr with acc := [], pls := s.mtr.pls.map fun e => (e.1, { e.2 with tot := 0 }) } }
    let s : State := { s with mtr := { s.mtr with pls := s.mtr.pls.filter fun e => e.2 ≠ {} } }
    (.done, (s.tallyStart false).post 0x0F02 0)
  else (.state, s)

/-- Clears the three counts of `MTR_CNT`. -/
def State.mtrCntClear (s : State) : State := ((s.setF R.MTR_CNT_FILL 0).setF R.MTR_CNT_OVR 0).setF R.MTR_CNT_BNC 0

def execCycleWindowEnd (s : State) : Out := .next (s.onMain s.windowEnd)
def execPulseCount (k : Fin 8) (active : Bool) (ms : Nat) (s : State) : Out := .next (s.onMain (s.pulseCount k active ms))
def execTallyCommit (s : State) : Out := .next (s.onMain s.tallyCommit)
def execTallyWriteComplete (s : State) : Out := .next (s.onMain s.tallyComplete)
def execMtrCtlSnap (s : State) : Out := .next (s.onMain (s.mtrSnap.wres 0xF030 .done))
def execMtrCtlClr (s : State) : Out := .next (s.onMain ((s.mtrClear).2.wres 0xF030 (s.mtrClear).1))
def execMtrCntClr (s : State) : Out := .next (s.onMain (s.mtrCntClear.wres 0xF038 .done))
def execMtrTlostClear (s : State) : Out := .next (s.onMain ((s.setF R.MTR_STAT_TLOST 0).wres 0xF034 .done))

end Sys2Proof.Machine
end

