-- ==== Sys2Proof/Machine/Adc.lean ====
section
/-! DEFINITION. The conversion subsystem (R255 to R302, R252, R593): channels, lanes and slices, the three sequences, and
the results in CE data memory and the capture path. Instants of this block are TBA edges (R99). -/

namespace Sys2Proof.Machine

/-! ### Lanes, slices and channels -/

/-- The sixteen converter lanes. -/
def lanes16 : List Nat := List.range 16

/-- Whether a sequence is enabled. -/
def State.seqOn (s : State) : Nat → Bool
  | 0 => s.on R.ADC_REG_CFG_EN
  | 1 => s.on R.ADC_INJ_CFG_EN
  | _ => s.f R.ADC_MON_CFG_MODE ≠ 0

/-- ACQ in TBA counts; whole 40 ns ticks in coarse mode (R271, R274). -/
def State.acq (s : State) : Nat :=
  let a := max 8 (s.f R.ADC_CTL_ACQ)
  if s.coarse then 8 * ceilDiv a 8 else a

/-- Whether a channel code is a differential pair (R255, R256). -/
def State.chDiff (s : State) (ch : Nat) : Bool := decide (ch < 32) && s.bitAt R.ADC_AINMODE_DIFF ch

/-- Whether a channel reads the DAC of a disabled comparator (R251, R259). -/
def State.chDead (s : State) (ch : Nat) : Bool :=
  decide (64 ≤ ch ∧ ch < 112) && !s.on (R.CMP_CFG_EN ((ch - 64) / 2))

/-- The entries a run of a sequence would start with now (R279, R284). -/
def State.entries (s : State) (q : Nat) : List Conv :=
  let n := if q = 0 then s.f R.ADC_REG_CFG_LAST + 1 else s.f R.ADC_INJ_CFG_LAST + 1
  (List.range n).map fun e =>
    if q = 0 then { seq := 0, ent := e, ch := s.f (R.ADC_REG_CH e), lane := s.f (R.ADC_REG_LANE e), left := s.on (R.ADC_REG_LEFT e) }
    else { seq := 1, ent := e, ch := s.f (R.ADC_INJ_CH e), lane := s.f (R.ADC_INJ_LANE e), left := s.on (R.ADC_INJ_LEFT e) }

/-- The monitor table as the walk takes it at entry 0 (R288): the two words of each entry. -/
def State.monTable (s : State) : List (Word × Word) :=
  (List.range (s.f R.ADC_MON_CFG_LAST + 1)).map fun e => (s.reg (0x9400 + 8 * e), s.reg (0x9404 + 8 * e))

def monCh (w : Word) : Nat := w.toNat % 128
def monLane (w : Word) : Nat := w.toNat / 256 % 16
def monLeft (w : Word) : Bool := w.toNat.testBit 12
def monRep (w : Word) : Nat := w.toNat / 2 ^ 16 % 256 + 1

/-- The channel of the next conversion planned on lane k (R262): on a monitor lane the walk's next entry there, after its end the
first of the next walk's table (R287, R288); while an injected run is in progress elsewhere, regular entries
of a lane it is done with come before a queued injected run (R278, R282). -/
def State.nextCh (s : State) (k : Nat) : Option Nat :=
  let first (l : List Conv) : Option Nat := (l.find? (·.lane = k)).map (·.ch)
  let injq := if s.adc.inj.queued then first (s.entries 1) else none
  if s.bitAt R.ADC_LANECL_MON k then
    ((s.adc.mon.ents.drop s.adc.ptr ++ s.monTable).find? (fun e => monLane e.1 = k)).map (monCh ·.1)
  else
    first s.adc.inj.todo |>.or (if s.adc.inj.running then none else injq) |>.or (first s.adc.reg.todo) |>.or injq
      |>.or (first (s.entries 0))

/-- Every lane that performs no conversion selects the channel of its next planned conversion (R262); a switch between two TBA
edges counts from the later one (R271). -/
def State.park (s : State) : State :=
  s.each lanes16 fun k s =>
    let l := s.lane k
    match l.conv, s.nextCh k with
    | none, some ch => if l.mux = ch then s else s.setLane k { l with mux := ch, swAt := (s.tbp + 1) / 2 }
    | _, _ => s

/-- Whether lane k may sample a channel now (R262, R271). -/
def State.laneReady (s : State) (k ch : Nat) : Bool :=
  let l := s.lane k
  l.conv.isNone && decide (l.mux = ch) && decide (l.swAt + s.acq ≤ s.tba)

/-- Shows the runs in progress and the queued triggers (R302). -/
def State.showRun (s : State) : State :=
  let b (x : SeqSt) : Nat := bit x.running + 2 * bit x.queued
  s.setF R.ADC_STAT_RUN (b s.adc.reg + 4 * b s.adc.inj + 16 * b s.adc.mon)

/-! ### Results (R289 to R297) -/

/-- The buffer slot of an entry's result (R294, R295). -/
def State.slotAddr (s : State) (q e : Nat) : Nat :=
  match q with
  | 0 => 0x1F000 + 512 * s.f R.ADC_REG_CFG_BUF + 8 * e
  | 1 => 0x1F000 + 512 * s.f R.ADC_INJ_CFG_BUF + 8 * e
  | _ => 0x1F000 + 512 * (s.adc.mon.buf + e / 64) + 8 * (e % 64)

/-- The code of an input of v units of 0.25 nV, clamped, and whether it lies beyond full scale (R289, R292). -/
def adcCode (diff : Bool) (v : Int) : Int × Bool :=
  if diff then (clampInt (-2048) 2047 ((v * 2048).ediv 10000000000), decide (v < -10000000000 ∨ 10000000000 < v))
  else (clampInt 0 4095 ((v * 4096).ediv 10000000000), decide (v < 0 ∨ 10000000000 < v))

/-- The code of a die temperature of `t` in 0.001 °C (R258), and whether it lies beyond the code's ends. -/
def tempCode (t : Int) : Int × Bool :=
  let c := 1024 + (8192 * (t - 25000)).ediv 1000000
  (clampInt 0 4095 c, decide (c < 0 ∨ 4095 < c))

/-- The error of a conversion within the bounds of R299: offset, non-linearity and gain, in units of 0.25 nV. -/
def convErr (e : Int) : Int := clampInt (-18544921) 18544921 e

/-- What a conversion has sampled, in units of 0.25 nV (R251, R255, R256). -/
def Conv.input (c : Conv) (p q : Int) : Int :=
  if c.ch < 32 then (if c.diff then p - q else p)
  else if c.ch < 64 then q
  else if c.ch < 112 then c.dac + convErr p
  else if c.ch = 115 then p.ediv 2
  else if c.ch = 117 then 5000000000 + convErr p
  else if 118 ≤ c.ch then convErr p
  else p

/-- The code of a conversion, and whether its input lay beyond full scale (R258, R289, R292). An error of R299 that takes the DAC,
1.25 V or ground channels below 0 is no input beyond full scale. -/
def Conv.code (c : Conv) (p q : Int) : Int × Bool :=
  if c.ch = 112 ∨ c.ch = 113 then tempCode p
  else
    let r := adcCode c.diff (c.input p q)
    if (64 ≤ c.ch ∧ c.ch < 112) ∨ 117 ≤ c.ch then (r.1, false) else r

/-- Whether `OVR` is open for an input inside the range: within 4 codes of full scale (R292). -/
def nearFull (diff : Bool) (c : Int) : Bool :=
  if diff then decide (c ≤ -2044 ∨ 2043 ≤ c) else decide (c ≤ 4 ∨ 4091 ≤ c)

/-- The 16-bit value of R289. -/
def adcVal (left : Bool) (c : Int) : Nat := if left then unsigned 12 c * 16 else unsigned 16 c

/-- A run's record material joins the record being collected for its sequence; the record is written when another run of
the same size would not fit (R593). -/
def State.packRun (s : State) (q : Nat) : State :=
  if s.part ≠ .c8 || !s.captures (q + 1) then s
  else
    let x := s.adcSeq q
    let vals := x.vals.map (·.2)
    let rec pairUp : List Nat → List Word
      | [] => []
      | [a] => [BitVec.ofNat 32 a]
      | a :: b :: l => BitVec.ofNat 32 (a + b * 2 ^ 16) :: pairUp l
    let t := ptWord x.edgePt
    let run := t :: pairUp vals
    let p := Tab.get (fun _ => ({} : Pack)) s.adc.pack q
    let p : Pack := { n := p.n + 1, flg := p.flg ||| x.flg, t := if p.n = 0 then t else p.t, ws := p.ws ++ run }
    if 62 < p.ws.length + run.length then
      let s : State := { s with adc := { s.adc with pack := Tab.del s.adc.pack q } }
      s.capture (q + 1) p.flg p.n p.t p.ws
    else { s with adc := { s.adc with pack := Tab.set (fun _ => {}) s.adc.pack q p } }

/-- Ends a run whose last conversion has ended: the status slot follows the last result (R277, R294, R296). -/
def State.endRun (s : State) (q : Nat) : State :=
  let x := s.adcSeq q
  let busy := lanes16.any fun k => (s.lane k).conv.any fun c => c.seq = q
  let walking := q = 2 && decide (s.adc.ptr < x.ents.length)
  if !x.running || busy || walking || !x.todo.isEmpty then s
  else if q = 2 then (s.setSeq 2 { x with running := false }).showRun
  else
    let s := s.setWords (s.slotAddr q 63)
      [BitVec.ofNat 32 (x.runs % 2 ^ 16 + bit x.loss * 2 ^ 16), ptWord x.edgePt]
    let s := s.packRun q
    let s := if q = 0 then s.meterSample else s
    (s.setSeq q { s.adcSeq q with running := false, vals := [], flg := 0 }).showRun

/-- Whether the result of conversion `c` on lane k arrives through crossing 5 (R297). -/
def State.arrives (s : State) (k : Nat) (c : Conv) : Bool :=
  !c.lost && !(s.xing 5).inReset && decide ((s.fifo 5 k).length + 2 ≤ fifoDepth 5)

/-- One result of two words reaches its slot through crossing 5, or is lost there when not both words find room or one of them has
been discarded (R290, R296, R297). -/
def State.result (s : State) (k : Nat) (c : Conv) (val : Nat) (ovr flt : Bool) : State :=
  let w0 := BitVec.ofNat 32 (val + bit ovr * 2 ^ 16 + bit c.rst * 2 ^ 17 + bit c.dfr * 2 ^ 18 + bit flt * 2 ^ 19 +
    k * 2 ^ 20 + (s.lane k).slice * 2 ^ 24 + c.tag % 8 * 2 ^ 29)
  let w1 := ptWord c.pt
  let flg := bit ovr + 2 * bit c.rst + 4 * bit c.dfr + 8 * bit flt
  let s := if ovr then s.setBit R.ADC_OVRL_LANE k true else s
  let x := s.adcSeq c.seq
  let s := if c.seq = 2 then s else s.setSeq c.seq { x with vals := Tab.put x.vals c.ent val, flg := x.flg ||| flg }
  let s :=
    if c.lost then s
    else if !s.arrives k c then
      let room := min 2 (fifoDepth 5 - (s.fifo 5 k).length)
      let s := if (s.xing 5).inReset then s.count (R.XDC_STAT_DISC 5) 2 else (s.count (R.XDC_STAT_LOST 5) (2 - room)).overrun 5
      if c.seq = 2 then s.setF R.ADC_STAT_MONLOSS 1 else s.setSeq c.seq { s.adcSeq c.seq with loss := true }
    else
      let s := s.setWords (s.slotAddr c.seq c.ent) [w0, w1]
      if c.seq = 2 then { s with adc := { s.adc with latest := Tab.set (fun _ => 0) s.adc.latest c.ent w0 } } else s
  if c.seq = 2 && s.part = .c8 then s.capture 3 flg 1 w1 [w0, w1] else s

/-- The readback check of a threshold DAC when a result of its channel arrives (R252). -/
def State.dacCheck (s : State) (ch : Nat) (code : Int) : State :=
  let n := (ch - 64) / 2
  let c := if ch % 2 = 0 then s.f (R.CMP_THR_HI n) else s.f (R.CMP_THR_LO n)
  if (s.f R.CMP_CHK_TOL : Int) < (code - 4 * c).natAbs then (s.setBit R.CMP_CHKF_FAIL n true).post 0x0801 n n else s

/-- The conversion on lane k ends with its result; the lane is free again. -/
def State.finish (s : State) (k : Nat) (c : Conv) (val : Nat) (ovr flt : Bool) : State :=
  let s := (s.result k c val ovr flt).setLane k { s.lane k with conv := none }
  (s.endRun c.seq).park

/-! ### Sampling -/

/-- Whether the slice behind lane k has failed (R270). -/
def State.laneDead (s : State) (k : Nat) : Bool := s.bitAt R.ADC_SLFAIL_FAIL (s.lane k).slice

/-- The level of a DAC of comparator n now, in units of 0.25 nV: c × 2.5 V ÷ 1,024, off by at most one code (R250, R251). -/
def State.dacLevel (s : State) (n : Nat) (hi : Bool) : Int :=
  let (a, b) := codeSpan (s.dacCodes n hi)
  s.within (200 + 2 * n + bit hi) 0 ((b - a + 2) * 9765625) + (a : Int) * 9765625 - 9765625

/-- A planned conversion samples now; on a failed slice its entry returns 0 with `FLT` at once (R270). -/
def State.sample (s : State) (k : Nat) (c : Conv) : State :=
  let n := (c.ch - 64) / 2
  let c := { c with at_ := s.tba, pt := s.ptAt (2 * s.tba), diff := s.chDiff c.ch }
  let s := s.setLane k { s.lane k with lastSeq := some c.seq }
  if s.laneDead k then s.finish k c 0 false true
  else s.setLane k { s.lane k with conv := some { c with
    flt := s.chDead c.ch, dac := s.dacLevel n (c.ch % 2 = 0), moved := s.cmpMoving n } }

/-- The conversion that is next in line on lane k among the runs in progress: injected first (R280, R283). -/
def State.nextConv (s : State) (k : Nat) : Option Conv :=
  (s.adc.inj.todo.find? (·.lane = k)).or (s.adc.reg.todo.find? (·.lane = k))

/-- Takes a conversion off its sequence's list. -/
def State.unplan (s : State) (c : Conv) : State :=
  let x := s.adcSeq c.seq
  s.setSeq c.seq { x with todo := x.todo.erase c }

/-- SAMPLING_INSTANT: the next planned conversion of the lane samples once R271 holds; an injected entry not before ACQ
after its start edge (R272, R281, R282). -/
def State.samplingInstant (s : State) (k : Nat) : State :=
  match s.nextConv k with
  | none => s
  | some c =>
    if s.laneReady k c.ch && (c.seq ≠ 1 || decide (s.adc.inj.edge + s.acq ≤ s.tba)) then (s.unplan c).sample k c else s

/-- The first entry of each lane, in entry order. -/
def firsts (l : List Conv) : List Conv :=
  (lanes16.filterMap fun k => l.find? (·.lane = k))

/-- Starts a regular run at the present edge: the first entry of each lane samples where R271 holds and no injected entry
holds the lane; what comes later carries `DEF` (R272, R273, R283). -/
def State.startRegular (s : State) (queued : Bool) : State :=
  let held (k : Nat) : Bool := s.adc.inj.todo.any (·.lane = k) || (s.lane k).conv.any fun c => c.seq = 1
  let x := s.adc.reg
  let runs := x.runs + 1
  let todo := (s.entries 0).map fun c => { c with dfr := queued || held c.lane, tag := runs % 8 }
  let s := s.setSeq 0 { x with running := true, queued := false, runs := runs, edge := s.tba, edgePt := s.ptAt (2 * s.tba), todo := todo,
                               loss := false, vals := [], flg := 0 }
  let s := s.showRun.park
  (firsts todo).foldl (fun s c =>
    if held c.lane then s
    else if s.laneReady c.lane c.ch then (s.unplan c).sample c.lane c
    else
      let x := s.adc.reg
      s.setSeq 0 { x with todo := x.todo.map fun d => if d = c then { c with dfr := true } else d }) s

/-- Starts an injected run: it claims its lanes, aborts the regular conversions there, and regular entries wait (R280 to
R283). A regular conversion that sampled at this same edge gives way without a restart. -/
def State.startInjected (s : State) (queued : Bool) : State :=
  let x := s.adc.inj
  let runs := x.runs + 1
  let todo := (s.entries 1).map fun c => { c with dfr := queued, tag := runs % 8 }
  let claimed (k : Nat) : Bool := todo.any (·.lane = k)
  let s := s.setSeq 1 { x with running := true, queued := false, runs := runs, edge := s.tba, edgePt := s.ptAt (2 * s.tba), todo := todo,
                               loss := false, vals := [], flg := 0 }
  let r := s.adc.reg
  let s := s.setSeq 0 { r with todo := r.todo.map fun c => if claimed c.lane then { c with dfr := true } else c }
  let s := s.each (lanes16.filter claimed) fun k s =>
    match (s.lane k).conv with
    | some c =>
      if c.seq = 0 then
        let r := s.adc.reg
        let back := { c with rst := c.rst || decide (c.at_ ≠ s.tba), dfr := true, at_ := 0, flt := false, lost := false }
        (s.setSeq 0 { r with todo := back :: r.todo }).setLane k { s.lane k with conv := none }
      else s
    | none => s
  s.showRun.park

/-- Starts the walk of the monitor table at entry 0, its first issue measured from the present edge (R287, R288); the buffers go
with the table (R295). -/
def State.startWalk (s : State) (queued : Bool) : State :=
  let x := s.adc.mon
  let s := s.setSeq 2 { x with running := true, queued := false, runs := x.runs + 1, edge := s.tba, edgePt := s.ptAt (2 * s.tba),
                               ents := s.monTable, buf := s.f R.ADC_MON_CFG_BUF, dfr := queued }
  ({ s with adc := { s.adc with ptr := 0, rep := 0, prev := s.tba, dly := 0 } } : State).showRun.park

/-- Starts a run of a sequence. -/
def State.startRun (s : State) (q : Nat) (queued : Bool) : State :=
  match q with
  | 0 => s.startRegular queued
  | 1 => s.startInjected queued
  | _ => s.startWalk queued

/-! ### Triggers (R264, R276 to R279, R287) -/

/-- The drop count of a sequence. -/
def dropFld : Nat → Fld
  | 0 => R.ADC_DROP_REG
  | 1 => R.ADC_DROP_INJ
  | _ => R.ADC_DROP_MON

/-- CONVERTER_TRIGGER: a trigger reaches a sequence now. While a queued run has not started, the previous one ended or not, a
further trigger is dropped (R277). -/
def State.trigger (s : State) (q : Nat) : State :=
  let x := s.adcSeq q
  if !s.live || !s.seqOn q || x.last = some s.tba then s
  else
    let s := s.setSeq q { x with last := some s.tba }
    let x := s.adcSeq q
    if !s.on R.ADC_STAT_CALOK then s.count R.ADC_DROP_EARLY 1
    else if q = 2 && s.f R.ADC_MON_CFG_MODE = 1 then s.startWalk false
    else if !x.running && !x.queued then s.startRun q false
    else if !x.queued then (s.setSeq q { x with queued := true }).showRun.park
    else (s.count (dropFld q) 1).post 0x0901 (16 + q) (q + 1)

/-- The counts of crossing 4 that bring a trigger of sequence q: of the PTC target and of the trigger inputs bound to it
(R275). -/
def State.trigCounts (s : State) (q : Nat) : List Nat :=
  (16 + q) :: (List.range 16).filter fun n => s.f (R.ADC_TRIG_SEQ n) = q + 1

/-- The converter takes what crossing 4 has delivered for sequence q (R131, R276). -/
def State.takeTrig (s : State) (q : Nat) : State :=
  s.each (s.trigCounts q) fun ch s => s.setXing (100 + ch) { s.xing (100 + ch) with got := 0 }

/-- QUEUED_RUN_START (R278): the previous run has ended and every lane of the new run meets R271 for its first entry. -/
def State.queuedStart (s : State) (q : Nat) : State :=
  let x := s.adcSeq q
  let first (k : Nat) : Option Nat :=
    if q = 2 then (s.monTable.find? fun e => monLane e.1 = k).map (monCh ·.1)
    else ((s.entries q).find? (·.lane = k)).map (·.ch)
  let free (k : Nat) : Bool := q ≠ 0 || !(s.adc.inj.todo.any (·.lane = k))
  if !x.queued || x.running then s
  else if lanes16.all fun k => (first k).all fun ch => s.laneReady k ch && free k then s.startRun q true
  else s

/-- Whether lane k is taken for an isolation test (R468). -/
def State.testLane (s : State) (k : Nat) : Bool :=
  s.saf.test = 2 && (k = s.f R.SAF_TST_LANEA || k = s.f R.SAF_TST_LANEB)

/-- MONITOR_ISSUE (R285, R286); an entry on a lane taken for an isolation test waits and then carries `DEF` (R468). -/
def State.monitorIssue (s : State) : State :=
  let a := s.adc
  match a.mon.ents[a.ptr]? with
  | none => s
  | some e =>
    let k := monLane e.1
    if s.testLane k then
      if a.mon.running && decide (a.prev + 200 * a.dly ≤ s.tba) then { s with adc := { s.adc with held := true } } else s
    else if a.mon.running && s.on R.ADC_STAT_CALOK && s.laneReady k (monCh e.1) && decide (a.prev + 200 * a.dly ≤ s.tba) then
      let c : Conv :=
        { seq := 2, ent := a.ptr, ch := monCh e.1, lane := k, left := monLeft e.1, tag := a.rep % 8,
          dfr := a.held || a.mon.dfr }
      let more := decide (a.rep + 1 < monRep e.1)
      let ptr := if more then a.ptr else a.ptr + 1
      let s : State := { s with adc := { s.adc with
        held := false, prev := s.tba, dly := e.2.toNat % 2 ^ 16, rep := if more then a.rep + 1 else 0, ptr := ptr } }
      let s : State :=
        if ptr = a.mon.ents.length && s.f R.ADC_MON_CFG_MODE = 1 then
          { s with adc := { s.adc with ptr := 0, mon := { s.adc.mon with ents := s.monTable, buf := s.f R.ADC_MON_CFG_BUF } } }
        else s
      (s.sample k c).park
    else s

/-- A commit has changed `ADC_MON_CFG.MODE` (R287): 1 starts the walk, 0 stops it after the conversion in progress, and 2
waits for its trigger. -/
def State.monModeChange (s : State) : State :=
  if s.f R.ADC_MON_CFG_MODE = 1 then s.startWalk false
  else
    let x := s.adc.mon
    (({ s.setSeq 2 { x with queued := false, ents := [] } with adc := { s.adc with
      ptr := 0, rep := 0, mon := { x with queued := false, ents := [] } } } : State).endRun 2).showRun

/-! ### Ends of conversions -/

/-- CONVERSION_END: the conversion in progress on lane k ends with the input it sampled. -/
def State.conversionEnd (s : State) (k : Nat) (p q : Int) : State :=
  match (s.lane k).conv with
  | none => s
  | some c =>
    if c.flt then s.finish k c 0 false true
    else
      let (code, sat) := c.code p q
      let check := (64 ≤ c.ch && c.ch < 112) && s.on R.CMP_CHK_EN && !c.moved && s.arrives k c
      let (ovr, s) : Bool × State :=
        if sat then (true, s)
        else if nearFull c.diff code then ((s.takeFree).1.getLsbD 0, (s.takeFree).2)
        else (false, s)
      let s := s.finish k c (adcVal c.left code) ovr false
      if check then s.dacCheck c.ch code else s

/-! ### Slices: calibration, rotation and failure (R264 to R270) -/

/-- An idle spare starts to take the first lane whose slice has failed (R266, R269). -/
def State.takeFailed (s : State) : State :=
  match lanes16.find? s.laneDead, s.adc.spare, s.adc.hand with
  | some k, some _, none =>
    ({ s with adc := { s.adc with hand := some k } } : State).setLane k { s.lane k with overlap := some s.tba }
  | _, _, _ => s

/-- Slice `sl` has failed (R269): it is marked, the event is posted, rotation stops, and the spare takes the lane it served, after
a handover in progress where there is one. -/
def State.sliceFail (s : State) (sl : Nat) : State :=
  if s.bitAt R.ADC_SLFAIL_FAIL sl then s
  else
    let s := (s.setBit R.ADC_SLFAIL_FAIL sl true).post 0x0902 0 sl
    let s := s.setF R.ADC_STAT_NOSPARE 1
    if s.adc.spare = some sl then
      let s := match s.adc.hand with
        | some k => s.setLane k { s.lane k with overlap := none }
        | none => s
      { s with adc := { s.adc with spare := none, hand := none } }
    else s.takeFailed

/-- ADC_CALIBRATION_COMPLETE (R264). -/
def State.calibrated (s : State) (failed : Nat) : State :=
  if s.on R.ADC_STAT_CALOK then s
  else
    let s := (s.setF R.ADC_STAT_CALOK 1).setF R.ADC_STAT_CALSL 31
    let s : State := { s with adc := { s.adc with rotAt := s.tba } }
    let s := s.each (List.range 17) fun sl s => if failed.testBit sl then s.sliceFail sl else s
    s.park

/-- The next slice after `i` in the cyclic order that is neither failed nor the spare (R265). -/
def State.nextSlice (s : State) (sp : Nat) : Option Nat :=
  ((List.range 17).map fun j => (s.adc.rot + j) % 17).find? fun sl => !s.bitAt R.ADC_SLFAIL_FAIL sl && sl ≠ sp

/-- ROTATION_STEP (R265): 771,000 TBA counts after the last one. -/
def State.rotate (s : State) : State :=
  match s.adc.spare with
  | none => s
  | some sp =>
    if s.on R.ADC_CTL_ROT && s.on R.ADC_STAT_CALOK && !s.on R.ADC_STAT_NOSPARE && s.adc.hand.isNone &&
        decide (s.adc.rotAt + 771000 ≤ s.tba) then
      match s.nextSlice sp with
      | none => s
      | some sl =>
        match lanes16.find? (fun k => (s.lane k).slice = sl) with
        | none => s
        | some k =>
          let s : State := { s with adc := { s.adc with hand := some k, rot := (sl + 1) % 17, rotAt := s.tba } }
          s.setLane k { s.lane k with overlap := some s.tba }
    else s

/-- SLICE_HANDOVER (R266): after 200 ns of overlap, while the lane is not converting. -/
def State.handover (s : State) : State :=
  match s.adc.hand, s.adc.spare with
  | some k, some sp =>
    let l := s.lane k
    match l.overlap with
    | some t =>
      if decide (t + 40 ≤ s.tba) && l.conv.isNone then
        let old := l.slice
        let bad := s.bitAt R.ADC_SLFAIL_FAIL old
        let s := s.setLane k { l with slice := sp, overlap := none }
        let s : State := { s with adc := { s.adc with hand := none, spare := if bad then none else some old } }
        -- a slice released to take another failed slice's lane is not calibrated first (R269)
        if (lanes16.any s.laneDead) && !bad then (s.setF R.ADC_STAT_CALSL 31).takeFailed
        else s.setF R.ADC_STAT_CALSL (if bad then 31 else old)
      else s
    | none => s
  | _, _ => s

/-- SLICE_CALIBRATION_COMPLETE (R265, R269). -/
def State.sliceCalibrated (s : State) (ok : Bool) : State :=
  let sl := s.f R.ADC_STAT_CALSL
  if sl = 31 then s
  else
    let s := s.setF R.ADC_STAT_CALSL 31
    if ok then s else s.sliceFail sl

/-- CONVERSION_TIMEOUT (R269): 1.0 µs after the sampling instant. -/
def State.conversionTimeout (s : State) (k : Nat) : State :=
  match (s.lane k).conv with
  | none => s
  | some c =>
    if c.at_ + 200 ≤ s.tba then
      let sl := (s.lane k).slice
      (s.finish k c 0 false true).sliceFail sl
    else s

/-- Clears the four drop counts (R302). -/
def State.adcDropClear (s : State) : State :=
  (((s.setF R.ADC_DROP_REG 0).setF R.ADC_DROP_INJ 0).setF R.ADC_DROP_MON 0).setF R.ADC_DROP_EARLY 0

/-- A write of `ADC_SWTRIG`: one trigger through crossing 4 to each selected sequence (R276, R300). Both at one edge: the
injected sequence takes its lanes first (R283). -/
def State.swTrig (s : State) (mask : Nat) : State :=
  let s := if mask.testBit 1 then s.trigger 1 else s
  let s := if mask.testBit 0 then s.trigger 0 else s
  if mask.testBit 2 then s.trigger 2 else s

/-! ### The commands -/

def execAdcCalibrationComplete (failed : BitVec 17) (s : State) : Out := .next (s.onStatus (s.calibrated failed.toNat))
def execRotationStep (s : State) : Out := .next (s.onStatus s.rotate)
def execSliceHandover (s : State) : Out := .next (s.onStatus s.handover)
def execSliceCalibrationComplete (ok : Bool) (s : State) : Out := .next (s.onStatus (s.sliceCalibrated ok))
def execConversionTimeout (lane : Fin 16) (s : State) : Out := .next (s.onStatus (s.conversionTimeout lane))
def execConverterTrigger (seq : Fin 3) (s : State) : Out := .next (s.onStatus ((s.takeTrig seq).trigger seq))
def execConversionEnd (lane : Fin 16) (v : LandVolts) (s : State) : Out := .next (s.onStatus (s.conversionEnd lane v.p v.q))
def execQueuedRunStart (seq : Fin 3) (s : State) : Out := .next (s.onStatus (s.queuedStart seq))
def execMonitorIssue (s : State) : Out := .next (s.onStatus s.monitorIssue)
def execSamplingInstant (lane : Fin 16) (s : State) : Out := .next (s.onStatus (s.samplingInstant lane))
def execAdcSwtrig (mask : BitVec 3) (s : State) : Out := .next (s.onStatus ((s.swTrig mask.toNat).wres 0x908C .done))
def execAdcDropClr (s : State) : Out := .next (s.onMain (s.adcDropClear.wres 0x90A0 .done))
def execAdcOvrlClear (mask : BitVec 16) (s : State) : Out :=
  .next (s.onMain ((s.clearMask R.ADC_OVRL_LANE mask.toNat).wres 0x90A4 .done))
def execAdcMonlossClear (s : State) : Out := .next (s.onMain ((s.setF R.ADC_STAT_MONLOSS 0).wres 0x9090 .done))

end Sys2Proof.Machine
end

