-- ==== Sys2Proof/Machine/Operands.lean ====
section
/-! DEFINITION. The operands of CE instructions (R303, R310, R329): banks, registers with their residues, the B operand
that `MOD` bit 3 replaces by `IMM`, accumulators, and data memory as a lane sees it. -/

namespace Sys2Proof.Machine

def State.ceLane (s : State) (l : Nat) : LaneCe := Tab.get (fun _ => {}) s.ce.lanes l
def State.setCe (s : State) (l : Nat) (c : LaneCe) : State :=
  { s with ce := { s.ce with lanes := Tab.set (fun _ => {}) s.ce.lanes l c } }

/-- The eight lanes. -/
def lanes8 : List Nat := List.range 8

/-- Whether lane l is in its cycle or INIT part, whose bank and place are then the present ones (R321). -/
def State.inFore (s : State) (l : Nat) : Bool := (s.ceLane l).fore.run

def LaneCe.bank (c : LaneCe) : Bank := if c.fore.run then c.cyc else c.bkg
def LaneCe.setBank (c : LaneCe) (b : Bank) : LaneCe := if c.fore.run then { c with cyc := b } else { c with bkg := b }
def LaneCe.ctx (c : LaneCe) : Ctx := if c.fore.run then c.fore else c.back
def LaneCe.setCtx (c : LaneCe) (x : Ctx) : LaneCe := if c.fore.run then { c with fore := x } else { c with back := x }

/-- The residue of a value: the signed value modulo 7, 0 to 6 (R329). -/
def residue (v : Int) : Nat := (v % 7).toNat

/-- A value register; v0 reads 0 (R303). -/
def State.vreg (s : State) (l r : Nat) : VReg :=
  if r = 0 then {} else Tab.get (fun _ => {}) (s.ceLane l).bank.v r

/-- How far a stored residue lies from that of its value, modulo 7: 0 where they agree (R329, R330). -/
def resErr (res : Nat) (v : Int) : Nat := (res + 7 - residue v) % 7
def VReg.err (r : VReg) : Nat := resErr r.res r.val.toInt
def AReg.err (r : AReg) : Nat := resErr r.res r.val.toInt

/-- Whether the residues of two operands disagree with the residue of their sum, difference or product (R330). -/
def sumOff (a b : VReg) : Bool := (a.err + b.err) % 7 ≠ 0
def diffOff (a b : VReg) : Bool := a.err ≠ b.err
def prodOff (a b : VReg) : Bool := a.res * b.res % 7 ≠ residue a.val.toInt * residue b.val.toInt % 7

/-- The value of a register, as bits and as an int32. -/
def State.v (s : State) (l r : Nat) : Word := (s.vreg l r).val
def State.vi (s : State) (l r : Nat) : Int := (s.v l r).toInt

/-- Writes a value register with the residue of its value; a write of v0 is ignored (R303, R329). -/
def State.setV (s : State) (l r : Nat) (w : Word) : State :=
  if r = 0 then s
  else
    let c := s.ceLane l
    let b := c.bank
    s.setCe l (c.setBank { b with v := Tab.set (fun _ => {}) b.v r { val := w, res := residue w.toInt } })

/-- An accumulator takes a value with its residue unchanged (R330). -/
def State.moveAcc (s : State) (l : Nat) (which : Bool) (r : VReg) : State :=
  let c := s.ceLane l
  let b := c.bank
  let a : AReg := { val := r.val.signExtend 48, res := r.res }
  s.setCe l (c.setBank (if which then { b with a1 := a } else { b with a0 := a }))

/-- Writes the low 32 bits of an integer. -/
def State.setVi (s : State) (l r : Nat) (x : Int) : State := s.setV l r (BitVec.ofInt 32 x)

/-- An accumulator: `false` is a0. -/
def State.accReg (s : State) (l : Nat) (which : Bool) : AReg :=
  if which then (s.ceLane l).bank.a1 else (s.ceLane l).bank.a0
def State.acc (s : State) (l : Nat) (which : Bool) : Int := (s.accReg l which).val.toInt
def State.setAcc (s : State) (l : Nat) (which : Bool) (x : Int) : State :=
  let c := s.ceLane l
  let b := c.bank
  let a : AReg := { val := BitVec.ofInt 48 x, res := residue (BitVec.ofInt 48 x).toInt }
  s.setCe l (c.setBank (if which then { b with a1 := a } else { b with a0 := a }))

/-- The B operand: register B, or `IMM` when `MOD` bit 3 is set (R310). -/
def State.opB (s : State) (x : CeInstr) : VReg :=
  if x.mod.val.testBit 3 then { val := x.imm, res := residue x.imm.toInt } else s.vreg x.lane x.b

/-- The A, B and C operands as words. -/
def State.wa (s : State) (x : CeInstr) : Word := s.v x.lane x.a
def State.wb (s : State) (x : CeInstr) : Word := (s.opB x).val
def State.wc (s : State) (x : CeInstr) : Word := s.v x.lane x.c

/-! ### Instruction words (R310, R311, R341) -/

/-- `OP` and the fields of an instruction. -/
def ceDecode (w : BitVec 64) : Nat × CeInstr :=
  ((w.extractLsb' 56 8).toNat,
   { d := (w.extractLsb' 51 5).toFin, a := (w.extractLsb' 46 5).toFin, b := (w.extractLsb' 41 5).toFin,
     c := (w.extractLsb' 37 4).toFin, acc := w.getLsbD 36, mod := (w.extractLsb' 32 4).toFin, imm := w.extractLsb' 0 32 })

/-- The word of an instruction. -/
def ceEncode (op : Nat) (x : CeInstr) : BitVec 64 :=
  BitVec.ofNat 64 (op % 256 * 2 ^ 56 + x.d.val * 2 ^ 51 + x.a.val * 2 ^ 46 + x.b.val * 2 ^ 41 + x.c.val * 2 ^ 37 +
    x.acc.toNat * 2 ^ 36 + x.mod.val * 2 ^ 32 + x.imm.toNat)

/-- Whether an opcode is one of the table's, and a KCALL one of a known kernel (R311, R337, R341). -/
def ceKnown (op : Nat) (x : CeInstr) : Bool :=
  let k := x.imm.toNat
  op ≤ 5 || (8 ≤ op && op ≤ 0x0B) || (op = 0x0C && 1 ≤ k && k ≤ 15 && k ≠ 5) || (0x10 ≤ op && op ≤ 0x1C) ||
    (0x20 ≤ op && op ≤ 0x28) || (0x30 ≤ op && op ≤ 0x34) || (0x36 ≤ op && op ≤ 0x3D) || (0x40 ≤ op && op ≤ 0x44) ||
    (0x48 ≤ op && op ≤ 0x4B)

/-- The fields alone, without the lane and what the hardware adds. -/
def bareCe (x : CeInstr) : CeInstr := { x with lane := 0, mis := 0, par := false, dpar := none }

/-- The instruction with an index, its low half first; beyond the loaded program there is none. -/
def State.progWord (s : State) (pc : Nat) : Option (BitVec 64) :=
  match s.ce.img with
  | some i => if pc < i.plen then some (s.ce.prog.getD (2 * pc + 1) 0 ++ s.ce.prog.getD (2 * pc) 0) else none
  | none => none

/-- Whether the instruction at the lane's place has opcode `op` and the fields of `x`. -/
def State.stands (s : State) (op : Nat) (x : CeInstr) : Bool :=
  (s.progWord (s.ceLane x.lane).ctx.pc).any fun w => ceDecode w = (op, bareCe x)

/-! ### Data memory as the lanes see it (R312 to R315) -/

/-- The general part of the parameter window. -/
def parmBase : Nat := 0x1C000

/-- The address A + `IMM`, as an unsigned 32-bit sum. -/
def State.effAddr (s : State) (x : CeInstr) : Nat := (s.wa x + x.imm).toNat

/-- Areas no lane may touch (R312, R406). -/
def ceReserved (a : Nat) : Bool :=
  decide (0x1AC24 ≤ a ∧ a < 0x1AC40) || decide (0x1AC84 ≤ a ∧ a < 0x1C000) || decide (0x1E300 ≤ a ∧ a < 0x1E800) ||
    decide (0x1E820 ≤ a ∧ a < 0x1F000)

/-- Whether an address lies in the constant section of the loaded program. -/
def State.inConst (s : State) (a : Nat) : Bool :=
  match s.ce.img with
  | some i => decide (i.caddr ≤ a ∧ a < i.caddr + i.clen)
  | none => false

/-- Whether a lane may store at an address (R312, R337, R406). -/
def State.ceWritable (s : State) (a : Nat) : Bool :=
  (decide (a < 0x10000) && !s.inConst a) || decide (0x18000 ≤ a ∧ a < 0x1A400) || decide (0x1AC40 ≤ a ∧ a < 0x1AC84)

/-- Whether an access of n bytes at a is allowed (R337): inside, aligned to its size, no reserved area. -/
def State.ceMayLoad (_ : State) (a n : Nat) : Bool :=
  decide (a + n ≤ 0x20000) && decide (a % n = 0) && !ceReserved a && !ceReserved (a + n - 1)
def State.ceMayStore (s : State) (a n : Nat) : Bool :=
  s.ceMayLoad a n && s.ceWritable a && s.ceWritable (a + n - 1)

/-- A byte as a lane sees it: parameter writes that completed during the present cycle are seen by the background only
(R314). -/
def State.ceByte (s : State) (l a : Nat) : Byte :=
  if s.inFore l then s.byte a
  else
    s.ce.parm.foldl (fun b p =>
      if p.1 ≤ a ∧ a < p.1 + 4 * p.2.length then ((p.2.getD ((a - p.1) / 4) 0).extractLsb' (8 * ((a - p.1) % 4)) 8) else b)
      (s.byte a)

/-- A little-endian word as a lane sees it. -/
def State.ceWord (s : State) (l a : Nat) : Word :=
  s.ceByte l (a + 3) ++ s.ceByte l (a + 2) ++ s.ceByte l (a + 1) ++ s.ceByte l a

/-- A parameter write completes: at once, or at the end of the cycle in progress (R314). -/
def State.parmWrite (s : State) (a : Nat) (ws : List Word) : State :=
  if s.on R.CE_STAT_RUN then { s with ce := { s.ce with parm := s.ce.parm ++ [(a, ws)] } } else s.setWords a ws

/-- Parameter writes held during a cycle become visible at its end (R314). -/
def State.parmFlush (s : State) : State :=
  let l := s.ce.parm
  l.foldl (fun s p => s.setWords p.1 p.2) ({ s with ce := { s.ce with parm := [] } } : State)

end Sys2Proof.Machine
end

