-- ==== Sys2Proof/Machine/Flags.lean ====
section
/-! DEFINITION. The sticky flags of a CE lane (R308) and every result that raises one: saturation to Q1.31 and to the
accumulator's range, and the binary32 conditions. -/

namespace Sys2Proof.Machine

/-- Raises sticky flags: bit 0 invalid, 1 binary32 overflow, 2 division by zero, 3 Q1.31 saturation, 4 accumulator
saturation (R308). -/
def State.sticky (s : State) (l mask : Nat) : State :=
  if mask = 0 then s
  else
    let c := s.ceLane l
    s.setCe l { c with flags := c.flags ||| mask }

/-- The ends of the Q1.31 range. -/
def qMin : Int := -(2 ^ 31)
def qMax : Int := 2 ^ 31 - 1

/-- A Q1.31 result: saturated to the nearer end, raising flag 3 when it leaves the range (R305). -/
def State.setQ (s : State) (l r : Nat) (x : Int) : State :=
  (s.setVi l r (clampInt qMin qMax x)).sticky l (if x < qMin ∨ qMax < x then 8 else 0)

/-- An accumulator result: saturated to 48 bits, raising flag 4 (R305, R306). -/
def State.setAccSat (s : State) (l : Nat) (which : Bool) (x : Int) : State :=
  let lo : Int := -(2 ^ 47)
  let hi : Int := 2 ^ 47 - 1
  (s.setAcc l which (clampInt lo hi x)).sticky l (if x < lo ∨ hi < x then 16 else 0)

/-- The Q1.31 product, rounded to nearest with halves up and not yet saturated (R305). -/
def qMul (a b : Int) : Int := (a * b + 2 ^ 30).ediv (2 ^ 31)

/-- A binary32 result with its flags; the sign and payload of a propagated quiet NaN are free (R307). -/
def State.setF32 (s : State) (l r : Nat) (x : FpRes) : State :=
  if x.openNan then
    let (n, s) := s.takeFree
    (s.setV l r (0x7FC00000 ||| (n &&& 0x803FFFFF))).sticky l x.fl
  else (s.setV l r x.v).sticky l x.fl

/-- A free value from `lo` to `hi`, saturated: a result of which the spec gives only the bound of its error (R311). -/
def State.setWithin (s : State) (l r : Nat) (lo hi : Int) : State :=
  let (n, s) := s.takeFree
  s.setVi l r (clampInt qMin qMax (lo + ((n.toNat % (hi - lo + 1).toNat : Nat) : Int)))

/-- The least and the greatest Q1.31 value that is off by at most 2^-29, four last places, from x with 31 + `n` fractional bits. -/
def nearLo (x : Int) (n : Nat) : Int := -((-x).ediv (2 ^ n)) - 4
def nearHi (x : Int) (n : Nat) : Int := x.ediv (2 ^ n) + 4

end Sys2Proof.Machine
end

