-- ==== Sys2Proof/Machine/CeCycle.lean ====
section
/-! DEFINITION. Cycles, commits, misses, faults and images of the control engine (R318 to R339, R342 to R349). -/

namespace Sys2Proof.Machine

/-! ### Faults (R337, R338) -/

/-- A CE fault: `kind` 1 datapath, 2 program, 3 INIT timeout; `addr` is the access that raised a program fault. Every lane
stops through `HOLD`, the held sets go, and the block is tripped (R338, R658). An INIT so stopped has not ended: its 10 ms run on
(R318). -/
def State.ceFault (s : State) (kind l op : Nat) (addr : Option Nat) : State :=
  let pc := (s.ceLane l).ctx.pc
  let s := ((((s.setF R.CE_STAT_HOLD 1).setF R.CE_FAULT_PC pc).setF R.CE_FAULT_LANE l).setF R.CE_FAULT_OP op).setF
    R.CE_FAULT_KIND kind
  let s := match addr with
    | some a => s.setF R.CE_FADDR_ADDR a
    | none => s
  let s := s.parmFlush
  let part := match s.ce.part with
    | .init t _ => if kind = 3 then .idle else .init t true
    | _ => .idle
  let s : State := { s.setF R.CE_STAT_RUN 0 with ce := { s.ce with held := [], sent := false, part := part } }
  let code := if kind = 1 then 0x09 else 0x0A
  (s.blockTrip code (if kind = 1 then l else kind)).post 0x0A02 l code kind pc

/-! ### Parity of data memory (R334 to R336) -/

/-- The word of an address as the active slot has it: from the constant section of the image, from its state section, or 0. -/
def State.imageWord (s : State) (a : Nat) : Word :=
  match s.ce.img, Tab.look s.ce.slots s.ce.lastSlot with
  | some i, some img =>
    if i.caddr ≤ a ∧ a < i.caddr + i.clen then img.getD ((160 + 8 * i.plen + (a - i.caddr)) / 4) 0
    else if i.saddr ≤ a ∧ a < i.saddr + i.slen then img.getD ((160 + 8 * i.plen + i.clen + (a - i.saddr)) / 4) 0
    else 0
  | _, _ => 0

/-- The word of an address in the constant section is rewritten from the active slot (R335); with no image there, from what is
read. -/
def State.restoreConst (s : State) (a : Nat) : State :=
  let w := a / 4 * 4
  s.setWord w (if (Tab.look s.ce.slots s.ce.lastSlot).isSome then s.imageWord w else s.word w)

/-- The first byte of a range whose parity does not match (R334). -/
def State.badByte (s : State) (a n : Nat) : Option Nat :=
  ((List.range n).map (a + ·)).find? s.upsets.contains

/-- The word of a byte outside the constant section that fails its parity is given its initial value, and the error is recorded
(R336). -/
def State.lostWord (s : State) (l a : Nat) : State :=
  (((s.setWord (a / 4 * 4) (s.imageWord (a / 4 * 4))).setF R.CE_FADDR_ADDR a).count R.CE_CHK_PARS 1).post 0x0A03 l a

/-- A read by the module itself: each word that fails its parity is restored, and no lane is concerned (R334 to R336). -/
def State.scrub (s : State) (a n : Nat) : State :=
  s.upsets.foldl (fun s b =>
    if a ≤ b ∧ b < a + n ∧ s.upsets.contains b then
      if s.inConst b then ((s.restoreConst b).count R.CE_CHK_PARF 1).post 0x0A03 0 b else s.lostWord 0 b
    else s) s

/-! ### Misses and met cycles (R317, R320, R323 to R326) -/

/-- R325: the count has reached `MISSMAX` and no request stands for it. -/
def State.missCheck (s : State) : State :=
  if decide (s.f R.CE_DL_MISSMAX ≤ s.ce.consec) && !s.on R.CE_STAT_MTRIP && s.ce.consec ≠ 0 then
    let s := (s.setF R.CE_STAT_MTRIP 1).blockTrip 0x08 0
    s.post 0x0A01 0 0x08 s.ce.consec (s.f R.CE_MISS_MISS)
  else s

/-- One miss. -/
def State.miss (s : State) : State :=
  let s : State := { s with ce := { s.ce with consec := satAdd 65535 s.ce.consec 1 } }
  ((s.count R.CE_MISS_MISS 1).setF R.CE_STAT_CONSEC (min 255 s.ce.consec)).missCheck

/-- The capture record of a met or missed cycle (R593, type 0x05). -/
def State.cycleRecord (s : State) : State :=
  let s := (s.scrub 0x1E800 32).scrub 0xFF00 52
  s.capture 5 0 1 (ptWord s.pt) (s.words 0x1E800 8 ++ s.words 0xFF00 13)

/-- The present cycle is missed. -/
def State.missCycle (s : State) : State :=
  let s : State := { s with ce := { s.ce with dlPending := false, prevMiss := true } }
  s.miss.cycleRecord

/-- Merges a checked update set into its carrier's staging slot (R175, R179). -/
def State.mergeSet (s : State) (u : UpdateSet) : State := s.merge u.car u.regs false

/-- The held sets go to their staging slots in the order they were sent (R323). -/
def State.mergeHeld (s : State) : State :=
  let l := s.ce.held
  l.foldl (fun s ws => match readSet ws with
    | .ok u => s.mergeSet u
    | .error _ => s) ({ s with ce := { s.ce with held := [] } } : State)

/-- COMMIT_ARRIVAL: the commit of the cycle reaches the TBP domain (R323, R324, R349, R354). -/
def State.commitArrival (s : State) : State :=
  if !s.ce.sent || s.ce.arrived then s
  else
    let late := decide (s.ce.deadline < s.tbp) || !s.ce.dlPending
    let s := if late && s.ce.dlPending then s.missCycle else s
    let dur := min (2 ^ 20 - 1) (s.tbp - s.ce.start)
    let s := (s.setF R.CE_DUR_LAST dur).setF R.CE_DURMAX_MAX (max dur (s.f R.CE_DURMAX_MAX))
    let s : State := { s with ce := { s.ce with arrived := true } }
    if late then ({ s with ce := { s.ce with held := [] } } : State).count R.CE_MISS_LATE 1
    else
      let s := s.mergeHeld.scrub 0xFF00 64
      let s : State := { s with ce := { s.ce with dlPending := false, prevMiss := false, consec := 0 } }
      let s := (s.setF R.CE_STAT_CONSEC 0).setF R.CE_STAT_MTRIP 0
      let s : State := { s with grd := { s.grd with
        copy := s.words 0xFF00 16, copyAt := s.ce.startPt, waiting := true } }
      s.cycleRecord

/-- DEADLINE_EXPIRY: the deadline edge passes without the commit (R323). -/
def State.deadlineExpiry (s : State) : State :=
  if s.ce.dlPending && !s.ce.arrived && decide (s.ce.deadline ≤ s.tbp) then s.missCycle else s

/-! ### Parts of a program: INIT, cycles, background (R318 to R322) -/

/-- The entry of lane l in a list of eight; 0xFFFF is none (R342). -/
def entryOf (l : List Nat) (k : Nat) : Option Nat :=
  match l[k]? with
  | some 0xFFFF => none
  | some n => some n
  | none => none

/-- The sets waiting for crossing 0 go. The one in flight is still acknowledged there, and is then nobody's (R174). -/
def abortUps : List (Nat × List Word × Bool) → List (Nat × List Word × Bool)
  | [] => []
  | _ :: _ => [(8, [], false)]

/-- Starts the foreground part on every lane that has an entry. -/
def State.startFore (s : State) (entries : List Nat) : State :=
  s.each lanes8 fun l s =>
    match entryOf entries l with
    | some pc => s.setCe l { s.ceLane l with fore := { run := true, pc := pc } }
    | none => s

/-- Background lanes that stand idle restart at their BKG entry (R321). -/
def State.startBack (s : State) : State :=
  if !s.on R.CE_CTL_BKG then s
  else match s.ce.img with
    | none => s
    | some i => s.each lanes8 fun l s =>
        let c := s.ceLane l
        match entryOf i.bkg l with
        | some pc => if c.back.run then s else s.setCe l { c with back := { run := true, pc := pc } }
        | none => s

/-- An activation or a load in BOOT has come to its end (R345, R347, R658). -/
def State.actEnd (s : State) (res : Nat) : State :=
  if s.ce.act = 0 then s
  else
    let slot := s.ce.actSlot
    -- an INIT that the activation had stopped goes on where the previous program resumes (R346)
    let part := match s.ce.part with
      | .init t x => if s.ce.act = 3 then .init t x else .init (t + (s.tbp - s.ce.actAt)) x
      | p => p
    let s : State := { s with ce := { s.ce with act := 0, part := part } }
    ((s.setF R.CE_STAT_ACTBUSY 0).setF R.CE_STAT_ACTRES res).post 0x0A06 slot res (s.f R.CE_IMG_ID) (s.f R.CE_IMGV_VER)

/-- BOOT no longer awaits the CE load (R615, R617). -/
def State.ceLoadDone (s : State) : State := s.setBit R.SYS_STATE_WAIT 2 false

/-- INIT has ended on every lane. -/
def State.initEnd (s : State) : State :=
  let s : State := { s with ce := { s.ce with part := .idle } }
  (s.startBack.actEnd 0).ceLoadDone

/-- Runs INIT (R318); with no INIT entry it ends at once. -/
def State.startInit (s : State) : State :=
  match s.ce.img with
  | none => s.ceLoadDone
  | some i =>
    let s : State := { s with ce := { s.ce with part := .init s.tbp false } }
    let s := s.startFore i.init
    if lanes8.any fun l => (s.ceLane l).fore.run then s else s.initEnd

/-- The cycle ends when every lane has ended: an empty commit goes out when no set was marked last, parameter writes become
visible, and the background goes on or restarts (R314, R319, R321, R322). -/
def State.cycleEnd (s : State) : State :=
  let s : State := { s.setF R.CE_STAT_RUN 0 with ce := { s.ce with part := .idle, sent := true } }
  s.parmFlush.startBack

/-- Lane l ends its part (R319). -/
def State.laneEnd (s : State) (l : Nat) : State :=
  let c := s.ceLane l
  if c.fore.run then
    let s := s.setCe l { c with fore := {} }
    if lanes8.any fun k => (s.ceLane k).fore.run then s
    else match s.ce.part with
      | .cycle => s.cycleEnd
      | .init _ _ => s.initEnd
      | .idle => s
  else s.setCe l { c with back := {} }

/-- The cycle information block (R317). -/
def State.cycleInfo (s : State) : State :=
  let p := s.ce.startPt
  s.setWords 0x1E800
    [BitVec.ofNat 32 (s.f R.CE_CYC_CNT), BitVec.ofNat 32 (ptNs p), BitVec.ofNat 32 (ptSec p % 2 ^ 32),
     BitVec.ofNat 32 (min 255 s.ce.skips + bit s.ce.prevMiss * 2 ^ 8 + bit s.coarse * 2 ^ 9 + min 65535 s.ce.consec * 2 ^ 16),
     BitVec.ofNat 32 (s.f R.SYS_PACE_MACPS),
     BitVec.ofNat 32 (if s.coarse then s.f R.CE_DL_DL / 16 else s.f R.CE_DL_DL), 0, 0]

/-- A skipped start (R320). -/
def State.skip (s : State) : State :=
  ({ s with ce := { s.ce with skips := s.ce.skips + 1 } } : State).count R.CE_MISS_SKIP 1 |>.miss

/-- `n` skipped starts. -/
def State.skipN : Nat → State → State
  | 0, s => s
  | n + 1, s => State.skipN n s.skip

/-- CE_CYCLE_START: crossing 2 delivers the start; a count above 1 holds further starts, each skipped (R319 to R321, R326). -/
def State.cycleStart (s : State) : State :=
  let n := max 1 (s.xing 2).got
  let s := s.setXing 2 { s.xing 2 with got := 0 }
  let m := s.ce.matchAt.getD s.startMatch
  let s : State := { s with ce := { s.ce with matchAt := none } }
  match s.ce.img, s.ce.part with
  | some i, .idle =>
    if !s.live || s.st = stBoot || !s.on R.CE_CTL_EN || !s.on R.CE_STAT_LOADED || s.on R.CE_STAT_HOLD || s.ce.act ≠ 0 then s
    else
      -- a commit still under way reaches the TBP domain before the new cycle sends anything (R139)
      let s := State.skipN (n - 1) s.commitArrival
      let s := (s.setF R.CE_CYC_CNT ((s.f R.CE_CYC_CNT + 1) % 2 ^ 32)).setF R.CE_STAT_RUN 1
      let s : State := { s with ce := { s.ce with
        part := .cycle, start := m.at_, startPt := m.pt, deadline := m.deadline, dlPending := true,
        sent := false, arrived := false, held := [], ups := abortUps s.ce.ups } }
      let s := s.cycleInfo
      let s : State := { s with ce := { s.ce with skips := 0 } }
      let s := s.startFore i.cycle
      if lanes8.any fun l => (s.ceLane l).fore.run then s else s.cycleEnd
  | some _, .cycle => if s.on R.CE_CTL_EN && s.ce.act = 0 then State.skipN n s else s
  | _, _ => s

/-! ### Update sets (R172 to R174, R322) -/

/-- A set enters crossing 0; lane l waits for its acknowledge. -/
def State.sendSet (s : State) (l : Nat) (ws : List Word) (last : Bool) : State :=
  let c := s.ceLane l
  let s := s.setCe l (c.setCtx { c.ctx with wait := .ups })
  let first := s.ce.ups.isEmpty
  let s : State := { s with ce := { s.ce with ups := s.ce.ups ++ [(l, ws, last)] } }
  if first then s.xProduce 0 (ws.map (·.toNat)) else s

/-! ### Checks of program images (R342, R343, R346) -/

/-- Byte i of an image held as words. -/
def imgByte (img : List Word) (i : Nat) : Nat := (img.getD (i / 4) 0).toNat / 256 ^ (i % 4) % 256
def imgHalf (img : List Word) (i : Nat) : Nat := imgByte img i + 256 * imgByte img (i + 1)
def imgWord (img : List Word) (i : Nat) : Nat := (img.getD (i / 4) 0).toNat
def imgBytes (img : List Word) (i n : Nat) : List Nat := (List.range n).map fun k => imgByte img (i + k)

/-- The header of an image (R342). -/
def readHeader (img : List Word) : Image :=
  let ents (o : Nat) : List Nat := (List.range 8).map fun k => imgHalf img (o + 2 * k)
  { id := imgWord img 4, ver := imgWord img 8, plen := imgWord img 0xC, clen := imgWord img 0x10, caddr := imgWord img 0x14,
    slen := imgWord img 0x18, saddr := imgWord img 0x1C, cycle := ents 0x20, bkg := ents 0x30, init := ents 0x40,
    key := imgHalf img 0x50, krom := imgHalf img 0x52 }

/-- Whether the header passes R346. -/
def State.headerOk (s : State) (img : List Word) : Bool :=
  let i := readHeader img
  let apart := decide (i.caddr + i.clen ≤ i.saddr) || decide (i.saddr + i.slen ≤ i.caddr) || i.clen = 0 || i.slen = 0
  decide (imgWord img 0 = 0x7216CE01) && decide (1 ≤ i.plen ∧ i.plen ≤ 32768) && decide (i.clen % 8 = 0) &&
    decide (i.slen % 8 = 0) && decide (i.caddr + i.clen ≤ 0x10000) && decide (i.saddr + i.slen ≤ 0x10000) && apart &&
    (i.cycle ++ i.bkg ++ i.init).all (fun e => e = 0xFFFF || decide (e < i.plen)) &&
    decide (i.krom ≤ s.f R.CE_KROM_VER) && decide (160 + 8 * i.plen + i.clen + i.slen ≤ 393216)

/-- Whether the signature verifies under the installed key (R343); the header is little-endian, its r and s with it (R342), the key
big-endian (R350). -/
def State.signatureOk (s : State) (img : List Word) : Bool :=
  let i := readHeader img
  match Tab.look s.ce.keys i.key with
  | none => false
  | some k =>
    let kb := k.flatMap wordBytes
    let msg := imgBytes img 0 0x60 ++ imgBytes img 160 (8 * i.plen + i.clen + i.slen)
    ecdsaOk (beNat (kb.take 32)) (beNat (kb.drop 32)) (sha256 msg) (leNat (imgBytes img 0x60 32)) (leNat (imgBytes img 0x80 32))

/-- The outcome of the checks of a slot, coded as `ACTRES`: 0 good, 2 FORMAT, 3 AUTH (R346). -/
def State.verifySlot (s : State) (slot : Nat) : Nat :=
  match Tab.look s.ce.slots slot with
  | none => 2
  | some img => if !s.headerOk img then 2 else if s.signatureOk img then 0 else 3

/-- Loads the constant and state sections of the loaded image from the active slot (R339, R345). -/
def State.loadSections (s : State) : State :=
  match s.ce.img, Tab.look s.ce.slots s.ce.lastSlot with
  | some i, some img =>
    let at_ (o n : Nat) : List Word := (img.drop (o / 4)).take (n / 4)
    (s.setWords i.caddr (at_ (160 + 8 * i.plen) i.clen)).setWords i.saddr (at_ (160 + 8 * i.plen + i.clen) i.slen)
  | _, _ => s

/-- Loads slot `slot` whole and marks it active; every lane stops, and with them a cycle that was in progress (R345). -/
def State.loadSlot (s : State) (slot : Nat) : State :=
  match Tab.look s.ce.slots slot with
  | none => s
  | some img =>
    let i := readHeader img
    let s : State := { s with ce := { s.ce with
      img := some i, prog := (img.drop 40).take (2 * i.plen), lastSlot := slot, part := .idle, held := [],
      ups := abortUps s.ce.ups, sent := false, swr := [], badProg := [] } }
    let s := (s.setF R.CE_STAT_RUN 0).parmFlush
    let s := s.each lanes8 fun l s => s.setCe l { s.ceLane l with fore := {}, back := {} }
    let s := (((s.setF R.CE_STAT_LOADED 1).setF R.CE_STAT_ACTIVE slot).setF R.CE_IMG_ID i.id).setF R.CE_IMGV_VER i.ver
    s.loadSections

/-! ### Commands of the cycle and the images -/

/-- A CE reset (R339, R616). -/
def State.ceReset (s : State) : Status × State :=
  if !s.quiet || s.on R.CE_STAT_ACTBUSY then (.state, s)
  else
    let s := s.parmFlush.each lanes8 fun l s => s.setCe l { flags := (s.ceLane l).flags }
    let s : State := { s with ce := { s.ce with part := .idle, dlPending := false, sent := false, arrived := false,
                                                held := [], ups := [], swr := [], matchAt := none } }
    let s := s.loadSections
    let s := s.setWords 0x1E800 (List.replicate 8 0)
    let s := ((s.setF R.CE_STAT_HOLD 0).setF R.CE_STAT_RUN 0).setReg 0xA020 0
    let s := (((s.xReset 0).xReset 1).xReset 2).xReset 5
    (.done, s.startInit)

/-- A write of `CE_CTL.ACT` = 1 (R345). -/
def State.ceActivate (s : State) (slot : Nat) : Status × State :=
  if s.on R.CE_STAT_ACTBUSY then (.state, s)
  else if !s.quiet then
    (.state, (s.setF R.CE_STAT_ACTRES 1).post 0x0A06 slot 1 (s.f R.CE_IMG_ID) (s.f R.CE_IMGV_VER))
  else (.done, { s.setF R.CE_STAT_ACTBUSY 1 with ce := { s.ce with act := 1, actSlot := slot, actAt := s.tbp } })

/-- IMAGE_VERIFICATION_COMPLETE (R346): on a failure the previous program resumes unchanged. -/
def State.imageVerified (s : State) : State :=
  if s.ce.act ≠ 1 then s
  else match s.verifySlot s.ce.actSlot with
    | 0 => { s with ce := { s.ce with act := 2 } }
    | r => s.actEnd r

/-- IMAGE_LOAD_COMPLETE (R345): the slot is loaded and INIT runs. -/
def State.imageLoaded (s : State) : State :=
  if s.ce.act ≠ 2 then s
  else
    let s := s.loadSlot s.ce.actSlot
    ({ s with ce := { s.ce with act := 3 } } : State).startInit

/-- BOOT_IMAGE_LOAD (R347). -/
def State.bootImage (s : State) : State :=
  if !s.live || s.st ≠ stBoot || s.on R.CE_STAT_LOADED then s
  else
    let a := s.ce.lastSlot
    let b := 1 - a
    match s.verifySlot a with
    | 0 => (s.loadSlot a).startInit
    | r =>
      if s.verifySlot b = 0 then ((s.loadSlot b).post 0x0A07 b a r).startInit else s.ceLoadDone

/-- INIT_TIMEOUT (R318, R345): INIT has not ended within 10 ms; one that an activation has stopped does not run meanwhile. -/
def State.initTimeout (s : State) : State :=
  match s.ce.part with
  | .init t _ =>
    if t + 10 * perMs ≤ s.tbp && s.ce.act ≠ 1 && s.ce.act ≠ 2 then
      let l := (lanes8.find? fun l => (s.ceLane l).fore.run).getD 0
      let s := s.ceFault 3 l 0 none
      (s.actEnd 0).ceLoadDone
    else s
  | _ => s

/-- The words that a lane stalls on are rewritten from the active slot (R335). -/
def State.refetchWords (s : State) : LaneWait → State
  | .fetch true pc =>
    let w (p : List Word) (i : Nat) : List Word := match Tab.look s.ce.slots s.ce.lastSlot with
      | some img => p.set i (img.getD (40 + i) 0)
      | none => p
    { s with ce := { s.ce with prog := w (w s.ce.prog (2 * pc)) (2 * pc + 1),
                               badProg := s.ce.badProg.filter fun i => i / 2 ≠ pc } }
  | .fetch false a => s.restoreConst a
  | _ => s

/-- A context that stalls on a refetch goes on. -/
def Ctx.unstall (c : Ctx) : Ctx :=
  match c.wait with
  | .fetch _ _ => { c with wait := .none }
  | _ => c

/-- PARITY_REFETCH_COMPLETE (R335): the words have been read again from the active slot and the lane, in whichever of its parts
stalled, executes its instruction again. -/
def State.refetched (s : State) (l : Nat) : State :=
  let c := s.ceLane l
  let s := (s.refetchWords c.fore.wait).refetchWords c.back.wait
  s.setCe l { c with fore := c.fore.unstall, back := c.back.unstall }

/-! ### The commands -/

def execCeCycleStart (s : State) : Out := .next (s.onMain s.cycleStart)
def execCommitArrival (s : State) : Out := .next (s.onMain s.commitArrival)
def execDeadlineExpiry (s : State) : Out := .next (s.onMain s.deadlineExpiry)
def execCeMiss (s : State) : Out := .next (s.onMain s.missCheck)
def execInitTimeout (s : State) : Out := .next (s.onMain s.initTimeout)
def execCeReset (s : State) : Out := .next (s.onMain (s.ceReset.2.wres 0xA000 s.ceReset.1))
def execCeActivate (slot : Fin 2) (s : State) : Out := .next (s.onMain ((s.ceActivate slot).2.wres 0xA000 (s.ceActivate slot).1))
def execImageVerificationComplete (s : State) : Out := .next (s.onMain s.imageVerified)
def execImageLoadComplete (s : State) : Out := .next (s.onMain s.imageLoaded)
def execBootImageLoad (s : State) : Out := .next (s.onMain s.bootImage)
def execParityRefetchComplete (lane : Fin 8) (s : State) : Out := .next (s.onMain (s.refetched lane))

/-- Clears the three counts of `CE_MISS`; the counts and `SUSP` of `CE_CHK`; the largest duration (R349). -/
def State.ceMissClear (s : State) : State :=
  ((s.setF R.CE_MISS_MISS 0).setF R.CE_MISS_SKIP 0).setF R.CE_MISS_LATE 0
def State.ceChkClear (s : State) : State :=
  ((((s.setF R.CE_CHK_RETRY1 0).setF R.CE_CHK_RETRY2 0).setF R.CE_CHK_PARF 0).setF R.CE_CHK_PARS 0).setF R.CE_STAT_SUSP 0
def State.ceDurmaxClear (s : State) : State := s.setF R.CE_DURMAX_MAX 0
def execCeMissClr (s : State) : Out := .next (s.onMain (s.ceMissClear.wres 0xA010 .done))
def execCeChkClr (s : State) : Out := .next (s.onMain (s.ceChkClear.wres 0xA014 .done))
def execCeDurmaxClr (s : State) : Out := .next (s.onMain (s.ceDurmaxClear.wres 0xA01C .done))

end Sys2Proof.Machine
end

