-- ==== Sys2Proof/Machine/Ce.lean ====
section
/-! DEFINITION. The instruction set of the control engine (R303 to R311, R329 to R337). A command names the lane and the
fields of the instruction it executes; the lane's present part says which bank and place are meant. -/

namespace Sys2Proof.Machine

/-! ### Running an instruction -/

/-- No fault hold stops the lanes; INIT after an activation runs under one (R318, R338, R339). -/
def State.ceFree (s : State) : Bool :=
  match s.ce.part with
  | .init _ stopped => !stopped
  | _ => !s.on R.CE_STAT_HOLD

/-- Whether a part of lane l is in progress: its cycle or INIT part, else its background while neither a cycle nor INIT is and
`CE_CTL.BKG` = 1; a lane that has ended a part stands idle (R318, R321). -/
def State.laneUp (s : State) (l : Nat) : Bool :=
  s.inFore l || ((s.ceLane l).back.run && s.on R.CE_CTL_BKG && s.ce.part = .idle)

/-- Whether lane l executes instructions now: a part is in progress, not stopped by a fault hold or an activation, and it does not
wait (R321, R338, R345). -/
def State.laneRuns (s : State) (l : Nat) : Bool :=
  s.live && s.ceFree && s.ce.act ≠ 1 && s.ce.act ≠ 2 && (s.ceLane l).ctx.wait = .none && s.laneUp l

/-- The place after the present instruction: the ends of loops first (R311). -/
def nextPlace (pc : Nat) : List (Nat × Nat × Nat) → Nat × List (Nat × Nat × Nat)
  | [] => ((pc + 1) % 32768, [])
  | (first, last, left) :: l =>
    if pc = last then (if 1 < left then (first, (first, last, left - 1) :: l) else nextPlace pc l)
    else ((pc + 1) % 32768, (first, last, left) :: l)

/-- Lane l goes on to the next instruction. -/
def State.adv (s : State) (l : Nat) : State :=
  let c := s.ceLane l
  let x := c.ctx
  let (pc, loops) := nextPlace x.pc x.loops
  s.setCe l (c.setCtx { x with pc := pc, loops := loops })

/-- Lane l continues at `pc`. -/
def State.goto (s : State) (l pc : Nat) : State :=
  let c := s.ceLane l
  s.setCe l (c.setCtx { c.ctx with pc := pc })

/-- Whether a target lies outside the loaded program (R337). -/
def State.badTarget (s : State) (pc : Nat) : Bool :=
  match s.ce.img with
  | some i => decide (i.plen ≤ pc)
  | none => decide (32768 ≤ pc)

/-- The lane stalls until the words of the instruction `at_`, or the word of address `at_` in the constant section, have been read
again (R335). -/
def State.stall (s : State) (l : Nat) (prog : Bool) (at_ : Nat) : State :=
  let c := s.ceLane l
  ((s.setCe l (c.setCtx { c.ctx with wait := .fetch prog at_ })).count R.CE_CHK_PARF 1).post 0x0A03 l at_

/-- Lane `x.lane` executes the instruction at its place (R310, R334, R335, R337): nothing while the lane does not run; a stall on
a parity error in its words; a program fault where the opcode or the kernel is undefined or the program has ended; `g` where it is
the instruction with opcode `op` and the fields of `x`; and nothing where it is another one. -/
def State.ceRun (s : State) (x : CeInstr) (op : Nat) (g : State → State) : State :=
  let l := x.lane.val
  let pc := (s.ceLane l).ctx.pc
  if !s.laneRuns l || s.ce.img.isNone then s
  else
    let s : State := if x.par then { s with ce := { s.ce with badProg := s.ce.badProg ++ [2 * pc] } } else s
    if s.ce.badProg.any (fun i => i / 2 = pc) then s.stall l true pc
    else match s.progWord pc with
      | none => s.ceFault 2 l 0 none
      | some w =>
        let (o, y) := ceDecode w
        if !ceKnown o y then s.ceFault 2 l o none else if o = op && y = bareCe x then g s else s

/-- An instruction with check R or D: mismatching attempts are counted and reported, and a third mismatch is a datapath
fault (R330 to R332). A source residue of 7, and a residue disagreement `off`, mismatch in every attempt. -/
def State.ceChecked (s : State) (x : CeInstr) (op : Nat) (srcs : List Nat) (off : Bool) (g : State → State) : State :=
  s.ceRun x op fun s =>
    let l := x.lane.val
    let n := if srcs.contains 7 || off then 3 else x.mis.val
    match n with
    | 0 => g s
    | 1 => g (s.count R.CE_CHK_RETRY1 1)
    | 2 =>
      let s := (s.count R.CE_CHK_RETRY2 1).setBit R.CE_STAT_SUSP l true
      g (s.post 0x0A04 l)
    | _ => s.ceFault 1 l op none

/-- The A operand as a register, and the residues of A and B. -/
def State.opA (s : State) (x : CeInstr) : VReg := s.vreg x.lane x.a
def State.resAB (s : State) (x : CeInstr) : List Nat := [(s.opA x).res, (s.opB x).res]

/-- Whether the residue of A, or of A or B, disagrees with its value: what the checks of binary32 and of the series see (R330). -/
def State.offA (s : State) (x : CeInstr) : Bool := (s.opA x).err ≠ 0
def State.offAB (s : State) (x : CeInstr) : Bool := s.offA x || (s.opB x).err ≠ 0

/-- A two-operand int32 instruction; `off` is its residue check. -/
def State.alu (s : State) (x : CeInstr) (op : Nat) (off : VReg → VReg → Bool) (g : Word → Word → Word) : State :=
  s.ceChecked x op (s.resAB x) (off (s.opA x) (s.opB x)) fun s => (s.setV x.lane x.d (g (s.wa x) (s.wb x))).adv x.lane

/-- No residue check. -/
def noOff (_ _ : VReg) : Bool := false

/-- A two-operand instruction without a check. -/
def State.aluFree (s : State) (x : CeInstr) (op : Nat) (g : Word → Word → Word) : State :=
  s.ceRun x op fun s => (s.setV x.lane x.d (g (s.wa x) (s.wb x))).adv x.lane

/-- A shift; the spec states no result for an amount of 32 or more, which gives a free value (R306). -/
def State.shift (s : State) (x : CeInstr) (op : Nat) (g : Word → Nat → Word) : State :=
  s.ceChecked x op (s.resAB x) false fun s =>
    let n := (s.wb x).toNat
    if n < 32 then (s.setV x.lane x.d (g (s.wa x) n)).adv x.lane
    else (s.takeFree.2.setV x.lane x.d s.takeFree.1).adv x.lane

/-- A saturating Q1.31 instruction. -/
def State.qOp (s : State) (x : CeInstr) (op : Nat) (off : VReg → VReg → Bool) (g : Int → Int → Int) : State :=
  s.ceChecked x op (s.resAB x) (off (s.opA x) (s.opB x)) fun s =>
    (s.setQ x.lane x.d (g (s.wa x).toInt (s.wb x).toInt)).adv x.lane

/-- A multiply-accumulate: the product and the accumulation are checked (R330). -/
def State.macOp (s : State) (x : CeInstr) (op : Nat) (g : Int → Int → Int → Int) : State :=
  let c := s.accReg x.lane x.acc
  s.ceChecked x op (c.res :: s.resAB x) (prodOff (s.opA x) (s.opB x) || c.err ≠ 0) fun s =>
    (s.setAccSat x.lane x.acc (g (s.acc x.lane x.acc) (s.wa x).toInt (s.wb x).toInt)).adv x.lane

/-- A binary32 instruction of A and B. -/
def State.fOp (s : State) (x : CeInstr) (op : Nat) (g : Word → Word → FpRes) : State :=
  s.ceChecked x op (s.resAB x) (s.offAB x) fun s => (s.setF32 x.lane x.d (g (s.wa x) (s.wb x))).adv x.lane

/-! ### Control instructions -/

/-- BR: the conditions of R310; a condition above 6 has no stated meaning, and whether it branches is free. -/
def State.br (s : State) (x : CeInstr) : State :=
  s.ceRun x 0x08 fun s =>
    let a := (s.v x.lane x.a).toInt
    let b := (s.v x.lane x.b).toInt
    let (take, s) : Bool × State := match x.mod.val with
      | 0 => (true, s)
      | 1 => (decide (a = b), s)
      | 2 => (decide (a ≠ b), s)
      | 3 => (decide (a < b), s)
      | 4 => (decide (b ≤ a), s)
      | 5 => (decide (a ≤ b), s)
      | 6 => (decide (b < a), s)
      | _ => (s.takeFree.1.getLsbD 0, s.takeFree.2)
    if !take then s.adv x.lane
    else if s.badTarget x.imm.toNat then s.ceFault 2 x.lane 0x08 none
    else s.goto x.lane x.imm.toNat

/-- CALL: return depth 16 (R311, R337). -/
def State.call (s : State) (x : CeInstr) : State :=
  s.ceRun x 0x09 fun s =>
    let c := (s.ceLane x.lane).ctx
    if 16 ≤ c.calls.length || s.badTarget x.imm.toNat then s.ceFault 2 x.lane 0x09 none
    else
      let k := s.ceLane x.lane
      let (next, loops) := nextPlace c.pc c.loops
      s.setCe x.lane (k.setCtx { c with calls := next :: c.calls, pc := x.imm.toNat, loops := loops })

/-- RET; with no call open the spec states no place to return to, and it is free. -/
def State.ret (s : State) (x : CeInstr) : State :=
  s.ceRun x 0x0A fun s =>
    let k := s.ceLane x.lane
    match k.ctx.calls with
    | pc :: l => s.setCe x.lane (k.setCtx { k.ctx with pc := pc, calls := l })
    | [] => s.takeFree.2.goto x.lane (s.takeFree.1.toNat % 32768)

/-- LOOP: the instructions after it up to `IMM`, A times; a count of 0 or less passes over them (R311). -/
def State.loop (s : State) (x : CeInstr) : State :=
  s.ceRun x 0x0B fun s =>
    let k := s.ceLane x.lane
    let n := (s.v x.lane x.a).toInt
    let last := x.imm.toNat
    if 2 ≤ k.ctx.loops.length || s.badTarget last then s.ceFault 2 x.lane 0x0B none
    else if n ≤ 0 then s.goto x.lane ((last + 1) % 32768)
    else s.setCe x.lane (k.setCtx { k.ctx with
      pc := (k.ctx.pc + 1) % 32768, loops := ((k.ctx.pc + 1) % 32768, last, n.toNat) :: k.ctx.loops })

/-- BAR: the lane waits for the mask's lanes. -/
def State.bar (s : State) (x : CeInstr) : State :=
  s.ceRun x 0x02 fun s =>
    let k := s.ceLane x.lane
    s.setCe x.lane (k.setCtx { k.ctx with wait := .bar (x.imm.toNat % 256) })

/-- Lane l stops waiting and goes on. -/
def State.wake (s : State) (l : Nat) : State :=
  let k := s.ceLane l
  (s.setCe l (k.setCtx { k.ctx with wait := .none })).adv l

/-- BAR_RELEASE: every lane of the mask waits at a BAR with that mask; the lanes that wait there go on, one outside the mask with
them. -/
def State.barRelease (s : State) (mask : Nat) : State :=
  let here (l : Nat) : Bool := (s.ceLane l).ctx.wait = .bar mask
  if s.ceFree && lanes8.all (fun l => !mask.testBit l || here l) then s.each (lanes8.filter here) fun l s => s.wake l else s

/-! ### Parity in data memory and access checks (R334 to R337) -/

/-- A parity error at the byte of address a that lane l reads (R335, R336): in a cycle its lanes stop and it is missed, where it
was not missed already; in the background every background lane stops until the next cycle has ended. -/
def State.dataParity (s : State) (l a : Nat) : State :=
  if s.inConst a then s.stall l false a
  else
    let fore := s.inFore l
    let s := s.lostWord l a
    match s.ce.part with
    | .init _ _ => s
    | _ =>
      if fore then
        let s := s.each lanes8 fun k s => s.setCe k { s.ceLane k with fore := {} }
        let missed := !s.ce.dlPending && s.ce.prevMiss
        let s : State := { s.setF R.CE_STAT_RUN 0 with
          ce := { s.ce with held := [], ups := abortUps s.ce.ups, sent := false, part := .idle } }
        (if missed then s else s.missCycle).parmFlush.startBack
      else s.each lanes8 fun k s => s.setCe k { s.ceLane k with back := {} }

/-- Lane l reads n bytes at address a, one of them struck now where `x` says so: `g` where their parity is right (R334). -/
def State.checkedRead (s : State) (x : CeInstr) (a n : Nat) (g : State → State) : State :=
  let s : State := match x.dpar with
    | some k => { s with upsets := s.upsets ++ [a + k % max n 1] }
    | none => s
  match s.badByte a n with
  | some b => s.dataParity x.lane b
  | none => g s

/-- A load of n bytes at A + `IMM`: a program fault where it is not allowed, the parity case, or `g` (R311, R337). -/
def State.load (s : State) (x : CeInstr) (op n : Nat) (g : State → Nat → State) : State :=
  s.ceRun x op fun s =>
    let a := s.effAddr x
    if !s.ceMayLoad a n then s.ceFault 2 x.lane op (some a)
    else s.checkedRead x a n fun s => (g s a).adv x.lane

/-- A store of n bytes at A + `IMM`. -/
def State.store (s : State) (x : CeInstr) (op n : Nat) (g : State → Nat → State) : State :=
  s.ceRun x op fun s =>
    let a := s.effAddr x
    if !s.ceMayStore a n then s.ceFault 2 x.lane op (some a) else (g s a).adv x.lane

/-- The size that `MOD` 1:0 gives: 0, 1, 2 for 1, 2, 4 bytes; 3 names none of them, and which it takes is free (R310). -/
def State.sizeOf (s : State) (x : CeInstr) : Nat × State :=
  match x.mod.val % 4 with
  | 0 => (1, s)
  | 1 => (2, s)
  | 2 => (4, s)
  | _ => (2 ^ (s.takeFree.1.toNat % 3), s.takeFree.2)

/-- The low n bytes at an address as a number. -/
def State.ceNat (s : State) (l a n : Nat) : Nat :=
  (List.range n).foldl (fun v i => v + (s.ceByte l (a + i)).toNat * 256 ^ i) 0

/-- LD: for 1 or 2 bytes the spec does not say what the upper bits of D become; they are free. -/
def State.ld (s : State) (x : CeInstr) : State :=
  let (n, s) := s.sizeOf x
  s.load x 0x40 n fun s a =>
    let v := BitVec.ofNat 32 (s.ceNat x.lane a n)
    if n = 4 then s.setV x.lane x.d v
    else
      let m := BitVec.ofNat 32 (2 ^ (8 * n) - 1)
      s.takeFree.2.setV x.lane x.d ((v &&& m) ||| (s.takeFree.1 &&& ~~~m))

/-- Stores the low n bytes of a word. -/
def State.setBytes (s : State) (a n : Nat) (w : Word) : State :=
  s.each (List.range n) fun i s => s.setByte (a + i) (w.extractLsb' (8 * i) 8)

/-- ST: the register D is stored (R311). -/
def State.st' (s : State) (x : CeInstr) : State :=
  let (n, s) := s.sizeOf x
  s.store x 0x41 n fun s a => s.setBytes a n (s.v x.lane x.d)

/-- LD2, LDQ: consecutive words into consecutive registers; a range beyond v31 is a program fault (R337). -/
def State.loadN (s : State) (x : CeInstr) (op n : Nat) : State :=
  if 32 < x.d.val + n then s.ceRun x op fun s => s.ceFault 2 x.lane op none
  else s.load x op (4 * n) fun s a =>
    s.each (List.range n) fun i s => s.setV x.lane (x.d.val + i) (s.ceWord x.lane (a + 4 * i))

/-- ST2. -/
def State.store2 (s : State) (x : CeInstr) : State :=
  if 32 < x.d.val + 2 then s.ceRun x 0x43 fun s => s.ceFault 2 x.lane 0x43 none
  else s.store x 0x43 8 fun s a => (s.setWord a (s.v x.lane x.d)).setWord (a + 4) (s.v x.lane (x.d.val + 1))

/-- WNE: the lane goes on at once when the word differs, else waits for it (R311). -/
def State.wne (s : State) (x : CeInstr) : State :=
  s.ceRun x 0x03 fun s =>
    let a := s.effAddr x
    if !s.ceMayLoad a 4 then s.ceFault 2 x.lane 0x03 (some a)
    else s.checkedRead x a 4 fun s =>
      let b := s.v x.lane x.b
      if s.ceWord x.lane a ≠ b then s.adv x.lane
      else
        let k := s.ceLane x.lane
        s.setCe x.lane (k.setCtx { k.ctx with wait := .wne a b })

/-- WNE_WAKE: the word is read again, its parity checked (R334). -/
def State.wneWake (s : State) (l : Nat) : State :=
  match (s.ceLane l).ctx.wait with
  | .wne a b =>
    if !s.ceFree || !s.laneUp l then s
    else match s.badByte a 4 with
      | some c => s.dataParity l c
      | none => if s.ceWord l a ≠ b then s.wake l else s
  | _ => s

/-! ### UPS, EVT, TRQ -/

/-- UPS: the set of B words at address A; in the background a program fault (R322, R337). A set longer than any set can be
is sent with 28 words, which R173 refuses for its length. -/
def State.upsOp (s : State) (x : CeInstr) : State :=
  s.ceRun x 0x48 fun s =>
    if !s.inFore x.lane then s.ceFault 2 x.lane 0x48 none
    else
      let a := (s.v x.lane x.a).toNat
      let n := (s.v x.lane x.b).toNat
      if 0x20000 < a + 4 * n || a % 4 ≠ 0 || (List.range (min n 28)).any (fun i => ceReserved (a + 4 * i)) then
        s.ceFault 2 x.lane 0x48 (some a)
      else s.checkedRead x a (4 * min n 28) fun s => s.sendSet x.lane ((List.range (min n 28)).map fun i => s.ceWord x.lane (a + 4 * i)) (x.mod.val.testBit 0)

/-- UPDATE_SET_ACKNOWLEDGE (R173, R174, R322): the oldest set is held or refused; the one marked last commits the cycle. A set whose
cycle has been stopped is acknowledged all the same, and the next one enters the crossing. -/
def State.upsAck (s : State) : State :=
  match s.ce.ups with
  | [] => s
  | (l, ws, last) :: rest =>
    let s : State := { s with ce := { s.ce with ups := rest } }
    let c := s.xing 0
    let s := s.setXing 0 { c with flight := none, dst := if l < 8 then ws.map (·.toNat) else c.dst }
    let s := match rest with
      | (_, v, _) :: _ => s.xProduce 0 (v.map BitVec.toNat)
      | [] => s
    let s :=
      if 8 ≤ l then s
      else if s.ce.sent then s.setRefused 5 (ws.headD 0) 1
      else match s.checkSet ws with
        | .error e => s.setRefused e (ws.headD 0) 1
        | .ok _ => { s with ce := { s.ce with held := s.ce.held ++ [ws] } }
    let s : State := if last && s.on R.CE_STAT_RUN then { s with ce := { s.ce with sent := true } } else s
    if l < 8 && (s.ceLane l).ctx.wait = .ups then s.wake l else s

/-! ### The commands -/

def execNop (x : CeInstr) (s : State) : Out := .next (s.onMain (s.ceRun x 0x00 fun s => s.adv x.lane))
def execEndLane (x : CeInstr) (s : State) : Out := .next (s.onMain (s.ceRun x 0x01 fun s => s.laneEnd x.lane))
def execBar (x : CeInstr) (s : State) : Out := .next (s.onMain (s.bar x))
def execBarRelease (mask : BitVec 8) (s : State) : Out := .next (s.onMain (s.barRelease mask.toNat))
def execWne (x : CeInstr) (s : State) : Out := .next (s.onMain (s.wne x))
def execWneWake (lane : Fin 8) (s : State) : Out := .next (s.onMain (s.wneWake lane))
def execLid (x : CeInstr) (s : State) : Out :=
  .next (s.onMain (s.ceRun x 0x04 fun s => (s.setV x.lane x.d (BitVec.ofNat 32 x.lane)).adv x.lane))

/-- FLG: the flags before, and none after (R308). -/
def State.flg (s : State) (x : CeInstr) : State :=
  s.ceRun x 0x05 fun s =>
    let n := (s.ceLane x.lane).flags
    let s := s.setCe x.lane { s.ceLane x.lane with flags := 0 }
    (s.setV x.lane x.d (BitVec.ofNat 32 n)).adv x.lane
def execFlg (x : CeInstr) (s : State) : Out := .next (s.onMain (s.flg x))
def execBr (x : CeInstr) (s : State) : Out := .next (s.onMain (s.br x))
def execCall (x : CeInstr) (s : State) : Out := .next (s.onMain (s.call x))
def execRet (x : CeInstr) (s : State) : Out := .next (s.onMain (s.ret x))
def execLoop (x : CeInstr) (s : State) : Out := .next (s.onMain (s.loop x))
def execAdd (x : CeInstr) (s : State) : Out := .next (s.onMain (s.alu x 0x10 sumOff (· + ·)))
def execSub (x : CeInstr) (s : State) : Out := .next (s.onMain (s.alu x 0x11 diffOff (· - ·)))
def execAnd (x : CeInstr) (s : State) : Out := .next (s.onMain (s.aluFree x 0x12 (· &&& ·)))
def execOr (x : CeInstr) (s : State) : Out := .next (s.onMain (s.aluFree x 0x13 (· ||| ·)))
def execXor (x : CeInstr) (s : State) : Out := .next (s.onMain (s.aluFree x 0x14 (· ^^^ ·)))
def execShl (x : CeInstr) (s : State) : Out := .next (s.onMain (s.shift x 0x15 (· <<< ·)))
def execShr (x : CeInstr) (s : State) : Out := .next (s.onMain (s.shift x 0x16 (· >>> ·)))
def execSar (x : CeInstr) (s : State) : Out := .next (s.onMain (s.shift x 0x17 BitVec.sshiftRight))
def execMin (x : CeInstr) (s : State) : Out := .next (s.onMain (s.alu x 0x18 noOff fun a b => if a.toInt ≤ b.toInt then a else b))
def execMax (x : CeInstr) (s : State) : Out := .next (s.onMain (s.alu x 0x19 noOff fun a b => if a.toInt ≤ b.toInt then b else a))

/-- ABS: the spec states no absolute value for −2^31, which gives a free value. -/
def State.absOp (s : State) (x : CeInstr) : State :=
  s.ceChecked x 0x1A [(s.opA x).res] false fun s =>
    let a := (s.wa x).toInt
    if a = qMin then (s.takeFree.2.setV x.lane x.d s.takeFree.1).adv x.lane
    else (s.setVi x.lane x.d a.natAbs).adv x.lane
def execAbs (x : CeInstr) (s : State) : Out := .next (s.onMain (s.absOp x))

/-- SAT: limits A to `MOD` + 1 signed bits. -/
def State.satOp (s : State) (x : CeInstr) : State :=
  s.ceChecked x 0x1B [(s.opA x).res] false fun s =>
    (s.setVi x.lane x.d (clampInt (-(2 ^ x.mod.val)) (2 ^ x.mod.val - 1) (s.wa x).toInt)).adv x.lane
def execSat (x : CeInstr) (s : State) : Out := .next (s.onMain (s.satOp x))
def execMovi (x : CeInstr) (s : State) : Out := .next (s.onMain (s.ceRun x 0x1C fun s => (s.setV x.lane x.d x.imm).adv x.lane))
def execQmul (x : CeInstr) (s : State) : Out := .next (s.onMain (s.qOp x 0x20 prodOff qMul))
def execQadd (x : CeInstr) (s : State) : Out := .next (s.onMain (s.qOp x 0x21 sumOff (· + ·)))
def execQsub (x : CeInstr) (s : State) : Out := .next (s.onMain (s.qOp x 0x22 diffOff (· - ·)))
def State.qnegOp (s : State) (x : CeInstr) : State :=
  s.ceChecked x 0x23 [(s.opA x).res] (s.offA x) fun s => (s.setQ x.lane x.d (-(s.wa x).toInt)).adv x.lane
def execQneg (x : CeInstr) (s : State) : Out := .next (s.onMain (s.qnegOp x))
def execQmac (x : CeInstr) (s : State) : Out := .next (s.onMain (s.macOp x 0x24 fun c a b => c + qMul a b))
def execQmsu (x : CeInstr) (s : State) : Out := .next (s.onMain (s.macOp x 0x25 fun c a b => c - qMul a b))

/-- ACCRD: the accumulator shifted left by `MOD`, saturated to Q1.31. -/
def State.accrd (s : State) (x : CeInstr) : State :=
  s.ceChecked x 0x26 [(s.accReg x.lane x.acc).res] false fun s =>
    (s.setQ x.lane x.d (s.acc x.lane x.acc * 2 ^ x.mod.val)).adv x.lane
def execAccrd (x : CeInstr) (s : State) : Out := .next (s.onMain (s.accrd x))
def execAccld (x : CeInstr) (s : State) : Out :=
  .next (s.onMain (s.ceRun x 0x27 fun s => (s.moveAcc x.lane x.acc (s.opA x)).adv x.lane))
def execImac (x : CeInstr) (s : State) : Out :=
  .next (s.onMain (s.macOp x 0x28 fun c a b => c + (BitVec.ofInt 48 (a * b)).toInt))
def execFadd (x : CeInstr) (s : State) : Out := .next (s.onMain (s.fOp x 0x30 fpAdd))
def execFsub (x : CeInstr) (s : State) : Out := .next (s.onMain (s.fOp x 0x31 fun a b => fpAdd a (fpNeg b)))
def execFmul (x : CeInstr) (s : State) : Out := .next (s.onMain (s.fOp x 0x32 fpMul))
def State.fmaOp (s : State) (x : CeInstr) : State :=
  s.ceChecked x 0x33 ((s.vreg x.lane x.c).res :: s.resAB x) (s.offAB x || (s.vreg x.lane x.c).err ≠ 0) fun s =>
    (s.setF32 x.lane x.d (fpFma (s.wa x) (s.wb x) (s.wc x))).adv x.lane
def execFma (x : CeInstr) (s : State) : Out := .next (s.onMain (s.fmaOp x))
def State.fcmpOp (s : State) (x : CeInstr) : State :=
  s.ceChecked x 0x34 (s.resAB x) false fun s =>
    let r := fpCmp (s.wa x) (s.wb x)
    ((s.setVi x.lane x.d r.1).sticky x.lane r.2).adv x.lane
def execFcmp (x : CeInstr) (s : State) : Out := .next (s.onMain (s.fcmpOp x))
def execFdiv (x : CeInstr) (s : State) : Out := .next (s.onMain (s.fOp x 0x36 fpDiv))

/-- A one-operand binary32 instruction or conversion to binary32; FSQRT alone has a residue check. -/
def State.fUnary (s : State) (x : CeInstr) (op : Nat) (g : Word → FpRes) : State :=
  s.ceChecked x op [(s.opA x).res] (op = 0x37 && s.offA x) fun s => (s.setF32 x.lane x.d (g (s.wa x))).adv x.lane
def execFsqrt (x : CeInstr) (s : State) : Out := .next (s.onMain (s.fUnary x 0x37 fpSqrt))
def execFcvtq (x : CeInstr) (s : State) : Out := .next (s.onMain (s.fUnary x 0x38 fun a => fpOfInt a.toInt (-31)))

/-- FCVTF: to Q1.31, to nearest with ties to even, saturating; a NaN gives 0 (R305, R307). -/
def State.fcvtfOp (s : State) (x : CeInstr) : State :=
  s.ceChecked x 0x39 [(s.opA x).res] false fun s =>
    (match fpRead (s.wa x) with
      | .nan _ => (s.setVi x.lane x.d 0).sticky x.lane 1
      | .inf n => s.setQ x.lane x.d (if n then -(2 ^ 40) else 2 ^ 40)
      | .fin n m e => s.setQ x.lane x.d (fpToInt n m (e + 31))).adv x.lane
def execFcvtf (x : CeInstr) (s : State) : Out := .next (s.onMain (s.fcvtfOp x))
def execFcvti (x : CeInstr) (s : State) : Out := .next (s.onMain (s.fUnary x 0x3A fun a => fpOfInt a.toInt 0))

/-- FCVTFI: to int32, to nearest with ties to even; a NaN gives 0; for a value outside int32 the spec states no result,
which is free, and the operation is invalid (R307). -/
def State.fcvtfiOp (s : State) (x : CeInstr) : State :=
  s.ceChecked x 0x3B [(s.opA x).res] false fun s =>
    let out (s : State) : State := (s.takeFree.2.setV x.lane x.d s.takeFree.1).sticky x.lane 1
    (match fpRead (s.wa x) with
      | .nan _ => (s.setVi x.lane x.d 0).sticky x.lane 1
      | .inf _ => out s
      | .fin n m e =>
        let v := fpToInt n m e
        if v < qMin ∨ qMax < v then out s else s.setVi x.lane x.d v).adv x.lane
def execFcvtfi (x : CeInstr) (s : State) : Out := .next (s.onMain (s.fcvtfiOp x))

/-- SINCOS: both results within 2^-29 (R311); D + 1 beyond v31 is a program fault. -/
def State.sincosOp (s : State) (x : CeInstr) : State :=
  if 32 ≤ x.d.val + 1 then s.ceRun x 0x3C fun s => s.ceFault 2 x.lane 0x3C none
  else s.ceChecked x 0x3C [(s.opA x).res] (s.offA x) fun s =>
    let (sn, cs) := fxSinCos (s.wa x).toInt
    ((s.setWithin x.lane x.d (nearLo sn 31) (nearHi sn 31)).setWithin x.lane (x.d.val + 1) (nearLo cs 31) (nearHi cs 31)).adv
      x.lane
def execSincos (x : CeInstr) (s : State) : Out := .next (s.onMain (s.sincosOp x))

/-- ATAN2: within 2^-29 (R311); for (0, 0) the spec states no result, which is free. -/
def State.atan2Op (s : State) (x : CeInstr) : State :=
  s.ceChecked x 0x3D (s.resAB x) (s.offAB x) fun s =>
    let y := (s.wa x).toInt
    let z := (s.wb x).toInt
    if y = 0 && z = 0 then (s.takeFree.2.setV x.lane x.d s.takeFree.1).adv x.lane
    else (s.setWithin x.lane x.d (nearLo (fxAtan2Fine y z) 16) (nearHi (fxAtan2Fine y z) 16)).adv x.lane
def execAtan2 (x : CeInstr) (s : State) : Out := .next (s.onMain (s.atan2Op x))

def execLd (x : CeInstr) (s : State) : Out := .next (s.onMain (s.ld x))
def execSt (x : CeInstr) (s : State) : Out := .next (s.onMain (s.st' x))
def execLd2 (x : CeInstr) (s : State) : Out := .next (s.onMain (s.loadN x 0x42 2))
def execSt2 (x : CeInstr) (s : State) : Out := .next (s.onMain (s.store2 x))
def execLdq (x : CeInstr) (s : State) : Out := .next (s.onMain (s.loadN x 0x44 4))
def execUps (x : CeInstr) (s : State) : Out := .next (s.onMain (s.upsOp x))
def execUpdateSetAcknowledge (s : State) : Out := .next (s.onMain s.upsAck)

/-- EVT posts CE_USER with the code and the value of A (R328). -/
def execEvt (x : CeInstr) (s : State) : Out :=
  .next (s.onMain (s.ceRun x 0x49 fun s => (s.post 0x0A05 x.lane (x.imm.toNat % 2 ^ 16) (s.v x.lane x.a).toNat).adv x.lane))

/-- TRQ requests a block trip with the program cause (R328). -/
def execTrq (x : CeInstr) (s : State) : Out :=
  .next (s.onMain (s.ceRun x 0x4A fun s => (s.blockTrip 0x0B (x.imm.toNat % 256)).adv x.lane))

end Sys2Proof.Machine
end

