-- ==== Sys2Proof/Machine/CeKernel.lean ====
section
/-! DEFINITION. The kernels of the kernel ROM (R340, R341, R359, R360, R362, R363, R376). Each output is the value of the
kernel's equation rounded once to the last place of its format, halves up, and saturated (R305); where the equation holds a
sine, the factor √3 or an angle, a free error of a few last places is added, as the spec gives no figure for it. Everything else
a kernel may change (v2 to v15 beside its outputs, a1, the sticky flags) is left with free values (R340). -/

namespace Sys2Proof.Machine

/-- x ÷ 2^n to nearest, halves up. -/
def rnd (x : Int) (n : Nat) : Int := (2 * x + 2 ^ n).ediv (2 ^ (n + 1))

/-- Saturation to Q1.31. -/
def satQ (x : Int) : Int := clampInt qMin qMax x

/-- An error of at most five last places, for a result whose accuracy the spec does not state. -/
def State.fuzz (s : State) (x : Int) : Int × State :=
  (satQ (x + ((s.takeFree.1.toNat % 11 : Nat) : Int) - 5), s.takeFree.2)

/-- What a kernel leaves beside its outputs: free values in v2 to v15, a1 and the sticky flags (R340). -/
def State.clobber (s : State) (l : Nat) : State :=
  let s := s.each (List.range 14) fun i s => s.takeFree.2.setV l (2 + i) s.takeFree.1
  let (hi, s) := s.takeFree
  let (lo, s) := s.takeFree
  let s := s.setAcc l true (hi.toInt * 2 ^ 16 + lo.toNat % 2 ^ 16)
  let (fl, s) := s.takeFree
  s.setCe l { s.ceLane l with flags := fl.toNat % 32 }

/-- Writes a kernel's outputs from v2 on. -/
def State.outputs (s : State) (l : Nat) (out : List Word) : State :=
  (out.zip (List.range out.length)).foldl (fun s e => s.setV l (2 + e.2) e.1) s

def qWord (x : Int) : Word := BitVec.ofInt 32 (satQ x)

/-- A lane calls the kernel with number `id` (R340, R341): the residues of the registers `rs` it reads are checked (R330, R331). -/
def State.kcall (s : State) (x : CeInstr) (id : Nat) (rs : List Nat) (g : State → State) : State :=
  s.ceChecked { x with imm := BitVec.ofNat 32 id } 0x0C (rs.map fun r => (s.vreg x.lane r).res)
    (rs.any fun r => (s.vreg x.lane r).err ≠ 0) g

/-- A stateless kernel of n inputs: the kernel's outputs over free values, next instruction. -/
def State.kernel0 (s : State) (x : CeInstr) (id n : Nat) (g : (Nat → Int) → State → List Word × State) : State :=
  s.kcall x id ((List.range n).map (2 + ·)) fun s =>
    let (out, t) := g (fun r => s.vi x.lane r) s
    ((t.clobber x.lane).outputs x.lane out).adv x.lane

/-- A kernel of `ins` inputs with a state block of n words at the address in v1: a program fault where the block leaves the general area or
is not aligned to 8 bytes, or lies in the constant section (R337); else the block's words are replaced. -/
def State.kernelN (s : State) (x : CeInstr) (id ins n : Nat)
    (g : (Nat → Int) → (Nat → Int) → State → List Word × List Word × State) : State :=
  s.kcall x id ((List.range (ins + 1)).map (1 + ·)) fun s =>
    let a := (s.v x.lane 1).toNat
    if 0x10000 < a + 4 * n || a % 8 ≠ 0 || (List.range n).any (fun i => s.inConst (a + 4 * i)) then
      s.ceFault 2 x.lane 0x0C (some a)
    else s.checkedRead x a (4 * n) fun s =>
      let (out, block, t) := g (fun r => s.vi x.lane r) (fun i => (s.ceWord x.lane (a + 4 * i)).toInt) s
      (((t.setWords a block).clobber x.lane).outputs x.lane out).adv x.lane

/-- 1/√3 with 62 fractional bits; √3/2 with 62 fractional bits. -/
def fxInvSqrt3 : Int := 2662558164157085850
def fxHalfSqrt3 : Int := 3993837246235628775

/-- CLARKE: α = (2a − b − c) ÷ 3; β = (b − c) ÷ √3. -/
def State.kClarke (s : State) (x : CeInstr) : State :=
  s.kernel0 x 1 3 fun v s =>
    let (be, s) := s.fuzz (rnd ((v 3 - v 4) * fxInvSqrt3) 62)
    ([qWord (nearDiv (2 * v 2 - v 3 - v 4) 3), BitVec.ofInt 32 be], s)

/-- PARK and IPARK: a rotation by ∓πθ. -/
def State.kRotate (s : State) (x : CeInstr) (inverse : Bool) : State :=
  s.kernel0 x (if inverse then 3 else 2) 3 fun v s =>
    let (sn, cs) := fxSinCos (v 4)
    let sn := if inverse then -sn else sn
    let (p, s) := s.fuzz (rnd (v 2 * cs + v 3 * sn) 62)
    let (q, s) := s.fuzz (rnd (v 3 * cs - v 2 * sn) 62)
    ([BitVec.ofInt 32 p, BitVec.ofInt 32 q], s)

/-- PI: state kp, ki, hi, lo, x, 0. -/
def State.kPi (s : State) (x : CeInstr) : State :=
  s.kernelN x 4 2 6 fun v m s =>
    let u := qMul (m 0) (v 2) + m 4 + v 3
    let cl := decide (u < m 3 ∨ m 2 < u)
    let y := clampInt (m 3) (m 2) u
    let xs := if cl then m 4 else satQ (m 4 + qMul (m 1) (v 2))
    ([qWord y, BitVec.ofNat 32 (bit cl)],
     [BitVec.ofInt 32 (m 0), BitVec.ofInt 32 (m 1), BitVec.ofInt 32 (m 2), BitVec.ofInt 32 (m 3), BitVec.ofInt 32 xs,
      BitVec.ofInt 32 (m 5)], s)

/-- SOGIFLL (R359, R360). A divisor of 0 leaves step 4 without a stated value: ω is free before its clamp. -/
def State.kSogi (s : State) (x : CeInstr) : State :=
  s.kernelN x 6 1 12 fun v m s =>
    let e := v 2 - m 5
    let w := m 7
    let x1 := satQ (m 5 + rnd (w * fxPi * (m 0 * e - m 6 * 2 ^ 30)) 123)
    let x2 := satQ (m 6 + rnd (w * fxPi * x1) 93)
    let den := max (x1 * x1 + x2 * x2) (m 4 * 2 ^ 31)
    let (om, s) : Int × State :=
      if den = 0 then (s.takeFree.1.toInt, s.takeFree.2)
      else (w - nearDiv (m 1 * w * e * x2) (den.toNat * 2 ^ 31), s)
    let om := clampInt (m 2) (m 3) om
    let (th, s) : Int × State :=
      if x1 = 0 && x2 = 0 then (s.takeFree.1.toInt, s.takeFree.2) else s.fuzz (fxAtan2 x2 x1)
    ([BitVec.ofInt 32 x1, BitVec.ofInt 32 x2, BitVec.ofInt 32 om, BitVec.ofInt 32 th],
     [m 0, m 1, m 2, m 3, m 4, x1, x2, om, m 8, m 9, m 10, m 11].map (BitVec.ofInt 32), s)

/-- SEQSEP: α± = (α′ ∓ qβ′) ÷ 2; β± = (β′ ± qα′) ÷ 2. -/
def State.kSeqsep (s : State) (x : CeInstr) : State :=
  s.kernel0 x 7 4 fun v s =>
    ([qWord (rnd (v 2 - v 5) 1), qWord (rnd (v 4 + v 3) 1), qWord (rnd (v 2 + v 5) 1), qWord (rnd (v 4 - v 3) 1)], s)

/-- SVM: phase references with min-max injection as 0.24 duty codes. How sectors are numbered the spec does not say: v5 is
free. -/
def State.kSvm (s : State) (x : CeInstr) : State :=
  s.kernel0 x 8 2 fun v s =>
    -- references with 62 + 31 fractional bits
    let one : Int := 2 ^ 62
    let a := v 2 * one
    let b := -(v 2 * 2 ^ 61) + v 3 * fxHalfSqrt3
    let c := -(v 2 * 2 ^ 61) - v 3 * fxHalfSqrt3
    let v0 := -(max a (max b c) + min a (min b c))
    -- duty = 1/2 + (x + v0/2) / 2, as a 0.24 code
    let duty (y : Int) : Word := BitVec.ofInt 32 (clampInt 0 (2 ^ 24 - 1) (2 ^ 23 + rnd (2 * y + v0) 71))
    ([duty a, duty b, duty c, s.takeFree.1], s.takeFree.2)

/-- BIQUAD: b0, b1, b2, a1, a2 in Q2.30, s1, s2, 0. -/
def State.kBiquad (s : State) (x : CeInstr) : State :=
  s.kernelN x 9 1 8 fun v m s =>
    let y := satQ (rnd (m 0 * v 2) 30 + m 5)
    let s1 := satQ (rnd (m 1 * v 2 - m 3 * y) 30 + m 6)
    let s2 := satQ (rnd (m 2 * v 2 - m 4 * y) 30)
    ([BitVec.ofInt 32 y], [m 0, m 1, m 2, m 3, m 4, s1, s2, m 7].map (BitVec.ofInt 32), s)

/-- The number of ones in the low bits of a number. -/
def popCount (n : Nat) : Nat := (List.range 32).foldl (fun a i => a + bit (n.testBit i)) 0

/-- R375: the sign of a chip from its scrambler bit. -/
def chipSign (r k : Nat) (sk : Bool) : Int := if (popCount (r &&& k) + bit sk) % 2 = 0 then 1 else -1

/-- CORR (R376): row, L, address of the packed scrambler bits, A, previous chip index, 0. -/
def State.kCorr (s : State) (x : CeInstr) : State :=
  let addr := (s.ceWord x.lane ((s.v x.lane 1).toNat + 8)).toNat + 4 * ((s.vi x.lane 3).toNat / 32)
  if 0x20000 < addr + 4 || addr % 4 ≠ 0 || ceReserved addr then
    s.kcall x 0x0A [1, 2, 3] fun s => s.ceFault 2 x.lane 0x0C (some addr)
  else if let some b := s.badByte addr 4 then s.kcall x 0x0A [1, 2, 3] fun s => s.dataParity x.lane b
  else s.kernelN x 0x0A 2 6 fun v m s =>
    let k := (v 3).toNat
    let wordAt := (m 2).toNat + 4 * (k / 32)
    let sk := (s.ceWord x.lane wordAt).getLsbD (k % 32)
    let wrap := decide (v 3 < m 4)
    let a0 := if wrap then 0 else m 3
    let a1 := satQ (a0 + rnd (chipSign (m 0).toNat k sk * v 2) 16)
    ([BitVec.ofInt 32 (m 3), BitVec.ofNat 32 (bit wrap)], [m 0, m 1, m 2, a1, v 3, m 5].map (BitVec.ofInt 32), s)

/-- MPPTPO (R362): ΔV, vmin, vmax, vref, p′, direction, 0, 0. -/
def State.kMpptPo (s : State) (x : CeInstr) : State :=
  s.kernelN x 0x0B 2 8 fun v m s =>
    let p := satQ (qMul (v 2) (v 3))
    let dir := if p < m 4 then -(m 5) else m 5
    let vr := clampInt (m 1) (m 2) (m 3 + dir * m 0)
    ([BitVec.ofInt 32 vr], [m 0, m 1, m 2, vr, p, dir, m 6, m 7].map (BitVec.ofInt 32), s)

/-- MPPTIC (R363): ΔV, vmin, vmax, vref, v′, i′, ε, 0; the conductance in binary32. -/
def State.kMpptIc (s : State) (x : CeInstr) : State :=
  s.kernelN x 0x0C 2 8 fun v m s =>
    let dv := v 2 - m 4
    let di := v 3 - m 5
    let f (n : Int) : Word := (fpOfInt n (-31)).v
    let up := m 3 + m 0
    let dn := m 3 - m 0
    let vr :=
      if (dv.natAbs : Int) < 2 ^ 11 then (if m 6 < di then up else if di < -(m 6) then dn else m 3)
      else
        let g := (fpAdd (fpDiv (f di) (f dv)).v (fpDiv (f (v 3)) (f (v 2))).v).v
        if (fpCmp g (f (m 6))).1 = 1 then up else if (fpCmp g (fpNeg (f (m 6)))).1 = -1 then dn else m 3
    let vr := clampInt (m 1) (m 2) vr
    ([BitVec.ofInt 32 vr], [m 0, m 1, m 2, vr, v 2, v 3, m 6, m 7].map (BitVec.ofInt 32), s)

/-- PQ: p = vd·id + vq·iq; q = vq·id − vd·iq. -/
def State.kPq (s : State) (x : CeInstr) : State :=
  s.kernel0 x 0x0D 4 fun v s =>
    ([qWord (rnd (v 2 * v 4 + v 3 * v 5) 31), qWord (rnd (v 3 * v 4 - v 2 * v 5) 31)], s)

/-- MSQ: k, y, 0, 0; y ← y + k·(x² − y). -/
def State.kMsq (s : State) (x : CeInstr) : State :=
  s.kernelN x 0x0E 1 4 fun v m s =>
    let y := satQ (m 1 + rnd (m 0 * (v 2 * v 2 - m 1 * 2 ^ 31)) 62)
    ([BitVec.ofInt 32 y], [m 0, y, m 2, m 3].map (BitVec.ofInt 32), s)

/-- RAMP: step, y, 0, 0; y moves towards the target by at most the step. -/
def State.kRamp (s : State) (x : CeInstr) : State :=
  s.kernelN x 0x0F 1 4 fun v m s =>
    let st := max 0 (m 0)
    let y := m 1 + clampInt (-st) st (v 2 - m 1)
    ([qWord y], [m 0, y, m 2, m 3].map (BitVec.ofInt 32), s)

/-! ### The commands -/

def execClarke (x : CeInstr) (s : State) : Out := .next (s.onMain (s.kClarke x))
def execPark (x : CeInstr) (s : State) : Out := .next (s.onMain (s.kRotate x false))
def execIpark (x : CeInstr) (s : State) : Out := .next (s.onMain (s.kRotate x true))
def execPiStep (x : CeInstr) (s : State) : Out := .next (s.onMain (s.kPi x))
def execSogifll (x : CeInstr) (s : State) : Out := .next (s.onMain (s.kSogi x))
def execSeqsep (x : CeInstr) (s : State) : Out := .next (s.onMain (s.kSeqsep x))
def execSvm (x : CeInstr) (s : State) : Out := .next (s.onMain (s.kSvm x))
def execBiquad (x : CeInstr) (s : State) : Out := .next (s.onMain (s.kBiquad x))
def execCorr (x : CeInstr) (s : State) : Out := .next (s.onMain (s.kCorr x))
def execMpptpo (x : CeInstr) (s : State) : Out := .next (s.onMain (s.kMpptPo x))
def execMpptic (x : CeInstr) (s : State) : Out := .next (s.onMain (s.kMpptIc x))
def execPq (x : CeInstr) (s : State) : Out := .next (s.onMain (s.kPq x))
def execMsq (x : CeInstr) (s : State) : Out := .next (s.onMain (s.kMsq x))
def execRamp (x : CeInstr) (s : State) : Out := .next (s.onMain (s.kRamp x))

end Sys2Proof.Machine
end

