-- ==== Sys2Proof/Machine/Grid.lean ====
section
/-! DEFINITION. The grid supervisor (R351 to R383): evaluations, zones, requests, islanding checks and enter service.
Instants are plant times in units of 2^-41 ns. -/

namespace Sys2Proof.Machine

/-- Word i of the measurement block in hand, as bits and as an int32. -/
def State.gw (s : State) (i : Nat) : Word := s.grd.copy.getD i 0
def State.gi (s : State) (i : Nat) : Int := (s.gw i).toInt

/-- A per-unit word in units of 2^-14 pu. -/
def State.pu (s : State) (i : Nat) : Int := (s.gi i).ediv (2 ^ 16)

/-! ### Curve points (R364, R365) -/

def State.crvN (s : State) (c : Nat) : Nat :=
  min 16 (s.f ⟨0xB020 + 4 * (c / 4), 8 * (c % 4), 5⟩)
def State.crvT (s : State) (c k : Nat) : Nat := s.f ⟨0xB800 + 128 * c + 8 * k, 0, 32⟩
def State.crvX (s : State) (c k : Nat) : Nat := s.f ⟨0xB804 + 128 * c + 8 * k, 0, 17⟩

/-- The quantity q of R363's table: V under, V over, F under, F over. -/
def State.quantity (s : State) (q : Nat) : Int :=
  match q with
  | 0 => min (s.pu 0) (min (s.pu 1) (s.pu 2))
  | 1 => max (s.pu 0) (max (s.pu 1) (s.pu 2))
  | _ => ((s.gw 4).toNat : Int)

/-- Whether a value is beyond limit x in the direction of q, and whether it has left x by the hysteresis. -/
def beyond (q : Nat) (v x : Int) : Bool := if q % 2 = 0 then decide (v < x) else decide (x < v)
def leftBy (q : Nat) (v x h : Int) : Bool := if q % 2 = 0 then decide (x + h ≤ v) else decide (v ≤ x - h)

/-- One point at an evaluation: its timer starts, continues or is reset, and it is active once it has run its time. -/
def State.pointStep (s : State) (c k t : Nat) : State :=
  let q := c % 4
  let x : Int := (s.crvX c k : Nat)
  let h : Int := (if q < 2 then s.f R.GRD_HYS_VH else s.f R.GRD_HYS_FH : Nat)
  let v := s.quantity q
  let key := 16 * c + k
  let run := Tab.get (fun _ => 0) s.grd.timers key
  -- R367: a running timer of a changed point is reset unless the quantity is beyond the new limit
  let off := leftBy q v x h || s.grd.chg.contains key
  let run := if beyond q v x then (if run = 0 then t + 1 else run) else if off then 0 else run
  let act := run ≠ 0 && decide (run - 1 + s.crvT c k * ptMs ≤ t)
  { s with grd := { s.grd with
    timers := Tab.set (fun _ => 0) s.grd.timers key run,
    active := if act then s.grd.active ++ [key] else s.grd.active } }

/-- Every point of every curve; timers of points a curve no longer has are reset. -/
def State.pointsStep (s : State) (t : Nat) : State :=
  let s : State := { s with grd := { s.grd with
    active := [], timers := s.grd.timers.filter fun e => decide (e.1 % 16 < s.crvN (e.1 / 16)) } }
  let s := s.each (List.range 16) fun c s => s.each (List.range (s.crvN c)) fun k s => s.pointStep c k t
  { s with grd := { s.grd with chg := [] } }

/-- The zone and the point that sets it: the lowest curve, then the lowest point, of the most severe zone (R366). -/
def zoneOf (active : List Nat) : Nat × Option Nat :=
  let pick (z : Nat) : Option Nat := (List.range 64).map (· + 64 * z) |>.find? fun key => active.contains key
  match pick 3, pick 2, pick 1, pick 0 with
  | some k, _, _, _ => (4, some k)
  | none, some k, _, _ => (3, some k)
  | none, none, some k, _ => (2, some k)
  | none, none, none, some k => (1, some k)
  | none, none, none, none => (0, none)

/-! ### Requests -/

/-- A block trip requested by the supervisor (R368, R371, R383). -/
def State.gridTrip (s : State) (cause crv pt : Nat) : State :=
  let s := s.setF R.GRD_STAT_CAUSE cause
  (s.blockTrip cause (crv + 16 * pt)).post 0x0B02 0 cause crv pt

/-- Return from RIDE to CONNECTED: active detection stays suspended to the end of the second whole code period that begins
from here (R368, R379). -/
def State.rideReturn (s : State) (t : Nat) : State :=
  if s.st ≠ stRide then s
  else
    let p := codePeriod s.codeWord
    let s : State := { s with grd := { s.grd with exitFrom := none, suspTo := (ceilDiv t p + 2) * p } }
    s.enter stConnected

/-- RIDE requested (R368); a block trip of the same evaluation has left nothing to ride (R605). -/
def State.rideEnter (s : State) : State :=
  if s.st ≠ stConnected then s
  else ({ s with grd := { s.grd with exitFrom := none } } : State).enter stRide |>.count R.GRD_CNT_RIDE 1

/-- A cessation hold begins (R369), unless a trip has come first (R370). -/
def State.holdOn (s : State) : State :=
  if s.on R.GRD_STAT_HOLD || !(s.st = stConnected || s.st = stRide) then s
  else (s.allOff.setF R.GRD_STAT_HOLD 1).count R.GRD_CNT_CESS 1

/-- The zone of an evaluation is shown, and a change posted (R366, R383). -/
def State.showZone (s : State) : State :=
  let (z, pt) := zoneOf s.grd.active
  let old := s.f R.GRD_STAT_ZONE
  let s := s.setF R.GRD_STAT_ZONE z
  -- R610: since when the zone has been continuous
  let s : State := { s with sys := { s.sys with contSince := if z = 0 then some (s.sys.contSince.getD s.tbp) else none } }
  let s := match pt with
    | some k => (s.setF R.GRD_STAT2_CRV (k / 16)).setF R.GRD_STAT2_PT (k % 16)
    | none => s
  if z = old then s else s.post 0x0B01 0 z (s.f R.GRD_STAT2_CRV) (s.f R.GRD_STAT2_PT)

/-- Whether RIDE has seen a continuous zone for `EXIT` ms at the evaluation at t (R368). -/
def State.exitDue (s : State) (t : Nat) : Bool :=
  match s.grd.exitFrom with
  | some f => decide (f + s.f R.GRD_CFG_EXIT * ptMs ≤ t)
  | none => false

/-- The actions of R368 on the zone, in the state `st` that the evaluation found. -/
def State.zoneAct (s : State) (st t : Nat) : State :=
  let z := s.f R.GRD_STAT_ZONE
  let running := st = stConnected || st = stRide
  let en := s.on R.GRD_CFG_EN
  let s := if z = 3 && running && en then s else s.setF R.GRD_STAT_HOLD 0
  let s : State := { s with grd := { s.grd with
    exitFrom := if st = stRide && z = 0 then some (s.grd.exitFrom.getD t) else none } }
  if !en || !running then s
  else match z with
    | 4 => s.gridTrip (0x10 + s.f R.GRD_STAT2_CRV % 4) (s.f R.GRD_STAT2_CRV) (s.f R.GRD_STAT2_PT)
    | 3 => (if st = stConnected then s.rideEnter else s).holdOn
    | 0 => if st = stRide && s.exitDue t then s.rideReturn t else s
    | _ => if st = stConnected then s.rideEnter else s

/-- Freshness and staleness of a copy (R356); a fresh one gives the metering unit its frequency from here on (R505). -/
def State.freshStep (s : State) (st t : Nat) : State :=
  let fresh := (s.gw 11).getLsbD 0 && s.grd.seq ≠ some (s.gw 12)
  let s := if fresh && s.mtr.run then s.mtrRebase else s
  let s : State := { s with grd := { s.grd with
    seq := some (s.gw 12), freshAt := if fresh then t else s.grd.freshAt,
    freshF := if fresh then s.gw 4 else s.grd.freshF } }
  if s.grd.freshAt + s.f R.GRD_CFG_STALE * ptMs < t then
    let s := (s.setF R.GRD_STAT_STALE 1).count R.GRD_CNT_STALE 1
    if st = stConnected || st = stRide then s.gridTrip 0x17 0 0
    else ({ s with grd := { s.grd with okFrom := none } } : State).setF R.GRD_STAT_CONNOK 0
  else s.setF R.GRD_STAT_STALE 0

/-- Enter service (R381); `fresh` says whether the copy was fresh. -/
def State.serviceStep (s : State) (fresh : Bool) (t : Nat) : State :=
  let inV (i : Nat) : Bool := decide ((s.f R.GRD_ENTV_VLO : Int) ≤ s.pu i ∧ s.pu i ≤ (s.f R.GRD_ENTV_VHI : Nat))
  let f := (s.gw 4).toNat
  let ok := fresh && (s.gw 11).getLsbD 1 && inV 0 && inV 1 && inV 2 &&
    decide (s.f R.GRD_ENTFL_FLO ≤ f ∧ f ≤ s.f R.GRD_ENTFH_FHI)
  if ok then
    let fr := s.grd.okFrom.getD t
    let s : State := { s with grd := { s.grd with okFrom := some fr } }
    if fr + s.f R.GRD_ENTD_DELAY * 1000 * ptMs ≤ t then s.setF R.GRD_STAT_CONNOK 1 else s
  else ({ s with grd := { s.grd with okFrom := none } } : State).setF R.GRD_STAT_CONNOK 0

/-- Whether ROCOF has stood at its threshold for `GRD_ROC.T` at the evaluation at t (R372). -/
def State.rocDue (s : State) (t : Nat) : Bool :=
  match s.grd.rocFrom with
  | some f => decide (f + s.f R.GRD_ROC_T * ptMs ≤ t)
  | none => false

/-- Passive checks (R372, R373); they act in CONNECTED only. -/
def State.passiveStep (s : State) (st t : Nat) : State :=
  let act := st = stConnected && s.on R.GRD_CFG_EN
  let roc := act && s.on R.GRD_ROC_EN && decide (s.f R.GRD_ROC_TH * 10 ≤ (s.gi 5).natAbs)
  let s : State := { s with grd := { s.grd with rocFrom := if roc then some (s.grd.rocFrom.getD t) else none } }
  let s := if s.rocDue t then s.gridTrip 0x14 0 0 else s
  if act && s.on R.GRD_VS_EN && s.f R.GRD_STAT_ZONE = 0 && decide (s.f R.GRD_VS_TH * 2 ^ 31 ≤ (s.gi 6).natAbs * 1800) then
    s.gridTrip 0x15 0 0
  else s

/-- Active detection (R378, R379). -/
def State.activeStep (s : State) (st t : Nat) : State :=
  let new := s.grd.idx ≠ some (s.gw 10)
  let s : State := { s with grd := { s.grd with idx := some (s.gw 10) } }
  let s := if new then s.setF R.GRD_LASTC_C (s.gw 9).toNat else s
  if s.suspended st t then (s.setF R.GRD_STAT_HITS 0).setF R.GRD_STAT_AISUSP 1
  else
    let s := s.setF R.GRD_STAT_AISUSP 0
    if new && (s.gw 11).getLsbD 2 && !s.grd.skip.any (fun e => e.1 = s.gw 10 && t < e.2) then
      if (s.f R.GRD_AIL_ATH : Int) ≤ (s.gi 9).ediv (2 ^ 10) then
        let s := s.count R.GRD_STAT_HITS 1
        if s.f R.GRD_STAT_HITS = s.f R.GRD_AIL_ACNT && s.on R.GRD_CFG_EN then s.gridTrip 0x16 0 0 else s
      else s.setF R.GRD_STAT_HITS 0
    else s

/-- GRID_EVALUATION of the copy in hand, at the plant time of its cycle's start match (R355). -/
def State.gridEval (s : State) : State :=
  if !s.grd.waiting || !s.live || s.st = stBoot then s
  else
    let t := s.grd.copyAt
    let st := s.st
    let fresh := (s.gw 11).getLsbD 0 && s.grd.seq ≠ some (s.gw 12)
    let s : State := { s with grd := { s.grd with waiting := false, evalAt := t, staleAt := t, ev := s.grd.copy } }
    let s := s.pointsStep t
    let s := s.showZone.freshStep st t
    let s := s.serviceStep fresh t
    let s := s.zoneAct st t
    let s := s.passiveStep st t
    s.activeStep st t

/-- GRID_STALE (R358): no evaluation for longer than `STALE` ms in CONNECTED or RIDE. -/
def State.gridStale (s : State) : State :=
  if s.inSt [stConnected, stRide] && decide (s.grd.staleAt + s.f R.GRD_CFG_STALE * ptMs < s.pt) then s.gridTrip 0x17 0 0 else s

/-- CURVE_POINT_TIMER_EXPIRY: the point has run its time at the evaluation in hand, and is active (R365). -/
def State.pointExpiry (s : State) (c k : Nat) : State :=
  let key := 16 * c + k
  let run := Tab.get (fun _ => 0) s.grd.timers key
  if run ≠ 0 && decide (run - 1 + s.crvT c k * ptMs ≤ s.grd.evalAt) && !s.grd.active.contains key then
    { s with grd := { s.grd with active := s.grd.active ++ [key] } }
  else s

/-- RIDE_EXIT (R368). -/
def State.rideExit (s : State) : State :=
  if s.inSt [stRide] && s.on R.GRD_CFG_EN && s.f R.GRD_STAT_ZONE = 0 && s.exitDue s.grd.evalAt then
    s.rideReturn s.grd.evalAt
  else s

/-- ISL_ROCOF (R372). -/
def State.islRocof (s : State) : State :=
  if s.inSt [stConnected] && s.on R.GRD_CFG_EN && s.on R.GRD_ROC_EN && s.rocDue s.grd.evalAt then s.gridTrip 0x14 0 0 else s

/-- ISL_ACTIVE (R378). -/
def State.islActive (s : State) : State :=
  if s.inSt [stConnected] && s.on R.GRD_CFG_EN && !s.suspended s.st s.grd.evalAt &&
      decide (s.f R.GRD_AIL_ACNT ≤ s.f R.GRD_STAT_HITS) && s.f R.GRD_STAT_HITS ≠ 0 then
    s.gridTrip 0x16 0 0
  else s

/-- CODE_PERIOD_BOUNDARY: a code period has begun since the change, and the new word takes effect (R377). -/
def State.codeBoundary (s : State) : State :=
  let p := codePeriod s.codeWord
  match s.grd.codeAt with
  | some t =>
    if t / p < s.pt / p then
      ({ s with grd := { s.grd with code := some (s.reg 0xB050), codeAt := none } } : State).aiShow
    else s
  | none => s

/-- A write has changed `GRD_CODE`: the period in which it falls is discarded (R377), when its correlation comes in the period
after it. -/
def State.codeChange (s : State) : State :=
  let p := codePeriod s.codeWord
  let n := s.pt / p
  { s with grd := { s.grd with codeAt := some s.pt,
                               skip := (s.grd.skip.filter fun e => s.pt < e.2) ++ [(BitVec.ofNat 32 n, (n + 2) * p)] } }

/-- ENTER_SERVICE_TIMER (R381). -/
def State.serviceTimer (s : State) : State :=
  match s.grd.okFrom with
  | some f => if f + s.f R.GRD_ENTD_DELAY * 1000 * ptMs ≤ s.grd.evalAt then s.setF R.GRD_STAT_CONNOK 1 else s
  | none => s

def State.grdCntClear (s : State) : State :=
  ((s.setF R.GRD_CNT_RIDE 0).setF R.GRD_CNT_CESS 0).setF R.GRD_CNT_STALE 0

/-! ### The commands -/

def execGridEvaluation (s : State) : Out := .next (s.onMain s.gridEval)
def execGridStale (s : State) : Out := .next (s.onMain s.gridStale)
def execCurvePointTimerExpiry (c k : Fin 16) (s : State) : Out := .next (s.onMain (s.pointExpiry c k))
def execRideExit (s : State) : Out := .next (s.onMain s.rideExit)
def execIslRocof (s : State) : Out := .next (s.onMain s.islRocof)
def execIslActive (s : State) : Out := .next (s.onMain s.islActive)
def execCodePeriodBoundary (s : State) : Out := .next (s.onMain s.codeBoundary)
def execEnterServiceTimer (s : State) : Out := .next (s.onMain s.serviceTimer)
def execGrdCntClr (s : State) : Out := .next (s.onMain (s.grdCntClear.wres 0xB0EC .done))

end Sys2Proof.Machine
end

