-- ==== Sys2Proof/Machine/Segs.lean ====
section
/-! DEFINITION. Segments and plant frames as they stand on a link: CRC-32 and stomping, the layout of a frame, its slots, packets
in cells, and what a link loss leaves of a frame (R390, R391, R399, R400, R410, R412). -/

namespace Sys2Proof
open Machine

/-! ### Segments (R390, R391) -/

/-- The CRC-32 of a body, each word's bytes lowest first. -/
def crcOf (body : List Word) : Word := BitVec.ofNat 32 (crc32 (body.flatMap wordBytes))

/-- A segment as the module ends it: with the right CRC, or stomped with its complement. -/
def segOf (good : Bool) (body : List Word) : Seg := { body, crc := if good then crcOf body else ~~~ crcOf body }

def Seg.good (g : Seg) : Bool := g.crc = crcOf g.body
def Seg.stomped (g : Seg) : Bool := g.crc = ~~~ crcOf g.body

/-- A segment forwarded as it came: a failing one is ended with a stomped CRC. -/
def Seg.forward (g : Seg) : Seg := segOf g.good g.body

/-- A segment with another body, still failing when it came failing (R410). -/
def Seg.remake (g : Seg) (body : List Word) : Seg := segOf g.good body

/-- A segment's symbols with those around it: /S/, body, CRC, /T/ and one /I/. -/
def Seg.size (g : Seg) : Nat := 4 * g.body.length + 8

def LinkFrame.segs (f : LinkFrame) : List Seg := f.hdr :: (f.saf ++ f.cyc ++ f.cells.filterMap id)

/-- How many segments of a frame come stomped, and how many fail otherwise. -/
def LinkFrame.stomps (f : LinkFrame) : Nat := (f.segs.filter fun g => g.stomped).length
def LinkFrame.fails (f : LinkFrame) : Nat := (f.segs.filter fun g => !g.good && !g.stomped).length

def LinkFrame.forward (f : LinkFrame) : LinkFrame :=
  { hdr := f.hdr.forward, saf := f.saf.map Seg.forward, cyc := f.cyc.map Seg.forward, cells := f.cells.map (·.map Seg.forward) }

/-! ### The header (R400) -/

/-- The seven header words. -/
def hdrWords (frame : Word) (ns : Nat) (sec : Word) (frac hop line dir net end_ : Nat) (acc loop : Nat) (per ndev : Nat) :
    List Word :=
  [frame, BitVec.ofNat 32 ns, sec,
   BitVec.ofNat 32 (frac + hop % 256 * 2 ^ 16 + line % 4 * 2 ^ 24 + dir * 2 ^ 26 + net * 2 ^ 27 + end_ * 2 ^ 28),
   BitVec.ofNat 32 acc, BitVec.ofNat 32 loop, BitVec.ofNat 32 (per % 2 ^ 10 + ndev % 2 ^ 9 * 2 ^ 10)]

/-- Bits `lo` to `lo + w - 1` of header word i. -/
def LinkFrame.bits (f : LinkFrame) (i lo w : Nat) : Nat := (f.hdr.body.getD i 0).toNat / 2 ^ lo % 2 ^ w

def LinkFrame.frame (f : LinkFrame) : Nat := f.bits 0 0 32
def LinkFrame.hop (f : LinkFrame) : Nat := f.bits 3 16 8
def LinkFrame.line (f : LinkFrame) : Nat := f.bits 3 24 2
def LinkFrame.per (f : LinkFrame) : Nat := f.bits 6 0 10
def LinkFrame.ndev (f : LinkFrame) : Nat := f.bits 6 10 9

/-- TS0 less its whole seconds, and `ACC` and `LOOP`, all in 2^-16 ns. -/
def LinkFrame.ts0 (f : LinkFrame) : Nat := f.bits 1 0 30 * 2 ^ 16 + f.bits 3 0 16
def LinkFrame.acc (f : LinkFrame) : Nat := f.bits 4 0 32 * 2 ^ 8
def LinkFrame.loop (f : LinkFrame) : Nat := f.bits 5 0 32 * 2 ^ 8

/-- A header with another position and other words 4 and 5. -/
def LinkFrame.rehead (f : LinkFrame) (hop acc loop : Nat) : List Word :=
  hdrWords (f.hdr.body.getD 0 0) (f.bits 1 0 32) (f.hdr.body.getD 2 0) (f.bits 3 0 16) hop f.line (f.bits 3 26 1) (f.bits 3 27 1)
    (f.bits 3 28 1) acc loop f.per f.ndev

/-! ### Slots (R399, R410) -/

/-- The fixed part of a frame of N positions, in bytes, and its cells. -/
def frameFixed (n : Nat) : Nat := 36 + 48 * n + 24 * ceilDiv n 32
def frameCells (per n : Nat) : Nat := (250 * per - 250 - frameFixed n) / 288

/-- The groups of N positions with slots of w words each; an absent slot has a presence bit of 0. -/
def slotGroups (n w : Nat) (slot : Nat → Option (List Word)) : List Seg :=
  (List.range (ceilDiv n 32)).map fun g =>
    let ps := (List.range (min 32 (n - 32 * g))).map fun k => slot (32 * g + k)
    let presence := (List.range ps.length).foldl (fun a k => if (ps.getD k none).isSome then a + 2 ^ k else a) 0
    segOf true (BitVec.ofNat 32 presence :: ps.flatMap fun p => (p.getD []).take w ++ List.replicate (w - (p.getD []).length) 0)

/-- The slot of position p, of w words, in a list of groups: none where its group fails or its presence bit is 0. -/
def slotIn (w : Nat) (l : List Seg) (p : Nat) : Option (List Word) :=
  match l[p / 32]? with
  | some g =>
    if g.good && (g.body.getD 0 0).getLsbD (p % 32) then
      some ((List.range w).map fun i => g.body.getD (1 + w * (p % 32) + i) 0)
    else none
  | none => none

/-- A device's slot is put at its position, with its presence bit (R410). -/
def slotPut (w : Nat) (l : List Seg) (p : Nat) (ws : List Word) : List Seg :=
  l.modify (p / 32) fun g =>
    let at_ := 1 + w * (p % 32)
    let body := g.body.take at_ ++ ws.take w ++ g.body.drop (at_ + w)
    g.remake (body.modify 0 fun b => b ||| BitVec.ofNat 32 (2 ^ (p % 32)))

/-- How many positions of a list of groups carry data, in the groups that do not fail. -/
def slotCount (l : List Seg) : Nat :=
  ((l.filter Seg.good).map fun g => (List.range 32).foldl (fun a k => a + bit ((g.body.getD 0 0).getLsbD k)) 0).sum

/-! ### Packets in cells (R412, R418) -/

/-- The header and payload of a packet. -/
def Packet.words (p : Packet) : List Word :=
  [BitVec.ofNat 32 (p.ty % 2 ^ 8 + p.cls % 2 ^ 3 * 2 ^ 8 + p.status % 2 ^ 4 * 2 ^ 11 + p.len % 2 ^ 9 * 2 ^ 16 + p.tgt % 2 ^ 7 * 2 ^ 25),
   BitVec.ofNat 32 p.dst, BitVec.ofNat 32 p.src,
   BitVec.ofNat 32 (p.ofs % 2 ^ 20 + p.tag % 2 ^ 8 * 2 ^ 20 + p.att % 4 * 2 ^ 28 + bit p.commit * 2 ^ 30 + bit p.last * 2 ^ 31)] ++
    p.body

/-- Each packet takes the first free cell left. -/
def fillCells : List (Option Seg) → List Packet → List (Option Seg)
  | none :: cs, p :: ps => some (segOf true p.words) :: fillCells cs ps
  | some g :: cs, ps => some g :: fillCells cs ps
  | cs, [] => cs
  | [], _ => []

def LinkFrame.free (f : LinkFrame) : Nat := (f.cells.filter (·.isNone)).length

/-! ### A frame cut off (R391) -/

/-- What `n` symbols carry of a list of segments: the one that is cut ends stomped, after its whole words. -/
def cutSegs : Nat → List Seg → List Seg
  | _, [] => []
  | n, g :: l => if g.size ≤ n then g :: cutSegs (n - g.size) l else if n = 0 then [] else [segOf false (g.body.take ((n - 1) / 4))]

/-- The same of the cells, each of 288 symbols: /C/ takes two. -/
def cutCells : Nat → List (Option Seg) → List (Option Seg)
  | _, [] => []
  | n, c :: l =>
    if 288 ≤ n then c :: cutCells (n - 288) l
    else match c with
      | some g => if g.size + 2 ≤ n then [some g] else if n ≤ 2 then [] else [some (segOf false (g.body.take ((n - 3) / 4)))]
      | none => []

def LinkFrame.cut (f : LinkFrame) (n : Nat) : LinkFrame :=
  if n < f.hdr.size then { hdr := segOf false (f.hdr.body.take ((n - 1) / 4)) }
  else
    let size (l : List Seg) : Nat := (l.map Seg.size).sum
    let a := n - f.hdr.size
    let b := a - size f.saf
    { hdr := f.hdr, saf := cutSegs a f.saf, cyc := cutSegs b f.cyc, cells := cutCells (b - size f.cyc) f.cells }

end Sys2Proof
end

