-- ==== Sys2Proof/Machine/Lnk.lean ====
section
/-! DEFINITION. Cewlink: ports and training, the layout of frames, delivery of slots, the class queues with their credits,
packets and transactions (R384 to R421, R446 to R452). -/

namespace Sys2Proof.Machine

/-! ### Ports -/

def State.portUp (s : State) (n : Nat) : Bool := s.f (R.LNK_PORT_ST n) = 3

/-- Whether the PLL that clocks port n is stably locked (R86, R87). -/
def State.portClocked (s : State) (n : Nat) : Bool := s.bitAt R.CLK_STAT_STABLE (1 + n / 4)

/-! ### Training (R392, R393, R419) -/

/-- LOS_DEASSERTED: a port that is enabled, clocked and not held in idle trains; otherwise it trains when it is (R87, R392, R419).
One that has been down trains again, which `RETR` counts. -/
def State.losEnd (s : State) (n : Nat) : State :=
  let s := s.setF (R.LNK_PORT_LOS n) 0
  if s.live && portKind s.role n ≠ 0 && s.portClocked n && decide (s.f (R.LNK_PORT_ST n) < 2) &&
      s.idleDone n then
    let t := s.trainStart n
    if (s.port n).at_ = 0 then t else t.count (R.LNK_ERR_RETR n) 1
  else s

/-- SYMBOL_LOCK: 64 consecutive correct idles. -/
def State.symLock (s : State) (n : Nat) : State :=
  if s.f (R.LNK_PORT_ST n) = 2 && (s.port n).phase = 0 then s.setPort n { s.port n with phase := 1 } else s

/-- The pairs of R393. -/
def legalPair (a b : Nat) : Bool := (a = 1 && b = 2) || (a = 2 && b = 1) || (a = 3 && b = 2) || (a = 2 && b = 3)

/-- What /TS/ of a training port carries: the port's kind, its network (`true` Woad), the low half of the serial number, and
the acknowledge that the port has symbol lock (R392; DESIGN CHOICE, log entry 64). -/
def State.tsOut (s : State) (n : Nat) : Option (Nat × Bool × Word × Bool) :=
  if s.live && s.f (R.LNK_PORT_ST n) = 2 then
    some (portKind s.role n, decide (4 ≤ n), Config.serial.setWidth 32, decide (1 ≤ (s.port n).phase))
  else none

/-- TX_DISABLE on land LKnTXDIS: driven high while the port's transmitter is in electrical idle; the land of an unused port is
free (R387, R388; DESIGN CHOICE, log entry 64). -/
def State.txDisable (s : State) (n : Nat) : Option Bool :=
  if s.live && portKind s.role n ≠ 0 then some (decide (s.f (R.LNK_PORT_ST n) ≠ 2 ∧ s.f (R.LNK_PORT_ST n) ≠ 3)) else none

/-- TRAINING_SEQUENCE_COMPLETE: 256 /TS/ of the far end in a row, with its kind, network, serial number and acknowledge. Without
the acknowledge training goes on as before; an illegal pair is refused and posted. -/
def State.trained (s : State) (n far : Nat) (ts : TrainSeq) : State :=
  if ts.ack && s.f (R.LNK_PORT_ST n) = 2 && (s.port n).phase = 1 then
    let s := s.setF (R.LNK_PORT_FAR n) far
    let q : PortSt := { tblAt := (s.port n).tblAt, at_ := s.tbp, farSer := ts.serial }
    if legalPair (portKind s.role n) far && ts.woad = decide (4 ≤ n) then s.setPort n { q with phase := 2 }
    else ((s.setF (R.LNK_PORT_ST n) 4).setPort n q).post 0x0C03 n n
  else s

/-- MISWIRE_RETRY: 1 s after the refusal. -/
def State.miswireRetry (s : State) (n : Nat) : State :=
  if s.f (R.LNK_PORT_ST n) = 4 && decide ((s.port n).at_ + perSec ≤ s.tbp) then s.trainStart n else s

/-- LNK_UP: the 1 ms measurement is complete: the relation of TBLn to TBP is known, and the port is up. -/
def State.linkUp (s : State) (n : Nat) : State :=
  if s.f (R.LNK_PORT_ST n) = 2 && (s.port n).phase = 2 && decide ((s.port n).at_ + perMs ≤ s.tbp) then
    let q := s.port n
    let s := s.setXing (timeKey n) { s.xing (timeKey n) with src := s.relation n, dst := s.relation n }
    ((s.setF (R.LNK_PORT_ST n) 3).setPort n { tblAt := q.tblAt, farSer := q.farSer, at_ := s.tbp, seen := some s.tbp }).post
      0x0C01 n n
  else s

/-- The frame a port has sent last. -/
def State.setOut (s : State) (n : Nat) (f : LinkFrame) : State :=
  { s with lnk := { s.lnk with out := Tab.set (fun _ => {}) s.lnk.out n f } }
def State.sent (s : State) (n : Nat) : LinkFrame := Tab.get (fun _ => {}) s.lnk.out n

/-- The port from which a device forwards what arrives at port n. -/
def otherPort (role n : Nat) : Option Nat :=
  match portKind role n with
  | 2 => some (n + 1)
  | 3 => some (n - 1)
  | _ => none

/-- What port n was receiving is cut off: the segment being forwarded ends stomped, and nothing follows it (R391, R419). -/
def State.cutForward (s : State) (n : Nat) : State :=
  match otherPort s.role n with
  | some o =>
    match (s.port o).outAt with
    | some t => (s.setOut o ((s.sent o).cut ((s.tbp - t) * 5 / 8))).setPort o { s.port o with outAt := none }
    | none => s
  | none => s

/-- LNK_DOWN: LOS for 10 µs, 8 code errors within 1,024 symbols, or 4 failing headers (R419). -/
def State.linkDown (s : State) (n : Nat) (los : Bool) : State :=
  let s := if los then s.setF (R.LNK_PORT_LOS n) 1 else s
  let was := s.f (R.LNK_PORT_ST n)
  if was < 2 then s
  else
    let s := ((s.cutForward n).portIdle n true).upLost n
    if was = 3 then s.post 0x0C02 n n else s

/-- RETRAIN_START: after 1 ms of electrical idle (R419); the link side of the port's crossings is out of reset, and XDC_RESYNC
follows (R137, R616). -/
def State.retrain (s : State) (n : Nat) : State :=
  if s.f (R.LNK_PORT_ST n) = 1 && !s.on (R.LNK_PORT_LOS n) && s.portClocked n && portKind s.role n ≠ 0 &&
      s.idleDone n then
    (s.trainStart n).count (R.LNK_ERR_RETR n) 1
  else s

/-- NOFRM: no down frame at an up port for 4 × `PER` (R420). -/
def State.noFrame (s : State) (n : Nat) : State :=
  match (s.port n).seen with
  | some t =>
    if portKind s.role n = 2 && s.portUp n && decide (t + 4 * s.lnk.per * perUs ≤ s.tbp) then s.setF (R.LNK_PORT_NOFRM n) 1
    else s
  | none => s

/-! ### Frame layout (R399, R401) -/

/-- The most devices a line may have at a frame period (R401). -/
def lineMax (per : Nat) : Nat :=
  (List.range 256).foldl (fun m i => if 4 ≤ frameCells per (i + 1) then i + 1 else m) 0

/-- Failing and stomped segments of a frame at a port are counted (R391). -/
def State.countSegs (s : State) (n : Nat) (f : LinkFrame) : State :=
  (s.count (R.LNK_ERR_CRC n) f.fails).count (R.LNK_ERR_STOMP n) f.stomps

/-! ### Slots (R406 to R408) -/

/-- The data and status addresses of a slot: a partner's up slot, or with key 1024 a device's down slot. -/
def slotAt (key : Nat) : Nat := if key = 1024 then 0x1AC00 else 0x10000 + 32 * key
def statAt (key : Nat) : Nat := if key = 1024 then 0x1AC20 else 0x1A400 + 2 * key

/-- The status entry of a slot, and storing it as one unit. -/
def State.slotStat (s : State) (key : Nat) : Nat := (s.byte (statAt key)).toNat + 256 * (s.byte (statAt key + 1)).toNat
def State.setSlotStat (s : State) (key v : Nat) : State :=
  (s.setByte (statAt key) (BitVec.ofNat 8 v)).setByte (statAt key + 1) (BitVec.ofNat 8 (v / 256))

/-- `AGE` of a slot (R407). -/
def State.slotAge (s : State) (key : Nat) : Nat := s.slotStat key / 2 ^ 11

/-- The frames of which a slot has lately been delivered, newest first. -/
def State.delivered (s : State) (key : Nat) : List Nat := Tab.get (fun _ => []) s.lnk.last key

/-- SLOT_DELIVERY (R408): the first copy of a frame is written, a later one compared. When both complete at one edge, Madder's is
what stands in memory. A later copy of a frame that is no longer the last delivery has nothing left to be compared with (DESIGN
CHOICE, log entry 64). `true` when it was the first. -/
def State.deliver (s : State) (key frame : Nat) (woad : Bool) (ws : List Word) : Bool × State :=
  let bitN := if woad then 2 ^ 9 else 2 ^ 8
  let seen := s.delivered key
  if seen.contains frame then
    if seen.head? ≠ some frame then (false, s)
    else
      let v := s.slotStat key
      let v := if v / bitN % 2 = 1 then v else v + bitN
      let differ := s.words (slotAt key) 8 ≠ ws.take 8
      let s := if !woad && Tab.look s.lnk.lastAt key = some (s.tbp, true) then s.setWords (slotAt key) (ws.take 8) else s
      (false, s.setSlotStat key (if differ && v / 2 ^ 10 % 2 = 0 then v + 2 ^ 10 else v))
  else
    let s := (s.setWords (slotAt key) (ws.take 8)).setSlotStat key (frame % 256 + bitN)
    (true, { s with lnk := { s.lnk with
      last := Tab.set (fun _ => []) s.lnk.last key (frame :: seen.take 7), lastAt := Tab.put s.lnk.lastAt key (s.tbp, woad),
      dlv := if s.lnk.dlv.contains key then s.lnk.dlv else key :: s.lnk.dlv } })

/-- AGE_UPDATE of one slot at a frame start, when it was not delivered in the previous frame (R408). -/
def State.ageSlot (s : State) (key : Nat) : State :=
  if s.lnk.dlv.contains key then s
  else
    let v := s.slotStat key
    if v / 2 ^ 11 = 31 then s else s.setSlotStat key (v + 2 ^ 11)

/-! ### Credits and queues (R446 to R448) -/

/-- The credit counter of a class, and CREDIT_REFILL of all four at a frame start (R446). -/
def State.bucket (s : State) (c : Nat) : Nat := 64 * s.f ⟨0xD024, 4 * (c - 1), 4⟩
def State.credit (s : State) (c : Nat) : Nat := s.bucket c - Tab.get (fun _ => 0) s.que.spent c
def State.refill (s : State) : State :=
  s.each [1, 2, 3, 4] fun c s =>
    let v := min (s.bucket c) (Tab.get (fun _ => 0) s.que.spent c)
    { s with que := { s.que with spent := Tab.set (fun _ => 0) s.que.spent c (v - s.f ⟨0xD020, 8 * (c - 1), 8⟩) } }
def State.spend (s : State) (c : Nat) : State :=
  { s with que := { s.que with spent := Tab.set (fun _ => 0) s.que.spent c (Tab.get (fun _ => 0) s.que.spent c + 64) } }

/-- The payload of an alarm or a trip report (R452). -/
def AlarmEnt.words (a : AlarmEnt) : List Word :=
  [BitVec.ofNat 32 (a.code % 2 ^ 16 + a.count * 2 ^ 16), BitVec.ofNat 32 a.fns, BitVec.ofNat 32 a.fs, BitVec.ofNat 32 a.lns,
   BitVec.ofNat 32 a.ls, BitVec.ofNat 32 (a.part % 2 ^ 10 + a.parts.length % 2 ^ 11 * 2 ^ 10), BitVec.ofNat 32 a.det, 0]

/-- The packet of an entry, to this zone's manager, or from a zone manager to the top manager. -/
def State.entPacket (s : State) (a : AlarmEnt) (ty cls : Nat) : Packet :=
  { ty, cls, len := 32, dst := if s.role = 2 then 2 ^ 22 else 2 ^ 21,
    src := s.ownSrc (if s.role = 2 then 2 ^ 22 else 0), body := a.words }

/-- The first entry of a list that waits for no more frames, and the list without it. -/
def takeReady : List AlarmEnt → Option (AlarmEnt × List AlarmEnt)
  | [] => none
  | a :: l => if a.hold = 0 then some (a, l) else (takeReady l).map fun x => (x.1, a :: x.2)

/-- Whether a packet may leave on a network (R416): even attempts take Madder and odd ones Woad, or the other while that
port is not up. `up` says which networks are up. -/
def onNet (p : Packet) (woad : Bool) (up : Bool → Bool) : Bool :=
  let own := decide (p.att % 2 = 1)
  if up own then woad = own else true

/-- The next packet of a class for an up frame of a network, if its queue has one and its credit allows it (R446, R447,
R451). -/
def State.nextOf (s : State) (woad : Bool) (c : Nat) : Option (Packet × State) :=
  if c = 0 then
    match s.lnk.upq.find? fun p => onNet p woad fun w => s.portUp (upPort s.role (if w then 1 else 0)) with
    | some p => some (p, { s with lnk := { s.lnk with upq := s.lnk.upq.erase p } })
    | none => none
  else if s.credit c < 64 then none
  else match c with
    | 1 => (takeReady s.que.trip).map fun (a, l) =>
        (s.entPacket a 0x33 1, ({ s with que := { s.que with trip := l } } : State).spend 1)
    | 2 => (takeReady s.que.alarm).map fun (a, l) =>
        (s.entPacket a 0x30 2, ({ s with que := { s.que with alarm := l } } : State).spend 2)
    | 3 => match s.que.log with
      | p :: l => some ({ p with dst := if s.role = 2 then 2 ^ 22 else 2 ^ 21 },
          ({ s with que := { s.que with log := l } } : State).spend 3)
      | [] => none
    | _ => match s.que.trace with
      | p :: l => if s.on R.PLT_CRD1_TRLINK then
            some ({ p with dst := if s.role = 2 then 2 ^ 22 else 2 ^ 21 },
              ({ s with que := { s.que with trace := l } } : State).spend 4)
          else none
      | [] => none

/-- Marks the request that a packet carries as sent: its frames count from here (R416). -/
def State.markSent (s : State) (p : Packet) : State :=
  { s with lnk := { s.lnk with txns := s.lnk.txns.map fun t =>
      if !t.sent && t.p.tag = p.tag && t.p.dst = p.dst && t.p.ty = p.ty then { t with sent := true, frames := 0 } else t } }

/-- Up to `n` packets leave in class order 1, 0, 2, 3, 4 (R418, R447). -/
def State.takeUp (woad : Bool) : Nat → State → List Packet × State
  | 0, s => ([], s)
  | n + 1, s =>
    match [1, 0, 2, 3, 4].findSome? (s.nextOf woad ·) with
    | none => ([], s)
    | some (p, s) =>
      let (l, s) := State.takeUp woad n (s.markSent p)
      (p :: l, s)

/-- A list of packets in class order, oldest first within a class (R447). -/
def classOrder (l : List Packet) : List Packet := [1, 0, 2, 3, 4].flatMap fun c => l.filter (·.cls = c)

/-- A line's packets leave in the cells of its down frame. -/
def State.takeDown (s : State) (line cells : Nat) : List Packet × State :=
  let l := classOrder (s.dnQueue line)
  let s := s.setDnQueue line (l.drop cells)
  (l.take cells, (l.take cells).foldl (fun s p => s.markSent p) s)

/-! ### Requests (R416, R417) -/

/-- A request is sent: it takes the next tag and waits for its response. -/
def State.request (s : State) (p : Packet) (who : TxnFor) : State :=
  let p := { p with tag := s.lnk.tag, src := s.ownSrc p.dst }
  ({ s with lnk := { s.lnk with tag := (s.lnk.tag + 1) % 256, txns := s.lnk.txns ++ [{ p, who }] } } : State).route p

/-- The request a response answers. -/
def State.txnFor (s : State) (p : Packet) : Option Txn :=
  s.lnk.txns.find? fun t => t.p.tag = p.tag && t.p.dst = p.src

/-- The request is no longer waited for, and its packets leave the queues. -/
def State.dropTxn (s : State) (t : Txn) : State :=
  let other (p : Packet) : Bool := p.tag ≠ t.p.tag || p.dst ≠ t.p.dst || p.ty ≠ t.p.ty
  { s with lnk := { s.lnk with
      txns := s.lnk.txns.erase t, upq := s.lnk.upq.filter other,
      dnq := s.lnk.dnq.filterMap fun e => if (e.2.filter other).isEmpty then none else some (e.1, e.2.filter other) } }

/-- One more frame for every request that has been sent. -/
def State.txnFrame (s : State) : State :=
  { s with lnk := { s.lnk with txns := s.lnk.txns.map fun t => if t.sent then { t with frames := t.frames + 1 } else t } }

/-- TXN_RESEND: the request with this tag has waited `TO` frames and has a further attempt (R416). -/
def State.resend (s : State) (tag : Nat) : State :=
  match s.lnk.txns.find? fun t => t.p.tag = tag && t.sent && decide (s.f R.LNK_TXN_TO ≤ t.frames) with
  | some t =>
    if t.p.att < s.f R.LNK_TXN_RETRY then
      let p := { t.p with att := t.p.att + 1 }
      let s : State := { s with lnk := { s.lnk with
        txns := s.lnk.txns.map fun u => if u = t then { u with p := p, sent := false, frames := 0 } else u } }
      (s.count R.LNK_TXCNT_RTRY 1).route p
    else s
  | none => s

/-- A request addressed here runs `act`, unless it is a resent one already executed: that is answered from the kept response
and counted (R416). -/
def State.serve (s : State) (q : Packet) (act : State → State) : State :=
  if !s.live || !s.mine q then s
  else
    match (if q.att = 0 then none else s.lnk.kept.find? fun k => k.src = q.src && k.tag = q.tag) with
    | some k => (s.count R.LNK_TXCNT2_DUP 1).route k.resp
    | none => act s

/-! ### Bulk transfers (R414, R415) -/

def State.bulkOwner (b : Nat) : Nat := 0xAC00 + b

/-- The answer to a bulk packet: the next block expected. -/
def backPacket (st next : Nat) : Packet := { ty := 0x22, status := st, len := 4, body := [BitVec.ofNat 32 next] }

/-- BOPEN: claims a free bulk buffer for a transfer to the inactive image slot. -/
def State.bulkOpen (s : State) (q : Packet) : State :=
  s.serve q fun s =>
    let total := (q.body.getD 0 0).toNat
    let slot := (q.body.getD 1 0).toNat
    if q.tgt ≠ 1 || q.len ≠ 8 || 393216 < total || 1 < slot then s.answer q (backPacket 4 0)
    else if slot = s.f R.CE_STAT_ACTIVE then s.answer q (backPacket 1 0)
    else match (List.range 8).find? fun b => s.owner (0x1C10 + b) = 0 with
      | none => s.answer q (backPacket 2 0)
      | some b =>
        let s : State := { s with lnk := { s.lnk with
          bulk := Tab.put s.lnk.bulk b { src := q.src, slot := slot, total := total, at_ := s.tbp } } }
        (s.setOwner (0x1C10 + b) (State.bulkOwner b)).answer q (backPacket 0 0)

/-- A transfer ends and its buffer is released. -/
def State.bulkClose (s : State) (b : Nat) : State :=
  ({ s with lnk := { s.lnk with bulk := Tab.del s.lnk.bulk b } } : State).setOwner (0x1C10 + b) 0

/-- BDATA: the block expected is taken; the last one completes the image slot. Any other block is answered with the block
expected. A block of a wrong length, or beyond the total, is FORMAT; a slot that has become the active one is STATE. -/
def State.bulkData (s : State) (q : Packet) : State :=
  s.serve q fun s =>
    if q.tgt ≠ 1 then s.answer q (backPacket 4 0)
    else match s.lnk.bulk.find? (·.2.src = q.src) with
      | none => s.answer q (backPacket 1 0)
      | some (b, x) =>
        if q.ofs ≠ x.next then
          ({ s with lnk := { s.lnk with bulk := Tab.put s.lnk.bulk b { x with at_ := s.tbp } } } : State).answer q
            (backPacket 0 x.next)
        else if q.body.length = 0 || 64 < q.body.length || (!q.last && q.body.length ≠ 64) ||
            x.total < 4 * (x.ws.length + q.body.length) then
          s.answer q (backPacket 4 x.next)
        else if s.on R.CE_STAT_ACTBUSY || x.slot = s.f R.CE_STAT_ACTIVE then
          s.answer q (backPacket 1 x.next)
        else
          let ws := x.ws ++ q.body
          let s : State := { s with ce := { s.ce with slots := Tab.put s.ce.slots x.slot ws } }
          if q.last then (s.bulkClose b).answer q (backPacket 0 (x.next + 1))
          else ({ s with lnk := { s.lnk with
            bulk := Tab.put s.lnk.bulk b { x with ws := ws, next := x.next + 1, at_ := s.tbp } } } : State).answer q
              (backPacket 0 (x.next + 1))

/-- BULK_TIMEOUT: no BDATA for 1 s (R415). -/
def State.bulkTimeout (s : State) (b : Nat) : State :=
  match Tab.look s.lnk.bulk b with
  | some x => if x.at_ + perSec ≤ s.tbp then s.bulkClose b else s
  | none => s

/-- PARW: a manager's parameter write (R314, R315, R414). -/
def State.parWrite (s : State) (q : Packet) : State :=
  s.serve q fun s =>
    let ans (st : Nat) (s : State) : State := s.answer q { ty := 0x13, status := st }
    if !fromManager q then ans 3 s
    else if q.len % 4 ≠ 0 || q.len < 4 || 256 < q.len || q.ofs % 4 ≠ 0 || q.body.length ≠ q.len / 4 || 0x1000 < q.ofs + q.len then
      ans 4 s
    else ans 0 (s.parmWrite (parmBase + q.ofs) q.body)

/-! ### The commands -/

def execLosDeasserted (n : Fin 8) (s : State) : Out := .next (s.onMain (s.losEnd n))
def execSymbolLock (n : Fin 8) (s : State) : Out := .next (s.onMain (s.symLock n))
def execTrainingSequenceComplete (n : Fin 8) (far : Fin 4) (ts : TrainSeq) (s : State) : Out :=
  .next (s.onMain (s.trained n far ts))
def execMiswireRetry (n : Fin 8) (s : State) : Out := .next (s.onMain (s.miswireRetry n))
def execLnkUp (n : Fin 8) (s : State) : Out := .next (s.onMain (s.linkUp n))
def execLnkDown (n : Fin 8) (los : Bool) (s : State) : Out := .next (s.onMain (s.linkDown n los))
def execRetrainStart (n : Fin 8) (s : State) : Out := .next (s.onMain (s.retrain n))
def execNofrm (n : Fin 8) (s : State) : Out := .next (s.onMain (s.noFrame n))
def execTxnResend (tag : BitVec 8) (s : State) : Out := .next (s.onMain (s.resend tag.toNat))
def execBopen (p : Packet) (s : State) : Out := .next (s.onMain (s.bulkOpen p))
def execBdata (p : Packet) (s : State) : Out := .next (s.onMain (s.bulkData p))
def execBulkTimeout (b : Fin 8) (s : State) : Out := .next (s.onMain (s.bulkTimeout b))
def execParw (p : Packet) (s : State) : Out := .next (s.onMain (s.parWrite p))

/-- Clears the three counts of `LNK_ERRn` and those of `LNK_TXCNT` (R421). -/
def State.lnkErrClear (s : State) (n : Nat) : State :=
  ((s.setF (R.LNK_ERR_CRC n) 0).setF (R.LNK_ERR_STOMP n) 0).setF (R.LNK_ERR_RETR n) 0
def State.lnkTxClear (s : State) : State := (s.setReg 0xC080 0).setF R.LNK_TXCNT2_DUP 0
def execLnkErrClr (n : Fin 8) (s : State) : Out := .next (s.onMain ((s.lnkErrClear n).wres (0xC030 + 4 * n) .done))
def execLnkTxcnt2Clr (s : State) : Out := .next (s.onMain (s.lnkTxClear.wres 0xC084 .done))

end Sys2Proof.Machine
end

