-- ==== Sys2Proof/Machine/Plt.lean ====
section
/-! DEFINITION. Managers, workers and the plant (R422 to R453): the partner table, admission, plant words, phase slots, code
rows and the relaying of alarms, trip reports, logs and traces. -/

namespace Sys2Proof.Machine

/-! ### Partner table (R422 to R425) -/

def State.partner (s : State) (p : Nat) : Partner := Tab.get (fun _ => {}) s.plt.tab p
def State.setPartner (s : State) (p : Nat) (x : Partner) : State :=
  { s with plt := { s.plt with tab := Tab.set (fun _ => {}) s.plt.tab p x } }

/-- Partner numbers of a manager: 0–1,023 at the top, 0–511 in a zone. -/
def State.partnerNums (s : State) : List Nat := List.range (256 * lineCount s.role)

/-- Admitted or lost. -/
def Partner.held (x : Partner) : Bool := x.st = 2 || x.st = 3

/-- An entry holds its slot and row from the choice on (R432) until R425 releases them, through a loss and while a new admission
of its device is in progress. -/
def Partner.keeps (x : Partner) : Bool := x.held || (x.st = 1 && x.serial ≠ 0)

/-- Word i of the up plant words last delivered by a partner. -/
def State.upWord (s : State) (p i : Nat) : Word := s.word (slotAt p + 4 * i)

/-- PARTNER_STATE_CHANGE: the up slot of partner p has been delivered (R423). -/
def State.partnerSeen (s : State) (p : Nat) : State :=
  let x := s.partner p
  let adm := (s.upWord p 0).getLsbD 4
  let own := (s.upWord p 3).toNat % 2 ^ 10 = p
  match x.st with
  | 4 => if x.stopped = 1 then s.setPartner p { x with stopped := 2 } else s
  | 1 => s
  | 3 => if adm && own then s.setPartner p { x with st := 2 } else s.setPartner p { x with st := 1 }
  | _ => if adm && own then s else s.setPartner p { x with st := 1 }

/-- PARTNER_LOST (R424). -/
def State.partnerLost (s : State) (p : Nat) : State :=
  let x := s.partner p
  if x.st = 2 && decide (s.f R.PLT_MCFG_LOSTF ≤ s.slotAge p) && decide (2 ≤ s.role) then
    (s.setPartner p { x with st := 3 }).post 0x0D02 0 p
  else s

/-- A refused entry whose slot has stopped delivering (R423). -/
def State.refusedStop (s : State) (p : Nat) : State :=
  let x := s.partner p
  if x.st = 4 && x.stopped = 0 && decide (s.f R.PLT_MCFG_LOSTF ≤ s.slotAge p) then s.setPartner p { x with stopped := 1 } else s

/-- PARTNER_FORGET (R425): at a manager the entry queried is absent, its slot and row released. -/
def State.partnerForget (s : State) : State := if s.role < 2 then s else s.setPartner (s.f R.PLT_PQRY_PART) {}

/-! ### Phase slots (R436 to R438) -/

/-- The slot with the fewest of the counts `n i`, i below `m`; the lowest on a tie. -/
def fewest (n : Nat → Nat) (m : Nat) : Nat := (List.range m).foldl (fun b i => if n i < n b then i else b) 0

/-- The slot with the most; the lowest on a tie. -/
def most (n : Nat → Nat) (m : Nat) : Nat := (List.range m).foldl (fun b i => if n b < n i then i else b) 0

/-- Members of a phase slot and of a zone slot (R436). -/
def State.slotMembers (s : State) (i : Nat) : Nat :=
  (s.plt.tab.filter fun e => e.2.keeps && e.2.slot = i).length + (if i = 0 then 1 else 0)
def State.zoneMembers (s : State) (i : Nat) : Nat :=
  (s.plt.tab.filter fun e => e.2.keeps && e.2.zone && e.2.zslot = i).length + (if i = 0 then 1 else 0)

/-- The zone slot z of this manager: 0 at the top; in a zone the spec names no path that brings it, and it is open below
`MZ`. -/
def State.zoneSlot (s : State) : Nat × State :=
  if s.role = 3 then (0, s)
  else match s.plt.z with
    | some z => (z, s)
    | none =>
      let (w, s) := s.takeFree
      let z := w.toNat % max 1 (s.f R.PLT_PHM_MZ)
      (z, { s with plt := { s.plt with z := some z } })

/-- The offset of a partner in phase slot `slot`, as a fraction of 2^24 (R436). -/
def State.phaseOffset (s : State) (slot : Nat) : Nat × State :=
  let (z, s) := s.zoneSlot
  let m := max 1 (s.f R.PLT_PHM_M)
  let mz := max 1 (s.f R.PLT_PHM_MZ)
  (((s.f R.PLT_PHB_BASE : Nat) + (nearDiv ((slot * mz + z) * 2 ^ 24 : Nat) (m * mz)).toNat) % 2 ^ 24, s)

/-- A WR of one register of a partner, as a commit. -/
def wrPacket (part off : Nat) (v : Word) : Packet :=
  { ty := 0x12, len := 4, dst := part, ofs := off, commit := true, body := [v] }

/-- A RD of `n` registers of a partner. -/
def rdPacket (part off n : Nat) : Packet := { ty := 0x10, len := 4, dst := part, ofs := off, body := [BitVec.ofNat 32 n] }

/-- Writes a partner's phase offset. -/
def State.writePhase (s : State) (p : Nat) (who : TxnFor) : State :=
  let (o, s) := s.phaseOffset (s.partner p).slot
  s.request (wrPacket p 0xD014 (BitVec.ofNat 32 o)) who

/-- Whether a partner is switching (R438). -/
def State.switching (s : State) (p : Nat) : Bool :=
  let st := (s.upWord p 0).toNat % 16
  (s.partner p).held && (st = 3 || st = 4)

/-- Switching members of a slot (R438). -/
def State.switchMembers (s : State) (i : Nat) : Nat :=
  (s.plt.tab.filter fun e => e.2.slot = i && s.switching e.1).length +
    (if i = 0 && s.inSt [stConnected, stRide] then 1 else 0)

/-- PHASE_REBALANCE: one partner at a time moves from the fullest slot to the emptiest; `fuel` bounds the moves (R438). -/
def State.rebalance : Nat → State → State
  | 0, s => s
  | fuel + 1, s =>
    if s.role < 2 then s else
    let m := max 1 (s.f R.PLT_PHM_M)
    let a := most s.switchMembers m
    let b := fewest s.switchMembers m
    if s.switchMembers a ≤ s.switchMembers b + 1 then s
    else match (s.plt.tab.filter fun e => e.2.st = 2 && e.2.slot = a && s.switching e.1).getLast? with
      | none => s
      | some (p, x) => State.rebalance fuel ((s.setPartner p { x with slot := b }).writePhase p .nobody)

/-- PHASE_OFFSET_CHANGE: a changed `PLT_PHA.OFS` moves the phases of the carriers in `CARS` by phase-only sets (R437). -/
def State.phaseChange (s : State) : State :=
  let d := s.plt.dOfs
  if d = 0 then s
  else
    let s := s.each carriers16 fun k s =>
      if s.bitAt R.PLT_PHC_CARS k then
        let off := 0x4008 + 16 * k
        let now := (Tab.get (fun o => s.reg o) (s.car k).slot.regs off)
        s.merge k [(off, R.PWM_CAR_PH_PHASE k |>.put now ((R.PWM_CAR_PH_PHASE k).get now + d))] false
      else s
    { s with plt := { s.plt with dOfs := 0 } }

/-! ### Codes (R439 to R442) -/

/-- The code word a manager gives partner p: under zone rows a zone manager has its own row, the top manager's own zone that
of `PLT_CODE` (R439, R440). -/
def State.partnerCode (s : State) (p : Nat) : Word :=
  if s.role = 3 then
    R.PLT_CODE_ROW.put (s.reg 0xD068)
      (if s.on R.PLT_MCFG_AILMODE && (s.partner p).zone then (s.partner p).row else s.f R.PLT_CODE_ROW)
  else s.reg 0xB050

/-- The row a zone manager takes under zone rows, if one is left (R440). -/
def State.freeRow (s : State) : Option Nat :=
  let used := (s.plt.tab.filter fun e => e.2.keeps && e.2.zone).map (·.2.row)
  let l := 2 ^ s.f R.PLT_CODE_LOG2L
  (List.range l).find? fun r => decide (s.f R.PLT_CODE_ROW < r) && !used.contains r

/-- Every admitted partner. -/
def State.admitted (s : State) : List Nat := (s.plt.tab.filter fun e => e.2.st = 2).map (·.1)

/-- Writes a partner's code word, which its table entry then shows; `on` replaces `ON`. -/
def State.giveCode (s : State) (p : Nat) (on : Option Nat) (who : TxnFor) : State :=
  let w := s.partnerCode p
  let s := s.setPartner p { s.partner p with row := R.PLT_CODE_ROW.get w }
  s.request (wrPacket p 0xB050 (match on with
    | some b => R.PLT_CODE_ON.put w b
    | none => w)) who

/-- Writes the present code word to every admitted partner. -/
def State.sendCodes (s : State) : State :=
  ({ s with plt := { s.plt with code := 0 } } : State).each s.admitted fun p s => s.giveCode p none .nobody

/-- Goes on to the new values with `ON` = 1 once every write of `ON` = 0 has ended (R442). -/
def State.codeStep (s : State) : State :=
  if s.plt.code = 2 && !(s.lnk.txns.any fun t => t.who = .codeOff) then
    ({ s with plt := { s.plt with code := 0 } } : State).each s.admitted fun p s => s.giveCode p (some 1) .nobody
  else s

/-- PLANT_CODE_CHANGE: a change of the timing first writes `ON` = 0 to every admitted partner; a change of the row alone is
written directly (R442). -/
def State.codeChangePlant (s : State) : State :=
  match s.plt.code with
  | 1 =>
    let s : State := { s with plt := { s.plt with code := 2 } }
    (s.each s.admitted fun p s => s.giveCode p (some 0) .codeOff).codeStep
  | 3 => s.sendCodes
  | _ => s

/-! ### Admission (R432 to R435) -/

/-- Admissions in progress. -/
def State.admitting (s : State) : List Nat :=
  s.lnk.txns.filterMap fun t => match t.who with
    | .admission p _ => some p
    | _ => none

/-- ADMISSION_START: the next new partner, at most four at a time; a refused entry that delivers again has its serial read
afresh (R423, R432). -/
def State.admissionStart (s : State) : State :=
  let busy := s.admitting
  if !s.live || s.role < 2 || !s.on R.PLT_MCFG_ADMIT || decide (4 ≤ busy.length) then s
  else match s.plt.tab.find? fun e => (e.2.st = 1 || (e.2.st = 4 && e.2.stopped = 2)) && !busy.contains e.1 with
    | some (p, x) => s.request (rdPacket p 0xD004 2) (.admission p (if x.st = 1 then 1 else 6))
    | none => s

/-- The refusal of R433 that applies to partner p with the role it reports: 0 ROLE, 1 TOPO, 2 FULL, 3 NOROW. -/
def State.refusal (s : State) (p role : Nat) : Option Nat :=
  let zones := (s.plt.tab.filter fun e => e.2.held && e.2.zone && e.1 ≠ p).length
  let keeps := s.plt.tab.any fun e => e.2.keeps && e.2.zone && e.2.serial = (s.partner p).readSer
  if role = 3 then some 0
  else if role = 2 && s.role = 2 then some 1
  else if role = 2 && decide (512 ≤ zones) then some 2
  else if role = 2 && s.on R.PLT_MCFG_AILMODE && !keeps && s.freeRow.isNone then some 3
  else none

/-- PARTNER_MOVED, or the choice of a slot and a row for a new serial (R432, R436, R440). -/
def State.assign (s : State) (p role : Nat) : State :=
  let x := s.partner p
  match s.plt.tab.find? fun e => e.1 ≠ p && e.2.held && e.2.serial = x.readSer with
  | some (e, y) =>
    let s := s.setPartner p { x with serial := x.readSer, slot := y.slot, row := y.row, zone := y.zone, zslot := y.zslot,
                                     cause := y.cause }
    (s.setPartner e {}).post 0x0D03 0 e p
  | none =>
    if x.serial = x.readSer then s
    else
      let s := s.setPartner p { st := x.st, readSer := x.readSer, cause := x.cause }
      let zone := role = 2
      let row := if zone && s.on R.PLT_MCFG_AILMODE then s.freeRow.getD 0
        else if s.role = 3 then s.f R.PLT_CODE_ROW else s.f R.GRD_CODE_ROW
      s.setPartner p { s.partner p with
        serial := x.readSer, slot := fewest s.slotMembers (max 1 (s.f R.PLT_PHM_M)), row := row, zone := zone,
        zslot := if zone then fewest s.zoneMembers (max 1 (s.f R.PLT_PHM_MZ)) else 0 }

/-- The values of a read of an admission have come (R432, R433): steps 1 and 6 the serial, step 2 `LNK_CFG`. -/
def State.admitRead (s : State) (p step : Nat) (ws : List Word) : State :=
  let x := s.partner p
  match step with
  | 1 =>
    (s.setPartner p { x with readSer := (ws.getD 0 0).toNat + (ws.getD 1 0).toNat * 2 ^ 32 }).request
      (rdPacket p 0xC000 1) (.admission p 2)
  | 6 =>
    let ser := (ws.getD 0 0).toNat + (ws.getD 1 0).toNat * 2 ^ 32
    s.setPartner p (if ser = x.serial then { x with stopped := 0 } else { st := 1, cause := x.cause })
  | _ =>
    let role := (ws.getD 0 0).toNat % 4
    match s.refusal p role with
    | some c => (s.setPartner p { st := 4, serial := x.readSer, readSer := x.readSer, cause := x.cause }).post 0x0D04 0 p
        (Config.refusalCode c).toNat
    | none => (s.assign p role).writePhase p (.admission p 3)

/-- A write of an admission has been done; the last one admits the partner (PARTNER_UP). -/
def State.admitWrote (s : State) (p step : Nat) : State :=
  match step with
  | 3 => s.giveCode p none (.admission p 4)
  | 4 =>
    let zone := if s.role = 3 then 0x3FF else s.f R.PLT_ASG_PART
    s.request (wrPacket p 0xD010 (BitVec.ofNat 32 (p + zone * 2 ^ 10 + 2 ^ 20))) (.admission p 5)
  | 5 => (s.setPartner p { s.partner p with st := 2 }).post 0x0D01 0 p
  | _ => s

/-! ### Plant words (R426 to R431, R444) -/

/-- The down plant words, or with `RELAY` = 1 on a zone manager the words it received (R427, R444). -/
def State.downWords (s : State) : List Word :=
  if s.role = 2 && s.on R.PLT_MCFG_RELAY then s.plt.rly.take 3 ++ List.replicate (3 - s.plt.rly.length) 0 ++ [0]
  else [s.reg 0xD044, s.reg 0xD048, s.reg 0xD04C &&& 0xFF0FFFFF, 0]

/-- A per-unit word of the last evaluation, shifted right by 16, in 16 bits. -/
def State.evPu (s : State) (i : Nat) : Nat := unsigned 16 ((s.grd.ev.getD i 0).toInt.ediv (2 ^ 16))

/-- The up plant words (R429). -/
def State.upWords (s : State) : List Word :=
  let st := if s.st = stBoot || 6 < s.st then 0 else s.st
  let f : Int := (s.grd.ev.getD 4 0).toNat - 40000
  [BitVec.ofNat 32 (st + bit (s.on R.PLT_ASG_ADM) * 2 ^ 4 + bit s.coarse * 2 ^ 5 + s.f R.PLT_TSTAT_UNSYNC * 2 ^ 6 +
     bit s.aiSusp * 2 ^ 7 + s.que.aseq % 256 * 2 ^ 8 + s.f R.SYS_TCAUSE_FIRST * 2 ^ 16),
   BitVec.ofNat 32 (s.evPu 7 + s.evPu 8 * 2 ^ 16),
   BitVec.ofNat 32 (s.evPu 3 + (clampInt 0 65535 f).toNat * 2 ^ 16),
   BitVec.ofNat 32 (s.f R.PLT_ASG_PART)]

/-- Whether a device takes its received down slot (R430). -/
def State.takesDown (s : State) : Bool := s.on R.PLT_ASG_ADM && s.f R.PLT_ASG_PART = s.lnk.num

/-- ZONE_SUM: P and Q over the admitted partners delivered in the previous frame (R431). -/
def State.zoneSum (s : State) : State :=
  let l := s.admitted.filter fun p => s.lnk.dlv.contains p
  let sum (lo : Nat) : Int := l.foldl (fun a p => a + signed 16 ((s.upWord p 1).toNat / 2 ^ lo)) 0
  (s.setF R.PLT_ZP_P (unsigned 32 (sum 0))).setF R.PLT_ZQ_Q (unsigned 32 (sum 16))

/-- SETPOINT_RELAY (R444). -/
def State.relaySetpoints (s : State) : State :=
  if s.role = 2 && s.on R.PLT_MCFG_RELAY then { s with plt := { s.plt with rly := s.words 0x1AC00 3 } } else s

/-! ### Relaying of reports (R450 to R452) -/

/-- The entry an ALARM or TRIPREP carries. -/
def readEnt (ws : List Word) : AlarmEnt :=
  let g (i : Nat) : Nat := (ws.getD i 0).toNat
  { code := g 0 % 2 ^ 16, count := g 0 / 2 ^ 16, fns := g 1 % 2 ^ 30, fs := g 2, lns := g 3 % 2 ^ 30, ls := g 4,
    part := g 5 % 2 ^ 10, parts := [g 5 % 2 ^ 10], det := g 6 }

/-- Whether one instant is before another. -/
def before (s1 n1 s2 n2 : Nat) : Bool := decide (s1 < s2) || (s1 = s2 && decide (n1 < n2))

/-- Two entries of one code merged (R450). -/
def mergeEnt (a b : AlarmEnt) : AlarmEnt :=
  let first := before b.fs b.fns a.fs a.fns
  let last := before a.ls a.lns b.ls b.lns
  { a with
    count := satAdd 65535 a.count b.count, parts := a.parts ++ b.parts.filter fun p => !a.parts.contains p,
    part := min a.part b.part, fns := if first then b.fns else a.fns, fs := if first then b.fs else a.fs,
    lns := if last then b.lns else a.lns, ls := if last then b.ls else a.ls, det := if last then b.det else a.det }

/-- Merges an entry into a queue: the list, whether it merged, whether there was room. -/
def relayInto (cap : Nat) (l : List AlarmEnt) (e : AlarmEnt) : List AlarmEnt × Bool × Bool :=
  if l.any (·.code = e.code) then (l.map fun a => if a.code = e.code then mergeEnt a e else a, true, true)
  else if l.length < cap then (l ++ [e], false, true)
  else (l, false, false)

/-- The partner, at this manager, from which a packet comes. -/
def State.partnerOf (s : State) (p : Packet) : Nat := if s.role = 3 && aInz p.src then aZone p.src else aPart p.src

/-- An alarm (ALARM) or a trip report (TRIPREP) reaches a manager (R445, R448, R450). -/
def State.relayReport (s : State) (q : Packet) (trip : Bool) : State :=
  if !s.live || s.role < 2 then s
  else
    let e := { readEnt q.body with hold := s.f R.PLT_CRD1_HOLD + 1 }
    let (l, merged, room) := relayInto (if trip then 8 else 32) (if trip then s.que.trip else s.que.alarm) e
    let s : State :=
      if trip then { s with que := { s.que with trip := l } }
      else { s with que := { s.que with alarm := l } }
    let s := if merged then s.count R.PLT_COAL_CNT 1 else s
    let s := if room then s else s.count (if trip then R.PLT_DROP0_TRIP else R.PLT_DROP0_ALARM) 1
    if trip then s.setPartner (s.partnerOf q) { s.partner (s.partnerOf q) with cause := e.code % 256 } else s

/-- A trace is queued for the link, or goes to local capture, or is dropped (R448, R451, R595). -/
def State.queueTrace (s : State) (p : Packet) : State :=
  if s.on R.PLT_CRD1_TRLINK && decide (s.que.trace.length < 16) then { s with que := { s.que with trace := s.que.trace ++ [p] } }
  else if s.part = .c8 && s.captures 7 then s.capture 7 0 1 (ptWord s.pt) p.body
  else s.count R.PLT_DROP1_TRACE 1

/-- A frame start: relay entries have waited one more (R450). -/
def State.holdFrame (s : State) : State :=
  let g (l : List AlarmEnt) : List AlarmEnt := l.map fun a => if 1 < a.hold then { a with hold := a.hold - 1 } else a
  { s with que := { s.que with trip := g s.que.trip, alarm := g s.que.alarm } }

/-- RELAY_HOLD_EXPIRY: entries that have waited `HOLD` frame starts may be sent. -/
def State.holdExpiry (s : State) : State :=
  let g (l : List AlarmEnt) : List AlarmEnt := l.map fun a => if a.hold = 1 then { a with hold := 0 } else a
  { s with que := { s.que with trip := g s.que.trip, alarm := g s.que.alarm } }

/-- PACKET_RELAY: a manager relays a packet that is not addressed to itself; a zone manager's reports for the top manager are merged
on their way (R413, R445, R450). -/
def State.packetRelay (s : State) (p : Packet) : State :=
  if !s.live || s.role < 2 || (s.mine p && !aBcast p.dst) then s
  else match p.cls with
    | 1 => if s.role = 2 && aTop p.dst then s.relayReport p true else s.route p
    | 2 => if s.role = 2 && aTop p.dst then s.relayReport p false else s.route p
    | 3 => s.queueLog p
    | 4 => s.queueTrace p
    | _ => s.route p

/-! ### The commands -/

def execPartnerLost (p : Fin 1024) (s : State) : Out := .next (s.onMain (s.partnerLost p))
def execAdmissionStart (s : State) : Out := .next (s.onMain s.admissionStart)
def execPartnerForget (s : State) : Out := .next (s.onMain (s.partnerForget.wres 0xD074 .done))
def execPhaseOffsetChange (s : State) : Out := .next (s.onMain s.phaseChange)
def execPhaseRebalance (s : State) : Out := .next (s.onMain ((s.rebalance 1024).wres 0xD060 .done))
def execPlantCodeChange (s : State) : Out := .next (s.onMain s.codeChangePlant)
def execRelayHoldExpiry (s : State) : Out := .next (s.onMain s.holdExpiry)
def execAlarmPacket (p : Packet) (s : State) : Out := .next (s.onMain (s.relayReport p false))
def execTripRep (p : Packet) (s : State) : Out := .next (s.onMain (s.relayReport p true))
def execLogPacket (p : Packet) (s : State) : Out := .next (s.onMain (if s.live && 2 ≤ s.role then s.queueLog p else s))
def execTracePacket (p : Packet) (s : State) : Out := .next (s.onMain (if s.live && 2 ≤ s.role then s.queueTrace p else s))
def execPacketRelay (p : Packet) (s : State) : Out := .next (s.onMain (s.packetRelay p))

/-- Clears the four drop counts and `PLT_COAL` (R453). -/
def State.dropClear (s : State) : State :=
  (((s.setReg 0xD028 0).setF R.PLT_DROP1_LOG 0).setF R.PLT_DROP1_TRACE 0).setReg 0xD030 0
def execPltDrop1Clr (s : State) : Out := .next (s.onMain (s.dropClear.wres 0xD02C .done))

end Sys2Proof.Machine
end

