-- ==== Sys2Proof/Machine/Saf.lean ====
section
/-! DEFINITION. The safety channels SA and SB: causes and the safe reaction, outputs, inputs, the isolation test,
acknowledge, safe data and the retained safety record (R454 to R488, R502). A channel is named by a truth value: false is
SA, true is SB. -/

namespace Sys2Proof.Machine

/-! ### Channels and what they show -/

def State.chan (s : State) (b : Bool) : ChanSt := if b then s.saf.b else s.saf.a
def State.setChan (s : State) (b : Bool) (c : ChanSt) : State :=
  if b then { s with saf := { s.saf with b := c } } else { s with saf := { s.saf with a := c } }

/-- The causes a channel has latched, as the bits of `SAF_FLT` (R502). -/
def ChanSt.causes (c : ChanSt) : Nat :=
  (c.flt ||| (if c.tp = 0 then 0 else 2 ^ 10)) ||| (if c.disc = 0 then 0 else 2 ^ 17) ||| c.dem * 2 ^ 18

/-- No cause is latched in either channel. -/
def State.causeFree (s : State) : Bool := s.saf.a.causes = 0 && s.saf.b.causes = 0

/-- Demands of pairs with `ACKM` = 0, which clear by themselves (R478). -/
def State.selfClear (s : State) : Nat :=
  (List.range 4).foldl (fun a k => if s.on (R.SAF_IN_ACKM k) then a else a + 2 ^ k) 0

/-- The status registers show a bit as set when either channel sets it (R502). `SAFE` stays 1 from reset to the end of
BOOT. -/
def State.showSaf (s : State) : State :=
  let a := s.saf.a
  let b := s.saf.b
  let all := a.causes ||| b.causes
  let wait := all &&& (2 ^ 22 - 1 - s.selfClear * 2 ^ 18)
  let s := s.setF R.SAF_STAT_SAFE (bit (a.safe || b.safe))
  let s := s.setF R.SAF_STAT_OUT (a.sw ||| b.sw)
  let s := (s.setF R.SAF_STAT_DEM (a.dem ||| b.dem)).setF R.SAF_STAT_DISC (a.disc ||| b.disc ||| a.tp ||| b.tp)
  (s.setF R.SAF_STAT_ACKREQ (bit (wait ≠ 0))).setF R.SAF_FLT_F all

/-! ### The safe reaction (R457 to R459) -/

/-- A test in progress ends, and its lanes return to the monitor walk (R458, R468). -/
def State.testStop (s : State) : State :=
  if s.saf.test = 0 then s else ({ s with saf := { s.saf with test := 0 } } : State).park

/-- Channel `b` has latched `cause`; `first` says that no cause was latched before. The reaction turns every enabled pair
off, informs the other channel, records the cause, enters SAFE from STANDBY to TRIPPED and posts; one already in force is
not repeated, and of several causes in one safety cycle the lowest code stays. -/
def State.react (s : State) (b : Bool) (cause : Nat) (first : Bool) : State :=
  if first then
    let off := s.tbp + s.f R.SAF_CFG_ODLY * 40000
    let s := s.allOff
    let s := s.setChan b { s.chan b with safe := true, offAt := some off }
    let s := s.setChan (!b) { s.chan (!b) with told := true, offAt := some off }
    let s := (({ s with saf := { s.saf with fresh := some b } } : State).setF R.SAF_STAT_CAUSE cause).showSaf
    let s := (s.testStop).armEnd .state
    let s := s.post (if cause ≤ 4 || cause = 0x11 then 0x0E01 else 0x0E02) 0 cause
    let s := s.capTriggerAll 5 fun _ => true
    if s.inSt [stStandby, stArmed, stConnected, stRide, stTripped] then s.enter stSafe else s
  else
    let s := if s.saf.fresh = some b && cause < s.f R.SAF_STAT_CAUSE then s.setF R.SAF_STAT_CAUSE cause else s
    let c := s.chan b
    let s := if c.safe then s else s.setChan b { c with safe := true, told := false, offAt := some (c.offAt.getD s.tbp) }
    s.showSaf

/-- A fault, by its bit of `SAF_FLT` and its cause code, is latched by channel `b`. -/
def State.safFault (s : State) (b : Bool) (i cause : Nat) : State :=
  let c := s.chan b
  if c.flt.testBit i then s
  else
    let first := s.causeFree
    let s := if i = 13 || i = 14 then { s with saf := { s.saf with selfOk := false } } else s
    (s.setChan b { s.chan b with flt := c.flt ||| 2 ^ i }).react b cause first

/-- The same by both channels. -/
def State.safFaultBoth (s : State) (i cause : Nat) : State := (s.safFault false i cause).safFault true i cause

/-- Sets or clears the bit that says a fault's condition persists. -/
def State.setCond (s : State) (b : Bool) (i : Nat) (on : Bool) : State :=
  let c := s.chan b
  s.setChan b { c with cond := if on then c.cond ||| 2 ^ i else if c.cond.testBit i then c.cond - 2 ^ i else c.cond }

/-! ### Inputs (R472 to R476) -/

/-- The state of a pair of filtered inputs: 0 safe, 1 active, 2 disagreeing; an off pair counts as active. -/
def pairState (mode ins k : Nat) : Nat :=
  let x := ins.testBit (2 * k)
  let y := ins.testBit (2 * k + 1)
  match mode, x, y with
  | 1, true, true => 1
  | 1, false, false => 0
  | 2, true, false => 1
  | 2, false, true => 0
  | 1, _, _ => 2
  | 2, _, _ => 2
  | _, _, _ => 1

def State.inPair (s : State) (b : Bool) (k : Nat) : Nat := pairState (s.f (R.SAF_IN_MODE k)) (s.chan b).ins k

/-- Pair k demands at channel `b`; a test in progress ends without a result (R458, R473). -/
def State.demand (s : State) (b : Bool) (k : Nat) : State :=
  let c := s.chan b
  if c.dem.testBit k then s
  else
    let first := s.causeFree
    let s := s.testStop
    let s := if (s.chan (!b)).dem.testBit k then s else s.count R.SAF_CNT_DEM 1
    (s.setChan b { s.chan b with dem := c.dem ||| 2 ^ k }).react b (1 + k) first

/-- A discrepancy or a test-pulse fault of pair k is latched; its way to clearing begins afresh, also where the fault was
latched before (R475, R476). Inputs that are safe at the latch have reached the safe combination. -/
def State.latchDisc (s : State) (b : Bool) (k : Nat) : State :=
  let c := s.chan b
  if c.disc.testBit k then s.setChan b { c with prog := Tab.set (fun _ => 0) c.prog k 0 }
  else
    let first := s.causeFree
    (s.setChan b { c with disc := c.disc ||| 2 ^ k, prog := Tab.set (fun _ => 0) c.prog k 0 }).react b 0x08 first
def State.latchTp (s : State) (b : Bool) (k : Nat) : State :=
  let c := s.chan b
  let first := s.causeFree
  let p := if s.inPair b k = 0 then 1 else 0
  (s.setChan b { c with tp := c.tp ||| 2 ^ k, prog := Tab.set (fun _ => 0) c.prog k p }).react b 0x09 first

/-- The bounds of R475 in TBP counts: a disagreement that ends below the first is accepted, one that reaches the second is
latched. -/
def State.discLow (s : State) (k : Nat) : Nat := s.f (R.SAF_IN_DISC k) * 392000 - 200000
def State.discHigh (s : State) (k : Nat) : Nat := s.f (R.SAF_IN_DISC k) * 408000 + 200000

/-- How long pair k has disagreed at channel `b`; none while it agrees. -/
def State.disagree (s : State) (b : Bool) (k : Nat) : Option Nat :=
  match Tab.get (fun _ => 0) (s.chan b).disAt k with
  | 0 => none
  | t + 1 => some (s.tbp - t)

/-- A disagreement that has lasted to the upper bound is latched (R475). -/
def State.discTime (s : State) (b : Bool) (k : Nat) : State :=
  match s.disagree b k with
  | some d => if s.discHigh k ≤ d then s.latchDisc b k else s
  | none => s

/-- DISC: the channel latches, at the latest at the upper bound and not before the lower one. -/
def State.discExpire (s : State) (b : Bool) (k : Nat) : State :=
  match s.disagree b k with
  | some d => if s.discLow k < d && s.f (R.SAF_IN_MODE k) ≠ 0 then s.latchDisc b k else s
  | none => s

/-- The safe reaction ends when no cause remains (R480). -/
def State.safRelease (s : State) : State :=
  if s.causeFree && (s.saf.a.safe || s.saf.b.safe) && s.st ≠ stBoot then
    let s := s.setChan false { s.chan false with safe := false, told := false, offAt := none }
    let s := s.setChan true { s.chan true with safe := false, told := false, offAt := none }
    ({ s with saf := { s.saf with fresh := none } } : State).showSaf.post 0x0E03 0
  else s.showSaf

/-- A demand of a pair with `ACKM` = 0 clears by itself when the pair becomes active (R478). -/
def State.selfRelease (s : State) (b : Bool) (k : Nat) : State :=
  let c := s.chan b
  if c.dem.testBit k && !s.on (R.SAF_IN_ACKM k) then (s.setChan b { c with dem := c.dem - 2 ^ k }).safRelease else s

/-- FILTERED_INPUT_CHANGE. -/
def State.inputChange (s : State) (b : Bool) (x : Nat) (high : Bool) : State :=
  let k := x / 2
  let c := s.chan b
  let old := s.inPair b k
  let ins := if high then c.ins ||| 2 ^ x else if c.ins.testBit x then c.ins - 2 ^ x else c.ins
  let s := if old = 2 then s.discTime b k else s
  let took := match s.disagree b k with
    | some d => decide (d < s.discHigh k)
    | none => false
  let s := s.setChan b { s.chan b with ins := ins }
  let new := s.inPair b k
  if s.f (R.SAF_IN_MODE k) = 0 then s
  else
    let c := s.chan b
    let dis := if new = 2 then (if old = 2 then Tab.get (fun _ => 0) c.disAt k else s.tbp + 1) else 0
    let p := Tab.get (fun _ => 0) c.prog k
    let p := if new = 0 && p = 0 then 1 else if new = 1 && p = 1 then 2 else p
    let p := if c.disc.testBit k || c.tp.testBit k then p else 0
    let s := s.setChan b { c with disAt := Tab.set (fun _ => 0) c.disAt k dis, prog := Tab.set (fun _ => 0) c.prog k p }
    let s := if old = 2 && new ≠ 2 && took && !c.disc.testBit k && !b then s.count R.SAF_CNT_DACC 1 else s
    if new = 1 then s.selfRelease b k else if old = 1 then s.demand b k else s

/-- TEST_PULSE of supply `tp` at channel `b`: inputs of that supply that stayed high, and inputs of the other supply that
fell, by pair (R474). -/
def State.testPulse (s : State) (b : Bool) (stay fell : Nat) : State :=
  s.each (List.range 4) fun k s =>
    if s.f (R.SAF_IN_MODE k) ≠ 0 && s.on (R.SAF_IN_TP k) && (stay.testBit k || fell.testBit k) then s.latchTp b k else s

/-! ### Outputs (R462 to R466) -/

/-- Whether the conditions of R463 hold for output n. -/
def State.mayEnergise (s : State) (n : Nat) : Bool :=
  s.live && s.sys.railsOk && s.sys.nrst && s.on R.SAF_STAT_CONF && s.on R.SAF_STAT_TESTOK && s.saf.test = 0 &&
    s.inSt (if n = 0 then [stConnected, stRide] else [stArmed, stConnected, stRide])

/-- Channel `b` commands its switch of output n; a change restarts the times of R465 and R466. -/
def State.switch (s : State) (b : Bool) (n : Nat) (on : Bool) : State :=
  let c := s.chan b
  if c.sw.testBit n = on then s
  else
    let bitOff (v : Nat) : Nat := if v.testBit n then v - 2 ^ n else v
    let s := s.setChan b { c with sw := if on then c.sw ||| 2 ^ n else c.sw - 2 ^ n, pulse := bitOff c.pulse }
    ({ s with saf := { s.saf with outAt := Tab.set (fun _ => 0) s.saf.outAt n s.tbp } } : State).showSaf

/-- OUTPUT_ENERGISE: with no safe reaction a channel's switches follow R463; in one they go off `ODLY` after the decision. -/
def State.energise (s : State) (b : Bool) : State :=
  s.each [0, 1] fun n s =>
    if (s.chan b).safe then s else s.switch b n (!(s.chan b).told && s.mayEnergise n)

/-- OUTPUT_SWITCH_OFF. -/
def State.switchOff (s : State) (b : Bool) : State :=
  let c := s.chan b
  match c.offAt with
  | some t =>
    if c.safe && decide (t ≤ s.tbp) then
      let s := s.each [0, 1] fun n s => s.switch b n false
      s.setChan b { s.chan b with offAt := none, pulse := 0 }
    else s
  | none => s

/-- Whether both switches of output n are on. -/
def State.energised (s : State) (n : Nat) : Bool := s.saf.a.sw.testBit n && s.saf.b.sw.testBit n

/-- The comparison of R465 at a safety cycle: `nodes` bit 2n is the node of SA's switch of output n and bit 2n + 1 that of
SB's. An output in an off-pulse is not compared. -/
def State.nodeCheck (s : State) (b : Bool) (nodes : Nat) : State :=
  s.each [0, 1] fun n s =>
    let c := s.chan b
    if (s.saf.a.pulse ||| s.saf.b.pulse).testBit n then s
    else
      let bad := nodes.testBit (2 * n) ≠ s.saf.a.sw.testBit n || nodes.testBit (2 * n + 1) ≠ s.saf.b.sw.testBit n
      let run := if bad then min 2 (Tab.get (fun _ => 0) c.nodeBad n + 1) else 0
      let s := (s.setChan b { c with nodeBad := Tab.set (fun _ => 0) c.nodeBad n run }).setCond b n bad
      if run = 2 then s.safFault b n 0x18 else s

/-- OUTPUT_OFF_PULSE (R464): in native mode, once a second; SA's pulse 500 ms ± 50 ms after SB's, and none within 100 ms of
the other channel's. -/
def State.pulseStart (s : State) (b : Bool) (n : Nat) : State :=
  let c := s.chan b
  let own := Tab.get (fun _ => 0) c.pulseAt n
  let other := Tab.get (fun _ => 0) (s.chan (!b)).pulseAt n
  let now := s.tbp + 1
  let due := if b then own = 0 || decide (own + 980 * perMs ≤ now)
    else other ≠ 0 && decide (own < other) && decide (other + 450 * perMs ≤ now) && decide (now ≤ other + 550 * perMs)
  let clear := other = 0 || decide (other + 100 * perMs ≤ now)
  if s.f R.SAF_CFG_OUTM = 0 && s.energised n && !c.pulse.testBit n && due && clear then
    s.setChan b { c with pulse := c.pulse ||| 2 ^ n, pulseAt := Tab.set (fun _ => 0) c.pulseAt n now }
  else s

/-- OFF_PULSE_END: a node that has not followed is an OUT_SW fault. -/
def State.pulseEnd (s : State) (b : Bool) (n : Nat) (followed : Bool) : State :=
  let c := s.chan b
  if c.pulse.testBit n && decide (Tab.get (fun _ => 0) c.pulseAt n + s.f R.SAF_OUT_OPW * perUs ≤ s.tbp + 1) then
    let s := s.setChan b { c with pulse := c.pulse - 2 ^ n }
    if followed then s else s.safFault b n 0x18
  else s

/-- OUT_OC: both switches go off at once (R465). -/
def State.outOc (s : State) (b : Bool) (n : Nat) : State :=
  if s.energised n then ((s.switch false n false).switch true n false).safFault b (2 + n) 0x19 else s

/-- OUT_OPEN: below `IMIN` for 10 ms while energised (R465). -/
def State.outOpen (s : State) (b : Bool) (n : Nat) : State :=
  if s.energised n && decide (Tab.get (fun _ => 0) s.saf.outAt n + 10 * perMs ≤ s.tbp) then s.safFault b (4 + n) 0x1A else s

/-- FB: the level of SAFFBn that has lasted beyond `TOPEN` (R466); a right one ends the condition. -/
def State.feedback (s : State) (b : Bool) (n : Nat) (low : Bool) : State :=
  if s.f R.SAF_CFG_OUTM = 1 && decide (Tab.get (fun _ => 0) s.saf.outAt n + s.f R.SAF_CFG_TOPEN * perMs ≤ s.tbp) then
    let bad := low ≠ s.energised n
    let s := s.setCond b (6 + n) bad
    if bad then s.safFault b (6 + n) 0x1B else s
  else s

/-! ### The safety cycle (R454, R455, R460) -/

/-- What the channels compare: demands, the fault state, output commands and test result. -/
def ChanSt.decision (c : ChanSt) : Nat × Bool × Nat × Nat := (c.dem, c.safe, c.sw, c.result)

/-- SAFETY_CYCLE of channel `b`: the other's heartbeat and cycle length, the node readbacks, its own inputs. -/
def State.safetyCycle (s : State) (b : Bool) (beat lenOk : Bool) (nodes : Nat) : State :=
  if !s.live then s
  else
    let s : State := if s.saf.fresh = some b then { s with saf := { s.saf with fresh := none } } else s
    -- a channel that has been informed follows within one of its cycles (R457)
    let c := s.chan b
    let s := if c.told then s.setChan b { c with safe := true, told := false } else s
    let s := s.each (List.range 4) fun k s =>
      if s.f (R.SAF_IN_MODE k) = 0 then s else
        let s := s.discTime b k
        if s.inPair b k = 1 then s else s.demand b k
    let s := if s.trp.isoReq then s.safFault b 15 0x10 else s
    let s : State := if s.saf.a.flt.testBit 15 && s.saf.b.flt.testBit 15 then { s with trp := { s.trp with isoReq := false } }
      else s
    let s := s.nodeCheck b nodes
    let c := s.chan b
    let differ := if c.decision = (s.chan (!b)).decision then 0 else min 3 (c.differ + 1)
    let noBeat := if beat then 0 else min 2 (c.noBeat + 1)
    let s := s.setChan b { c with differ := differ, noBeat := noBeat }
    let s := if differ = 3 || noBeat = 2 || !lenOk then s.safFault b 13 0x28 else s
    let s := s.energise b
    s.xProduce (if b then 16 else 15) [(s.reg 0xE080).toNat, (s.chan b).causes]

/-- SELF_TEST_COMPLETE (R456). -/
def State.selfTest (s : State) (ok : Bool) : State :=
  if s.st = stBoot && s.live && s.bitAt R.SYS_STATE_WAIT 0 then
    let s := s.setBit R.SYS_STATE_WAIT 0 false
    if ok then { s with saf := { s.saf with selfOk := true } } else s.safFaultBoth 14 0x29
  else s

/-! ### The isolation test (R467 to R471) -/

/-- A test starts: both outputs are de-energised. -/
def State.testStart (s : State) : State :=
  let s := s.each [0, 1] fun n s => (s.switch false n false).switch true n false
  let new (c : ChanSt) : ChanSt := { c with refBad := false, maxCh := [], maxRef := [], fbLow := false }
  let s := s.setChan false (new (s.chan false))
  let s := s.setChan true (new (s.chan true))
  { s with saf := { s.saf with test := 1, testAt := s.tbp } }

/-- A write of `SAF_CMD.TEST` = 1 (R467). -/
def State.testCommand (s : State) : Status × State :=
  if s.quiet && s.saf.test = 0 then (.done, s.testStart) else (.state, s)

/-- The references of step 3 or 5: channel 117 outside 2,048 ± 16 codes, or channel 118 above 16 (R469). -/
def State.testRefs (s : State) (b : Bool) (c117 c118 : Nat) : State :=
  let c := s.chan b
  s.setChan b { c with refBad := c.refBad || decide (c117 < 2032 ∨ 2064 < c117) || decide (16 < c118) }

/-- ISOLATION_TEST_OPEN_TIME: `TOPEN` has elapsed, the two lanes are taken and convert channels 117 and 118. -/
def State.testOpen (s : State) (a117 a118 b117 b118 : Nat) : State :=
  if s.saf.test = 1 && decide (s.saf.testAt + s.f R.SAF_CFG_TOPEN * perMs ≤ s.tbp) then
    let s : State := { s with saf := { s.saf with test := 2, testAt := s.tbp } }
    let s := s.each [s.f R.SAF_TST_LANEA, s.f R.SAF_TST_LANEB] fun k s =>
      s.setLane k { s.lane k with mux := 117, swAt := s.tba }
    (s.testRefs false a117 a118).testRefs true b117 b118
  else s

/-- The larger of what an entry has shown and the magnitude of a new code. -/
def maxInto (t : Tab Nat) (i : Nat) (x : Int) : Tab Nat := Tab.set (fun _ => 0) t i (max (Tab.get (fun _ => 0) t i) x.natAbs)

/-- ISOLATION_TEST_SAMPLE: one conversion by channel `b` of `CH` and `RCH` of each entry, in order, and whether SAFFB0 or
SAFFB1 read low at it. -/
def State.testSample (s : State) (b : Bool) (codes : List (Int × Int)) (fb : Bool) : State :=
  if s.saf.test = 2 then
    let s := s.each (List.range 6) fun i s =>
      if s.on (R.SAF_VCHK_EN i) then
        let c := s.chan b
        let x := codes.getD i (0, 0)
        s.setChan b { c with maxCh := maxInto c.maxCh i x.1, maxRef := maxInto c.maxRef i x.2 }
      else s
    s.setChan b { s.chan b with fbLow := (s.chan b).fbLow || (fb && s.f R.SAF_CFG_OUTM = 1) }
  else s

/-- The entries that fail at a channel, one bit each, and whether an entry's supply side stays below its threshold. -/
def State.testPoles (s : State) (b : Bool) : Nat × Bool :=
  let c := s.chan b
  (List.range 6).foldl (fun a i =>
    if s.on (R.SAF_VCHK_EN i) then
      let thr := s.f (R.SAF_VCHK_THR i)
      let m := Tab.get (fun _ => 0) c.maxCh i
      let r := Tab.get (fun _ => 0) c.maxRef i
      if r < thr then (a.1, true) else if m < thr then (a.1 + 2 ^ i, a.2) else a
    else a) (0, false)

/-- A channel's result: 1 pass, 2 fail, 3 inconclusive (R469). -/
def State.testResult (s : State) (b : Bool) : Nat :=
  let c := s.chan b
  let p := s.testPoles b
  if c.refBad then 3 else if p.1 ≠ 0 || c.fbLow then 2 else if p.2 then 3 else 1

/-- Whether the module may be armed, the isolation test apart (R605). -/
def State.mayArm (s : State) : Bool :=
  s.inSt [stStandby] && s.on R.CE_STAT_LOADED && s.on R.SAF_STAT_CONF && !s.on R.SYS_STATE_HOLDSB && s.sys.arm.isNone

/-- ISOLATION_TEST_END (R469, R470): the references once more, then the result. -/
def State.testEnd (s : State) (a117 a118 b117 b118 : Nat) : State :=
  if s.saf.test = 2 && decide (s.saf.testAt + s.f R.SAF_CFG_TWIN * perMs ≤ s.tbp) then
    let s := (s.testRefs false a117 a118).testRefs true b117 b118
    let ra := s.testResult false
    let rb := s.testResult true
    let poles := (if ra = 2 then (s.testPoles false).1 else 0) ||| (if rb = 2 then (s.testPoles true).1 else 0)
    let res := if ra = 2 || rb = 2 then 2 else if ra = 1 && rb = 1 then 1 else 3
    let s := s.setChan false { s.chan false with result := ra }
    let s := s.setChan true { s.chan true with result := rb }
    let s := ((s.setF R.SAF_TSTAT_RES res).setF R.SAF_TSTAT_POLES poles).testStop
    match res with
    | 1 =>
      let s := (s.setF R.SAF_STAT_TESTOK 1).setF R.SAF_TSTAT_AGE 0
      let s : State := { s with saf := { s.saf with ageAt := s.tbp, due := false } }
      let s := s.post 0x0E04 0
      match s.sys.arm with
      | some a =>
        if ({ s with sys := { s.sys with arm := none } } : State).mayArm then
          (({ s with sys := { s.sys with arm := some a } } : State).enter stArmed).armEnd .done
        else s.armEnd .state
      | none => s
    | 2 =>
      let s := s.setF R.SAF_STAT_TESTOK 0
      let s := if ra = 2 then s.safFault false 8 0x20 else s
      let s := if rb = 2 then s.safFault true 8 0x20 else s
      s.post 0x0E05 0
    | _ => (s.post 0x0E06 0).armEnd .state
  else s

/-- SAF_TEST_DUE (R471). -/
def State.testDue (s : State) : State :=
  if (s.on R.SAF_STAT_TESTOK || decide (s.f R.SAF_TSTAT_AGE < 1440)) && !s.saf.due && decide ((24 - s.f R.SAF_CFG_WARN) * 60 ≤ s.f R.SAF_TSTAT_AGE) then
    ({ s with saf := { s.saf with due := true } } : State).post 0x0E07 0
  else s

/-- TEST_OVERDUE (R471). -/
def State.testOverdue (s : State) : State :=
  if s.on R.SAF_STAT_TESTOK && decide (1440 ≤ s.f R.SAF_TSTAT_AGE) then
    let s := s.setF R.SAF_STAT_TESTOK 0
    if s.inSt [stConnected, stRide] then s.safFaultBoth 9 0x21 else s
  else s

/-! ### Acknowledge (R477 to R480) -/

/-- Whether the condition of NET_LOSS persists: no good frame for 4.5 × `PER` (R484). -/
def State.netLost (s : State) (b : Bool) : Bool :=
  s.on R.SAF_NET_EN && s.on R.SAF_NET_FOLLOW && (s.role = 1 || s.role = 2) &&
    decide ((s.chan b).net.goodAt + s.f R.LNK_CFG_PER * 1800 ≤ s.tbp)

/-- Whether the condition of the cause at bit i of a channel's faults persists. -/
def State.persists (s : State) (b : Bool) (i : Nat) : Bool :=
  let c := s.chan b
  match i with
  | 2 | 3 => s.energised (i - 2) && c.cond.testBit i
  | 8 => false
  | 9 => !s.on R.SAF_STAT_TESTOK
  | 11 => s.netLost b
  | 12 => decide (4 ≤ c.net.badRun)
  | 13 | 14 => !s.saf.selfOk
  | 15 => s.trp.isoReq
  | 16 => !c.net.stops.isEmpty
  | _ => c.cond.testBit i

/-- An acknowledge (R476, R478, R480). -/
def State.acknowledge (s : State) : State :=
  let clear (b : Bool) (s : State) : State :=
    let c := s.chan b
    let keepFlt := (List.range 17).foldl (fun a i => if c.flt.testBit i && s.persists b i then a + 2 ^ i else a) 0
    let keep (m : Nat) (p : Nat → Bool) : Nat :=
      (List.range 4).foldl (fun a k => if m.testBit k && !p k then a + 2 ^ k else a) 0
    let done (k : Nat) : Bool := Tab.get (fun _ => 0) c.prog k = 2
    s.setChan b { c with flt := keepFlt, dem := keep c.dem fun k => s.inPair b k = 1, disc := keep c.disc done,
                         tp := keep c.tp done }
  ((clear true (clear false s)).safRelease)

/-- ACKNOWLEDGE: SAFACK is released after `ms` milliseconds (R477). -/
def State.ackRelease (s : State) (ms : Nat) : State :=
  if ms < 50 then s
  else if 5000 ≤ ms then s.setF R.SAF_STAT_ACKSTUCK 0
  else (s.setF R.SAF_STAT_ACKSTUCK 0).acknowledge

/-- SAF_ACK_STUCK (R477). -/
def State.ackStuck (s : State) : State :=
  if s.on R.SAF_STAT_ACKSTUCK then s else (s.setF R.SAF_STAT_ACKSTUCK 1).post 0x0E08 0

/-- A write of `SAF_CMD.ACK` = 1 (R479). -/
def State.ackCommand (s : State) (who : Writer) : Status × State :=
  if who ≠ .host && who ≠ .manager then (.auth, s)
  else if s.on R.SAF_CFG_RACK && !s.on R.SAF_STAT_ACKSTUCK then (.done, s.acknowledge)
  else (.state, s)

/-! ### Safe data (R481 to R486) -/

/-- Whether a channel's safe reaction demands a stop of others (R485). -/
def State.stopSent (s : State) (b : Bool) : Bool :=
  let c := s.chan b
  c.safe && ((List.range 4).any (fun k => c.dem.testBit k && s.on (R.SAF_IN_PROP k)) ||
    (c.flt.testBit 16 && s.on R.SAF_NET_FOLLOW && s.role = 2))

/-- The two words of channel `b`'s half for frame `frame` and identity `id` (R481). -/
def State.half (s : State) (b : Bool) (frame id : Nat) : List Word :=
  let c := s.chan b
  let w0 : Word := BitVec.ofNat 32 (bit c.safe + 2 * bit (s.stopSent b) + 4 * bit (c.sw.testBit 0) + 8 * bit (c.sw.testBit 1) +
    16 * bit (s.on R.SAF_STAT_CONF) + (if b then 2 else 1) * 2 ^ 5 + frame % 256 * 2 ^ 8 + id % 2 ^ 16 * 2 ^ 16)
  [w0, BitVec.ofNat 32 (crcFrom (if b then 0xA5A50002 else 0xA5A50001) (wordBytes w0))]

/-- A whole safety slot. -/
def State.safSlot (s : State) (frame id : Nat) : List Word := s.half false frame id ++ s.half true frame id

/-- The first word of channel `b`'s half of a received slot, when the half is valid for a frame and an identity (R482). -/
def validHalf (b : Bool) (ws : List Word) (frame id : Nat) : Option Word :=
  let w0 := ws.getD (if b then 2 else 0) 0
  let crc := ws.getD (if b then 3 else 1) 0
  let n := w0.toNat
  if crc.toNat = crcFrom (if b then 0xA5A50002 else 0xA5A50001) (wordBytes w0) && n / 2 ^ 5 % 8 = (if b then 2 else 1) &&
      n / 2 ^ 8 % 256 = frame % 256 && n / 2 ^ 16 = id then some w0
  else none

/-- Remembers whether the last valid half from `key` carried `STOP`; one that does is a NET_STOP at once (R484). -/
def State.netStop (s : State) (b : Bool) (key : Nat) (w0 : Word) : State :=
  let c := s.chan b
  let others := c.net.stops.filter (· ≠ key)
  if w0.getLsbD 1 then (s.setChan b { c with net := { c.net with stops := key :: others } }).safFault b 16 0x11
  else s.setChan b { c with net := { c.net with stops := others } }

/-- A judged frame (R483, R484): good, bad or without a valid copy. -/
def State.judge (s : State) (b : Bool) (frame : Nat) (copies : List Word) : State :=
  let c := s.chan b
  let n := c.net
  let good := match copies with
    | [] => false
    | w :: l => l.all (· = w)
  let n := { n with judged := frame + 1, copies := n.copies.filter (·.1 ≠ frame) }
  if good then s.setChan b { c with net := { n with badRun := 0, goodAt := s.tbp } }
  else
    let s := if b then s else s.count R.SAF_CNT_BAD 1
    let run := if copies.isEmpty then n.badRun else min 4 (n.badRun + 1)
    let s := s.setChan b { c with net := { n with badRun := run } }
    if run = 4 && !copies.isEmpty && s.on R.SAF_NET_FOLLOW then s.safFault b 12 0x13 else s

/-- How far frame `k` lies after frame `f`; frame numbers wrap (R400). -/
def frameGap (f k : Nat) : Nat := (k + 2 ^ 32 - f) % 2 ^ 32

/-- Frames that are judged because frame `k` has arrived: those up to k − 2 after the last one judged; before any has been
judged, those of which a copy waits. Copies of frames long past are dropped. -/
def State.judgeOld (s : State) (b : Bool) (k : Nat) : State :=
  let s := s.each [5, 4, 3, 2] fun i s =>
    let f := (k + 2 ^ 32 - i) % 2 ^ 32
    let n := (s.chan b).net
    if (if n.judged = 0 then n.copies.any (·.1 = f) else decide (frameGap (n.judged % 2 ^ 32) f < 2 ^ 31)) then
      s.judge b f ((n.copies.filter (·.1 = f)).map (·.2.2))
    else s
  let c := s.chan b
  s.setChan b { c with net := { c.net with copies := c.net.copies.filter fun x => decide (frameGap x.1 k < 16) } }

/-- A valid copy of frame `frame` reaches channel `b` on one network (R483). -/
def State.netCopy (s : State) (b : Bool) (frame : Nat) (woad other : Bool) (w0 : Word) : State :=
  let s := if s.on R.SAF_NET_FOLLOW then s.netStop b 1024 w0 else s
  let c := s.chan b
  let n := if woad then { c.net with woad := s.tbp } else { c.net with mad := s.tbp }
  let s := s.setChan b { c with net := n }
  let s := if n.mad ≠ 0 && n.woad ≠ 0 && s.on R.SAF_STAT_SINGLE &&
      decide (max n.mad n.woad ≤ min n.mad n.woad + s.f R.LNK_CFG_PER * 400) then s.setF R.SAF_STAT_SINGLE 0 else s
  -- a copy of a frame just judged is discarded; a manager that starts its frame numbers afresh is not
  if n.judged ≠ 0 && frameGap frame ((n.judged + 2 ^ 32 - 1) % 2 ^ 32) < 16 then s
  else
    let s := s.judgeOld b frame
    let n := (s.chan b).net
    let mine := n.copies.filter fun x => x.1 = frame && x.2.1 ≠ woad
    match mine with
    | x :: _ => s.judge b frame [x.2.2, w0]
    | [] =>
      if other then s.setChan b { s.chan b with net := { n with copies := n.copies ++ [(frame, woad, w0)] } }
      else s.judge b frame [w0]

/-- NET_MISMATCH: four consecutive judged frames are bad. -/
def State.netMismatch (s : State) (b : Bool) : State :=
  if s.on R.SAF_NET_EN && s.on R.SAF_NET_FOLLOW && decide (4 ≤ (s.chan b).net.badRun) then s.safFault b 12 0x13 else s

/-- NET_LOSS, on the channel's own source. -/
def State.netLoss (s : State) (b : Bool) : State := if s.netLost b then s.safFault b 11 0x12 else s

/-- SAF_SINGLE (R486): one network has delivered within `SINGLE` seconds and the other has not. -/
def State.netSingle (s : State) (b : Bool) : State :=
  let n := (s.chan b).net
  let span := s.f R.SAF_NET_SINGLE * perSec
  if s.on R.SAF_NET_EN && !s.on R.SAF_STAT_SINGLE && decide (min n.mad n.woad + span ≤ s.tbp) &&
      decide (min n.mad n.woad < max n.mad n.woad) && decide (s.tbp < max n.mad n.woad + span) then
    (s.setF R.SAF_STAT_SINGLE 1).post 0x0E09 0
  else s

/-! ### The retained safety record (R461) -/

/-- R544: the real time in seconds. -/
def State.realTime (s : State) : Nat := (s.bvq.rtb + s.bvq.tbk / 32768) % 2 ^ 48

/-- The record as it would be written now. -/
def State.safRec (s : State) : SafRec :=
  { fltA := s.saf.a.flt, fltB := s.saf.b.flt, demA := s.saf.a.dem, demB := s.saf.b.dem, discA := s.saf.a.disc,
    discB := s.saf.b.disc, tpA := s.saf.a.tp, tpB := s.saf.b.tp, cause := s.f R.SAF_STAT_CAUSE, age := s.f R.SAF_TSTAT_AGE,
    rt := if s.on R.BVQ_STAT_RTV then some s.realTime else none }

/-- SAFETY_RECORD_WRITE: latched causes, and demands of pairs with `ACKM` = 1. -/
def State.recordWrite (s : State) : State :=
  let m := 15 - s.selfClear
  let r := s.safRec
  { s with saf := { s.saf with record := some { r with demA := r.demA &&& m, demB := r.demB &&& m } } }

/-- SAFETY_RECORD_AGE_UPDATE: once a minute. -/
def State.ageUpdate (s : State) : State :=
  if s.live && decide (s.saf.ageAt + 60 * perSec ≤ s.tbp) then
    let s := s.count R.SAF_TSTAT_AGE 1
    let s : State := { s with saf := { s.saf with ageAt := s.tbp } }
    match s.saf.record with
    | some r => { s with saf := { s.saf with record := some { r with age := s.safRec.age, rt := s.safRec.rt } } }
    | none => { s with saf := { s.saf with record := some { age := s.safRec.age, rt := s.safRec.rt } } }
  else s

/-! ### The commands -/

def execSafetyCycle (sb beat lenOk : Bool) (nodes : BitVec 4) (s : State) : Out :=
  .next (s.onMain (s.safetyCycle sb beat lenOk nodes.toNat))
def execOutputSwitchOff (sb : Bool) (s : State) : Out := .next (s.onMain (s.switchOff sb))
def execSelfTestComplete (ok : Bool) (s : State) : Out := .next (s.onMain (s.selfTest ok))
def execSafetyRecordWrite (s : State) : Out := .next (s.onMain s.recordWrite)
def execSafetyRecordAgeUpdate (s : State) : Out := .next (s.onMain s.ageUpdate)
def execOutputOffPulse (sb : Bool) (n : Fin 2) (s : State) : Out := .next (s.onMain (s.pulseStart sb n))
def execOffPulseEnd (sb : Bool) (n : Fin 2) (followed : Bool) (s : State) : Out := .next (s.onMain (s.pulseEnd sb n followed))
def execOutOc (sb : Bool) (n : Fin 2) (s : State) : Out := .next (s.onMain (s.outOc sb n))
def execOutOpen (sb : Bool) (n : Fin 2) (s : State) : Out := .next (s.onMain (s.outOpen sb n))
def execFb (sb : Bool) (n : Fin 2) (low : Bool) (s : State) : Out := .next (s.onMain (s.feedback sb n low))
def execSafCmdTest (s : State) : Out := .next (s.onMain (s.testCommand.2.wres 0xE0A0 s.testCommand.1))
def execIsolationTestOpenTime (a117 a118 b117 b118 : Fin 4096) (s : State) : Out :=
  .next (s.onMain (s.testOpen a117 a118 b117 b118))
def execIsolationTestSample (sb : Bool) (codes : List (Int × Int)) (fb : Bool) (s : State) : Out :=
  .next (s.onMain (s.testSample sb codes fb))
def execIsolationTestEnd (a117 a118 b117 b118 : Fin 4096) (s : State) : Out := .next (s.onMain (s.testEnd a117 a118 b117 b118))
def execSafTestDue (s : State) : Out := .next (s.onMain s.testDue)
def execTestOverdue (s : State) : Out := .next (s.onMain s.testOverdue)
def execFilteredInputChange (sb : Bool) (x : Fin 8) (high : Bool) (s : State) : Out := .next (s.onMain (s.inputChange sb x high))
def execTestPulse (sb : Bool) (stay fell : BitVec 4) (s : State) : Out := .next (s.onMain (s.testPulse sb stay.toNat fell.toNat))
def execDisc (sb : Bool) (k : Fin 4) (s : State) : Out := .next (s.onMain (s.discExpire sb k))
def execAcknowledge (ms : Nat) (s : State) : Out := .next (s.onMain (s.ackRelease ms))
def execSafAckStuck (s : State) : Out := .next (s.onMain s.ackStuck)
def execSafCmdAck (who : Writer) (s : State) : Out :=
  .next (s.onMain (if who = .host then (s.ackCommand who).2.wres 0xE0A0 (s.ackCommand who).1 else (s.ackCommand who).2))
def execNetMismatch (sb : Bool) (s : State) : Out := .next (s.onMain (s.netMismatch sb))
def execNetLoss (sb : Bool) (s : State) : Out := .next (s.onMain (s.netLoss sb))
def execSafSingle (sb : Bool) (s : State) : Out := .next (s.onMain (s.netSingle sb))

/-- Clears the three counts of `SAF_CNT` (R502). -/
def State.safCntClear (s : State) : State :=
  ((s.setF R.SAF_CNT_DEM 0).setF R.SAF_CNT_DACC 0).setF R.SAF_CNT_BAD 0
def execSafCntClr (s : State) : Out := .next (s.onMain (s.safCntClear.wres 0xE090 .done))

end Sys2Proof.Machine
end

