-- ==== Sys2Proof/Machine/Frames.lean ====
section
/-! DEFINITION. Plant frames: the manager's frame start, a device's down and up frames and the frames a manager receives
(R395 to R411, R418, R426, R430, R482, R486), with the match of a plant-time compare unit that starts them (R119). The frame a
port has sent last stands in `LnkSt.out`, and the outgoing safety slots in `SafSt.tx`. -/

namespace Sys2Proof.Machine

def State.setSafTx (s : State) (key : Nat) (ws : List Word) : State :=
  { s with saf := { s.saf with tx := Tab.set (fun _ => []) s.saf.tx key ws } }

/-- Network number of a truth value: Madder 0, Woad 1. -/
def netNo (woad : Bool) : Nat := if woad then 1 else 0

/-! ### A manager's frame start (R395) -/

/-- The devices a line's frames are laid out for, at least one. -/
def State.lineDevs (s : State) (l : Nat) : Nat := max 1 (s.f (R.LNK_LINE_NDEV l))

/-- The time a line's down frame takes to leave, in TBP counts, with the 60 ns before it at most. -/
def frameTime (per n : Nat) : Nat := (frameFixed n + 288 * frameCells per n) * 8 / 5 + 24

/-- The words of partner p's down slot; none where the map says empty (R406, R409, R426). -/
def State.downSlot (s : State) (p : Nat) : Option (List Word) :=
  let m := (s.byte (0x1A000 + p)).toNat
  let g := (if s.lnk.bankDn then 0x19000 else 0x18000) + 32 * (m % 128)
  if m.testBit 7 then none else some ((if s.on R.PLT_MCFG_PW then s.downWords else s.words g 4) ++ s.words (g + 16) 4)

/-- A safety slot to be sent, taken from the safety channels (R411): none where the channels send none. -/
def State.safOut (s : State) (key : Nat) : Option (List Word) :=
  match Tab.get (fun _ => []) s.saf.tx key with
  | [] => none
  | ws => some ws

/-- What the cells of a down frame carry. -/
def downCells (per n : Nat) (l : List Packet) : List (Option Seg) :=
  fillCells (List.replicate (frameCells per n) none) l

/-- One line's down frame on each network that is up (R395, R399, R400, R409, R418). -/
def State.emitLine (s : State) (l : Nat) (ts : Nat) : State :=
  let n := s.lineDevs l
  let up (w : Bool) : Bool := s.portUp (4 * netNo w + l)
  if !up false && !up true then s
  else
    let (pk, s) := s.takeDown l (frameCells s.lnk.per n)
    let s := s.each (List.range n) fun i s =>
      if s.on R.SAF_NET_EN then s.setSafTx (256 * l + i) (s.safSlot s.lnk.frame (256 * l + i)) else s
    let saf := slotGroups n 4 fun i => s.safOut (256 * l + i)
    let cyc := slotGroups n 8 fun i => s.downSlot (256 * l + i)
    s.each [0, 1] fun net s =>
      let port := 4 * net + l
      if s.portUp port then
        let hdr := hdrWords (BitVec.ofNat 32 s.lnk.frame) (ptNs ts) (BitVec.ofNat 32 (ptSec ts)) (ptFrac ts) 0 l 0 net 0 0
          (s.port port).loop.toNat s.lnk.per n
        let cells := downCells s.lnk.per n (pk.filter fun p => onNet p (net = 1) up)
        let f : LinkFrame := { hdr := segOf true hdr, saf := saf, cyc := cyc, cells := cells }
        ((s.relate port).setOut port f).setPort port { s.port port with
          loop := 0, dep := some (s.lnk.frame, ((ts / 2 ^ 25 : Nat) : Int)), outAt := some s.tbp }
      else s

/-- PLANT_FRAME_START: a match that comes before the previous down frame has been emitted is only counted. The /S/ leaves
40 ns to 60 ns after the match; where in that span is open. -/
def State.frameStart (s : State) : State :=
  if s.role < 2 then s
  else if s.tbp < s.lnk.frameEnd then s.count R.LNK_STAT_LATEF 1
  else
    let s := ((s.scrub 0x18000 0x2400).scrub 0x1AC80 4).zoneSum
    let s := s.each (s.partnerNums) fun p s => s.ageSlot p
    let s := s.each (s.partnerNums.filter fun p => (s.partner p).st = 4) fun p s => s.refusedStop p
    let s : State := { s with lnk := { s.lnk with
      dlv := s.lnk.dlv.filter (· = 1024), per := s.f R.LNK_CFG_PER, bankDn := (s.byte 0x1AC80).getLsbD 1,
      out := s.lnk.out.filter fun e => portKind s.role e.1 ≠ 1 } }
    let s : State := { s with saf := { s.saf with tx := s.saf.tx.filter fun e => e.1 = 1024 } }
    let s := ((s.relaySetpoints.refill).txnFrame).holdFrame
    let (w, s) := s.takeFree
    let ts := s.ptAt (s.tbp + 16 + w.toNat % 9)
    let s := s.each (List.range (lineCount s.role)) fun l s => s.emitLine l ts
    let longest := (List.range (lineCount s.role)).foldl (fun m l => max m (frameTime s.lnk.per (s.lineDevs l))) 0
    { s with lnk := { s.lnk with frame := (s.lnk.frame + 1) % 2 ^ 32, frameEnd := s.tbp + longest } }

/-- PTC_MATCH (R119 to R126): the targets start at the match's TBP edge; the end of a one-shot changes the Cairn image
(R550). -/
def State.ptcMatch (s : State) (n : Nat) : State :=
  if !s.live || !s.ptcDue n then s
  else
    let tgt := s.f (R.TIM_PTC_CFG_TGT n)
    let grp := s.f (R.TIM_PTC_CFG_GRP n)
    let once := s.f (R.TIM_PTC_CFG_MODE n) = 1
    let s := s.ptcAdvance n
    let s := if once then s.cairnTouch else s
    let s := s.ptcTargets n tgt grp
    if tgt.testBit 8 then s.frameStart else s

/-! ### A device's frames (R396 to R405, R408 to R410, R430) -/

/-- A header with a failing CRC: no delay is formed from this frame or the one before (R403), and the fourth in a row takes the
port down (R419). -/
def State.badHeader (s : State) (n : Nat) : State :=
  let q := s.port n
  let s := s.setPort n { q with bad := q.bad + 1, arr := none, turn := none, dep := none }
  if 4 ≤ q.bad + 1 then s.linkDown n false else s

/-- The words of a device's up slot (R406, R409, R426). -/
def State.upSlot (s : State) : List Word := s.upWords ++ s.words ((if s.lnk.bankUp then 0x1AC60 else 0x1AC40) + 16) 4

/-- What a device does once per frame number, at the first down /S/ of that frame: it reads the bank select and takes its up slot,
which goes out on both networks (R409), latches its safety halves, and updates age and credits. -/
def State.newFrame (s : State) (frame per : Nat) : State :=
  let s := (s.scrub 0x1AC40 0x44).ageSlot 1024
  let s : State := { s with lnk := { s.lnk with
    curFrm := some frame, bankUp := (s.byte 0x1AC80).getLsbD 0, dlv := s.lnk.dlv.filter (· ≠ 1024),
    per := if s.role = 1 then per else s.lnk.per } }
  let s : State := { s with lnk := { s.lnk with upSnap := s.upSlot } }
  let s := if s.on R.SAF_NET_EN then s.setSafTx 1024 (s.safSlot frame (s.f R.PLT_ASG_PART)) else s
  if s.role = 1 then s.refill.txnFrame else s

/-- A device at position `pos` puts its up slots and up to `UPQ` packets into an up frame, and sends it from its up port
(R410, R418). -/
def State.upSend (s : State) (n : Nat) (woad : Bool) (pos : Nat) (f : LinkFrame) : State :=
  let (pk, s) := s.takeUp woad (min f.free (s.f R.LNK_TXN_UPQ))
  let saf := match s.safOut 1024 with
    | some ws => slotPut 4 f.saf pos ws
    | none => f.saf
  (s.setOut n { f with saf, cyc := slotPut 8 f.cyc pos s.lnk.upSnap, cells := fillCells f.cells pk }).setPort n
    { s.port n with outAt := some s.tbp }

/-- R403: frame `k` + 1 gives the delay of the link above in frame `k`, when this device has its TURN of frame `k` and that frame
came with the same `HOP`. -/
def State.linkDelay (s : State) (n : Nat) (f : LinkFrame) : State :=
  let q := s.port n
  match q.arr, q.turn with
  | some (k, hop, _), some t =>
    if f.loop ≠ 0 && (k + 1) % 2 ^ 32 = f.frame && hop = f.hop then
      let d := nearDiv ((f.loop : Int) - t) 2
      (s.setPort n { q with dly := some d }).setF (R.LNK_DLY_D n) (unsigned 32 (nearDiv d 256))
    else s
  | _, _ => s

/-- The offset of R404, in 2^-16 ns: the seconds of TS0 that are nearest to the local time `ta` of the arrival. -/
def frameOffset (f : LinkFrame) (d ta : Int) : Int :=
  let sec : Int := 1000000000 * 2 ^ 16
  let wrap : Int := sec * 2 ^ 32
  let r : Int := (f.bits 2 0 32 : Int) * sec + (f.ts0 : Int) + (f.acc : Int) + d - ta
  (r + wrap / 2) % wrap - wrap / 2

/-- A device forwards a down frame (R391, R398, R405): its `ACC` gains the delay above and the residence, `LOOP` is its own of
the previous frame. -/
def State.downForward (s : State) (dn : Nat) (g : DownFrame) (ta dly : Int) : State :=
  let q := s.port dn
  let leave := s.stamp dn g.dep
  let acc := (nearDiv ((g.f.acc : Int) + dly + (leave - ta)) 256).toNat
  let f := { g.f.forward with hdr := segOf true (g.f.rehead (g.f.hop + 1) acc q.loop.toNat) }
  (((s.relate dn).setOut dn f).setPort dn { q with loop := 0, dep := some (g.f.frame, leave), outAt := some s.tbp }).setF
    (R.LNK_PORT_END dn) 0

/-- The end device forms the up frame: every slot empty and every cell free, its own data put in (R396, R410). -/
def State.upForm (s : State) (n dn : Nat) (g : DownFrame) (ta : Int) : State :=
  let net := netNo g.woad
  let hdr := hdrWords (g.f.hdr.body.getD 0 0) (g.f.bits 1 0 32) (g.f.hdr.body.getD 2 0) (g.f.bits 3 0 16) g.f.hop g.f.line 1 net 1 0 0
    g.f.per g.f.ndev
  let f : LinkFrame := { hdr := segOf true hdr, saf := slotGroups g.f.ndev 4 fun _ => none, cyc := slotGroups g.f.ndev 8 fun _ => none,
                         cells := downCells g.f.per g.f.ndev [] }
  let s := (s.upSend n g.woad g.f.hop f).setF (R.LNK_PORT_END dn) 1
  s.setPort n { s.port n with turn := some (s.stamp n g.dep - ta) }

/-- What a device takes from a down frame: its cyclic slot when that is addressed to it (R430), and its safety slot (R482). -/
def State.downTake (s : State) (woad : Bool) (f : LinkFrame) : State :=
  let s := match slotIn 8 f.cyc f.hop with
    | some ws => if s.takesDown then (s.deliver 1024 f.frame woad ws).2 else s
    | none => s
  match s.on R.SAF_NET_EN, slotIn 4 f.saf f.hop with
  | true, some ws =>
    [false, true].foldl (fun s b =>
      match validHalf b ws f.frame (s.f R.PLT_ASG_PART) with
      | some w => s.netCopy b f.frame woad (s.portUp (upPort s.role (1 - netNo woad))) w
      | none => s) s
  | _, _ => s

/-- DOWN_FRAME. A frame whose header fails is forwarded with each failing segment stomped (R391); at the end device it forms no
up frame (DESIGN CHOICE, log entry 64). -/
def State.downFrame (s : State) (g : DownFrame) : State :=
  let net := netNo g.woad
  let n := upPort s.role net
  let dn := downPort s.role net
  if !s.live || (s.role ≠ 1 && s.role ≠ 2) || !s.portUp n then s
  else
    let s := (s.countSegs n g.f).relate n
    let s := (s.setF (R.LNK_PORT_NOFRM n) 0).setPort n { s.port n with seen := some s.tbp }
    if !g.f.hdr.good then
      let s := if s.portUp dn then
          (s.setOut dn g.f.forward).setPort dn { s.port dn with loop := 0, dep := none, outAt := some s.tbp }
        else s
      s.badHeader n
    else
      let f := g.f
      let s := (s.setPort n { s.port n with bad := 0 }).setF (R.LNK_PORT_POS n) f.hop
      let s : State := { s with lnk := { s.lnk with num := 256 * f.line + f.hop } }
      let s := if s.lnk.curFrm = some f.frame then s else s.newFrame f.frame f.per
      let s := s.linkDelay n f
      let ta := s.stamp n g.arr
      let s := s.setPort n { s.port n with arr := some (f.frame, f.hop, ta), turn := none }
      let dly := (s.port n).dly
      -- the frame goes on before the servo may step plant time
      let s := if s.portUp dn then s.downForward dn g ta (dly.getD 0) else s.upForm n dn g ta
      let s := match dly with
        | some d => s.measure (if g.woad then 2 else 1) (frameOffset f d ta)
        | none => s
      s.downTake g.woad f

/-- One position of an up frame at a manager (R408, R423, R482, R484). -/
def State.upDeliver (s : State) (line : Nat) (woad : Bool) (f : LinkFrame) (pos : Nat) : State :=
  let p := 256 * line + pos
  let s := match slotIn 8 f.cyc pos with
    | some ws =>
      let (first, s) := s.deliver p f.frame woad ws
      if first then s.partnerSeen p else s
    | none => s
  match s.on R.SAF_NET_EN && s.on R.SAF_NET_UPACT && (s.partner p).st = 2, slotIn 4 f.saf pos with
  | true, some ws =>
    [false, true].foldl (fun s b =>
      match validHalf b ws f.frame p with
      | some w => s.netStop b p w
      | none => s) s
  | _, _ => s

/-- The loop time of the frame a port has sent last, once its up frame arrives there (R403). -/
def State.loopTime (s : State) (n : Nat) (g : UpFrame) : State :=
  match (s.port n).dep with
  | some (k, t) =>
    if k = g.f.frame then s.setPort n { s.port n with loop := BitVec.ofNat 32 (nearDiv (s.stamp n g.arr - t) 256).toNat } else s
  | none => s

/-- The turnaround of the frame, once its up frame leaves the up port (R403). -/
def State.turnTime (s : State) (n : Nat) (g : UpFrame) : State :=
  match (s.port n).arr with
  | some (k, _, t) => if k = g.f.frame then s.setPort n { s.port n with turn := some (s.stamp n g.dep - t) } else s
  | none => s

/-- UP_FRAME: at a device's down port the frame takes its data and passes, `HOP` counting down (R400, R410); at a manager's line
port it is received. -/
def State.upFrame (s : State) (g : UpFrame) : State :=
  let n := g.port.val
  let woad := decide (4 ≤ n)
  if !s.live || !s.portUp n then s
  else
    let s := (s.countSegs n g.f).relate n
    match portKind s.role n with
    | 3 =>
      let up := upPort s.role (netNo woad)
      if !g.f.hdr.good then
        let s := if s.portUp up then (s.setOut up g.f.forward).setPort up { s.port up with outAt := some s.tbp } else s
        s.badHeader n
      else
        let s := (s.setPort n { s.port n with bad := 0 }).loopTime n g
        if s.portUp up then
          let f := { g.f.forward with hdr := segOf true (g.f.rehead (g.f.hop + 255) 0 0) }
          ((s.relate up).upSend up woad (s.f (R.LNK_PORT_POS up)) f).turnTime up g
        else s
    | 1 =>
      if !g.f.hdr.good then s.badHeader n
      else
        let s := ((s.setPort n { s.port n with bad := 0 }).loopTime n g).setF (R.LNK_LINE_NDEV (n % 4)) (slotCount g.f.cyc)
        s.each (List.range (min 256 g.f.ndev)) fun pos s => s.upDeliver (n % 4) woad g.f pos
    | _ => s

/-! ### The commands -/

def execPtcMatch (n : Fin 16) (s : State) : Out := .next (s.onMain (s.ptcMatch n))
def execDownFrame (g : DownFrame) (s : State) : Out := .next (s.onMain (s.downFrame g))
def execUpFrame (g : UpFrame) (s : State) : Out := .next (s.onMain (s.upFrame g))

end Sys2Proof.Machine
end

