-- ==== Sys2Proof/Machine/Settle.lean ====
section
/-! DEFINITION. One commit of setup fields (R44 to R50, R580): the words a write leaves, with the clamps of every field, the
configurations that complete with STATE, the ownership check, and what a commit that succeeds does to each block. -/

namespace Sys2Proof.Machine

/-! ### Words and clamps -/

/-- Access codes of fields that an ordinary commit writes; of retained fields; of command fields (R12, R656). -/
def Acc.cfg : Acc → Bool
  | .rw => true
  | .rwc => true
  | _ => false
def Acc.kept : Acc → Bool
  | .rwc => true
  | .rwb => true
  | _ => false
def Acc.cmd : Acc → Bool
  | .wo => true
  | .w1c => true
  | _ => false
def Acc.belay : Acc → Bool
  | .rwb => true
  | _ => false

/-- The bits of a register whose fields have an access code satisfying `p`. -/
def RegSpec.mask (r : RegSpec) (p : Acc → Bool) : Word :=
  BitVec.ofNat 32 (r.fields.foldl (fun a f => if p f.acc then a + (2 ^ f.w - 1) * 2 ^ f.lo else a) 0)

/-- The bits of the register at an offset whose fields have such an access code; none where there is no register. -/
def accMask (p : Acc → Bool) (off : Nat) : Word :=
  match RegMap.find off with
  | some r => r.mask p
  | none => 0

/-- A field value brought into its range (R580). -/
def FieldSpec.clamp (f : FieldSpec) (v : Nat) : Nat :=
  match f.clamps.find? fun c => decide (c.1 ≤ v ∧ v ≤ c.2.1) with
  | some c => c.2.2
  | none => v

/-- `old` with the fields that satisfy `p` taken from `v`, each clamped to its own range. -/
def RegSpec.write (r : RegSpec) (p : Acc → Bool) (old v : Word) : Word :=
  r.fields.foldl (fun a f => if p f.acc then (⟨0, f.lo, f.w⟩ : Fld).put a (f.clamp ((⟨0, f.lo, f.w⟩ : Fld).get v)) else a) old

/-- The least divider, minus 1, of a clock output for its source, format and drive (R88). -/
def ckoDiv (src fmt : Nat) (strong : Bool) : Nat :=
  let tap := if src = 0 then 25000 else if src = 1 then 400000 else 250000
  let limit := match fmt with
    | 0 => 400000
    | 1 => 250000
    | 2 => if strong then 100000 else 50000
    | _ => if strong then 125000 else 62500
  ceilDiv tap limit - 1

/-- A signed power factor of magnitude below 13,107 takes that magnitude (R382). -/
def clampPf (n : Nat) : Nat :=
  let x := signed 16 n
  if 0 ≤ x && x < 13107 then 13107 else if x < 0 && -13107 < x then unsigned 16 (-13107) else n

/-- Clamps among the fields of one register: R88, R126, R158, R200, R215, R232, R237, R295, R382, R383, R523, R561, R588,
R601. -/
def wordClamp (off : Nat) (v : Word) : Word :=
  let n := v.toNat
  if off < 0x1000 then v
  else if off < 0x2000 then
    if 0x1010 ≤ off then
      (R.CLK_CKO_DIV 0).put v (max ((R.CLK_CKO_DIV 0).get v)
        (ckoDiv ((R.CLK_CKO_SRC 0).get v) ((R.CLK_CKO_FMT 0).get v) ((R.CLK_CKO_STRONG 0).get v ≠ 0)))
    else v
  else if 0x4000 ≤ off && off < 0x4100 && off % 16 = 0 then
    if (R.PWM_CAR_CFG_MODE 0).get v = 3 then v else (R.PWM_CAR_CFG_UPD 0).put v 1
  else if 0x6000 ≤ off && off < 0x6200 && (off % 32 = 0 || off % 32 = 4) then
    (R.GDI_LEG_PON_MAX 0).put v (max ((R.GDI_LEG_PON_MAX 0).get v) ((R.GDI_LEG_PON_MIN 0).get v))
  else if 0x7000 ≤ off && off < 0x72C0 && off % 8 = 0 then
    let i := (off - 0x7000) / 8
    let v := if i < 16 then v else (R.TRP_SRC_CFG_POL 0).put v 0
    let v := if 16 ≤ i && i < 40 then v else (R.TRP_SRC_CFG_HARD 0).put v 0
    if (R.TRP_SRC_CFG_HARD 0).get v ≠ 0 then (R.TRP_SRC_CFG_BLNK 0).put v 0 else v
  else if 0x8000 ≤ off && off < 0x80C0 && off % 8 = 4 then
    (R.CMP_THR_LO 0).put v (min ((R.CMP_THR_LO 0).get v) ((R.CMP_THR_HI 0).get v))
  else if off = 0x9088 then
    R.ADC_MON_CFG_BUF.put v (min (R.ADC_MON_CFG_BUF.get v) (8 - monBufs (R.ADC_MON_CFG_LAST.get v)))
  else if off = 0xB050 || off = 0xD068 then
    R.GRD_CODE_ROW.put v (min (R.GRD_CODE_ROW.get v) (2 ^ R.GRD_CODE_LOG2L.get v - 1))
  else if off = 0xB064 then R.GRD_SPQ_PF.put v (clampPf (R.GRD_SPQ_PF.get v))
  else if off = 0xB0C0 then R.GRD_DER_T2.put v (max (R.GRD_DER_T2.get v) (R.GRD_DER_T1.get v))
  else if 0xB800 ≤ off && off < 0xC000 && off % 8 = 4 && (off - 0xB800) / 128 % 4 < 2 then
    (R.GRD_CRV_P_X 0).put v (min ((R.GRD_CRV_P_X 0).get v) 65535)
  else if 0xF010 ≤ off && off < 0xF028 then
    if n / 2 ^ 23 % 256 = 255 || n / 2 ^ 23 % 256 = 0 then 0 else v
  else if off = 0x10054 then R.BVQ_HUV_VMIN.put v (min (R.BVQ_HUV_VMIN.get v) (R.BVQ_HUV_VFAIL.get v))
  else if (0x11100 ≤ off && off < 0x11300 && (off % 32 = 0 || off % 32 = 8)) || off = 0x11300 || off = 0x11320 then
    BitVec.ofNat 32 (n / 4096 * 4096)
  else if 0x11400 ≤ off && off < 0x11500 && off % 16 = 0 then
    (R.HST_CAP_REG_SIZE 0).put v (min ((R.HST_CAP_REG_SIZE 0).get v) (8192 - (R.HST_CAP_REG_BASE 0).get v))
  else v

/-- The word that a write of `v` leaves in the register at `off`, for the fields that satisfy `p`. -/
def State.written (s : State) (p : Acc → Bool) (off : Nat) (v : Word) : Word :=
  match RegMap.find off with
  | some r => wordClamp off (r.write p (s.reg off) v)
  | none => s.reg off

/-- BLKMIN of leg j in fine counts (R195). -/
def State.blkMin (s : State) (j : Nat) : Nat :=
  ceilDiv (2 * (s.f (R.GDI_LEG_PON_MAX j) + s.f (R.GDI_LEG_SW_TON j) + s.f (R.GDI_LEG_MRG_TSET j))) 5

/-- The committed word of a `PWM_` register (R179). -/
def State.pwmWord (s : State) (off : Nat) : Word := Tab.get RegMap.resetWord s.pwm.cairn off

/-- The committed leg of pair m. -/
def State.pairLegC (s : State) (m : Nat) : Nat := s.pwmC (R.PWM_PAIR_CFG_LEG m)

/-- A staging slot with the dead time in it raised (R196). -/
def Slot.raise (lo off : Nat) (sl : Slot) : Slot :=
  { sl with regs := sl.regs.map fun e => if e.1 = off then (e.1, dtRaise lo e.2) else e }

/-- A change of leg j's profile raises the dead times of its pairs: in force for a pair whose leg in force is j, staged and
committed for one whose committed leg is j (R196). -/
def State.legClamp (s : State) (j : Nat) : State :=
  let lo := s.dtMin j
  if lo = 0 then s
  else s.each pairs24 fun m s =>
    let off := 0x4108 + 16 * m
    let s := if s.pairLeg m = j then s.setReg off (dtRaise lo (s.reg off)) else s
    if s.pairLegC m = j then
      let s := s.each carriers16 fun k s =>
        let c := s.car k
        s.setCar k { c with slot := c.slot.raise lo off, taken := c.taken.map (Slot.raise lo off) }
      let v := dtRaise lo (s.pwmWord off)
      if v = s.pwmWord off then s
      else { s with pwm := { s.pwm with cairn := Tab.set RegMap.resetWord s.pwm.cairn off v } }
    else s

/-- The widths of blanking ATCs on `PWMn` lands (R197). -/
def State.atcClamp (s : State) : State :=
  s.each (List.range 16) fun n s =>
    if s.f (R.ATC_CFG_FN n) = 1 && s.f (R.ATC_CFG_SRC n) < 48 then
      let lo := s.blkMin (s.pairLegC (s.f (R.ATC_CFG_SRC n) / 2))
      if s.f (R.ATC_TIME_WID n) < lo then s.setF (R.ATC_TIME_WID n) lo else s
    else s

/-- The offsets of converter entries: all of them. -/
def adcEntries : List Nat :=
  (List.range 48).map (fun e => 0x9100 + 4 * e) ++ (List.range 256).map fun e => 0x9400 + 8 * e

/-- Whether an offset is that of an entry's first word. -/
def isEntry (off : Nat) : Bool :=
  decide (0x9100 ≤ off ∧ off < 0x91C0) || (decide (0x9400 ≤ off ∧ off < 0x9C00) && off % 8 = 0)

/-- An entry that names AINnN of a differential pair names the pair (R257). -/
def State.entryClamp (s : State) (off : Nat) : State :=
  let x := R.ADC_REG_CH 0
  let ch := x.get (s.reg off)
  if 32 ≤ ch && ch < 64 && s.chDiff (ch - 32) then s.setReg off (x.put (s.reg off) (ch - 32)) else s

/-- Clamps that depend on other registers (R122, R126, R196, R197, R257), after a commit has written the registers `ws`. -/
def State.crossClamp (s : State) (ws : List Nat) : State :=
  let hit (lo hi : Nat) : Bool := ws.any fun o => decide (lo ≤ o ∧ o < hi)
  let s := if hit 0x2100 0x2200 then s.each (List.range 16) fun n s =>
      match s.f (R.TIM_PTC_CFG_MODE n) with
      | 2 => s.setF (R.TIM_PTC_IVL_VAL n) (max 1000 (s.f (R.TIM_PTC_IVL_VAL n)))
      | 3 => s.setF (R.TIM_PTC_IVL_VAL n) (min 65535 (s.f (R.TIM_PTC_IVL_VAL n)))
      | _ => s
    else s
  let s := if hit 0x6000 0x6200 then s.each (List.range 16) fun j s =>
      if hit (0x6000 + 32 * j) (0x6010 + 32 * j) then s.legClamp j else s
    else s
  let s := if hit 0x4100 0x4280 || hit 0x5000 0x5080 || hit 0x6000 0x6200 then s.atcClamp else s
  if hit 0x9004 0x9008 then s.each adcEntries fun o s => s.entryClamp o
  else s.each (ws.filter isEntry) fun o s => s.entryClamp o

/-! ### Configurations that complete with STATE -/

/-- The lanes and channels that sequence q uses: its entries 0 to `LAST`. -/
def State.seqUses (s : State) (q : Nat) : List (Nat × Nat) :=
  match q with
  | 0 => (List.range (s.f R.ADC_REG_CFG_LAST + 1)).map fun e => (s.f (R.ADC_REG_LANE e), s.f (R.ADC_REG_CH e))
  | 1 => (List.range (s.f R.ADC_INJ_CFG_LAST + 1)).map fun e => (s.f (R.ADC_INJ_LANE e), s.f (R.ADC_INJ_CH e))
  | _ => (List.range (s.f R.ADC_MON_CFG_LAST + 1)).map fun e => (s.f (R.ADC_MON_LANE e), s.f (R.ADC_MON_CH e))

/-- R261: an enabled sequence left with an entry on a lane of the other class, or a change of a lane's class or a pair's mode
that an enabled sequence uses. -/
def State.laneBad (s t : State) : Bool :=
  (List.range 3).any fun q =>
    t.seqOn q &&
      ((t.seqUses q).any (fun u => t.bitAt R.ADC_LANECL_MON u.1 ≠ decide (q = 2)) ||
        (s.seqOn q && (s.seqUses q).any fun u =>
          s.bitAt R.ADC_LANECL_MON u.1 ≠ t.bitAt R.ADC_LANECL_MON u.1 ||
            (decide (u.2 < 64) && s.bitAt R.ADC_AINMODE_DIFF (u.2 % 32) ≠ t.bitAt R.ADC_AINMODE_DIFF (u.2 % 32))))

/-- Whether a commit that writes the registers `ws` and takes the configuration from `s` to `t` completes with STATE (R246,
R261, R401, R468, R573; R7 on a C0 part). -/
def State.stateBad (s t : State) (ws : List Nat) : Bool :=
  let hit (lo hi : Nat) : Bool := ws.any fun o => decide (lo ≤ o ∧ o < hi)
  (hit 0x7080 0x7140 || hit 0x8000 0x80C0) && ((List.range 24).any fun n =>
    t.on (R.TRP_SRC_CFG_EN (16 + n)) && !t.on (R.CMP_CFG_EN n) && !(s.on (R.TRP_SRC_CFG_EN (16 + n)) && !s.on (R.CMP_CFG_EN n))) ||
  hit 0x9000 0x9C00 && s.laneBad t ||
  hit 0xC000 0xC004 && decide (s.role ≥ 2) && ((List.range 4).any fun line =>
    decide (lineMax (t.f R.LNK_CFG_PER) < (s.plt.tab.filter fun e => e.2.st = 2 && e.1 / 256 = line).length)) ||
  (hit 0x9008 0x900C || hit 0xE004 0xE008) &&
    (!t.bitAt R.ADC_LANECL_MON (t.f R.SAF_TST_LANEA) || !t.bitAt R.ADC_LANECL_MON (t.f R.SAF_TST_LANEB) ||
      t.f R.SAF_TST_LANEA = t.f R.SAF_TST_LANEB) ||
  hit 0x11100 0x11300 && ((List.range 16).any fun r =>
    s.on (R.HST_RING_CFG_EN r) &&
      ((List.range 4).any (fun i => s.reg (0x11100 + 32 * r + 4 * i) ≠ t.reg (0x11100 + 32 * r + 4 * i)) ||
        s.f (R.HST_RING_CFG_LOG2SZ r) ≠ t.f (R.HST_RING_CFG_LOG2SZ r))) ||
  hit 0x11400 0x11500 && s.part = .c0

/-! ### What a commit does to each block -/

/-- R556: E_HU in 0.01 mJ, and whether it reaches E_NEED. -/
def State.huTwice (s : State) : Nat :=
  s.f R.BVQ_HUCFG_C * (s.f R.BVQ_HUV_VFAIL * s.f R.BVQ_HUV_VFAIL - s.f R.BVQ_HUV_VMIN * s.f R.BVQ_HUV_VMIN)
def State.huEnergy (s : State) : Nat := min 65535 (s.huTwice / 200000)
def State.huEnough (s : State) : Bool := decide ((250 + 10 * s.f R.BVQ_HUCFG_MRG) * 200000 ≤ s.huTwice)

/-- HOLDUP_WEAK (R558). -/
def State.huWeak (s : State) : State := (s.setF R.BVQ_STAT_HUWEAK 1).post 0x1002 0

/-- The event ring is disabled: the events held are discarded and counted (R585). -/
def State.evrOff (s : State) : State :=
  ({ s with hst := { s.hst with held := [], evLost := false, evDropped := false } } : State).count R.HST_EVR_OFF_CNT
    s.hst.held.length

/-- Capture window w as a commit leaves it (R589): enabled with `AUTO` = 1 it arms; disabled it is off. -/
def State.capCommit (s t : State) (w : Nat) : State :=
  match s.on (R.HST_CAP_CFG_EN w), t.on (R.HST_CAP_CFG_EN w) with
  | false, true => if t.on (R.HST_CAP_CFG_AUTO w) then t.winArm w else (t.setF (R.HST_CAP_STAT_ST w) 0).setWin w {}
  | true, false => (t.setF (R.HST_CAP_STAT_ST w) 0).setWin w {}
  | _, _ => t

/-- Trip sources and groups as a commit leaves them (R210, R211): a source's level is judged again with its `POL`, `CMPSEL` and
`FLT`, and sources already asserted act. -/
def State.tripCommit (s t : State) : State :=
  let t := t.each (List.range 88) fun i t =>
    if s.reg (0x7000 + 8 * i) = t.reg (0x7000 + 8 * i) then t
    else
      let level :=
        if i < 16 then (t.tsrc i).raw != decide (s.f (R.TRP_SRC_CFG_POL i) ≠ t.f (R.TRP_SRC_CFG_POL i))
        else if i < 40 then t.cmpLevel (i - 16)
        else t.gdfFault (i - 40)
      t.srcRaw i level
  -- a group newly opened to an asserted source, or configured anew, is acted on as if the source had just asserted
  let t := t.each (List.range 88) fun i t =>
    let c := t.tsrc i
    let kept (g : Nat) : Bool := s.srcOf i g && s.on (R.TRP_GRP_CFG_EN g) && s.reg (0x7300 + 16 * g) == t.reg (0x7300 + 16 * g)
    if c.acted = 0 then t
    else t.setTsrc i { c with acted := (List.range 16).foldl (fun a g => if kept g || !a.testBit g then a else a - 2 ^ g) c.acted }
  t.srcActAll.enforceHold

/-- Comparator n as a commit leaves it (R241, R243, R244, R252). -/
def State.cmpCommit (s t : State) (n : Nat) : State :=
  let t : State := if s.reg (0x8004 + 8 * n) = t.reg (0x8004 + 8 * n) then t
    else t.thrMove n (s.reg (0x8004 + 8 * n))
  match s.on (R.CMP_CFG_EN n), t.on (R.CMP_CFG_EN n) with
  | false, true => t.cmpHold n
  | true, false => t.cmpOff n
  | true, true => if s.f (R.CMP_CFG_DIFF n) = t.f (R.CMP_CFG_DIFF n) then t else t.cmpHold n
  | false, false => t

/-- A change of role gives each port its kind; ports that have one train (R384, R392). -/
def State.roleCommit (s t : State) : State :=
  if s.role = t.role then t
  else t.each (List.range 8) fun n t =>
    if portKind s.role n = portKind t.role n then t
    else if portKind t.role n ≠ 0 && t.portClocked n && !t.on (R.LNK_PORT_LOS n) then t.trainStart n
    else (t.portIdle n false).setF (R.LNK_PORT_ST n) (if portKind t.role n = 0 then 0 else 1)

/-- The coordination registers (R427, R437, R439, R442). -/
def State.plantCommit (s t : State) : State :=
  let t := if [0xD044, 0xD048].all (fun o => s.reg o = t.reg o) && s.reg 0xD04C &&& 0xFFFFF = t.reg 0xD04C &&& 0xFFFFF then t
    else t.setF R.PLT_SP2_SEQ (t.f R.PLT_SP2_SEQ + 1)
  let d := (t.f R.PLT_PHA_OFS + 2 ^ 24 - s.f R.PLT_PHA_OFS) % 2 ^ 24
  let t : State := { t with plt := { t.plt with dOfs := (t.plt.dOfs + d) % 2 ^ 24 } }
  if t.role = 3 && s.reg 0xD068 ≠ t.reg 0xD068 then
    let timing := s.f R.PLT_CODE_LOG2L ≠ t.f R.PLT_CODE_LOG2L || s.f R.PLT_CODE_TC ≠ t.f R.PLT_CODE_TC ||
      s.f R.PLT_CODE_AMP ≠ t.f R.PLT_CODE_AMP
    { t with plt := { t.plt with code := if timing || t.plt.code = 1 || t.plt.code = 2 then 1 else 3 } }
  else t

/-- The grid area mirrors a changed `GRD_` register, its read-only fields as 0 (R351); a changed code waits for its boundary
(R377), and a zone manager relays it (R439). -/
def State.gridCommit (s t : State) (ws : List Nat) : State :=
  let changed := ws.filter fun o => decide (0xB000 ≤ o ∧ o < 0xC000) && s.reg o ≠ t.reg o
  let pts := (changed.filter fun o => decide (0xB800 ≤ o)).map fun o => (o - 0xB800) / 8
  let t : State := { t with grd := { t.grd with chg := t.grd.chg ++ pts.filter fun k => !t.grd.chg.contains k } }
  let t := t.each changed fun o t =>
    t.parmWrite (o + 0x12000) [t.reg o &&& (accMask Acc.cfg o ||| accMask Acc.belay o)]
  let t := if changed.contains 0xB048 then t.aiShow else t
  if s.reg 0xB050 = t.reg 0xB050 then t
  else
    let t := t.codeChange
    if t.role = 2 then { t with plt := { t.plt with code := 3 } } else t

/-- A commit or restore resolves a refused restore claim once its resource is free or held by its claimer (R57). -/
def State.releaseHold (s : State) : State :=
  if s.on R.SYS_STATE_HOLDSB && s.sys.refusals.all (fun c => s.owner c.1 = 0 || s.owner c.1 = c.2) then
    ({ s with sys := { s.sys with refusals := [] } } : State).setF R.SYS_STATE_HOLDSB 0
  else s

/-- Whether a device follows the safe data of its manager (R484). -/
def State.follows (s : State) : Bool := s.on R.SAF_NET_EN && s.on R.SAF_NET_FOLLOW && (s.role = 1 || s.role = 2)

/-- A channel that begins to follow times the loss of safe data from then on (R484). -/
def State.netCommit (s t : State) : State :=
  if s.follows || !t.follows then t
  else
    let start (c : ChanSt) : ChanSt := { c with net := { c.net with judged := 0, badRun := 0, goodAt := t.tbp, copies := [] } }
    { t with saf := { t.saf with a := start t.saf.a, b := start t.saf.b } }

/-- What a commit that has taken the configuration from `s` to `t` by writing the registers `ws` does at once. -/
def State.settle (s t : State) (ws : List Nat) : State :=
  let hit (lo hi : Nat) : Bool := ws.any fun o => decide (lo ≤ o ∧ o < hi)
  let t := if hit 0x2028 0x202C then t.reselect else t
  let t := if hit 0x2100 0x2200 then t.each (List.range 16) fun n t =>
      if hit (0x2100 + 16 * n) (0x2110 + 16 * n) then t.ptcArm n else t
    else t
  let t := if hit 0x6000 0x6200 then t.each (List.range 16) fun j t =>
      if s.f (R.GDI_LEG_CFG_GDFM j) = t.f (R.GDI_LEG_CFG_GDFM j) then t else t.gdfModeChange j
    else t
  let t := if hit 0x8000 0x80C0 then t.each (List.range 24) fun n t => s.cmpCommit t n else t
  let t := if hit 0x8100 0x8120 then t.showCmpo else t
  let t := if hit 0x7000 0x7408 then s.tripCommit t else t
  let t := if hit 0x9000 0x9C00 then
      (if s.f R.ADC_MON_CFG_MODE = t.f R.ADC_MON_CFG_MODE then t else t.monModeChange).park
    else t
  let t := s.gridCommit t ws
  let t := if hit 0xC000 0xC004 then s.roleCommit t else t
  let t := if hit 0xD000 0xD080 then s.plantCommit t else t
  let t := if hit 0xC000 0xC004 || hit 0xE040 0xE044 then s.netCommit t else t
  let t := if hit 0xF000 0xF004 && s.f R.MTR_CFG_FNOM ≠ t.f R.MTR_CFG_FNOM then
      { t with mtr := { t.mtr with th := s.mtrTheta s.pt, thAt := s.pt } }
    else t
  let t := if hit 0xF000 0xF004 || hit 0x9080 0x9084 then t.mtrFollow else t
  let t := if hit 0x10050 0x10058 then
      let t := t.setF R.BVQ_HUSTAT_E t.huEnergy
      if s.huEnough && !t.huEnough && t.st ≠ stBoot then t.huWeak else t
    else t
  let t := if hit 0x11100 0x11300 then t.each (List.range 16) fun r t =>
      if s.on (R.HST_RING_CFG_EN r) = t.on (R.HST_RING_CFG_EN r) then t else t.showRing r
    else t
  let t := if hit 0x11308 0x1130C && s.on R.HST_EVR_CFG_EN && !t.on R.HST_EVR_CFG_EN then t.evrOff else t
  let t := if hit 0x11400 0x11500 then t.each (List.range 16) fun w t => s.capCommit t w else t
  t.releaseHold

/-- A commit of the registers `ws` from `s` to `t`: refused by the ownership map, or recorded and in effect (R44 to R48). A
change of a retained field starts a Cairn write (R550). -/
def State.commitTo (s t : State) (ws : List Nat) : Except Conflict State :=
  match commitMap s t with
  | .error c => .error c
  | .ok own =>
    let t : State := { t with sys := { t.sys with own := own } }
    let t := s.settle (t.each ws fun o t => t.carryWrite o (t.reg o)) ws
    .ok (if ws.any (fun o => (s.reg o ^^^ t.reg o) &&& accMask Acc.kept o ≠ 0) then t.cairnTouch else t)

/-! ### The shadow commit (R179, R180) -/

/-- What the shadow's words of one carrier do (R157, R180); in BOOT no carrier runs, and it starts when BOOT ends (R614). -/
def State.carCommit (s : State) (k : Nat) (regs : List (Nat × Word)) : State :=
  let c := s.car k
  let en := s.carEnabled k
  if s.carOn k then (s.setCar k { c with stopPend := !en }).merge k regs true
  else
    let s := s.applyRegs regs
    if !en then s.setCar k { c with starting := false, waitSync := false }
    else if s.st = stBoot then s
    else if c.starting || c.waitSync then s
    else if s.on (R.PWM_CAR_CFG_SYNC k) then s.setCar k { c with waitSync := true }
    else s.setCar k { c with starting := true, next := s.tbp + 2 * s.unit }

/-- The words of the shadow with the dead times of the pairs it touches raised to DTMIN (R196). -/
def State.shadowWords (s : State) : Tab Word :=
  let sh := s.pwm.shadow
  let t : State := { s with pwm := { s.pwm with
    cairn := sh.foldl (fun c e => Tab.set RegMap.resetWord c e.1 e.2) s.pwm.cairn } }
  pairs24.foldl (fun sh m =>
    if s.pwm.shadow.any fun e => decide (0x4100 + 16 * m ≤ e.1 ∧ e.1 < 0x4110 + 16 * m) then
      let off := 0x4108 + 16 * m
      let v := dtRaise (t.dtMin (t.pairLegC m)) (t.pwmWord off)
      if v = t.pwmWord off then sh else Tab.put sh off v
    else sh) sh

/-- PWM_COMMIT_GO: the shadow as one commit (R180); it is empty afterwards whatever the outcome. -/
def State.pwmCommit (s : State) : Except Conflict State × State :=
  let sh := s.shadowWords
  let t : State := { s with pwm := { s.pwm with
    cairn := sh.foldl (fun c e => Tab.set RegMap.resetWord c e.1 e.2) s.pwm.cairn } }
  let t := t.crossClamp (sh.map (·.1))
  match commitMap s t with
  | .error c => (.error c, ((s.shadowClear).refuse c false).setF R.PWM_SH_STAT_RES 2)
  | .ok own =>
    let t : State := { t with sys := { t.sys with own := own } }
    let carOf (off : Nat) : Nat := if off < 0x4100 then (off - 0x4000) / 16 else t.pwmC (R.PWM_PAIR_CFG_CAR ((off - 0x4100) / 16))
    let t := t.each carriers16 fun k t =>
      let regs := sh.filter fun e => carOf e.1 = k
      if regs.isEmpty then t else t.carCommit k regs
    let t := ((s.gdfFollow t.idleLoose).enforceHold).releaseHold
    let t := if t.pwm.cairn = s.pwm.cairn then t else t.cairnTouch
    let t := t.shadowClear.setF R.PWM_SH_STAT_RES 0
    (.ok t, t)

end Sys2Proof.Machine
end

