-- ==== Sys2Proof/Machine/Sys.lean ====
section
/-! DEFINITION. Device states (R602 to R617): the requests of `SYS_CMD`, automatic requests and clears, resets of the main
domain, nRST and the rails, and the end of BOOT. -/

namespace Sys2Proof.Machine

/-! ### Resets of the main domain (R605, R612, R613) -/

/-- Whether a register belongs to the Bivouac domain and keeps its value through a reset of the main domain (R561, R613). -/
def bivouacReg (off : Nat) : Bool :=
  decide (0x10000 ≤ off ∧ off < 0x11000) && off ≠ 0x10058 && off ≠ 0x10060 && off ≠ 0x10064 && off ≠ 0x10068

/-- The whole main domain at reset, with what R613 leaves alone: the Bivouac domain, MRAM and TBK. DESIGN CHOICE (log entry 63): with
both sides of every crossing at reset no resynchronisation is outstanding (R616). Host memory, the queue of
commands, the ordering code and the levels of the rails and of nRST are not the main domain's. -/
def State.mainLost (s : State) (p : Power) (cause : Nat) : State :=
  let t : State :=
    { pending := s.pending, part := s.part, power := p, free := s.free,
      regs := s.regs.filter fun e => bivouacReg e.1,
      sys := { railsOk := s.sys.railsOk, nrst := s.sys.nrst },
      ce := { slots := s.ce.slots, lastSlot := s.ce.lastSlot },
      mtr := { tally := s.mtr.tally },
      saf := { record := s.saf.record },
      bvq := { s.bvq with cairnAt := none, cairnWr := none, cairnMore := false, huAt := none, huLow := false,
                          failing := false },
      hst := { mem := s.hst.mem } }
  ((t.setF R.BVQ_STAT_HUOK 0).setF R.BVQ_STAT_HUWEAK 0).setF R.SYS_RSTC_CAUSE cause

/-- A reset of the main domain that starts BOOT at once. -/
def State.mainReset (s : State) (cause : Nat) : State := s.mainLost .main cause

/-- VANA serves the Bivouac domain while the main domain is powered (R524, R530). -/
def State.vanaServes (s : State) : State := (s.setF R.BVQ_STAT_SRC 0).setF R.BVQ_STAT_CUT 0

/-- The counts come back from the newest Bivouac record when the domain powers on (R547). -/
def State.countsBack (s : State) : State :=
  match Tab.look s.bvq.recs s.bvq.recSlot with
  | some r => ((s.setReg 0x10040 (r.bst &&& 0x7FFFFF)).setReg 0x10044 r.cellt).setF R.BVQ_LRT_SEC (r.rt % 2 ^ 32)
  | none => s

/-- BOOT begins once the rails are within range, nRST is high and nothing holds the module in reset (R605, R612); out of OFF
the Bivouac domain powers on with it. -/
def State.tryBoot (s : State) : State :=
  if s.live || !s.sys.railsOk || !s.sys.nrst || s.bvq.held then s
  else
    let s := if s.power = .off then s.countsBack else s
    ({ s with power := .main, tbp := 0 } : State).vanaServes

/-- NRST_ASSERT: a low of `ns` nanoseconds (R613). Between 1 µs and 10 µs the spec leaves open whether it resets. -/
def State.nrstAssert (s : State) (ns : Nat) : State :=
  let r := if ns < 1000 then (false, s)
    else if 10000 ≤ ns then (true, s)
    else (s.takeFree.1.getLsbD 0, s.takeFree.2)
  if !r.1 then r.2
  else
    let s : State := { r.2 with sys := { r.2.sys with nrst := false } }
    if s.live then s.mainLost .keepalive 1 else s

/-- NRST_RELEASE (R612, R614). -/
def State.nrstRelease (s : State) : State := ({ s with sys := { s.sys with nrst := true } } : State).tryBoot

/-- RAIL_OUT_OF_RANGE, and the return of the rails (R612). -/
def State.railChange (s : State) (inRange : Bool) : State :=
  if inRange then ({ s with sys := { s.sys with railsOk := true } } : State).tryBoot
  else
    let s : State := { s with sys := { s.sys with railsOk := false } }
    if s.live then
      let s := s.each pairs24 fun m s => s.pairLow m
      s.each [0, 1] fun n s => (s.switch false n false).switch true n false
    else s

/-! ### Requests (R603 to R610) -/

/-- Whether CONNECT is allowed (R428, R605). -/
def State.mayConnect (s : State) : Bool :=
  s.inSt [stArmed] && s.on R.GRD_STAT_CONNOK && s.on R.SAF_STAT_TESTOK &&
    ((s.role ≠ 1 && s.role ≠ 2) || !s.on R.GRD_SP_SRC ||
      ((s.word 0x1AC08).getLsbD 19 && decide (s.slotAge 1024 ≤ s.f R.GRD_SPR_TO)))

/-- Whether every command to leave STANDBY is refused (R57, R347). -/
def State.heldStandby (s : State) : Bool := s.inSt [stStandby] && (s.on R.SYS_STATE_HOLDSB || !s.on R.CE_STAT_LOADED)

/-- Whether the clear condition of a recorded cause holds (R609). -/
def State.causeCleared (s : State) (c : Nat × Nat) : Bool :=
  match c.1 with
  | 0x01 => !s.on (R.TRP_GRP_STAT_LATCH (c.2 % 16))
  | 0x02 =>
    s.st ≠ stSafe && (s.groupsOf (c.2 % 16) ++ s.groupsOf (c.2 / 16 % 16)).all fun g => !s.on (R.TRP_GRP_STAT_LATCH g)
  | 0x03 => s.on R.CLK_STAT_REFOK
  | 0x08 => !s.on R.CE_STAT_MTRIP
  | 0x09 => !s.on R.CE_STAT_HOLD
  | 0x0A => !s.on R.CE_STAT_HOLD
  | _ => true

/-- The recorded causes go (R609). -/
def State.clearCauses (s : State) : State :=
  let s := (s.setF R.TRP_BLK_SC 0).setReg 0x10C 0
  { s with sys := { s.sys with causes := [] } }

/-- The CLEAR request (R605, R609). -/
def State.clearRequest (s : State) : Status × State :=
  let ok := s.sys.causes.all fun c => s.causeCleared c
  if s.inSt [stTripped] then
    if ok then (.done, s.clearCauses.enter stStandby) else (.state, s)
  else if s.inSt [stSafe] && !s.on R.SAF_STAT_SAFE then
    if ok then (.done, s.clearCauses.enter stStandby) else (.done, s.enter stTripped)
  else (.state, s)

/-- The detail of cause COMMAND (R609): 1 host, 2 Cewlink, 3 CE. -/
def ArmFor.det : ArmFor → Nat
  | .link _ => 2
  | .lane _ => 3
  | _ => 1

/-- The ARM request: an isolation test starts, and the outcome follows at its end (R467, R605). -/
def State.armRequest (s : State) (who : ArmFor) : Status × State :=
  if s.mayArm && s.saf.test = 0 then
    (.done, { s.testStart with sys := { s.testStart.sys with arm := some { who := who } } })
  else (.state, s)

/-- The CONNECT request. -/
def State.connectRequest (s : State) : Status × State :=
  if s.mayConnect then (.done, s.enter stConnected) else (.state, s)

/-- The STOP request. -/
def State.stopRequest (s : State) : Status × State :=
  if s.inSt [stArmed, stConnected, stRide] then (.done, s.enter stStandby) else (.state, s)

/-- The TRIP request (R609). -/
def State.tripRequest (s : State) (who : ArmFor) : Status × State :=
  if s.inSt [stBoot, stStandby, stArmed, stConnected, stRide] && !s.heldStandby then
    (.done, s.blockTrip 0x20 who.det)
  else (.state, s)

/-- The RESET request: the whole main domain, the outcome register with it, starts again. -/
def State.resetRequest (s : State) : Status × State :=
  if s.quiet && !s.heldStandby then (.done, s.mainReset 3) else (.state, s)

/-- A write of `SYS_CMD.REQ` (R603). -/
def State.sysCmd (s : State) (who : ArmFor) (req : Nat) : Status × State :=
  match req with
  | 1 => s.armRequest who
  | 2 => s.connectRequest
  | 3 => s.stopRequest
  | 4 => s.clearRequest
  | 5 => s.tripRequest who
  | 6 => s.resetRequest
  | _ => (.format, s)

/-- AUTOMATIC_REQUEST (R604): a refusal is not recorded. -/
def State.autoRequest (s : State) : State :=
  if !s.on R.SYS_CTL_AUTO then s
  else if s.inSt [stStandby] then (s.armRequest .auto).2
  else if s.inSt [stArmed] then s.connectRequest.2
  else s

/-- AUTOMATIC_CLEAR (R610). -/
def State.autoClear (s : State) : State :=
  let recent := s.sys.autoClears.filter fun t => decide (s.tbp < t + 3600 * perSec)
  let calm := match s.sys.contSince with
    | some t => decide (t + s.f R.SYS_CTL_RDLY * perSec ≤ s.tbp)
    | none => false
  if s.on R.SYS_CTL_GRIDRST && s.inSt [stTripped] && !s.sys.causes.isEmpty &&
      s.sys.causes.all (fun c => gridCause c.1) && calm && decide (recent.length < s.f R.SYS_CTL_RETRY) then
    ({ s with sys := { s.sys with autoClears := s.tbp :: recent } } : State).clearRequest.2
  else s

/-- TCLOSE_EXPIRY (R607): the pairs start at their next period start. -/
def State.tcloseExpiry (s : State) : State :=
  match s.sys.closeAt with
  | some t =>
    if s.tbp < t then s
    else
      let s : State := { s with sys := { s.sys with closeAt := none } }
      s.each (s.pairsWhere fun _ => true) fun m s => s.setPair m { s.pair m with blocked := true }
  | none => s

/-! ### The end of BOOT (R605, R614, R615) -/

/-- The carriers enabled in the committed configuration start under R157. -/
def State.startCarriers (s : State) : State :=
  s.each carriers16 fun k s =>
    if s.carEnabled k && !s.carOn k && !(s.car k).starting && !(s.car k).waitSync then
      if s.on (R.PWM_CAR_CFG_SYNC k) then s.setCar k { s.car k with waitSync := true }
      else s.setCar k { s.car k with starting := true, next := s.tbp + 2 * s.unit }
    else s

/-- Outside BOOT the staleness of the grid measurement runs from here, metering follows, and the carriers start. -/
def State.bootEnd (s : State) (new : Nat) : State :=
  let s := s.enter new
  let s : State := { s with grd := { s.grd with freshAt := s.pt, evalAt := s.pt, staleAt := s.pt } }
  s.mtrFollow.startCarriers

/-- BOOT_COMPLETE. -/
def State.bootComplete (s : State) : State :=
  if !s.inSt [stBoot] || !s.sys.restored || s.bitAt R.SYS_STATE_WAIT 0 then s
  else if !s.causeFree then s.bootEnd stSafe
  else if s.f R.SYS_STATE_WAIT ≠ 0 then s
  else
    let s := s.setChan false { s.chan false with safe := false }
    let s := s.setChan true { s.chan true with safe := false }
    s.showSaf.bootEnd (if s.sys.bootTrip then stTripped else stStandby)

/-! ### The commands -/

/-- A request of the host through BAR0, with its outcome. -/
def State.hostRequest (s : State) (req : Nat) : State := (s.sysCmd .host req).2.wres 0x104 (s.sysCmd .host req).1

/-- ARM through BAR0: the outcome is recorded when the isolation test ends, or at once when the request is refused. -/
def execArm (s : State) : Out :=
  .next (s.onMain (if (s.armRequest .host).1 = .done then (s.armRequest .host).2 else (s.armRequest .host).2.wres 0x104 .state))
def execConnect (s : State) : Out := .next (s.onMain (s.hostRequest 2))
def execStop (s : State) : Out := .next (s.onMain (s.hostRequest 3))
def execClear (s : State) : Out := .next (s.onMain (s.hostRequest 4))
def execTrip (s : State) : Out := .next (s.onMain (s.hostRequest 5))

/-- RESET: where it is allowed the outcome register is reset with the rest. -/
def execReset (s : State) : Out :=
  .next (s.onMain (if s.resetRequest.1 = .done then s.resetRequest.2 else s.resetRequest.2.wres 0x104 .state))
def execAutomaticRequest (s : State) : Out := .next (s.onMain s.autoRequest)
def execAutomaticClear (s : State) : Out := .next (s.onMain s.autoClear)
def execTcloseExpiry (s : State) : Out := .next (s.onMain s.tcloseExpiry)
def execNrstAssert (ns : Nat) (s : State) : Out := .next (s.nrstAssert ns)
def execNrstRelease (s : State) : Out := .next s.nrstRelease
def execRailOutOfRange (inRange : Bool) (s : State) : Out := .next (s.railChange inRange)
def execBootComplete (s : State) : Out := .next (s.onMain s.bootComplete)

end Sys2Proof.Machine
end

