-- ==== Sys2Proof/Machine/Bvq.lean ====
section
/-! DEFINITION. The Bivouac domain (R524 to R547), the Cairn image (R549 to R554), the hold-up check and the supply failure
(R556 to R560). Voltages are in mV; the hold-up capacitor's in 10 mV, as `BVQ_HUSTAT.V` shows it. -/

namespace Sys2Proof.Machine

/-! ### Supplies of the domain (R524 to R530) -/

/-- The TBK second (R544). -/
def State.tbkSec (s : State) : Nat := s.bvq.tbk / 32768

/-- A threshold of R525 to R528 as it actually is now, within 2 % of `mv` (R532): 0 the store's power-on, 1 the cell's, 2 cut-off,
3 reconnection, 4 the move to the cell, 5 the cell's own, 6 the return to the store, 7 power-off. -/
def State.bvTh (s : State) (k mv : Nat) : Nat := s.within (300 + k) (mv * 98 / 100) (mv * 102 / 100)

/-- Whether the cell can take a burst: `CELLEN` = 1 and HVCELL at 2.0 V or above (R538). -/
def State.cellServes (s : State) (cell : Nat) : Bool := s.on R.BVQ_ST_CELLEN && decide (2000 ≤ cell)

/-- Whether the domain moves from the store to the cell at these voltages (R527). -/
def State.toCell (s : State) (hvst cell : Nat) : Bool :=
  s.on R.BVQ_ST_CELLEN && decide (hvst < s.bvTh 4 1900) && decide (s.bvTh 5 2000 ≤ cell)

/-- Shows the store and cell voltages as sampled. -/
def State.showStore (s : State) (hvst cell : Nat) : State :=
  (s.setF R.BVQ_VST_HVST (min 1023 (hvst / 10))).setF R.BVQ_VST_CELL (min 1023 (cell / 10))

/-- The time spent on the cell so far is counted in whole minutes (R527). -/
def State.cellCount (s : State) : State :=
  match s.bvq.cellFrom with
  | none => s
  | some t =>
    let n := s.bvq.cellPart + (s.tbkSec - t)
    ({ s with bvq := { s.bvq with cellFrom := some s.tbkSec, cellPart := n % 60 } } : State).count R.BVQ_CELLT_MIN (n / 60)

/-- Whether VANA serves the domain: while the main domain is powered, in reset or not (R524, R530). -/
def State.vana (s : State) : Bool := s.live || s.f R.BVQ_STAT_SRC = 0

/-- CELL_SWITCH: TBK and the supervisor move to the cell. -/
def State.cellSwitch (s : State) : State :=
  if s.power = .keepalive && s.on R.BVQ_ST_CELLEN && s.f R.BVQ_STAT_SRC = 1 then
    { s.setF R.BVQ_STAT_SRC 2 with bvq := { s.bvq with cellFrom := some s.tbkSec } }
  else s

/-- STORE_RETURN: they return to the store. -/
def State.storeReturn (s : State) : State :=
  if s.power = .keepalive && s.f R.BVQ_STAT_SRC = 2 then
    let s := s.cellCount.setF R.BVQ_STAT_SRC 1
    { s with bvq := { s.bvq with cellFrom := none } }
  else s

/-- BURST_CUT_OFF: the burst loads are cut off and a record commit is requested; not while VANA serves (R526, R530, R536). -/
def State.cutOff (s : State) : State :=
  if s.power = .keepalive && !s.vana && !s.on R.BVQ_STAT_CUT then
    let s := (s.setF R.BVQ_STAT_CUT 1).count R.BVQ_BST_CUT 1
    { s with bvq := { s.bvq with due := s.bvq.due ||| 2 } }
  else s

/-- BURST_RECONNECT. -/
def State.reconnect (s : State) : State := s.setF R.BVQ_STAT_CUT 0

/-- BIVOUAC_POWER_OFF: TBK and every Bivouac register are lost; the MRAM stays (R528, R605). With no domain powered the next start
is a power-on (R617). -/
def State.bivouacOff (s : State) : State :=
  if s.power = .keepalive then
    let s := s.setF R.SYS_RSTC_CAUSE 0
    { s with
      power := .off
      regs := s.regs.filter fun e => decide (e.1 < 0x10000 ∨ 0x11000 ≤ e.1)
      bvq := { recs := s.bvq.recs, recSlot := s.bvq.recSlot, cairn := s.bvq.cairn, held := s.bvq.held } }
  else s

/-- BIVOUAC_POWER_ON (R525, R547): the counts come back from the newest record. -/
def State.bivouacOn (s : State) (hvst cell : Nat) : State :=
  let store := s.bvTh 0 2200 ≤ hvst
  if s.power = .off && (store || decide (s.bvTh 1 2000 ≤ cell)) then
    let s : State := { s with power := .keepalive }
    let s := (s.showStore hvst cell).setF R.BVQ_STAT_SRC (if store then 1 else 2)
    let s : State := if store then s else { s with bvq := { s.bvq with cellFrom := some s.tbkSec } }
    s.countsBack
  else s

/-! ### Bursts (R536 to R539) -/

/-- The declared energy of a burst in µJ: wake, record commit, irradiance measurement. -/
def State.burstEnergy (s : State) : Nat → Nat
  | 0 => 15 + s.f R.BVQ_WAKE2_E
  | 1 => 5
  | _ => 3

/-- Whether Es − `RES` covers a burst (R537), in half-nanojoules per mF·mV². -/
def State.storeCovers (s : State) (kind hvst : Nat) : Bool :=
  let es : Int := (s.f R.BVQ_ST_C : Int) * ((hvst : Int) * hvst - 4000000)
  !s.on R.BVQ_STAT_CUT && decide (2000 * ((s.f R.BVQ_RES_RES + s.burstEnergy kind : Nat) : Int) ≤ es)

/-- Writes the Bivouac record to the slot not written last (R547). -/
def State.recordCommit (s : State) : State :=
  let i := 1 - s.bvq.recSlot
  let r : BvqRec := { rt := s.realTime, rtv := s.on R.BVQ_STAT_RTV, bst := s.reg 0x10040, cellt := s.reg 0x10044,
                      irr := s.reg 0x10018 }
  { s with bvq := { s.bvq with recs := Tab.put s.bvq.recs i r, recSlot := i } }

/-- A burst starts. -/
def State.burstStart (s : State) (kind : Nat) (stored : Bool) : State :=
  let s : State := { s with bvq := { s.bvq with
    burst := some kind, stored := stored, due := s.bvq.due &&& (7 - 2 ^ kind) } }
  match kind with
  | 0 => { s with bvq := { s.bvq with wake := true } }
  | 1 => s.recordCommit
  | _ => { s with bvq := { s.bvq with irr := some s.bvq.tbk } }

/-- One request is tried: while VANA serves it is admitted as it stands, else from the store, else from the cell, else it is
deferred (R530, R537, R538). An irradiance measurement waits for a Voc sample to end (R541). -/
def State.tryBurst (s : State) (hvst cell kind : Nat) : State :=
  if s.bvq.burst.isSome || !s.bvq.due.testBit kind || (kind = 2 && s.bvq.voc.isSome) then s
  else if s.vana then s.burstStart kind false
  else if s.storeCovers kind hvst then s.burstStart kind true
  else if s.cellServes cell then (s.count R.BVQ_BST_CELL 1).burstStart kind false
  else s.count R.BVQ_BST_REF 1

/-- The requests due at one sample, in the order of R536. -/
def State.tryBursts (s : State) (hvst cell : Nat) : State :=
  if s.power = .off then s else s.each [0, 1, 2] fun k s => s.tryBurst hvst cell k

/-- BURST_END (R539): the store ending a burst below 2.0 V sets `UNDER`, and the cut-off applies. -/
def State.burstEnd (s : State) (hvst : Nat) : State :=
  if s.bvq.burst.isNone || s.bvq.irr.isSome then s
  else
    let under := s.bvq.stored && decide (hvst < 2000)
    let s : State := { s with bvq := { s.bvq with burst := none, stored := false } }
    if under then (s.setF R.BVQ_BST_UNDER 1).cutOff else s

/-- SUPERVISOR_SAMPLE (R526 to R529): the thresholds, then the bursts that are due. -/
def State.supervisor (s : State) (hvst cell : Nat) : State :=
  if s.power = .off then s
  else
    let s := (s.showStore hvst cell).cellCount
    let s :=
      if s.vana then s
      else
        let s := if s.f R.BVQ_STAT_SRC = 1 && s.toCell hvst cell then s.cellSwitch else s
        let s := if s.f R.BVQ_STAT_SRC = 2 && decide (s.bvTh 6 2200 ≤ hvst) then s.storeReturn else s
        let s := if hvst < s.bvTh 2 2000 then s.cutOff else if s.bvTh 3 2600 ≤ hvst then s.reconnect else s
        if (if s.f R.BVQ_STAT_SRC = 2 then cell else hvst) < s.bvTh 7 1800 then s.bivouacOff else s
    s.tryBursts hvst cell

/-! ### Harvester and irradiance (R534, R535, R541 to R543) -/

/-- VOC_SAMPLE: HVIN is disconnected. -/
def State.vocStart (s : State) : State :=
  if s.power ≠ .off && s.bvq.voc.isNone && s.bvq.irr.isNone &&
      decide (s.bvq.vocAt + s.f R.BVQ_HARV_VOCP + 1 ≤ s.tbkSec) then
    { s with bvq := { s.bvq with voc := some s.bvq.tbk, vocAt := s.tbkSec } }
  else s

/-- VOC_SAMPLE_END: 5 ms later, which is 163 counts of TBK. -/
def State.vocEnd (s : State) (mv : Nat) : State :=
  match s.bvq.voc with
  | some t =>
    if t + 163 ≤ s.bvq.tbk then
      ({ s with bvq := { s.bvq with voc := none, idle := decide (mv < 300) } } : State).setF R.BVQ_VST_VOC
        (min 1023 (mv / 10))
    else s
  | none => s

/-- IRRADIANCE_MEASUREMENT: it falls due every `P` seconds, and starts when its burst is admitted. -/
def State.irradianceDue (s : State) (hvst cell : Nat) : State :=
  if s.power = .off then s
  else
    let s : State :=
      if s.bvq.irrAt + s.f R.BVQ_IRRCFG_P ≤ s.tbkSec then
        { s with bvq := { s.bvq with due := s.bvq.due ||| 4, irrAt := s.tbkSec } }
      else s
    s.tryBurst hvst cell 2

/-- What a measurement of G means for the wake (R542, R543). -/
def State.wakeJudge (s : State) (g : Nat) : State :=
  let n := s.f R.BVQ_WAKE_N
  let high := decide (s.f R.BVQ_WAKE_TH ≤ g)
  let hits := if high then min 15 (s.bvq.hits + 1) else 0
  let lows := if high then 0 else min 15 (s.bvq.lows + 1)
  let again := s.bvq.again || decide (n ≤ lows)
  let s : State := { s with bvq := { s.bvq with hits := hits, lows := lows, again := again } }
  if s.on R.BVQ_WAKE_EN && s.power = .keepalive && !s.vana && decide (n ≤ hits) && again && !s.bvq.wake then
    { s with bvq := { s.bvq with due := s.bvq.due ||| 1 } }
  else s

/-- IRRADIANCE_MEASUREMENT_END: 2 ms later, which is 65 counts of TBK; `isc` is in 10 µA. -/
def State.irradianceEnd (s : State) (isc : Nat) : State :=
  match s.bvq.irr with
  | some t =>
    if t + 65 ≤ s.bvq.tbk then
      let g := min 65535 (isc * s.f R.BVQ_IRRCFG_K / 256)
      let s : State := { s with bvq := { s.bvq with irr := none } }
      ((s.setF R.BVQ_IRR_ISC isc).setF R.BVQ_IRR_G g).wakeJudge g
    else s
  | none => s

/-- BVWAKE is released: no further wake until G has been low again. -/
def State.wakeRelease (s : State) : State :=
  if s.bvq.wake then { s with bvq := { s.bvq with wake := false, again := false, lows := 0 } } else s

/-- BIVOUAC_RECORD_COMMIT: due every `LOGH` hours without VANA, and at a cut-off. -/
def State.recordDue (s : State) (hvst cell : Nat) : State :=
  if s.power ≠ .keepalive || s.vana then s
  else
    let s : State :=
      if s.bvq.recAt + s.f R.BVQ_ST_LOGH * 3600 ≤ s.tbkSec then
        { s with bvq := { s.bvq with due := s.bvq.due ||| 2, recAt := s.tbkSec } }
      else s
    s.tryBurst hvst cell 1

/-! ### Real time (R544 to R546) -/

/-- A value to be loaded at the next whole TBK second. -/
def State.timeLoad (s : State) (v : Nat) : State := { s with bvq := { s.bvq with load := some (v % 2 ^ 48, s.tbkSec + 1) } }

/-- A write of `BVQ_RTSH`. -/
def State.timeSet (s : State) (hi : Word) : State := s.timeLoad (s.bvq.rtsl.toNat + hi.toNat % 2 ^ 16 * 2 ^ 32)

/-- REAL_TIME_LOAD. -/
def State.realTimeLoad (s : State) : State :=
  match s.bvq.load with
  | some (v, at_) =>
    if at_ ≤ s.tbkSec then
      ({ s with bvq := { s.bvq with rtb := (v + 2 ^ 48 - at_ % 2 ^ 48) % 2 ^ 48, load := none } } : State).setF R.BVQ_STAT_RTV 1
    else s
  | none => s

/-- REAL_TIME_SYNC (R546): the plant-time seconds at the next whole TBK second. -/
def State.realTimeSync (s : State) : State :=
  if s.live && s.on R.BVQ_ST_SYNC && s.on R.PLT_TSTAT_LOCKED && decide (s.bvq.syncAt + 64 ≤ s.tbkSec) then
    let left := ceilDiv ((32768 - s.bvq.tbk % 32768) * 390625 - s.bvq.sub) 32
    ({ s with bvq := { s.bvq with syncAt := s.tbkSec } } : State).timeLoad (ptSec (s.ptAt (s.tbp + left)))
  else s

/-! ### Cairn (R549 to R554) -/

/-- The value every register has in a Cairn body where the image lists none: its retained fields at factory default. -/
def cairnDflt (off : Nat) : Word := RegMap.resetWord off &&& accMask Acc.kept off

/-- Whether an offset lies in the carrier and pair registers, whose committed values the image holds. -/
def isPwmReg (off : Nat) : Bool := decide (0x4000 ≤ off ∧ off < 0x4280)

/-- The retained words of the configuration in force. -/
def State.cairnRegs (s : State) : Tab Word :=
  let put (t : Tab Word) (e : Nat × Word) : Tab Word := Tab.set cairnDflt t e.1 (e.2 &&& accMask Acc.kept e.1)
  s.pwm.cairn.foldl put ((s.regs.filter fun e => !isPwmReg e.1).foldl put [])

/-- The valid copy with the higher sequence number (R553). -/
def State.cairnNewest (s : State) : Option (Nat × Cairn) :=
  let g (i : Nat) : Option (Nat × Cairn) :=
    match Tab.look s.bvq.cairn i with
    | some c => if c.bad then none else some (i, c)
    | none => none
  match g 0, g 1 with
  | some a, some b => if a.2.seq < b.2.seq then some b else some a
  | some a, none => some a
  | none, b => b

/-- The image of the configuration in force. -/
def State.cairnImage (s : State) : Cairn :=
  { seq := (match s.cairnNewest with
      | some c => c.2.seq
      | none => 0) + 1,
    regs := s.cairnRegs, keys := s.ce.keys, own := s.sys.own, conf := s.saf.confCv }

/-- The write of an image begins: the copy that does not hold the newest valid image is not valid until it is written. -/
def State.cairnBegin (s : State) (c : Cairn) : State :=
  let i := match s.cairnNewest with
    | some (j, _) => 1 - j
    | none => 0
  { s with bvq := { s.bvq with
    cairn := Tab.put s.bvq.cairn i { c with bad := true }, cairnWr := some (i, c, s.tbp), cairnAt := none,
    cairnMore := false } }

/-- CAIRN_WRITE_START (R550); while a Belay change is being applied its own write includes every other change (R551). -/
def State.cairnStart (s : State) : State :=
  match s.bvq.cairnAt, s.bvq.cairnWr with
  | some t, none => if s.live && !s.bvq.failing && s.saf.belay.party = 0 && decide (t ≤ s.tbp) then s.cairnBegin s.cairnImage else s
  | _, _ => s

/-- The copy is written; `BVQ_CSEQL` shows its number. -/
def State.cairnEnd (s : State) : State :=
  match s.bvq.cairnWr with
  | none => s
  | some (i, c, _) =>
    let s : State := { s with bvq := { s.bvq with cairn := Tab.put s.bvq.cairn i c, cairnWr := none } }
    (s.setF R.BVQ_CSEQL_SEQ (c.seq % 2 ^ 32)).setF R.BVQ_CAIRN_PEND (bit (s.bvq.cairnMore || s.bvq.cairnAt.isSome))

/-- A change committed during the write starts a further one (R550). -/
def State.cairnAgain (s : State) : State :=
  if s.bvq.cairnMore && s.bvq.cairnWr.isNone then s.cairnBegin s.cairnImage else s

/-! ### Restore (R56 to R58, R105, R461, R553) -/

/-- The fingerprint registers of the key slots (R349). -/
def State.showKeys (s : State) : State :=
  s.each (List.range 4) fun n s =>
    match Tab.look s.ce.keys n with
    | some k =>
      let h := natBe 32 (sha256 (k.flatMap wordBytes))
      (s.setF (R.CE_KEY_FP n) (h.getD 0 0 + h.getD 1 0 * 2 ^ 8 + h.getD 2 0 * 2 ^ 16)).setF (R.CE_KEY_VALID n) 1
    | none => (s.setF (R.CE_KEY_FP n) 0).setF (R.CE_KEY_VALID n) 0

/-- The registers that hold an RWB field, in ascending offset (R489). -/
def rwbOffs : List Nat :=
  let run (base n : Nat) : List Nat := (List.range n).map fun i => base + 4 * i
  [0x1000] ++ run 0x7000 176 ++ (List.range 16).flatMap (fun g => [0x7300 + 16 * g, 0x7304 + 16 * g]) ++ [0x7400] ++
  run 0x8000 48 ++ run 0xB000 2 ++ run 0xB020 4 ++ run 0xB040 3 ++ run 0xB800 512 ++ run 0xE000 3 ++ run 0xE010 10 ++ [0xE040]

/-- The check value of a protection set: its words by offset and its key slots (R489). -/
def checkValue (word : Nat → Word) (key : Nat → List Word) : Word :=
  BitVec.ofNat 32 (crc32 (rwbOffs.flatMap (fun o => wordBytes (word o &&& accMask Acc.belay o)) ++
    (List.range 4).flatMap fun n => (key n).flatMap wordBytes))

/-- The key of a slot as the check value covers it: an empty slot counts as zeros. -/
def keyOrZero (k : Option (List Word)) : List Word := k.getD (List.replicate 16 0)

/-- The check value in force. -/
def State.checkNow (s : State) : Word := checkValue s.reg fun n => keyOrZero (Tab.look s.ce.keys n)

/-- The registers of the feature instances of an owner (R43): what a refused restore claim puts at factory default. -/
def State.ownerRegs (s : State) (o : Nat) : List Nat :=
  let i := o % 2 ^ 8
  let run (base n : Nat) : List Nat := (List.range n).map fun k => base + 4 * k
  let own := match o / 2 ^ 8 % 2 ^ 5 with
    | 1 => [0x1010 + 4 * i]
    | 2 => run (0x2100 + 16 * i) 4
    | 4 => if i < 32 then run (0x4000 + 16 * i) 4 else run (0x4100 + 16 * (i - 32)) 4
    | 7 => if i < 16 then run (0x7300 + 16 * i) 2 else run (0x7000 + 8 * (i - 16)) 2
    | 8 => if i < 24 then run (0x8000 + 8 * i) 2 else [0x8100 + 4 * (i - 24)]
    | 9 => if i = 0x10 then 0x9080 :: run 0x9100 32 else if i = 0x11 then 0x9084 :: run 0x9180 16
           else if i = 0x12 then 0x9088 :: run 0x9400 512 else []
    | 12 => [0xC000]
    | 14 => if 8 ≤ i && i < 16 then [0xE010 + 4 * ((i - 8) / 2)] else []
    | 15 => [0xF040 + 4 * i, 0xF060 + 4 * i]
    | 17 => run (0x11400 + 16 * i) 3
    | _ => []
  own ++ ((List.range 16).filter fun n => s.f (R.ATC_CFG_FN n) ≠ 0 && s.atcOwner n = o).flatMap fun n => run (0x5000 + 8 * n) 2

/-- A retained register at its restored or default value; its other fields stay. -/
def State.restoreReg (s : State) (off : Nat) (v : Word) : State :=
  let m := accMask Acc.kept off
  let w := (s.reg off &&& ~~~m) ||| (v &&& m)
  let s := s.setReg off w
  if isPwmReg off then { s with pwm := { s.pwm with cairn := Tab.set RegMap.resetWord s.pwm.cairn off w } } else s

/-- One owner's claims are replayed: recorded when each is free or held by it, else its features stay at factory default and
the refusal is recorded (R56 to R58). `true` in front when a field of the protection set was left at its default. -/
def State.replay (s : State) (o : Nat) : Bool × State :=
  let mine := s.claims.filter (·.owner = o)
  match mine.find? fun c => s.owner c.res ≠ 0 && s.owner c.res ≠ o with
  | none => (false, mine.foldl (fun s c => s.setOwner c.res c.owner) s)
  | some c =>
    let offs := s.ownerRegs o
    let h := s.owner c.res
    let s := s.each offs fun off s => s.restoreReg off (RegMap.resetWord off)
    let s := (s.refuse ⟨c.res, h, o⟩ true).post 0x0002 0 c.res h o
    let s : State := if o / 2 ^ 13 = 1 || o / 2 ^ 13 = 2 then
        { s.setF R.SYS_STATE_HOLDSB 1 with sys := { s.sys with refusals := s.sys.refusals ++ [(c.res, o)] } }
      else s
    (offs.any (fun off => accMask Acc.belay off ≠ 0), s)

/-- Distinct owners of a list of claims, in its order. -/
def ownersOf : List Claim → List Nat
  | [] => []
  | c :: l => if (ownersOf l).contains c.owner then ownersOf l else c.owner :: ownersOf l

/-- Every owner in ascending owner ID, which is class by class. DESIGN CHOICE (log entry 63): the claims replayed are those of the
restored registers, which the retained map repeats. -/
def State.replayAll (s : State) : Bool × State :=
  (ownersOf (sortClaims s.claims)).foldl (fun (b, s) o => (b || (s.replay o).1, (s.replay o).2)) (false, s)

/-- The retained safety record is in force again (R461). -/
def State.recordRestore (s : State) : State :=
  let r := s.saf.record.getD {}
  let age := match s.saf.record, s.on R.BVQ_STAT_RTV, r.rt with
    | some _, true, some t => min 65535 (r.age + (s.realTime - t) / 60)
    | _, _, _ => 65535
  let s := s.setChan false { s.chan false with flt := r.fltA, dem := r.demA, disc := r.discA, tp := r.tpA }
  let s := s.setChan true { s.chan true with flt := r.fltB, dem := r.demB, disc := r.discB, tp := r.tpB }
  let s := ((s.setF R.SAF_TSTAT_AGE age).setF R.SAF_STAT_TESTOK (bit (decide (age < 1440)))).setF R.SAF_STAT_CAUSE r.cause
  ({ s with saf := { s.saf with ageAt := s.tbp } } : State).showSaf

/-- Plant time begins at the real time, or at 0 (R105). -/
def State.restoreTime (s : State) : State :=
  let p := if s.on R.BVQ_STAT_RTV then s.realTime * second else 0
  ({ s with tim := { s.tim with ptb := p, tbpb := s.tbp, rhoI := 0, rhoP := 0 } } : State).setF R.TIM_RATE_VAL 0

/-- The offsets of the mirrored registers of the `GRD_` page (R351). -/
def grdMirrored : List Nat :=
  (RegMap.grd.flatMap fun r => (List.range r.count).map fun k => r.base + r.stride * k).filter fun o =>
    accMask Acc.cfg o ||| accMask Acc.belay o ≠ 0

/-- The grid area holds the restored value of every mirrored register (R352). -/
def State.mirrorAll (s : State) : State :=
  s.each grdMirrored fun o s => s.setWord (o + 0x12000) (s.reg o &&& (accMask Acc.cfg o ||| accMask Acc.belay o))

/-- CAIRN_RESTORE: `badA` and `badB` say that a copy is found corrupted (R549, R553). -/
def State.cairnRestore (s : State) (badA badB : Bool) : State :=
  if !s.inSt [stBoot] || s.sys.restored then s
  else
    let mark (i : Nat) (b : Bool) (s : State) : State :=
      match b, Tab.look s.bvq.cairn i with
      | true, some c => { s with bvq := { s.bvq with cairn := Tab.put s.bvq.cairn i { c with bad := true } } }
      | _, _ => s
    let s := mark 1 badB (mark 0 badA s)
    let invalid (i : Nat) : Bool := match Tab.look s.bvq.cairn i with
      | some c => c.bad
      | none => true
    let s := (s.setF R.BVQ_CAIRN_BADA (bit (invalid 0))).setF R.BVQ_CAIRN_BADB (bit (invalid 1))
    let src := s.cairnNewest
    let seq := match src with
      | some c => c.2.seq
      | none => 0
    let newerBad := s.bvq.cairn.any fun e => e.2.bad && decide (seq < e.2.seq)
    let s := match src with
      | none => (s.setF R.BVQ_CAIRN_SRC 2).post 0x1004 0
      | some (i, _) =>
        let s := s.setF R.BVQ_CAIRN_SRC i
        if newerBad then s.post 0x1003 0 else s
    let s := s.setF R.BVQ_CSEQL_SEQ (seq % 2 ^ 32)
    let body := match src with
      | some c => c.2
      | none => { seq := 0, regs := [], keys := [], own := [], conf := none }
    let offs := s.regs.map (·.1) ++ (body.regs.map (·.1)).filter fun o => (Tab.look s.regs o).isNone
    let t := s.each offs fun off t => t.restoreReg off (Tab.get cairnDflt body.regs off)
    let t : State := { t with ce := { t.ce with keys := body.keys }, saf := { t.saf with confCv := body.conf } }
    let r := t.replayAll
    let t := s.settle r.2 offs
    let cv := t.checkNow
    let t := (t.showKeys.setF R.SAF_CV_CV cv.toNat).setF R.SAF_STAT_CONF
      (bit (src.isSome && !r.1 && decide (body.conf = some cv)))
    let t : State := { t.restoreTime with sys := { t.sys with restored := true } }
    -- R60: CKREF is selected only now
    let t := (if t.on R.CLK_STAT_REFOK then t.setF R.CLK_STAT_ONOSC 0 else t).showOsc.lockRestart [0, 1, 2]
    t.mirrorAll.recordRestore.tallyRestore.reselect

/-- CAIRN_FACTORY_RESET (R554). DESIGN CHOICE (log entry 63): it is no command to leave STANDBY, so the hold of R57 and R347 does not
refuse it. -/
def State.factoryReset (s : State) : Status × State :=
  if s.inSt [stStandby] then
    (.done, ({ s with bvq := { s.bvq with cairn := [] } } : State).mainReset 4)
  else (.state, s)

/-! ### Hold-up and supply failure (R556 to R560) -/

/-- The check of R557 at a capacitor voltage; `BVQ_HUSTAT` shows what it used. -/
def State.huCheck (s : State) (v : Nat) : Bool × State :=
  let s := (s.setF R.BVQ_HUSTAT_V (min 65535 v)).setF R.BVQ_HUSTAT_E s.huEnergy
  (s.huEnough && decide (105 * s.f R.BVQ_HUV_VFAIL ≤ 100 * v), { s with bvq := { s.bvq with huAt := some s.tbp } })

/-- HOLDUP_CHECK in BOOT, every 10 ms until it passes. -/
def State.holdupCheck (s : State) (v : Nat) : State :=
  let due := match s.bvq.huAt with
    | some t => decide (t + 10 * perMs ≤ s.tbp)
    | none => true
  if s.inSt [stBoot] && s.sys.restored && s.bitAt R.SYS_STATE_WAIT 3 && due then
    let r := s.huCheck v
    if r.1 then (r.2.setF R.BVQ_STAT_HUOK 1).setBit R.SYS_STATE_WAIT 3 false
    else if r.2.bvq.huLow then r.2
    else ({ r.2 with bvq := { r.2.bvq with huLow := true } } : State).post 0x1001 0
  else s

/-- HOLDUP_RECHECK once a second after BOOT. -/
def State.holdupRecheck (s : State) (v : Nat) : State :=
  let due := match s.bvq.huAt with
    | some t => decide (t + perSec ≤ s.tbp)
    | none => true
  if s.live && s.st ≠ stBoot && due then
    let r := s.huCheck v
    if r.1 then r.2 else r.2.huWeak
  else s

/-- SUPPLY_FAILURE (R552, R559): BVWAKE low, every pair off, a Cairn write abandoned, the final commit begun; links, PCIe,
capture memory, CE and converter are in reset from here. -/
def State.supplyFailure (s : State) : State :=
  if !s.live || s.bvq.failing then s
  else
    let s := (s.wakeRelease.allOff).armEnd .state
    let s := s.finalCommit
    let held (off : Nat) : Bool :=
      [0x9, 0xA, 0xC, 0x11].contains (off / 0x1000)
    { s with
      regs := s.regs.filter fun e => !held e.1
      mem := []
      upsets := []
      adc := {}
      ce := { slots := s.ce.slots, lastSlot := s.ce.lastSlot, keys := s.ce.keys }
      lnk := {}
      hst := { mem := s.hst.mem }
      bvq := { s.bvq with failing := true, cairnAt := none, cairnWr := none, cairnMore := false } }

/-- FINAL_COMMIT_COMPLETE (R518, R559): the record is written, and the module is held in reset. -/
def State.finalComplete (s : State) : State :=
  if !s.bvq.failing then s
  else
    let s := s.tallyWritten.mainLost .keepalive 2
    let cell := s.toCell (10 * s.f R.BVQ_VST_HVST) (10 * s.f R.BVQ_VST_CELL)
    let s : State := { s.setF R.BVQ_STAT_SRC (if cell then 2 else 1) with bvq := { s.bvq with held := true } }
    if cell then { s with bvq := { s.bvq with cellFrom := some s.tbkSec } } else s

/-- SUPPLY_RECOVERY (R560): the capacitor has stood at 1.05 × VFAIL for 10 ms. -/
def State.supplyRecovery (s : State) : State :=
  if s.bvq.held then ({ s with bvq := { s.bvq with held := false } } : State).tryBoot else s

/-! ### The commands -/

def execBivouacPowerOn (hvst cell : Nat) (s : State) : Out := .next (s.bivouacOn hvst cell)
def execBivouacPowerOff (s : State) : Out := .next s.bivouacOff
def execBurstCutOff (s : State) : Out := .next s.cutOff
def execBurstReconnect (s : State) : Out := .next s.reconnect
def execCellSwitch (s : State) : Out := .next s.cellSwitch
def execStoreReturn (s : State) : Out := .next s.storeReturn
def execSupervisorSample (hvst cell : Nat) (s : State) : Out := .next (s.supervisor hvst cell)
def execBurstEnd (hvst : Nat) (s : State) : Out := .next (s.burstEnd hvst)
def execVocSample (s : State) : Out := .next s.vocStart
def execVocSampleEnd (mv : Nat) (s : State) : Out := .next (s.vocEnd mv)
def execIrradianceMeasurement (hvst cell : Nat) (s : State) : Out := .next (s.irradianceDue hvst cell)
def execIrradianceMeasurementEnd (isc : Fin 4096) (s : State) : Out := .next (s.irradianceEnd isc)
def execWakeRelease (s : State) : Out := .next (s.onMain (s.wakeRelease.wres 0x10020 .done))
def execBivouacRecordCommit (hvst cell : Nat) (s : State) : Out := .next (s.recordDue hvst cell)
def execRealTimeSet (hi : Word) (s : State) : Out := .next (s.onMain ((s.timeSet hi).wres 0x10034 .done))
def execRealTimeLoad (s : State) : Out := .next s.realTimeLoad
def execRealTimeSync (s : State) : Out := .next (s.onMain s.realTimeSync)
def execCairnWriteStart (s : State) : Out := .next (s.onMain s.cairnStart)
def execCairnRestore (badA badB : Bool) (s : State) : Out := .next (s.onStatus (s.cairnRestore badA badB))

/-- A write of `BVQ_CAIRN.FACT`; where it resets the module the outcome register is reset with the rest. -/
def execCairnFactoryReset (s : State) : Out :=
  .next (s.onMain (if s.factoryReset.1 = .done then s.factoryReset.2 else s.factoryReset.2.wres 0x10060 .state))
def execHoldupCheck (v : Nat) (s : State) : Out := .next (s.onMain (s.holdupCheck v))
def execHoldupRecheck (v : Nat) (s : State) : Out := .next (s.onMain (s.holdupRecheck v))
def execSupplyFailure (s : State) : Out := .next (s.onMain s.supplyFailure)
def execFinalCommitComplete (s : State) : Out := .next (s.onMain s.finalComplete)
def execSupplyRecovery (s : State) : Out := .next s.supplyRecovery

/-- Clears `BVQ_STAT.HUWEAK`, `BVQ_BST.UNDER` (R561). -/
def State.huWeakClear (s : State) : State := s.setF R.BVQ_STAT_HUWEAK 0
def State.underClear (s : State) : State := s.setF R.BVQ_BST_UNDER 0
def execHuweakClear (s : State) : Out := .next (s.onMain (s.huWeakClear.wres 0x10000 .done))
def execBvqUnderClear (s : State) : Out := .next (s.onMain (s.underClear.wres 0x10040 .done))

end Sys2Proof.Machine
end

