-- ==== Sys2Proof/Machine/Belay.lean ====
section
/-! DEFINITION. The Belay procedure (R489 to R498): the stage, key slots, proposal, confirmation, the Cairn write before the
change applies, and the ways a change is discarded. -/

namespace Sys2Proof.Machine

/-- A command of a write: its status, the state it leaves, whether it has reset the main domain, and the conflict when
there is one. -/
structure CmdRes where
  status : Status
  st : State
  gone : Bool := false
  conflict : Option Conflict := none

def CmdRes.ofPair (r : Status × State) : CmdRes := { status := r.1, st := r.2 }
def CmdRes.ok (s : State) : CmdRes := { status := .done, st := s }
def CmdRes.pair (r : CmdRes) : Status × State := (r.status, r.st)

/-- The Belay party that a writer is: 1 host, 2 manager, none for any other source (R491). -/
def writerParty : Writer → Option Nat
  | .host => some 1
  | .manager => some 2
  | _ => none

/-- The staged or in-force word of a register of the protection set (R624). -/
def State.stagedWord (s : State) (off : Nat) : Word := (Tab.look s.saf.belay.regs off).getD (s.reg off)

/-- The Belay stage or pending change is discarded with an outcome of `SAF_BLY_STAT.LAST` (R492 to R498). -/
def State.belayDiscard (s : State) (outcome : Nat) : State :=
  let s := s.post 0x0E0C 0 outcome (s.f R.SAF_BLY_STAT_PARTY)
  let s := (((s.setF R.SAF_BLY_STAT_ST 0).setF R.SAF_BLY_STAT_PARTY 0).setF R.SAF_BLY_STAT_LAST outcome).setF R.SAF_BLY_CV_CV 0
  { s with saf := { s.saf with belay := {} } }

/-- TBP counts since the stage was opened or the change became pending. -/
def State.belayAge (s : State) : Nat := s.tbp - s.saf.belay.at_

/-- R495: from 60.9 s on, a stage or a pending change is found discarded; between 59.1 s and 60.9 s either is possible. -/
def State.belayExpire (s : State) : State :=
  let st := s.f R.SAF_BLY_STAT_ST
  if (st = 1 || st = 2) && decide (609 * perSec ≤ 10 * s.belayAge) then s.belayDiscard 2 else s

/-- BELAY_STAGE_TIMEOUT and BELAY_PENDING_TIMEOUT: 60 s within the bounds of R495. -/
def State.belayTimeout (s : State) (st : Nat) : State :=
  if s.f R.SAF_BLY_STAT_ST = st && decide (591 * perSec ≤ 10 * s.belayAge) then s.belayDiscard 2 else s

/-- A write of the protection set by a party reaches the stage: it opens one, or adds to its own (R492, R498). -/
def State.stageOpen (s : State) (party : Nat) : Status × State :=
  let s := s.belayExpire
  match s.f R.SAF_BLY_STAT_ST with
  | 0 =>
    let s := (s.setF R.SAF_BLY_STAT_ST 1).setF R.SAF_BLY_STAT_PARTY party
    (.done, { s with saf := { s.saf with belay := { at_ := s.tbp } } })
  | 1 => if s.f R.SAF_BLY_STAT_PARTY = party then (.done, s) else (.state, s)
  | _ => (.state, s)

/-- Stages the RWB fields of one register word, clamped as a commit would clamp them. -/
def State.stagePut (s : State) (off : Nat) (v : Word) : State :=
  let old := s.stagedWord off
  let new := match RegMap.find off with
    | some r => wordClamp off (r.write Acc.belay old v)
    | none => old
  { s with saf := { s.saf with belay := { s.saf.belay with regs := Tab.put s.saf.belay.regs off new } } }

/-- Whether an offset holds an RWB field. -/
def hasBelay (off : Nat) : Bool := accMask Acc.belay off ≠ 0

/-- Whether a write of a register changes its RWB fields, and whether it changes others (R624). -/
def State.changesBelay (s : State) (off : Nat) (v : Word) : Bool := (v ^^^ s.stagedWord off) &&& accMask Acc.belay off ≠ 0
def State.changesCfg (s : State) (off : Nat) (v : Word) : Bool := (v ^^^ s.reg off) &&& accMask Acc.cfg off ≠ 0

/-- Writes of RWB fields by one writer, as one write of the stage (R491, R492, R576). -/
def State.stageWrites (s : State) (who : Writer) (ws : List (Nat × Word)) : Status × State :=
  match writerParty who with
  | none => (.auth, s)
  | some p =>
    match s.stageOpen p with
    | (.done, s) => (.done, ws.foldl (fun s e => s.stagePut e.1 e.2) s)
    | r => r

/-- BELAY_STAGE_WRITE: one register that holds an RWB field. A write that changes `OSCACT` together with another field of
`CLK_REF` completes with FORMAT (R624). -/
def State.belayWrite (s : State) (who : Writer) (off : Nat) (v : Word) : Status × State :=
  if !hasBelay off || (s.changesBelay off v && s.changesCfg off v) then (.format, s) else s.stageWrites who [(off, v)]

/-! ### Keys (R350) -/

/-- A write of `CE_KEYLDi`. -/
def State.keyLoad (s : State) (who : Writer) (i : Nat) (v : Word) : Status × State :=
  match s.stageWrites who [] with
  | (.done, s) => (.done, { s with saf := { s.saf with belay := { s.saf.belay with
      load := Tab.set (fun _ => 0) s.saf.belay.load i v } } })
  | r => r

/-- The loaded key. -/
def State.loadedKey (s : State) : List Word := (List.range 16).map fun i => Tab.get (fun _ => 0) s.saf.belay.load i

/-- Whether sixteen words hold a point of P-256. -/
def keyOk (k : List Word) : Bool :=
  let b := k.flatMap wordBytes
  onCurve (beNat (b.take 32)) (beNat (b.drop 32))

/-- A write of `CE_KEYCTL`: `install` stages the loaded key, otherwise an empty slot. -/
def State.keyControl (s : State) (who : Writer) (slot : Nat) (install : Bool) : Status × State :=
  match writerParty who with
  | none => (.auth, s)
  | some p =>
    if install && !keyOk s.loadedKey then (.format, s)
    else
      match s.stageOpen p with
      | (.done, s) =>
        if install && !keyOk s.loadedKey then (.format, s)
        else (.done, { s with saf := { s.saf with belay := { s.saf.belay with
          keys := Tab.put s.saf.belay.keys slot (if install then some s.loadedKey else none) } } })
      | r => r

/-! ### The set with the stage applied -/

/-- The key of a slot with the stage applied. -/
def State.stagedKey (s : State) (n : Nat) : Option (List Word) :=
  match Tab.look s.saf.belay.keys n with
  | some k => k
  | none => Tab.look s.ce.keys n

/-- The check value with the stage applied (R493). -/
def State.checkStaged (s : State) : Word := checkValue s.stagedWord fun n => keyOrZero (s.stagedKey n)

/-- The state with every staged field and key slot in force. -/
def State.belayTarget (s : State) : State :=
  let t := s.saf.belay.regs.foldl (fun t e =>
    let m := accMask Acc.belay e.1
    t.setReg e.1 ((t.reg e.1 &&& ~~~m) ||| (e.2 &&& m))) s
  let keys := (List.range 4).foldl (fun k n => match s.stagedKey n with
    | some x => Tab.put k n x
    | none => k) ([] : Tab (List Word))
  { t with ce := { t.ce with keys := keys } }

/-- The offsets of the staged registers. -/
def State.belayOffs (s : State) : List Nat := s.saf.belay.regs.map (·.1)

/-! ### Proposal and confirmation (R493 to R497) -/

/-- A write of `SAF_BLY_PROP`. Both channels compute the same value: they differ only by a fault, which SAFETY_CYCLE brings. -/
def State.belayPropose (s : State) (who : Writer) (cv : Word) : Status × State :=
  match writerParty who with
  | none => (.auth, s)
  | some p =>
    let s := s.belayExpire
    let st := s.f R.SAF_BLY_STAT_ST
    if st = 2 || st = 3 || (st = 1 && s.f R.SAF_BLY_STAT_PARTY ≠ p) then (.state, s)
    else
      let s := s.setF R.SAF_BLY_STAT_PARTY p
      if s.checkStaged = cv then
        let s := (s.setF R.SAF_BLY_STAT_ST 2).setF R.SAF_BLY_CV_CV cv.toNat
        let s : State := { s with saf := { s.saf with belay := { s.saf.belay with at_ := s.tbp } } }
        (.done, s.post 0x0E0A 0 cv.toNat p)
      else (.auth, s.belayDiscard 3)

/-- The image of a Belay change: the configuration with the change in force and its check value confirmed. -/
def State.belayImage (s : State) : Cairn :=
  { s.belayTarget.cairnImage with conf := some s.checkStaged }

/-- The Cairn write of an accepted change begins at once, or after a write in progress (R496, R551). -/
def State.belayStore (s : State) : State :=
  if s.bvq.cairnWr.isSome then { s with saf := { s.saf with belay := { s.saf.belay with wr := 1 } } }
  else
    let s := (s.cairnBegin s.belayImage).setF R.BVQ_CAIRN_PEND 1
    { s with saf := { s.saf with belay := { s.saf.belay with wr := 2 } } }

/-- An accepted confirmation is a commit (R496, R497). -/
def State.belayAccept (s : State) (party : Nat) : CmdRes :=
  let t := s.belayTarget
  if s.belayOffs.any (fun o => decide (0xE000 ≤ o)) && !s.quiet || s.stateBad t s.belayOffs then .ofPair (.state, s)
  else match commitMap s t with
    | .error c => { status := .conflict, st := (s.refuse c false).belayDiscard 5, conflict := some c }
    | .ok own =>
      let s : State := { s with sys := { s.sys with own := own } }
      let s := s.setF R.SAF_BLY_STAT_ST 3
      .ok (({ s with saf := { s.saf with belay := { s.saf.belay with party := party } } } : State).belayStore)

/-- A confirmation by a party: 1 host, 2 manager, 3 COMKEY, which confirms the value as it stands. -/
def State.belayConfirm (s : State) (party : Nat) (cv : Option Word) : CmdRes :=
  let s := s.belayExpire
  if s.f R.SAF_BLY_STAT_ST ≠ 2 then .ofPair (.state, s)
  else
    let late := decide (591 * perSec ≤ 10 * s.belayAge)
    let r := if late then (s.takeFree.1.getLsbD 0, s.takeFree.2) else (false, s)
    let s := r.2
    if r.1 then .ofPair (.state, s.belayDiscard 2)
    else if s.f R.SAF_BLY_STAT_PARTY = party then .ofPair (.auth, s)
    else if cv.any (fun v => v.toNat ≠ s.f R.SAF_BLY_CV_CV) then .ofPair (.auth, s.belayDiscard 3)
    else s.belayAccept party

/-- A write of `SAF_BLY_CONF`. -/
def State.belayConf (s : State) (who : Writer) (cv : Word) : CmdRes :=
  match writerParty who with
  | none => .ofPair (.auth, s)
  | some p => s.belayConfirm p (some cv)

/-- COMKEY_RELEASE after `ms` milliseconds (R491). -/
def State.comkey (s : State) (ms : Nat) : State :=
  if 1000 ≤ ms && ms ≤ 5000 then (s.belayConfirm 3 none).st else s

/-- CAIRN_WRITE_COMPLETE (R550): the Belay write follows a write that was in progress, and nothing else is written before the
change applies. -/
def State.cairnComplete (s : State) : State :=
  if s.bvq.cairnWr.isNone then s
  else
    let s := s.cairnEnd
    if s.saf.belay.party = 0 then s.cairnAgain
    else if s.saf.belay.wr = 1 then s.belayStore
    else { s with saf := { s.saf with belay := { s.saf.belay with wr := 3 } } }

/-- BELAY_EFFECTIVE (R490, R496). -/
def State.belayEffective (s : State) : State :=
  if s.f R.SAF_BLY_STAT_ST ≠ 3 || s.saf.belay.wr ≠ 3 then s
  else
    let cv := s.checkStaged
    let party := s.saf.belay.party
    let prop := s.f R.SAF_BLY_STAT_PARTY
    let t := s.settle s.belayTarget s.belayOffs
    let t := ((t.showKeys.setF R.SAF_CV_CV cv.toNat).setF R.SAF_STAT_CONF 1).setF R.SAF_BLY_STAT_ST 0
    let t := ((t.setF R.SAF_BLY_STAT_PARTY 0).setF R.SAF_BLY_STAT_LAST 1).setF R.SAF_BLY_CV_CV 0
    let t : State := { t with saf := { t.saf with confCv := some cv, belay := {} } }
    (t.post 0x0E0B 0 cv.toNat prop party).cairnAgain

/-- A write of `SAF_BLY_CTL.ABORT` = 1 (R498). -/
def State.belayAbort (s : State) (who : Writer) : Status × State :=
  match writerParty who with
  | none => (.auth, s)
  | some _ =>
    let s := s.belayExpire
    let st := s.f R.SAF_BLY_STAT_ST
    if st = 1 || st = 2 then (.done, s.belayDiscard 4) else (.state, s)

/-! ### The commands -/

/-- The outcome of a write through BAR0; another writer's outcome returns on its own path. -/
def hostOnly (who : Writer) (off : Nat) (r : Status × State) : State := if who = .host then r.2.wres off r.1 else r.2

def execBelayStageWrite (who : Writer) (off : Nat) (v : Word) (s : State) : Out :=
  .next (s.onMain (hostOnly who off (s.belayWrite who off v)))
def execKeyLoadWrite (who : Writer) (i : Fin 16) (v : Word) (s : State) : Out :=
  .next (s.onMain (hostOnly who (0xA080 + 4 * i) (s.keyLoad who i v)))
def execKeyInstall (who : Writer) (slot : Fin 4) (s : State) : Out :=
  .next (s.onMain (hostOnly who 0xA0C0 (s.keyControl who slot true)))
def execKeyErase (who : Writer) (slot : Fin 4) (s : State) : Out :=
  .next (s.onMain (hostOnly who 0xA0C0 (s.keyControl who slot false)))
def execBelayStageTimeout (s : State) : Out := .next (s.onMain (s.belayTimeout 1))
def execSafBlyProp (who : Writer) (cv : Word) (s : State) : Out := .next (s.onMain (hostOnly who 0xE0C8 (s.belayPropose who cv)))
def execSafBlyConf (who : Writer) (cv : Word) (s : State) : Out := .next (s.onMain (hostOnly who 0xE0CC (s.belayConf who cv).pair))
def execComkeyRelease (ms : Nat) (s : State) : Out := .next (s.onMain (s.comkey ms))
def execBelayPendingTimeout (s : State) : Out := .next (s.onMain (s.belayTimeout 2))
def execBelayEffective (s : State) : Out := .next (s.onStatus s.belayEffective)
def execBelayAbort (who : Writer) (s : State) : Out := .next (s.onMain (hostOnly who 0xE0D0 (s.belayAbort who)))
def execCairnWriteComplete (s : State) : Out := .next (s.onMain s.cairnComplete)

end Sys2Proof.Machine
end

