-- ==== Sys2Proof/Machine/Read.lean ====
section
/-! DEFINITION. Register reads (R15, R52, R104, R596, R627, R628): the values that the module computes at the read, what each
path captures, and the reads that change state. -/

namespace Sys2Proof.Machine

/-- The number of a path's own captures: 0 BAR0, 1 + r ring r, 17 Cewlink (R627). -/
def Path.key : Path → Nat
  | .bar0 => 0
  | .ring r => 1 + r
  | .link => 17

/-- The offset of a low word of R628. -/
def lowOff : LowReg → Nat
  | .tbp => 0x2000
  | .serial => 0xD004
  | .rt => 0x10028
  | .cairnSeq => 0x10064
  | .acc i => 0xF100 + 8 * i
  | .pulse k => 0xF280 + 16 * k

/-- The 64-bit quantity whose low word stands at an offset (R15): TBP, the serial number, the real time, the sequence number of
the newest Cairn copy, an accumulator or a pulse total as last snapped (R520). -/
def State.pairAt (s : State) (off : Nat) : Option Nat :=
  let snap (i : Nat) : Nat := Tab.get (fun _ => 0) s.mtr.snap i
  if off = 0x2000 then some s.tbp
  else if off = 0xD004 then some Config.serial.toNat
  else if off = 0x10028 then some s.realTime
  else if off = 0x10064 then some (match s.cairnNewest with
    | some c => c.2.seq
    | none => 0)
  else if 0xF100 ≤ off ∧ off < 0xF240 ∧ off % 8 = 0 then some (snap ((off - 0xF100) / 8))
  else if 0xF280 ≤ off ∧ off < 0xF300 ∧ off % 16 = 0 then some (snap (40 + (off - 0xF280) / 16))
  else none

/-- Whether an offset is that of a captured high word. -/
def isHigh (off : Nat) : Bool :=
  off = 0x2004 || off = 0xD008 || off = 0x1002C || off = 0x10068 || decide (0xF100 ≤ off ∧ off < 0xF240 ∧ off % 8 = 4) ||
    decide (0xF280 ≤ off ∧ off < 0xF300 ∧ off % 16 = 4)

/-- The key of a capture: the path and the register. -/
def capKey (path off : Nat) : Nat := path * 2 ^ 20 + off

/-- The bytes of the records a window holds, as words, oldest first (R592, R596). -/
def State.winWords (s : State) (w : Nat) : List Word := (s.win w).recs.flatten

/-- Word i of the block that `HST_CAPRW` names, 0 beyond the valid bytes or of a window that is not frozen (R596). -/
def State.capRead (s : State) (i : Nat) : Word :=
  let w := s.f R.HST_CAPRW_WIN
  if s.f (R.HST_CAP_STAT_ST w) = 3 then (s.winWords w).getD (64 * s.f R.HST_CAPRW_BLK + i) 0 else 0

/-- The entry of the partner table that `PLT_PQRY.PART` names. -/
def State.queried (s : State) : Partner := s.partner (s.f R.PLT_PQRY_PART)

/-- Partners of the table in a state. -/
def State.partners (s : State) (st : Nat) : Nat := (s.plt.tab.filter fun e => e.2.st = st).length

/-- `GDI_LEGj_LIM` (R195, R200). -/
def State.legLim (s : State) (j : Nat) : Word :=
  let b := s.blkMin j
  BitVec.ofNat 32 (min 4095 (s.dtMin j) + min 4095 b * 2 ^ 16 +
    bit ((s.groupsOf j).any fun g => decide (s.f (R.TRP_GRP_BLK_MAX g) < b)) * 2 ^ 31)

/-- Whole seconds left to confirm (R502). -/
def State.belayRemain (s : State) : Nat :=
  if s.f R.SAF_BLY_STAT_ST = 2 then (60 * perSec - s.belayAge) / perSec else 0

/-- `GRD_STAT` as it stands now: `STALE` and the suspension of R379 follow plant time between evaluations too (R382). -/
def State.gridStat (s : State) (v : Word) : Word :=
  let v := R.GRD_STAT_STALE.put v (bit (decide (s.grd.freshAt + s.f R.GRD_CFG_STALE * ptMs < s.pt)))
  let v := R.GRD_STAT_AISUSP.put v (bit s.aiSusp)
  if s.aiSusp then R.GRD_STAT_HITS.put v 0 else v

/-- The word a read returns, captures apart. -/
def State.view (s : State) (off : Nat) : Word :=
  let v := if status7.contains off then s.statusShown off else s.reg off
  if off = 0 then R.SYS_ID_CAPMEM.put v (bit (s.part = .c8))
  else if off = 0x80 then R.SYS_OWN_QRY_OWNER.put v (s.owner (s.f R.SYS_OWN_QRY_RESID))
  else if 0x6000 ≤ off ∧ off < 0x6200 ∧ off % 32 = 0x18 then s.legLim ((off - 0x6000) / 32)
  else if off = 0x90AC then Tab.get (fun _ => 0) s.adc.latest (s.f R.ADC_PEEK_ENT)
  else if 0xC070 ≤ off ∧ off < 0xC080 then (R.LNK_LINE_NMAX 0).put v (lineMax (s.f R.LNK_CFG_PER))
  else if off = 0xD070 then
    BitVec.ofNat 32 (s.partners 2 + s.partners 3 * 2 ^ 11 + min 1023 (s.partners 1) * 2 ^ 22)
  else if off = 0xD074 then
    ((R.PLT_PQRY_ST.put v s.queried.st |> fun v => R.PLT_PQRY_SLOT.put v s.queried.slot) |> fun v =>
      R.PLT_PQRY_ROW.put v s.queried.row)
  else if off = 0xD078 then BitVec.ofNat 32 s.queried.serial
  else if off = 0xD07C then BitVec.ofNat 32 (s.queried.cause % 256)
  else if off = 0xB0E0 then s.gridStat v
  else if off = 0xE0C0 then R.SAF_BLY_STAT_REMAIN.put v s.belayRemain
  else if off = 0xF034 then
    R.MTR_STAT_RUN.put (R.MTR_STAT_FNOM.put v (bit (s.mtrOn && s.mtrFreq.2))) (bit s.mtrOn)
  else if 0xF280 ≤ off ∧ off < 0xF300 ∧ off % 16 = 8 then
    BitVec.ofNat 32 (Tab.get (fun _ => 0) s.mtr.snap (48 + (off - 0xF280) / 16))
  else if 0x11600 ≤ off ∧ off < 0x11700 then s.capRead ((off - 0x11600) / 4)
  else v

/-- The plant time a path has captured. -/
def State.ptCap (s : State) (path : Nat) : Nat := Tab.get (fun _ => 0) s.capPt path

/-- The value a read of a register by a path returns. -/
def State.readVal (s : State) (path off : Nat) : Word :=
  match s.pairAt off with
  | some v => BitVec.ofNat 32 v
  | none =>
    if isHigh off then Tab.get (fun _ => 0) s.capHi (capKey path off)
    else if off = 0x2010 then BitVec.ofNat 32 (ptNs s.pt)
    else if off = 0x2014 then BitVec.ofNat 32 (ptSec (s.ptCap path))
    else if off = 0x2018 then BitVec.ofNat 32 (ptSec (s.ptCap path) / 2 ^ 32 % 2 ^ 16 + ptFrac (s.ptCap path) * 2 ^ 16)
    else s.view off

/-- What a read does beside returning its value (R628), but for the crossing that carries it. -/
def State.readCapture (s : State) (path off : Nat) : State :=
  match s.pairAt off with
  | some v =>
    { s with capHi := Tab.set (fun _ => 0) s.capHi (capKey path (off + 4)) (BitVec.ofNat 32 (v / 2 ^ 32)) }
  | none =>
    if off = 0x2010 then { s with capPt := Tab.set (fun _ => 0) s.capPt path s.pt }
    else if off = 0x116FC then s.setF R.HST_CAPRW_BLK (s.f R.HST_CAPRW_BLK + 1)
    else s

/-- What a read does beside returning its value: an access of the mixed-signal die or the Bivouac domain passes through its
mailbox (R620). -/
def State.readEffect (s : State) (path off : Nat) : State := (s.readCapture path off).carryRead off (s.readVal path off)

/-- One register read by a path. -/
def State.readReg (s : State) (path off : Nat) : Word × State := (s.readVal path off, s.readEffect path off)

/-- Consecutive registers read by a path in ascending offset. -/
def State.readRegs : Nat → State → Nat → Nat → List Word × State
  | 0, s, _, _ => ([], s)
  | n + 1, s, path, off =>
    let r := s.readReg path off
    let rest := State.readRegs n r.2 path (off + 4)
    (r.1 :: rest.1, rest.2)

/-- A read whose value the model shows in `rdata`. -/
def State.readShow (s : State) (path off : Nat) : State := { (s.readReg path off).2 with rdata := (s.readReg path off).1 }

def execLowWordRead (p : Path) (r : LowReg) (s : State) : Out := .next (s.onMain (s.readShow (Path.key p) (lowOff r)))
def execPlantTimeRead (p : Path) (s : State) : Out := .next (s.onMain (s.readShow (Path.key p) 0x2010))
def execReadWindowAdvance (p : Path) (s : State) : Out := .next (s.onMain (s.readShow (Path.key p) 0x116FC))

/-- UNSUPPORTED_REQUEST: an access of BAR0 or BAR2 that is not one aligned word changes nothing (R563). The row stands for such
accesses alone; what it brings has no effect on the state in any case. -/
def execUnsupportedRequest (_bar2 : Bool) (_addr _len : Nat) (s : State) : Out := .next s

end Sys2Proof.Machine
end

