-- ==== Sys2Proof/Machine/Commit.lean ====
section
/-! DEFINITION. Commit units (R564, R576, R622 to R625, R656): the registers a unit writes as one commit, the writes that enter
the shadow or the Belay stage instead, and the command fields that act after the commit. The write of one register through
BAR0, and the setup writes of the control engine, are units. -/

namespace Sys2Proof.Machine

/-! ### Command fields (R656) -/

/-- Who makes the request, as a path of R609. -/
def armFor : Writer → ArmFor
  | .host => .host
  | .ce => .lane 0
  | _ => .link { ty := 0x12 }

/-- A second command of the same register acts after the first; the first status that is not DONE stands. -/
def CmdRes.andThen (r : CmdRes) (g : State → Status × State) : CmdRes :=
  let q := g r.st
  { status := if r.status = .done then q.1 else r.status, st := q.2, gone := r.gone, conflict := r.conflict }

/-- Does `g` when a bit of the written word is 1. -/
def whenBit (v : Word) (i : Nat) (g : State → Status × State) (s : State) : Status × State :=
  if v.getLsbD i then g s else (.done, s)

/-- An effect without a status of its own. -/
def plain (g : State → State) (s : State) : Status × State := (.done, g s)

/-- A write of `PWM_COMMIT` (R180, R181). -/
def State.commitGo (s : State) : CmdRes :=
  match s.pwmCommit with
  | (.ok _, t) => { status := .done, st := t }
  | (.error c, t) => { status := .conflict, st := t, conflict := some c }

/-- The command fields of a word written to a register. -/
def State.command (s : State) (who : Writer) (arm : ArmFor) (off : Nat) (v : Word) : CmdRes :=
  let one (i : Nat) (g : State → State) : CmdRes := .ofPair (whenBit v i (plain g) s)
  let st (i : Nat) (g : State → Status × State) : CmdRes := .ofPair (whenBit v i g s)
  if off = 0x48 then one 24 State.paceExtClear
  else if off = 0x104 then
    let r := s.sysCmd arm (R.SYS_CMD_REQ.get v)
    { status := r.1, st := r.2, gone := R.SYS_CMD_REQ.get v = 6 && r.1 = .done }
  else if off = 0x1008 then one 31 State.clkLossClear
  else if off = 0x2030 then .ok { s with tim := { s.tim with hostNs := v.toNat } }
  else if off = 0x2034 then .ok (s.hostOffset v)
  else if off = 0x2040 then .ok (s.clearMask R.TIM_PTC_LATE_PTC v.toNat)
  else if 0x3000 ≤ off ∧ off < 0x3048 then one 31 fun s => s.setF (R.XDC_STAT_OVR ((off - 0x3000) / 4)) 0
  else if off = 0x3080 then .ok (s.xdcClear v.toNat)
  else if off = 0x4300 then one 1 fun s => s.setF R.PWM_SH_STAT_DROP 0
  else if off = 0x4304 then (if v.getLsbD 0 then s.commitGo else .ok s).andThen (whenBit v 1 (plain State.shadowClear))
  else if off = 0x4308 then one 16 State.clearPwmStat
  else if off = 0x5080 then .ok (s.clearMask R.ATC_MISS_ATC v.toNat)
  else if off = 0x621C then one 31 State.clearBscnt
  else if 0x7300 ≤ off ∧ off < 0x7400 ∧ off % 16 = 8 then st 0 fun s => s.latchClear ((off - 0x7300) / 16)
  else if 0x7300 ≤ off ∧ off < 0x7400 ∧ off % 16 = 12 then one 31 fun s => s.clearGrpCnt ((off - 0x7300) / 16)
  else if off = 0x80D4 then .ok (s.clearMask R.CMP_CHKF_FAIL v.toNat)
  else if off = 0x908C then .ok (s.swTrig (v.toNat % 8))
  else if off = 0x9090 then one 13 fun s => s.setF R.ADC_STAT_MONLOSS 0
  else if off = 0x90A0 then one 31 State.adcDropClear
  else if off = 0x90A4 then .ok (s.clearMask R.ADC_OVRL_LANE v.toNat)
  else if off = 0xA000 then (st 2 State.ceReset).andThen (whenBit v 3 fun s => s.ceActivate (R.CE_CTL_ACTSL.get v))
  else if off = 0xA010 then one 31 State.ceMissClear
  else if off = 0xA014 then one 31 State.ceChkClear
  else if off = 0xA01C then one 31 State.ceDurmaxClear
  else if off = 0xB0EC then one 31 State.grdCntClear
  else if 0xC030 ≤ off ∧ off < 0xC050 then one 31 fun s => s.lnkErrClear ((off - 0xC030) / 4)
  else if off = 0xC084 then one 31 State.lnkTxClear
  else if off = 0xD02C then one 31 State.dropClear
  else if off = 0xD060 then one 10 fun s => s.rebalance 1024
  else if off = 0xD074 then one 27 State.partnerForget
  else if off = 0xE090 then one 31 State.safCntClear
  else if off = 0xE0A0 then (st 0 State.testCommand).andThen (whenBit v 1 fun s => s.ackCommand who)
  else if off = 0xE0C8 then .ofPair (s.belayPropose who v)
  else if off = 0xE0CC then s.belayConf who v
  else if off = 0xE0D0 then st 0 fun s => s.belayAbort who
  else if off = 0xF030 then (one 0 State.mtrSnap).andThen (whenBit v 1 State.mtrClear)
  else if off = 0xF034 then one 2 fun s => s.setF R.MTR_STAT_TLOST 0
  else if off = 0xF038 then one 31 State.mtrCntClear
  else if off = 0x10000 then one 5 State.huWeakClear
  else if off = 0x10020 then one 16 State.wakeRelease
  else if off = 0x10030 then .ok { s with bvq := { s.bvq with rtsl := v } }
  else if off = 0x10034 then .ok (s.timeSet v)
  else if off = 0x10040 then one 23 State.underClear
  else if off = 0x10060 then
    let r := whenBit v 8 State.factoryReset s
    { status := r.1, st := r.2, gone := v.getLsbD 8 && r.1 = .done }
  else if off = 0x11004 then (one 0 fun s => s.setF R.HST_ERR_DBOVF 0).andThen (whenBit v 1 (plain fun s => s.setF R.HST_ERR_DMAERR 0))
  else if off = 0x11704 then one 31 fun s => (s.setF R.HST_ETHCNT_RXDROP 0).setF R.HST_ETHCNT_FCS 0
  else .ok s

/-! ### Units -/

/-- What a unit comes to: its status, the index of the pair it rests on, the conflict when there is one, and whether it has
reset the main domain. -/
structure UnitRes where
  status : Status
  st : State
  idx : Nat := 0
  conflict : Option Conflict := none
  gone : Bool := false

/-- The pairs of a unit with their indices, without those that a later pair for the same register overrides (R576). -/
def lastPairs : Nat → List (Nat × Word) → List (Nat × Nat × Word)
  | _, [] => []
  | i, e :: l => if l.any (·.1 = e.1) then lastPairs (i + 1) l else (i, e.1, e.2) :: lastPairs (i + 1) l

/-- Whether a write counts as one of the protection set (R350, R624): a register with an RWB field, a key register, or
`CLK_REF` when the write changes `OSCACT`. -/
def State.isBelayWrite (s : State) (off : Nat) (v : Word) : Bool :=
  if off = 0x1000 then s.changesBelay off v
  else hasBelay off || decide (0xA080 ≤ off ∧ off ≤ 0xA0C0)

/-- Whether a source other than a manager may not write a register over Cewlink (R434). -/
def planReg (off : Nat) : Bool := off = 0xD010 || off = 0xD014 || off = 0xB050

/-- The pairs of a unit of the protection set, in list order; nothing is staged unless all of it is. -/
def State.belayUnit (s : State) (who : Writer) : List (Nat × Nat × Word) → Status × State
  | [] => (.done, s)
  | (_, off, v) :: l =>
    let r :=
      if 0xA080 ≤ off ∧ off < 0xA0C0 then s.keyLoad who ((off - 0xA080) / 4) v
      else if off = 0xA0C0 then s.keyControl who (R.CE_KEYCTL_SLOT.get v) (R.CE_KEYCTL_OP.get v = 0)
      else s.stageWrites who [(off, v)]
    if r.1 = .done then State.belayUnit r.2 who l else (r.1, s)

/-- The ordinary fields of the pairs written, with every clamp. -/
def State.writeCfg (s : State) (ps : List (Nat × Nat × Word)) : State :=
  (ps.foldl (fun t e => t.setReg e.2.1 (t.written Acc.cfg e.2.1 e.2.2)) s).crossClamp (ps.map (·.2.1))

/-- The index of the first pair with which the commit of the pairs up to it is refused. -/
def State.refusedPair (s : State) (ps : List (Nat × Nat × Word)) : Nat :=
  let bad (k : Nat) : Bool := match commitMap s (s.writeCfg (ps.take k)) with
    | .error _ => true
    | .ok _ => false
  match (List.range ps.length).find? fun k => bad (k + 1) with
  | some k => ((ps[k]?).map (·.1)).getD 0
  | none => 0

/-- The commands of a unit act after its commit, in its order. -/
def State.commands (who : Writer) (arm : ArmFor) : List (Nat × Nat × Word) → UnitRes → UnitRes
  | [], u => u
  | (i, off, v) :: l, u =>
    if u.gone || accMask Acc.cmd off = 0 then State.commands who arm l u
    else
      let had := u.st.sys.arm.isSome
      let r := u.st.command who arm off v
      let now := !had && r.st.sys.arm.isSome
      -- an ARM whose test is running completes later, with the first status of its unit that is not DONE
      let st : State := match now, r.st.sys.arm with
        | true, some a => { r.st with sys := { r.st.sys with arm := some { a with
            idx := i, pre := u.status.code, preIdx := u.idx } } }
        | _, _ => r.st
      let first := u.status = .done && r.status ≠ .done
      State.commands who arm l
        { u with status := if first then r.status else u.status, idx := if first then i else u.idx, st := st, gone := r.gone,
                 conflict := if first then r.conflict else u.conflict }

/-- One unit of writes (R564, R576, R622). -/
def State.runUnit (s : State) (who : Writer) (arm : ArmFor) (ws : List (Nat × Word)) : UnitRes :=
  let ps := lastPairs 0 ws
  let stop (st : Status) : UnitRes := { status := st, st := s }
  if ps.any fun e => e.2.1 % 4 ≠ 0 || (RegMap.find e.2.1).isNone ||
      (e.2.1 = 0x1000 && s.changesBelay e.2.1 e.2.2 && s.changesCfg e.2.1 e.2.2) then
    stop .format
  else
    let belay (e : Nat × Nat × Word) : Bool := s.isBelayWrite e.2.1 e.2.2
    if ps.any belay then
      if ps.all belay then
        let r := s.belayUnit who ps
        if r.1 = .done then { status := .done, st := r.2 } else stop r.1
      else stop .format
    else if who = .link && ps.any (fun e => planReg e.2.1) then stop .auth
    else
        let cfg := ps.filter fun e => !isPwmReg e.2.1 && accMask Acc.cfg e.2.1 ≠ 0
        let offs := cfg.map (·.2.1)
        let t := s.writeCfg cfg
        if s.stateBad t offs || (s.part = .c0 && ps.any fun e => decide (0x11400 ≤ e.2.1 ∧ e.2.1 < 0x11500)) then stop .state
        else
          match (if cfg.isEmpty then .ok s else s.commitTo t offs) with
          | .error c => { status := .conflict, st := s.refuse c false, idx := s.refusedPair cfg, conflict := some c }
          | .ok t =>
            let t := (ps.filter fun e => isPwmReg e.2.1).foldl (fun t e => match RegMap.find e.2.1 with
              | some r => if r.mask Acc.cfg = 0 then t else t.shadowPut e.2.1 (wordClamp e.2.1 (r.write Acc.cfg 0 e.2.2))
              | none => t) t
            let u := State.commands who arm ps { status := .done, st := t }
            let u : UnitRes := match t.sys.arm, u.st.sys.arm with
              | none, some a => { u with st := { u.st with sys := { u.st.sys with
                  arm := some { a with post := if a.pre = 0 then u.status.code else 0, postIdx := u.idx } } } }
              | _, _ => u
            if u.gone then u else { u with st := s.produceStatus u.st }

/-- Whether the unit has started an ARM whose outcome comes later. -/
def UnitRes.armWaits (s : State) (u : UnitRes) : Bool := s.sys.arm.isNone && u.st.sys.arm.isSome

/-! ### BAR0 writes (R564, R565) -/

/-- One aligned write of BAR0: its outcome is recorded, but for an ARM whose test runs and for a write that resets the module. -/
def State.barWrite (s : State) (off : Nat) (v : Word) : State :=
  if !s.live then s
  else
    let u := s.runUnit .host .host [(off, v)]
    if u.gone || u.armWaits s then u.st else u.st.wres off u.status

/-- REGISTER_WRITE. -/
def execRegisterWrite (off : Nat) (v : Word) (s : State) : Out := .next (s.onMain (s.barWrite off v))

/-- SHADOW_WRITE: a write to a field of a carrier or a pair (R179); to any other register the row does nothing. -/
def execShadowWrite (off : Nat) (v : Word) (s : State) : Out := .next (s.onMain (if isPwmReg off then s.barWrite off v else s))

/-- PWM_COMMIT_GO. -/
def execPwmCommitGo (s : State) : Out := .next (s.onMain (s.commitGo.st.wres 0x4304 s.commitGo.status))

/-- The clears of `HST_ERR` and `HST_ETHCNT` (R601): bit 0 `DBOVF`, bit 1 `DMAERR`. -/
def execHstErrClear (mask : BitVec 2) (s : State) : Out :=
  .next (s.onMain ((s.command .host .host 0x11004 (mask.setWidth 32)).st.wres 0x11004 .done))
def execHstEthcntClr (s : State) : Out := .next (s.onMain ((s.command .host .host 0x11704 0x80000000#32).st.wres 0x11704 .done))

/-! ### Setup writes of the control engine (R327, R623) -/

/-- Lane l waits for the completion of its setup write, which writes a status to register d: 0 DONE, 1 STATE, 2 CONFLICT,
3 AUTH; a write to no register is FORMAT, 4 as in R578. -/
def State.swrWait (s : State) (l d status : Nat) : State :=
  let s := s.adv l
  let c := s.ceLane l
  s.setCe l (c.setCtx { c.ctx with wait := .swr d status })

/-- SWR: in a cycle nothing but the status STATE; in the background the write is held, or every held write and this one are
one commit. -/
def State.swr (s : State) (x : CeInstr) : State :=
  s.ceRun x 0x4B fun s =>
    let l := x.lane.val
    if s.inFore l then (s.setV l x.d 1).adv l
    else
      let ws := s.ce.swr ++ [(x.imm.toNat, s.wa x)]
      if !(x.mod.val).testBit 0 then ({ s with ce := { s.ce with swr := ws } } : State).swrWait l x.d 0
      else
        let u := ({ s with ce := { s.ce with swr := [] } } : State).runUnit .ce (.lane l) ws
        if u.gone then u.st else u.st.swrWait l x.d u.status.code

/-- SWR_COMPLETION: the status reaches the destination register; not while the write's ARM still runs. -/
def State.swrDone (s : State) (l : Nat) : State :=
  let c := s.ceLane l
  match c.back.wait with
  | .swr d st =>
    if c.fore.run || s.armLane l then s
    else
      let s := s.setV l d (BitVec.ofNat 32 st)
      let c := s.ceLane l
      s.setCe l { c with back := { c.back with wait := .none } }
  | _ => s

def execSwr (x : CeInstr) (s : State) : Out := .next (s.onMain (s.swr x))
def execSwrCompletion (lane : Fin 8) (s : State) : Out := .next (s.onMain (s.swrDone lane))

end Sys2Proof.Machine
end

