-- ==== Sys2Proof/Machine/Hst.lean ====
section
/-! DEFINITION. The host interface (R562 to R601): doorbells, the fetch and the start of descriptors, each opcode, the event and
capture rings, capture windows, interrupt spacing, the PCIe reset and the Ethernet port. Descriptors, host buffers and failures
of a host memory access come with the commands that use them. -/

namespace Sys2Proof.Machine

/-- The distance from index a on to index b of a ring (free-running 16-bit counts). -/
def ahead (b a : Nat) : Nat := (b + 2 ^ 16 - a % 2 ^ 16) % 2 ^ 16

/-! ### Doorbells (R567, R568) -/

/-- A doorbell is written: BAR2 reads return this value. -/
def State.bell (s : State) (off i : Nat) : State :=
  { s with hst := { s.hst with bells := Tab.set (fun _ => 0) s.hst.bells off i } }

/-- A doorbell value out of its ring is ignored; `HST_ERR.DBOVF` is set. -/
def State.bellOver (s : State) : State := s.setF R.HST_ERR_DBOVF 1

/-- COMMAND_DOORBELL: the producer may stand at most one ring size ahead of the consumer. -/
def State.cmdBell (s : State) (r i : Nat) : State :=
  let s := s.bell (0x800 * r) i
  if !s.on (R.HST_RING_CFG_EN r) then s
  else if s.ringSize r < ahead i (s.f (R.HST_RING_STAT_CI r)) then (s.setF R.HST_ERR_RING r).bellOver
  else s.setRing r { s.ring r with prod := i }

/-- COMPLETION_DOORBELL: the consumer may not pass the producer. -/
def State.compBell (s : State) (r i : Nat) : State :=
  let s := s.bell (0x800 * r + 4) i
  if !s.on (R.HST_RING_CFG_EN r) then s
  else if s.ringSize r < ahead (s.ring r).cprod i then (s.setF R.HST_ERR_RING r).bellOver
  else s.setRing r { s.ring r with cons := i }

/-- EVENT_RING_DOORBELL and CAPTURE_RING_DOORBELL; neither ring has a number for `HST_ERR.RING`. -/
def State.evBell (s : State) (i : Nat) : State :=
  let s := s.bell 0x8000 i
  if !s.on R.HST_EVR_CFG_EN then s
  else if 2 ^ s.f R.HST_EVR_CFG_LOG2SZ < ahead (s.f R.HST_EVR_STAT_PI) i then s.bellOver
  else { s with hst := { s.hst with evCons := i } }
def State.capBell (s : State) (i : Nat) : State :=
  let s := s.bell 0x8800 i
  if !s.on R.HST_CPR_CFG_EN then s
  else if 2 ^ s.f R.HST_CPR_CFG_LOG2SZ < ahead (s.f R.HST_CPR_STAT_PI) i then s.bellOver
  else { s with hst := { s.hst with capCons := i } }

/-! ### Fetch (R569, R570) -/

/-- Descriptors in flight in all rings. -/
def State.inFlightAll (s : State) : Nat := (List.range 16).foldl (fun a r => a + (s.ring r).infl.length) 0

/-- Whether ring r has a descriptor to fetch and room for its completion. -/
def State.mayFetch (s : State) (r : Nat) : Bool :=
  let q := s.ring r
  s.on (R.HST_RING_CFG_EN r) && decide (q.prod ≠ s.f (R.HST_RING_STAT_CI r)) &&
    decide (ahead q.cprod q.cons + q.infl.length < s.ringSize r)

/-- The ring served next: those with `PRIO` = 1 first, and within a priority each in turn, ascending. -/
def State.nextRing (s : State) : Option Nat :=
  let pick (p : Nat) : Option Nat :=
    let l := (List.range 16).filter fun r => s.mayFetch r && s.f (R.HST_RING_CFG_PRIO r) = p
    match l.find? fun r => decide (Tab.get (fun _ => 15) s.hst.lastRing p < r) with
    | some r => some r
    | none => l.head?
  match pick 1 with
  | some r => some r
  | none => pick 0

/-- Whether a descriptor names nothing that starts: an unknown opcode, or a CAPCTL without an action (R575). -/
def descVoid (d : Desc) : Bool := decide (0x0A < d.opc) || (d.opc = 6 && d.arg0 / 2 ^ 8 % 4 = 0)

/-- A host memory access of ring r has failed (R581). -/
def State.dmaError (s : State) (r : Nat) : State := (s.setF R.HST_ERR_DMAERR 1).setF R.HST_ERR_RING r

def compFormat : Comp := { status := 4 }
def compDma : Comp := { status := 4, reason := 3 }
def compState : Comp := { status := 1 }
def compDone : Comp := { status := 0 }

/-- DESCRIPTOR_FETCH: the next ring in turn is r, and the entry at its consumer index holds `d`. -/
def State.fetch (s : State) (r : Nat) (d : Desc) (dma : Bool) : State :=
  if s.nextRing ≠ some r || decide (256 ≤ s.inFlightAll) then s
  else
    let idx := s.f (R.HST_RING_STAT_CI r)
    let comp := if dma then some compDma else if descVoid d then some compFormat else none
    let q := s.ring r
    let s := (s.setRing r { q with infl := q.infl ++ [{ d := d, idx := idx, started := comp.isSome, comp := comp }] }).setF
      (R.HST_RING_STAT_CI r) (idx + 1)
    let s : State := { s with hst := { s.hst with
      lastRing := Tab.set (fun _ => 15) s.hst.lastRing (s.f (R.HST_RING_CFG_PRIO r)) r } }
    (if dma then s.dmaError r else s).flush 256 r

/-! ### Start (R571) -/

/-- Opcodes that run one at a time: SETW, SETR, PWMSET, CAPCTL and PARMW. -/
def oneAtATime (opc : Nat) : Bool := [1, 2, 3, 6, 10].contains opc

/-- The descriptor of ring r that may start, when it is one that `p` selects. -/
def State.nextStart (s : State) (r : Nat) (p : Desc → Bool) : Option Flight :=
  let l := (s.ring r).infl
  match l.find? (!·.started) with
  | none => none
  | some f =>
    let before := l.takeWhile fun g => g.idx ≠ f.idx
    if !p f.d || (f.d.fence && !before.isEmpty) ||
        (oneAtATime f.d.opc && before.any fun g => g.d.opc = 1 && g.comp.isNone) then none
    else some f

def State.markStarted (s : State) (r idx : Nat) : State :=
  let q := s.ring r
  s.setRing r { q with infl := q.infl.map fun f => if f.idx = idx then { f with started := true } else f }

/-- Whether a ring serves an opcode (R598): while `HST_ETH.EN` = 1 ring 15 takes TXFRM and RXBUF alone, and no other ring ever
takes them. -/
def State.serves (s : State) (r opc : Nat) : Bool :=
  if opc = 8 || opc = 9 then r = 15 else !(r = 15 && s.on R.HST_ETH_EN)

/-- Starts the next descriptor of ring r when `p` selects it. `ok` says that its fields are within their ranges (R575), `dma`
that an access of host memory fails (R581); `go` runs it and answers its completion, or none while it goes on. -/
def State.startDesc (s : State) (r : Nat) (p ok : Desc → Bool) (dma : Bool) (go : Flight → State → Option Comp × State) :
    State :=
  if !s.live then s
  else
    match s.nextStart r p with
    | none => s
    | some f =>
      let s := s.markStarted r f.idx
      if !s.serves r f.d.opc || !ok f.d || f.d.addr % 4 ≠ 0 then s.complete r f.idx compFormat
      else if dma then (s.dmaError r).complete r f.idx compDma
      else
        match go f s with
        | (some c, s) => s.complete r f.idx c
        | (none, s) => s

/-- The first n words of a host buffer as the module reads it. -/
def bufWords (buf : List Word) (n : Nat) : List Word := (List.range n).map (buf.getD · 0)

/-! ### The opcodes (R575 to R577) -/

/-- NOP. -/
def State.descNop (s : State) (r : Nat) : State :=
  s.startDesc r (·.opc = 0) (·.len = 0) false fun _ s => (some compDone, s)

/-- The pairs of a SETW. -/
def setwPairs : List Word → List (Nat × Word)
  | o :: v :: l => (o.toNat, v) :: setwPairs l
  | _ => []

/-- The completion of a SETW: a refusal's resource, owner and pair, or the pair of the first command that was not DONE (R46,
R656). -/
def UnitRes.comp (u : UnitRes) : Comp :=
  { status := u.status.code, det1 := u.idx,
    det0 := match u.conflict with
      | some c => c.holder * 2 ^ 16 + c.res
      | none => 0 }

/-- SETW: one commit of its pairs; a unit that resets the module has no completion, and one whose ARM runs an isolation test
completes at its end. -/
def State.descSetw (s : State) (r : Nat) (buf : List Word) (dma : Bool) : State :=
  s.startDesc r (·.opc = 1) (fun d => decide (1 ≤ d.len ∧ d.len ≤ 512)) dma fun f s =>
    let u := s.runUnit .host (.ring r f.idx) (setwPairs (bufWords buf (2 * f.d.len)))
    if u.gone || u.armWaits s then (none, u.st) else (some u.comp, u.st)

/-- SETR: registers in ascending offset; an offset that holds none reads 0, a misaligned one is FORMAT (R619). -/
def State.descSetr (s : State) (r : Nat) (dma : Bool) : State :=
  s.startDesc r (·.opc = 2) (fun d => decide (1 ≤ d.len ∧ d.len ≤ 4096) && d.arg0 % 4 = 0) dma fun f s =>
    let v := State.readRegs f.d.len s (1 + r) f.d.arg0
    (some compDone, v.2.hostWrite f.d.addr v.1)

/-- PWMSET: the set is staged under R175; a set that R173 refuses is FORMAT. -/
def State.descPwmset (s : State) (r : Nat) (buf : List Word) (dma : Bool) : State :=
  s.startDesc r (·.opc = 3) (fun d => decide (1 ≤ d.len ∧ d.len ≤ 27)) dma fun f s =>
    let ws := bufWords buf f.d.len
    match s.checkSet ws with
    | .error e => (some compFormat, s.setRefused e (ws.headD 0) 2)
    | .ok u => (some compDone, s.mergeSet u)

/-- The slot an image is written to: the one that is not active. -/
def State.freeSlot (s : State) : Nat := 1 - s.f R.CE_STAT_ACTIVE

/-- IMGW starts: the slot's old image is gone until the write completes. -/
def State.descImgw (s : State) (r : Nat) (buf : List Word) (dma : Bool) : State :=
  s.startDesc r (·.opc = 4) (fun d => d.len % 8 = 0 && decide (d.len ≤ 393216)) dma fun f s =>
    if s.on R.CE_STAT_ACTBUSY || s.hst.imgw.any (fun x => x.r ≠ r) then (some compState, s)
    else
      let x : ImgWrite := { r := r, idx := f.idx, slot := s.freeSlot, ws := bufWords buf (f.d.len / 4) }
      (none, { s with hst := { s.hst with imgw := s.hst.imgw ++ [x] },
                      ce := { s.ce with slots := Tab.del s.ce.slots x.slot } })

/-- IMAGE_WRITE_COMPLETE: the oldest IMGW running is done. -/
def State.imageDone (s : State) : State :=
  match s.hst.imgw with
  | [] => s
  | x :: l =>
    ({ s with hst := { s.hst with imgw := l }, ce := { s.ce with slots := Tab.put s.ce.slots x.slot x.ws } } : State).complete
      x.r x.idx { status := 0, det0 := x.slot }

/-- The port numbers through which a request to an address leaves (R384, R413). -/
def State.portsTo (s : State) (d : Nat) : List Nat :=
  let up := [upPort s.role 0, upPort s.role 1]
  let down (l : Nat) : List Nat := if l < lineCount s.role then [l, 4 + l] else []
  let lines : List Nat := if aBcast d then (List.range (lineCount s.role)).flatMap down else down (aPart d / 256)
  match s.role with
  | 1 => up
  | 2 => if aTop d || aMgr d || (aInz d && aZone d ≠ s.lnk.num) then up else lines
  | 3 => if aTop d then [] else if aInz d then down (aZone d / 256) else lines
  | _ => []

/-- LNKTX: a Cewlink request; without a port that is up it ends with NOLINK (R581). -/
def State.descLnktx (s : State) (r : Nat) (wr : Bool) (buf : List Word) (dma : Bool) : State :=
  s.startDesc r (fun d => d.opc = 5 && (d.arg1.testBit 31 == wr)) (fun d => decide (1 ≤ d.len ∧ d.len ≤ 64)) dma fun f s =>
    let d := f.d
    if !(s.portsTo d.arg0).any fun n => s.portUp n then (some { compState with reason := 2 }, s)
    else
      let p : Packet := { ty := if wr then 0x12 else 0x10, dst := d.arg0, ofs := d.arg1 % 2 ^ 20,
                          commit := wr && d.arg1.testBit 30, len := if wr then 4 * d.len else 4,
                          body := if wr then bufWords buf d.len else [BitVec.ofNat 32 d.len] }
      (none, s.request p (.ring r f.idx))

/-- PARMW: one parameter write inside the general part (R315). -/
def State.descParmw (s : State) (r : Nat) (buf : List Word) (dma : Bool) : State :=
  s.startDesc r (·.opc = 10)
    (fun d => d.len % 4 = 0 && decide (4 ≤ d.len ∧ d.len ≤ 256) && d.arg0 % 4 = 0 && decide (d.arg0 + d.len ≤ 0x1000)) dma
    fun f s => (some compDone, s.parmWrite (parmBase + f.d.arg0) (bufWords buf (f.d.len / 4)))

/-! ### Capture windows (R588 to R592) -/

/-- A descriptor of CAPRD that is running on window w. -/
def Flight.capReads (f : Flight) (w : Nat) : Bool := f.d.opc = 7 && f.started && f.comp.isNone && f.d.arg0 % 16 = w

/-- Whether a CAPRD of window w is running (R592). -/
def State.capReading (s : State) (w : Nat) : Bool := (List.range 16).any fun r => (s.ring r).infl.any (·.capReads w)

/-- The valid bytes of a window. -/
def State.winBytes (s : State) (w : Nat) : Nat := 4 * recsLen (s.win w).recs

/-- Window w freezes: its record waits for the capture ring (R591). Without a trigger the trigger's words are open. -/
def State.freeze (s : State) (w : Nat) : State :=
  let c := s.win w
  let valid := s.winBytes w
  let wrap := s.f (R.HST_CAP_STAT_WRAP w)
  let lost := BitVec.ofNat 32 (s.f (R.HST_CAP_STAT_LOST w))
  let head := BitVec.ofNat 32 (w + c.trg * 2 ^ 8 + wrap * 2 ^ 16)
  let len := [BitVec.ofNat 32 valid, BitVec.ofNat 32 (valid / 2 ^ 32)]
  let at_ := valid - c.trgOff
  let s := s.setF (R.HST_CAP_STAT_ST w) 3
  let (rec, s) : List Word × State :=
    if c.trg = 0 then
      let (a, s) := s.takeFree
      let (b, s) := s.takeFree
      let (x, s) := s.takeFree
      let (y, s) := s.takeFree
      (head :: a :: b :: len ++ [x, y, lost], s)
    else (head :: BitVec.ofNat 32 c.trgNs :: BitVec.ofNat 32 c.trgSec :: len ++
      [BitVec.ofNat 32 at_, BitVec.ofNat 32 (at_ / 2 ^ 32), lost], s)
  { s with hst := { s.hst with capWait := s.hst.capWait ++ [rec] } }

/-- CAPCTL: an action on the window of `ARG0`; STATE on a C0 part (R7). -/
def State.descCapctl (s : State) (r action : Nat) (go : Nat → State → Comp × State) : State :=
  s.startDesc r (fun d => d.opc = 6 && d.arg0 / 2 ^ 8 % 4 = action) (·.len = 0) false fun f s =>
    if s.part = .c0 then (some compState, s)
    else
      let x := go (f.d.arg0 % 16) s
      (some x.1, x.2)

/-- CAPCTL_ARM: not of a window that is off, armed, in its post-trigger part or being read. -/
def State.capArm (s : State) (r : Nat) : State :=
  s.descCapctl r 1 fun w s =>
    let st := s.f (R.HST_CAP_STAT_ST w)
    if !s.on (R.HST_CAP_CFG_EN w) || st = 1 || st = 2 || s.capReading w then (compState, s) else (compDone, s.winArm w)

/-- CAPCTL_TRIGGER: no effect on a window that is not armed or does not name the source. -/
def State.capTrig (s : State) (r : Nat) : State :=
  s.descCapctl r 2 fun w s => (compDone, if s.winHit w 2 then (s.winTrigger w 2).post 0x1101 w else s)

/-- CAPCTL_DISARM: the window freezes at once. -/
def State.capDisarm (s : State) (r : Nat) : State :=
  s.descCapctl r 3 fun w s =>
    (compDone, if s.f (R.HST_CAP_STAT_ST w) = 1 || s.f (R.HST_CAP_STAT_ST w) = 2 then s.freeze w else s)

/-- CAPTURE_FREEZE: the post-trigger part has been written. -/
def State.capFreeze (s : State) (w : Nat) : State :=
  if s.f (R.HST_CAP_STAT_ST w) = 2 && (s.win w).left = 0 then s.freeze w else s

/-- CAPRD starts on a frozen window. -/
def State.descCaprd (s : State) (r : Nat) : State :=
  s.startDesc r (·.opc = 7) (fun d => d.len % 4 = 0 && decide (d.len ≤ 2 ^ 22) && decide (d.arg0 < 16)) false fun f s =>
    if s.part = .c0 || s.f (R.HST_CAP_STAT_ST f.d.arg0) ≠ 3 then (some compState, s) else (none, s)

/-- The little-endian word at byte k of a list of words. -/
def byteWord (ws : List Word) (k : Nat) : Word :=
  if k % 4 = 0 then ws.getD (k / 4) 0
  else (ws.getD (k / 4) 0 >>> (8 * (k % 4))) ||| (ws.getD (k / 4 + 1) 0 <<< (32 - 8 * (k % 4)))

/-- Writes n bytes to host memory: the bytes of the last word beyond them stay. -/
def State.hostBytes (s : State) (a n : Nat) (ws : List Word) : State :=
  let k := n / 4
  let s := s.hostWrite a (bufWords ws k)
  if n % 4 = 0 then s
  else
    let m : Word := BitVec.ofNat 32 (2 ^ (8 * (n % 4)) - 1)
    s.hostWrite (a + 4 * k) [(s.hostWord (a + 4 * k) &&& ~~~m) ||| (ws.getD k 0 &&& m)]

/-- CAPRD_COMPLETE: the oldest CAPRD of ring r has read from its offset to the last valid byte or to its length. -/
def State.caprdDone (s : State) (r : Nat) (dma : Bool) : State :=
  match (s.ring r).infl.find? fun f => f.capReads (f.d.arg0 % 16) with
  | none => s
  | some f =>
    let w := f.d.arg0 % 16
    let off := f.d.arg1 + f.d.arg2 * 2 ^ 32
    let n := if s.f (R.HST_CAP_STAT_ST w) = 3 then min f.d.len (s.winBytes w - off) else 0
    if dma then (s.dmaError r).complete r f.idx compDma
    else
      let ws := (List.range (ceilDiv n 4)).map fun i => byteWord (s.winWords w) (off + 4 * i)
      (s.hostBytes f.d.addr n ws).complete r f.idx { status := 0, det0 := n }

/-! ### Event and capture rings (R583 to R585, R591) -/

/-- The phase of a record at a producer index. -/
def ringPhase (pi size : Nat) : Nat := if pi / size % 2 = 0 then 1 else 0

/-- EVENT_RECORD_WRITE: the oldest event held goes to the ring; EV_LOST follows when it is owed. -/
def State.eventWrite (s : State) : State :=
  match s.hst.held with
  | [] => s
  | e :: l =>
    let size := 2 ^ s.f R.HST_EVR_CFG_LOG2SZ
    let pi := s.f R.HST_EVR_STAT_PI
    if !s.live || !s.on R.HST_EVR_CFG_EN || (s.xing 11).inReset || decide (size ≤ ahead pi s.hst.evCons) then s
    else
      let base := s.f R.HST_EVR_BL_VAL + s.f R.HST_EVR_BH_VAL * 2 ^ 32
      let lost := s.hst.evLost
      let s := s.hostWrite (base + 32 * (pi % size)) (e.words (ringPhase pi size))
      let s := (s.setF R.HST_EVR_STAT_PI (pi + 1)).signal (s.f R.HST_EVR_CFG_VEC)
      let s : State := { s with hst := { s.hst with held := l, evLost := false, evDropped := false } }
      if lost then s.post 0x1103 0 else s

/-- CAPTURE_RING_WRITE: the oldest freeze record goes to the capture ring. -/
def State.captureWrite (s : State) : State :=
  match s.hst.capWait with
  | [] => s
  | ws :: l =>
    let size := 2 ^ s.f R.HST_CPR_CFG_LOG2SZ
    let pi := s.f R.HST_CPR_STAT_PI
    if !s.live || !s.on R.HST_CPR_CFG_EN || (s.xing 11).inReset || decide (size ≤ ahead pi s.hst.capCons) then s
    else
      let base := s.f R.HST_CPR_BL_VAL + s.f R.HST_CPR_BH_VAL * 2 ^ 32
      let ws := ws.take 7 ++ [(ws.getD 7 0) ||| BitVec.ofNat 32 (ringPhase pi size * 2 ^ 31)]
      let s := s.hostWrite (base + 32 * (pi % size)) ws
      let s := (s.setF R.HST_CPR_STAT_PI (pi + 1)).signal (s.f R.HST_CPR_CFG_VEC)
      { s with hst := { s.hst with capWait := l } }

/-- EVENT_RING_ENABLE: a BAR0 write of `HST_EVR_CFG` that changes `EN` alone. -/
def State.evRing (s : State) (en : Bool) : State := s.barWrite 0x11308 (R.HST_EVR_CFG_EN.put (s.reg 0x11308) (bit en))

/-- RING_DISABLE: a BAR0 write of `HST_RINGr_CFG` with `EN` = 0 (R573). -/
def State.ringOff (s : State) (r : Nat) : State :=
  s.barWrite (0x11110 + 32 * r) ((R.HST_RING_CFG_EN r).put (s.reg (0x11110 + 32 * r)) 0)

/-- INTERRUPT_MODERATION_EXPIRY: the signal held back in vector v is sent (R582). -/
def State.imodEnd (s : State) (v : Nat) : State :=
  let c := Tab.get (fun _ => ({} : VecSt)) s.hst.vecs v
  let due := match c.last with
    | none => true
    | some t => decide (t + s.f R.HST_IMOD_US * perUs ≤ s.tbp)
  if c.held && due then
    { s with hst := { s.hst with
      vecs := Tab.set (fun _ => {}) s.hst.vecs v { c with last := some s.tbp, sent := c.sent + 1, held := false } } }
  else s

/-! ### The PCIe reset (R566) -/

/-- The registers with `HST_` fields of access RW. -/
def hstRw : List Nat :=
  0x1100C :: 0x11300 :: 0x11304 :: 0x11308 :: 0x11320 :: 0x11324 :: 0x11328 :: 0x11500 ::
    (List.range 16).flatMap fun r => (List.range 5).map fun i => 0x11100 + 32 * r + 4 * i

/-- PCIE_RESET: the host side of crossing 11 is reset, every ring disabled and every `HST_` field of access RW at its reset
value; the completions of descriptors that have started are discarded and counted. -/
def State.pcieReset (s : State) : State :=
  let run := (List.range 16).foldl (fun a r => a + ((s.ring r).infl.filter (·.started)).length) 0
  let s := s.xReset 11
  let s := s.count (R.XDC_STAT_DISC 11) run
  let s := if s.on R.HST_EVR_CFG_EN then s.evrOff else s
  let s := s.each hstRw fun o s =>
    match RegMap.find o with
    | some r => s.setReg o (r.write (fun a => a = .rw) (s.reg o) (RegMap.resetWord o))
    | none => s
  let s := s.each (List.range 16) fun r s => (s.setRing r { s.ring r with infl := [] }).showRing r
  { s with hst := { s.hst with vecs := [] } }

/-! ### The Ethernet port (R597 to R600) -/

/-- The instant of a frame at its timestamp point: within the present TBP period, the rest of it open. -/
def State.frameTime (s : State) : Nat × State :=
  let (v, s) := s.takeFree
  (s.pt + v.toNat * (5 * 2 ^ 40) / 2 ^ 32, s)

/-- The detail words of a timestamp (R600). -/
def stampComp (t len : Nat) : Comp :=
  { status := 0, det0 := ptNs t + ptSec t % 4 * 2 ^ 30, det1 := ptFrac t + len % 2 ^ 15 * 2 ^ 16 }

/-- A timestamp is produced into crossing 17, which passes it on before the next frame can start (R599). -/
def State.stampCross (s : State) (t : Nat) : State := (s.xProduce 17 [t]).mailbox 17

/-- TXFRM starts: its frame is sent with an FCS added. -/
def State.descTxfrm (s : State) (r : Nat) (buf : List Word) (dma : Bool) : State :=
  s.startDesc r (·.opc = 8) (fun d => decide (60 ≤ d.len ∧ d.len ≤ 2044)) dma fun f s =>
    if !s.on R.HST_ETH_EN then (some compState, s)
    else (none, { s with hst := { s.hst with ethTx := s.hst.ethTx ++ [(f.d.len, bufWords buf (ceilDiv f.d.len 4))] } })

/-- FRAME_EGRESS: the oldest frame has left; its egress timestamp is corrected by `TXLAT` (0.25 ns). -/
def State.egress (s : State) : State :=
  match (s.ring 15).infl.find? fun f => f.d.opc = 8 && f.started && f.comp.isNone with
  | none => s
  | some f =>
    if f.d.arg0.testBit 0 then
      let (t, s) := s.frameTime
      let t := t + s.f R.HST_ETH_TXLAT * 2 ^ 39
      (s.stampCross t).complete 15 f.idx (stampComp t 0)
    else s.complete 15 f.idx compDone

/-- RXBUF starts and waits for a frame. -/
def State.descRxbuf (s : State) (r : Nat) : State :=
  s.startDesc r (·.opc = 9) (fun d => decide (2048 ≤ d.len)) false fun _ s => (none, s)

/-- ETH_FRAME_RECEIVE: a frame of `len` bytes without its FCS; the limit of 2,048 bytes counts the FCS. -/
def State.frameIn (s : State) (len : Nat) (fcsOk : Bool) (ws : List Word) (dma : Bool) : State :=
  if !s.live || !s.on R.HST_ETH_EN then s
  else
    let (t, s) := s.frameTime
    let t := t - s.f R.HST_ETH_RXLAT * 2 ^ 39
    let s := s.stampCross t
    if !fcsOk then s.count R.HST_ETHCNT_FCS 1
    else if 2048 < len + 4 then s.count R.HST_ETHCNT_RXDROP 1
    else
      match (s.ring 15).infl.find? fun f => f.d.opc = 9 && f.started && f.comp.isNone with
      | none => s.count R.HST_ETHCNT_RXDROP 1
      | some f =>
        if dma then (s.dmaError 15).complete 15 f.idx compDma
        else (s.hostBytes f.d.addr len ws).complete 15 f.idx (stampComp t len)

/-! ### The commands -/

def execCommandDoorbell (r : Fin 16) (i : BitVec 16) (s : State) : Out := .next (s.onMain (s.cmdBell r i.toNat))
def execCompletionDoorbell (r : Fin 16) (i : BitVec 16) (s : State) : Out := .next (s.onMain (s.compBell r i.toNat))
def execEventRingDoorbell (i : BitVec 16) (s : State) : Out := .next (s.onMain (s.evBell i.toNat))
def execCaptureRingDoorbell (i : BitVec 16) (s : State) : Out := .next (s.onMain (s.capBell i.toNat))
def execDescriptorFetch (r : Fin 16) (d : Desc) (dma : Bool) (s : State) : Out := .next (s.onMain (s.fetch r d dma))
def execNopDescriptor (r : Fin 16) (s : State) : Out := .next (s.onMain (s.descNop r))
def execSetw (r : Fin 16) (buf : List Word) (dma : Bool) (s : State) : Out := .next (s.onMain (s.descSetw r buf dma))
def execSetr (r : Fin 16) (dma : Bool) (s : State) : Out := .next (s.onMain (s.descSetr r dma))
def execPwmset (r : Fin 16) (buf : List Word) (dma : Bool) (s : State) : Out := .next (s.onMain (s.descPwmset r buf dma))
def execImgw (r : Fin 16) (buf : List Word) (dma : Bool) (s : State) : Out := .next (s.onMain (s.descImgw r buf dma))
def execLnktxWr (r : Fin 16) (buf : List Word) (dma : Bool) (s : State) : Out := .next (s.onMain (s.descLnktx r true buf dma))
def execLnktxRd (r : Fin 16) (s : State) : Out := .next (s.onMain (s.descLnktx r false [] false))
def execCapctlArm (r : Fin 16) (s : State) : Out := .next (s.onMain (s.capArm r))
def execCapctlTrigger (r : Fin 16) (s : State) : Out := .next (s.onMain (s.capTrig r))
def execCapctlDisarm (r : Fin 16) (s : State) : Out := .next (s.onMain (s.capDisarm r))
def execCaprd (r : Fin 16) (s : State) : Out := .next (s.onMain (s.descCaprd r))
def execCaprdComplete (r : Fin 16) (dma : Bool) (s : State) : Out := .next (s.onMain (s.caprdDone r dma))
def execTxfrm (r : Fin 16) (buf : List Word) (dma : Bool) (s : State) : Out := .next (s.onMain (s.descTxfrm r buf dma))
def execRxbuf (r : Fin 16) (s : State) : Out := .next (s.onMain (s.descRxbuf r))
def execParmw (r : Fin 16) (buf : List Word) (dma : Bool) (s : State) : Out := .next (s.onMain (s.descParmw r buf dma))
def execInterruptModerationExpiry (v : Fin 32) (s : State) : Out := .next (s.onMain (s.imodEnd v))
def execRingDisable (r : Fin 16) (s : State) : Out := .next (s.onMain (s.ringOff r))
def execRingIdle (r : Fin 16) (s : State) : Out := .next (s.onMain (s.showRing r))
def execPcieReset (s : State) : Out := .next (s.onMain s.pcieReset)
def execEventRingEnable (en : Bool) (s : State) : Out := .next (s.onMain (s.evRing en))
def execEventRecordWrite (s : State) : Out := .next (s.onMain s.eventWrite)
def execCaptureFreeze (w : Fin 16) (s : State) : Out := .next (s.onMain (s.capFreeze w))
def execCaptureRingWrite (s : State) : Out := .next (s.onMain s.captureWrite)
def execEthFrameReceive (len : Nat) (fcsOk : Bool) (ws : List Word) (dma : Bool) (s : State) : Out :=
  .next (s.onMain (s.frameIn len fcsOk ws dma))
def execFrameEgress (s : State) : Out := .next (s.onMain s.egress)
def execEthLinkChange (up : Bool) (s : State) : Out := .next (s.onMain (s.setF R.HST_ETH_LINK (bit up)))
def execImageWriteComplete (s : State) : Out := .next (s.onMain s.imageDone)

end Sys2Proof.Machine
end

