-- ==== Sys2Proof/Machine/LnkTxn.lean ====
section
/-! DEFINITION. Register transactions of Cewlink (R414, R416, R417, R434, R622): reads and writes at the addressee, and what
their responses or their failure do at the requester. -/

namespace Sys2Proof.Machine

/-! ### At the addressee -/

/-- RD: registers from `OFS`, as the path of Cewlink (R619, R627). -/
def State.regRead (s : State) (q : Packet) : State :=
  s.serve q fun s =>
    let n := (q.body.getD 0 0).toNat
    if q.len ≠ 4 || n = 0 || 64 < n || q.ofs % 4 ≠ 0 then s.answer q { ty := 0x11, status := 4 }
    else
      let v := State.readRegs n s (Path.key .link) q.ofs
      v.2.answer q { ty := 0x11, len := 4 * n, body := v.1 }

/-- The party a packet writes as (R491). -/
def Packet.writer (q : Packet) : Writer := if fromManager q then .manager else .link

/-- What register writes come to: the status, the state, whether the module has been reset, and whether an ARM among them goes
on. -/
structure WrRes where
  status : Status := .done
  st : State
  gone : Bool := false
  waits : Bool := false

/-- A WR with `COMMIT` = 0: each register is a commit of its own, until one is not DONE. The registers after an ARM whose test
runs are written without waiting for it. -/
def State.wrEach (who : Writer) (q : Packet) : Nat → List Word → WrRes → WrRes
  | _, [], r => r
  | off, v :: l, r =>
    let u := r.st.runUnit who (.link q) [(off, v)]
    let waits := r.waits || u.armWaits r.st
    if u.gone then { status := u.status, st := u.st, gone := true }
    else if u.status = .done then State.wrEach who q (off + 4) l { status := .done, st := u.st, waits := waits }
    else { status := u.status, st := u.st, waits := waits }

/-- The status of the registers after an ARM whose test runs is kept for its end (R622). -/
def State.armPost (s : State) (st : Status) : State :=
  match s.sys.arm with
  | some a => { s with sys := { s.sys with arm := some { a with post := st.code } } }
  | none => s

/-- WR: registers from `OFS`; AUTH where R434 asks for a manager. -/
def State.regWrite (s : State) (q : Packet) : State :=
  s.serve q fun s =>
    let n := q.body.length
    let r : WrRes :=
      if n = 0 || 64 < n || q.len ≠ 4 * n then { status := .format, st := s }
      else if q.commit then
        let u := s.runUnit (Packet.writer q) (.link q) ((List.range n).map fun i => (q.ofs + 4 * i, q.body.getD i 0))
        { status := u.status, st := u.st, gone := u.gone, waits := u.armWaits s }
      else
        let r := State.wrEach (Packet.writer q) q q.ofs q.body { st := s }
        if r.waits then { r with st := r.st.armPost r.status } else r
    if r.gone || r.waits then r.st else r.st.answer q { ty := 0x13, status := r.status.code }

/-! ### At the requester -/

/-- The descriptor of a request, while it is still in flight. -/
def State.flightOf (s : State) (r idx : Nat) : Option Flight :=
  (s.ring r).infl.find? fun f => f.idx = idx && f.comp.isNone

/-- A transaction of an admission has failed: the partner is new again (R432); a refused one stays refused. -/
def State.admitFail (s : State) (p step : Nat) : State :=
  if step = 6 then s else s.setPartner p { s.partner p with st := 1 }

/-- RDR: the values reach the host buffer of the descriptor, or the admission. -/
def State.readReply (s : State) (p : Packet) (dma : Bool) : State :=
  if !s.live || !s.mine p then s
  else
    match s.txnFor p with
    | none => s
    | some t =>
      if t.p.ty ≠ 0x10 then s
      else
        let s := s.dropTxn t
        match t.who with
        | .ring r i =>
          match s.flightOf r i with
          | none => s
          | some f =>
            if p.status ≠ 0 then s.complete r i { status := p.status, det0 := t.p.att + 1 }
            else if dma then (s.dmaError r).complete r i { compDma with det0 := t.p.att + 1 }
            else (s.hostWrite f.d.addr (bufWords p.body f.d.len)).complete r i { status := 0, det0 := t.p.att + 1 }
        | .admission x step => if p.status = 0 then s.admitRead x step p.body else s.admitFail x step
        | _ => s

/-- WRR: the status of the write. -/
def State.writeReply (s : State) (p : Packet) : State :=
  if !s.live || !s.mine p then s
  else
    match s.txnFor p with
    | none => s
    | some t =>
      if t.p.ty ≠ 0x12 then s
      else
        let s := s.dropTxn t
        match t.who with
        | .ring r i => s.complete r i { status := p.status, det0 := t.p.att + 1 }
        | .admission x step => if p.status = 0 then s.admitWrote x step else s.admitFail x step
        | .codeOff => s.codeStep
        | .nobody => s

/-- BACK: the acknowledge of a bulk packet. No command makes this module send one, so that no request waits for it. -/
def State.bulkReply (s : State) (p : Packet) : State :=
  if !s.live || !s.mine p then s
  else
    match s.txnFor p with
    | some t => if t.p.ty = 0x20 || t.p.ty = 0x21 then s.dropTxn t else s
    | none => s

/-- The port by which a request's last attempt left: the even attempts by Madder, the odd ones by Woad, or the other network
while that port is not up (R416). -/
def State.portOf (s : State) (p : Packet) : Nat :=
  let l := s.portsTo p.dst
  let own := l.find? fun n => n / 4 = p.att % 2
  match own with
  | some n => if s.portUp n then n else (l.find? (s.portUp ·)).getD n
  | none => 0

/-- LNK_TXN_TIMEOUT: the last attempt of the request with this tag has had no response for `TO` frames (R417). -/
def State.txnTimeout (s : State) (tag : Nat) : State :=
  match s.lnk.txns.find? fun t => t.p.tag = tag && t.sent && decide (s.f R.LNK_TXN_TO ≤ t.frames) with
  | none => s
  | some t =>
    if t.p.att < s.f R.LNK_TXN_RETRY then s
    else
      let n := s.portOf t.p
      let s := ((s.dropTxn t).count R.LNK_TXCNT_TMO 1).post 0x0C04 n n
      match t.who with
      | .ring r i => s.complete r i { status := 1, reason := 1, det0 := t.p.att + 1 }
      | .admission x step => s.admitFail x step
      | .codeOff => s.codeStep
      | .nobody => s

def execRd (p : Packet) (s : State) : Out := .next (s.onMain (s.regRead p))
def execWr (p : Packet) (s : State) : Out := .next (s.onMain (s.regWrite p))
def execRdr (p : Packet) (dma : Bool) (s : State) : Out := .next (s.onMain (s.readReply p dma))
def execWrr (p : Packet) (s : State) : Out := .next (s.onMain (s.writeReply p))
def execBack (p : Packet) (s : State) : Out := .next (s.onMain (s.bulkReply p))
def execLnkTxnTimeout (tag : BitVec 8) (s : State) : Out := .next (s.onMain (s.txnTimeout tag.toNat))

end Sys2Proof.Machine
end

