-- ==== Sys2Proof/Machine/Dispatch.lean ====
section
/-! DEFINITION. The one dispatch: each command of the module calls its meaning. -/

namespace Sys2Proof.Machine

/-- The effect of one command on everything but the queue. -/
def exec (i : Instr) (s : State) : Host.Outcome State Fault Refusal :=
  match i with
  | .lowWordRead p r => Sys2Proof.Machine.execLowWordRead p r s
  | .plantTimeRead p => Sys2Proof.Machine.execPlantTimeRead p s
  | .readWindowAdvance p => Sys2Proof.Machine.execReadWindowAdvance p s
  | .registerWrite off v => Sys2Proof.Machine.execRegisterWrite off v s
  | .unsupportedRequest bar2 addr len => Sys2Proof.Machine.execUnsupportedRequest bar2 addr len s
  | .paceWindowEnd cycles => Sys2Proof.Machine.execPaceWindowEnd cycles s
  | .sysPaceExtClr => Sys2Proof.Machine.execSysPaceExtClr s
  | .refMonitorWindow ok ratio => Sys2Proof.Machine.execRefMonitorWindow ok ratio s
  | .refLost => Sys2Proof.Machine.execRefLost s
  | .refOk => Sys2Proof.Machine.execRefOk s
  | .pllLock p => Sys2Proof.Machine.execPllLock p s
  | .pllUnlock p => Sys2Proof.Machine.execPllUnlock p s
  | .pllStableLock p => Sys2Proof.Machine.execPllStableLock p s
  | .coarseExit => Sys2Proof.Machine.execCoarseExit s
  | .ckoChange n => Sys2Proof.Machine.execCkoChange n s
  | .clkLossClr => Sys2Proof.Machine.execClkLossClr s
  | .ppsEdge => Sys2Proof.Machine.execPpsEdge s
  | .hostOffsetSubmit sec => Sys2Proof.Machine.execHostOffsetSubmit sec s
  | .servoSourceTimeout src => Sys2Proof.Machine.execServoSourceTimeout src s
  | .servoLock => Sys2Proof.Machine.execServoLock s
  | .servoLockLoss => Sys2Proof.Machine.execServoLockLoss s
  | .ptcMatch n => Sys2Proof.Machine.execPtcMatch n s
  | .mailboxTransfer x => Sys2Proof.Machine.execMailboxTransfer x s
  | .eventHandshake x => Sys2Proof.Machine.execEventHandshake x s
  | .fifoWordTransfer x ch act => Sys2Proof.Machine.execFifoWordTransfer x ch act s
  | .xdcResync x => Sys2Proof.Machine.execXdcResync x s
  | .xdcClr mask => Sys2Proof.Machine.execXdcClr mask s
  | .xdcOvrClear x => Sys2Proof.Machine.execXdcOvrClear x s
  | .timPtcLateClear mask => Sys2Proof.Machine.execTimPtcLateClear mask s
  | .carrierPeriodStart k => Sys2Proof.Machine.execCarrierPeriodStart k s
  | .carrierMidBoundary k => Sys2Proof.Machine.execCarrierMidBoundary k s
  | .carrierPeak k => Sys2Proof.Machine.execCarrierPeak k s
  | .latchPoint k => Sys2Proof.Machine.execLatchPoint k s
  | .pwmEdge m rise => Sys2Proof.Machine.execPwmEdge m rise s
  | .deadTimeExpiry m => Sys2Proof.Machine.execDeadTimeExpiry m s
  | .shadowWrite off v => Sys2Proof.Machine.execShadowWrite off v s
  | .pwmCommitGo => Sys2Proof.Machine.execPwmCommitGo s
  | .pwmCommitAbort => Sys2Proof.Machine.execPwmCommitAbort s
  | .pwmShadowDrop => Sys2Proof.Machine.execPwmShadowDrop s
  | .pwmStatClr => Sys2Proof.Machine.execPwmStatClr s
  | .pwmShStatDropClear => Sys2Proof.Machine.execPwmShStatDropClear s
  | .atcWindowOpen n => Sys2Proof.Machine.execAtcWindowOpen n s
  | .atcWindowClose n => Sys2Proof.Machine.execAtcWindowClose n s
  | .atcMissClear mask => Sys2Proof.Machine.execAtcMissClear mask s
  | .gdfLandChange n high => Sys2Proof.Machine.execGdfLandChange n high s
  | .gdfFaultAssert n => Sys2Proof.Machine.execGdfFaultAssert n s
  | .softOffStage leg stage => Sys2Proof.Machine.execSoftOffStage leg stage s
  | .gdiBscntClr => Sys2Proof.Machine.execGdiBscntClr s
  | .tripSourceAssert src => Sys2Proof.Machine.execTripSourceAssert src s
  | .tripFilterExpiry src => Sys2Proof.Machine.execTripFilterExpiry src s
  | .tripSourceRelease src => Sys2Proof.Machine.execTripSourceRelease src s
  | .blankingMaxExpiry n => Sys2Proof.Machine.execBlankingMaxExpiry n s
  | .latchClear g => Sys2Proof.Machine.execLatchClear g s
  | .trpGrpCntClr g => Sys2Proof.Machine.execTrpGrpCntClr g s
  | .comparatorOutputChange n v => Sys2Proof.Machine.execComparatorOutputChange n v s
  | .comparatorDecision n v => Sys2Proof.Machine.execComparatorDecision n v s
  | .cmpChkfClear mask => Sys2Proof.Machine.execCmpChkfClear mask s
  | .adcCalibrationComplete failed => Sys2Proof.Machine.execAdcCalibrationComplete failed s
  | .rotationStep => Sys2Proof.Machine.execRotationStep s
  | .sliceHandover => Sys2Proof.Machine.execSliceHandover s
  | .sliceCalibrationComplete ok => Sys2Proof.Machine.execSliceCalibrationComplete ok s
  | .conversionTimeout lane => Sys2Proof.Machine.execConversionTimeout lane s
  | .converterTrigger seq => Sys2Proof.Machine.execConverterTrigger seq s
  | .conversionEnd lane v => Sys2Proof.Machine.execConversionEnd lane v s
  | .queuedRunStart seq => Sys2Proof.Machine.execQueuedRunStart seq s
  | .monitorIssue => Sys2Proof.Machine.execMonitorIssue s
  | .adcSwtrig mask => Sys2Proof.Machine.execAdcSwtrig mask s
  | .adcDropClr => Sys2Proof.Machine.execAdcDropClr s
  | .adcOvrlClear mask => Sys2Proof.Machine.execAdcOvrlClear mask s
  | .adcMonlossClear => Sys2Proof.Machine.execAdcMonlossClear s
  | .nop x => Sys2Proof.Machine.execNop x s
  | .endLane x => Sys2Proof.Machine.execEndLane x s
  | .bar x => Sys2Proof.Machine.execBar x s
  | .barRelease mask => Sys2Proof.Machine.execBarRelease mask s
  | .wne x => Sys2Proof.Machine.execWne x s
  | .wneWake lane => Sys2Proof.Machine.execWneWake lane s
  | .lid x => Sys2Proof.Machine.execLid x s
  | .flg x => Sys2Proof.Machine.execFlg x s
  | .br x => Sys2Proof.Machine.execBr x s
  | .call x => Sys2Proof.Machine.execCall x s
  | .ret x => Sys2Proof.Machine.execRet x s
  | .loop x => Sys2Proof.Machine.execLoop x s
  | .add x => Sys2Proof.Machine.execAdd x s
  | .sub x => Sys2Proof.Machine.execSub x s
  | .and x => Sys2Proof.Machine.execAnd x s
  | .or x => Sys2Proof.Machine.execOr x s
  | .xor x => Sys2Proof.Machine.execXor x s
  | .shl x => Sys2Proof.Machine.execShl x s
  | .shr x => Sys2Proof.Machine.execShr x s
  | .sar x => Sys2Proof.Machine.execSar x s
  | .min x => Sys2Proof.Machine.execMin x s
  | .max x => Sys2Proof.Machine.execMax x s
  | .abs x => Sys2Proof.Machine.execAbs x s
  | .sat x => Sys2Proof.Machine.execSat x s
  | .movi x => Sys2Proof.Machine.execMovi x s
  | .qmul x => Sys2Proof.Machine.execQmul x s
  | .qadd x => Sys2Proof.Machine.execQadd x s
  | .qsub x => Sys2Proof.Machine.execQsub x s
  | .qneg x => Sys2Proof.Machine.execQneg x s
  | .qmac x => Sys2Proof.Machine.execQmac x s
  | .qmsu x => Sys2Proof.Machine.execQmsu x s
  | .accrd x => Sys2Proof.Machine.execAccrd x s
  | .accld x => Sys2Proof.Machine.execAccld x s
  | .imac x => Sys2Proof.Machine.execImac x s
  | .fadd x => Sys2Proof.Machine.execFadd x s
  | .fsub x => Sys2Proof.Machine.execFsub x s
  | .fmul x => Sys2Proof.Machine.execFmul x s
  | .fma x => Sys2Proof.Machine.execFma x s
  | .fcmp x => Sys2Proof.Machine.execFcmp x s
  | .fdiv x => Sys2Proof.Machine.execFdiv x s
  | .fsqrt x => Sys2Proof.Machine.execFsqrt x s
  | .fcvtq x => Sys2Proof.Machine.execFcvtq x s
  | .fcvtf x => Sys2Proof.Machine.execFcvtf x s
  | .fcvti x => Sys2Proof.Machine.execFcvti x s
  | .fcvtfi x => Sys2Proof.Machine.execFcvtfi x s
  | .sincos x => Sys2Proof.Machine.execSincos x s
  | .atan2 x => Sys2Proof.Machine.execAtan2 x s
  | .ld x => Sys2Proof.Machine.execLd x s
  | .st x => Sys2Proof.Machine.execSt x s
  | .ld2 x => Sys2Proof.Machine.execLd2 x s
  | .st2 x => Sys2Proof.Machine.execSt2 x s
  | .ldq x => Sys2Proof.Machine.execLdq x s
  | .ups x => Sys2Proof.Machine.execUps x s
  | .updateSetAcknowledge => Sys2Proof.Machine.execUpdateSetAcknowledge s
  | .evt x => Sys2Proof.Machine.execEvt x s
  | .trq x => Sys2Proof.Machine.execTrq x s
  | .swr x => Sys2Proof.Machine.execSwr x s
  | .swrCompletion lane => Sys2Proof.Machine.execSwrCompletion lane s
  | .clarke x => Sys2Proof.Machine.execClarke x s
  | .park x => Sys2Proof.Machine.execPark x s
  | .ipark x => Sys2Proof.Machine.execIpark x s
  | .piStep x => Sys2Proof.Machine.execPiStep x s
  | .sogifll x => Sys2Proof.Machine.execSogifll x s
  | .seqsep x => Sys2Proof.Machine.execSeqsep x s
  | .svm x => Sys2Proof.Machine.execSvm x s
  | .biquad x => Sys2Proof.Machine.execBiquad x s
  | .corr x => Sys2Proof.Machine.execCorr x s
  | .mpptpo x => Sys2Proof.Machine.execMpptpo x s
  | .mpptic x => Sys2Proof.Machine.execMpptic x s
  | .pq x => Sys2Proof.Machine.execPq x s
  | .msq x => Sys2Proof.Machine.execMsq x s
  | .ramp x => Sys2Proof.Machine.execRamp x s
  | .parityRefetchComplete lane => Sys2Proof.Machine.execParityRefetchComplete lane s
  | .ceCycleStart => Sys2Proof.Machine.execCeCycleStart s
  | .commitArrival => Sys2Proof.Machine.execCommitArrival s
  | .deadlineExpiry => Sys2Proof.Machine.execDeadlineExpiry s
  | .ceMiss => Sys2Proof.Machine.execCeMiss s
  | .initTimeout => Sys2Proof.Machine.execInitTimeout s
  | .ceReset => Sys2Proof.Machine.execCeReset s
  | .ceActivate slot => Sys2Proof.Machine.execCeActivate slot s
  | .imageVerificationComplete => Sys2Proof.Machine.execImageVerificationComplete s
  | .imageLoadComplete => Sys2Proof.Machine.execImageLoadComplete s
  | .bootImageLoad => Sys2Proof.Machine.execBootImageLoad s
  | .keyLoadWrite who n v => Sys2Proof.Machine.execKeyLoadWrite who n v s
  | .keyInstall who slot => Sys2Proof.Machine.execKeyInstall who slot s
  | .keyErase who slot => Sys2Proof.Machine.execKeyErase who slot s
  | .ceMissClr => Sys2Proof.Machine.execCeMissClr s
  | .ceChkClr => Sys2Proof.Machine.execCeChkClr s
  | .ceDurmaxClr => Sys2Proof.Machine.execCeDurmaxClr s
  | .gridEvaluation => Sys2Proof.Machine.execGridEvaluation s
  | .gridStale => Sys2Proof.Machine.execGridStale s
  | .curvePointTimerExpiry c k => Sys2Proof.Machine.execCurvePointTimerExpiry c k s
  | .rideExit => Sys2Proof.Machine.execRideExit s
  | .islRocof => Sys2Proof.Machine.execIslRocof s
  | .islActive => Sys2Proof.Machine.execIslActive s
  | .codePeriodBoundary => Sys2Proof.Machine.execCodePeriodBoundary s
  | .enterServiceTimer => Sys2Proof.Machine.execEnterServiceTimer s
  | .grdCntClr => Sys2Proof.Machine.execGrdCntClr s
  | .symbolLock n => Sys2Proof.Machine.execSymbolLock n s
  | .trainingSequenceComplete n far ts => Sys2Proof.Machine.execTrainingSequenceComplete n far ts s
  | .miswireRetry n => Sys2Proof.Machine.execMiswireRetry n s
  | .lnkUp n => Sys2Proof.Machine.execLnkUp n s
  | .lnkDown n los => Sys2Proof.Machine.execLnkDown n los s
  | .retrainStart n => Sys2Proof.Machine.execRetrainStart n s
  | .downFrame g => Sys2Proof.Machine.execDownFrame g s
  | .upFrame g => Sys2Proof.Machine.execUpFrame g s
  | .rd p => Sys2Proof.Machine.execRd p s
  | .rdr p dma => Sys2Proof.Machine.execRdr p dma s
  | .wr p => Sys2Proof.Machine.execWr p s
  | .wrr p => Sys2Proof.Machine.execWrr p s
  | .parw p => Sys2Proof.Machine.execParw p s
  | .bopen p => Sys2Proof.Machine.execBopen p s
  | .bdata p => Sys2Proof.Machine.execBdata p s
  | .back p => Sys2Proof.Machine.execBack p s
  | .alarmPacket p => Sys2Proof.Machine.execAlarmPacket p s
  | .logPacket p => Sys2Proof.Machine.execLogPacket p s
  | .tracePacket p => Sys2Proof.Machine.execTracePacket p s
  | .tripRep p => Sys2Proof.Machine.execTripRep p s
  | .packetRelay p => Sys2Proof.Machine.execPacketRelay p s
  | .txnResend tag => Sys2Proof.Machine.execTxnResend tag s
  | .lnkTxnTimeout tag => Sys2Proof.Machine.execLnkTxnTimeout tag s
  | .bulkTimeout b => Sys2Proof.Machine.execBulkTimeout b s
  | .nofrm n => Sys2Proof.Machine.execNofrm n s
  | .lnkErrClr n => Sys2Proof.Machine.execLnkErrClr n s
  | .lnkTxcnt2Clr => Sys2Proof.Machine.execLnkTxcnt2Clr s
  | .partnerLost p => Sys2Proof.Machine.execPartnerLost p s
  | .admissionStart => Sys2Proof.Machine.execAdmissionStart s
  | .partnerForget => Sys2Proof.Machine.execPartnerForget s
  | .phaseOffsetChange => Sys2Proof.Machine.execPhaseOffsetChange s
  | .phaseRebalance => Sys2Proof.Machine.execPhaseRebalance s
  | .plantCodeChange => Sys2Proof.Machine.execPlantCodeChange s
  | .relayHoldExpiry => Sys2Proof.Machine.execRelayHoldExpiry s
  | .pltDrop1Clr => Sys2Proof.Machine.execPltDrop1Clr s
  | .eventRecordWrite => Sys2Proof.Machine.execEventRecordWrite s
  | .safetyCycle sb beat lenOk nodes => Sys2Proof.Machine.execSafetyCycle sb beat lenOk nodes s
  | .outputSwitchOff sb => Sys2Proof.Machine.execOutputSwitchOff sb s
  | .selfTestComplete ok => Sys2Proof.Machine.execSelfTestComplete ok s
  | .safetyRecordWrite => Sys2Proof.Machine.execSafetyRecordWrite s
  | .safetyRecordAgeUpdate => Sys2Proof.Machine.execSafetyRecordAgeUpdate s
  | .outputOffPulse sb n => Sys2Proof.Machine.execOutputOffPulse sb n s
  | .offPulseEnd sb n followed => Sys2Proof.Machine.execOffPulseEnd sb n followed s
  | .outOc sb n => Sys2Proof.Machine.execOutOc sb n s
  | .outOpen sb n => Sys2Proof.Machine.execOutOpen sb n s
  | .fb sb n low => Sys2Proof.Machine.execFb sb n low s
  | .safCmdTest => Sys2Proof.Machine.execSafCmdTest s
  | .isolationTestOpenTime a117 a118 b117 b118 => Sys2Proof.Machine.execIsolationTestOpenTime a117 a118 b117 b118 s
  | .isolationTestSample sb codes fb => Sys2Proof.Machine.execIsolationTestSample sb codes fb s
  | .isolationTestEnd a117 a118 b117 b118 => Sys2Proof.Machine.execIsolationTestEnd a117 a118 b117 b118 s
  | .safTestDue => Sys2Proof.Machine.execSafTestDue s
  | .testOverdue => Sys2Proof.Machine.execTestOverdue s
  | .filteredInputChange sb x high => Sys2Proof.Machine.execFilteredInputChange sb x high s
  | .testPulse sb stay fell => Sys2Proof.Machine.execTestPulse sb stay fell s
  | .disc sb k => Sys2Proof.Machine.execDisc sb k s
  | .acknowledge ms => Sys2Proof.Machine.execAcknowledge ms s
  | .safAckStuck => Sys2Proof.Machine.execSafAckStuck s
  | .safCmdAck who => Sys2Proof.Machine.execSafCmdAck who s
  | .netMismatch sb => Sys2Proof.Machine.execNetMismatch sb s
  | .netLoss sb => Sys2Proof.Machine.execNetLoss sb s
  | .safSingle sb => Sys2Proof.Machine.execSafSingle sb s
  | .belayStageWrite who off v => Sys2Proof.Machine.execBelayStageWrite who off v s
  | .belayStageTimeout => Sys2Proof.Machine.execBelayStageTimeout s
  | .safBlyProp who cv => Sys2Proof.Machine.execSafBlyProp who cv s
  | .safBlyConf who cv => Sys2Proof.Machine.execSafBlyConf who cv s
  | .comkeyRelease ms => Sys2Proof.Machine.execComkeyRelease ms s
  | .belayPendingTimeout => Sys2Proof.Machine.execBelayPendingTimeout s
  | .belayEffective => Sys2Proof.Machine.execBelayEffective s
  | .belayAbort who => Sys2Proof.Machine.execBelayAbort who s
  | .safCntClr => Sys2Proof.Machine.execSafCntClr s
  | .cycleWindowEnd => Sys2Proof.Machine.execCycleWindowEnd s
  | .pulseCount k active ms => Sys2Proof.Machine.execPulseCount k active ms s
  | .tallyCommit => Sys2Proof.Machine.execTallyCommit s
  | .tallyWriteComplete => Sys2Proof.Machine.execTallyWriteComplete s
  | .finalCommitComplete => Sys2Proof.Machine.execFinalCommitComplete s
  | .mtrCtlSnap => Sys2Proof.Machine.execMtrCtlSnap s
  | .mtrCtlClr => Sys2Proof.Machine.execMtrCtlClr s
  | .mtrCntClr => Sys2Proof.Machine.execMtrCntClr s
  | .mtrTlostClear => Sys2Proof.Machine.execMtrTlostClear s
  | .bivouacPowerOn hvst cell => Sys2Proof.Machine.execBivouacPowerOn hvst cell s
  | .bivouacPowerOff => Sys2Proof.Machine.execBivouacPowerOff s
  | .burstCutOff => Sys2Proof.Machine.execBurstCutOff s
  | .burstReconnect => Sys2Proof.Machine.execBurstReconnect s
  | .cellSwitch => Sys2Proof.Machine.execCellSwitch s
  | .storeReturn => Sys2Proof.Machine.execStoreReturn s
  | .supervisorSample hvst cell => Sys2Proof.Machine.execSupervisorSample hvst cell s
  | .burstEnd hvst => Sys2Proof.Machine.execBurstEnd hvst s
  | .vocSample => Sys2Proof.Machine.execVocSample s
  | .vocSampleEnd mv => Sys2Proof.Machine.execVocSampleEnd mv s
  | .irradianceMeasurement hvst cell => Sys2Proof.Machine.execIrradianceMeasurement hvst cell s
  | .irradianceMeasurementEnd isc => Sys2Proof.Machine.execIrradianceMeasurementEnd isc s
  | .wakeRelease => Sys2Proof.Machine.execWakeRelease s
  | .bivouacRecordCommit hvst cell => Sys2Proof.Machine.execBivouacRecordCommit hvst cell s
  | .realTimeSet hi => Sys2Proof.Machine.execRealTimeSet hi s
  | .realTimeLoad => Sys2Proof.Machine.execRealTimeLoad s
  | .realTimeSync => Sys2Proof.Machine.execRealTimeSync s
  | .cairnWriteStart => Sys2Proof.Machine.execCairnWriteStart s
  | .cairnWriteComplete => Sys2Proof.Machine.execCairnWriteComplete s
  | .cairnRestore badA badB => Sys2Proof.Machine.execCairnRestore badA badB s
  | .cairnFactoryReset => Sys2Proof.Machine.execCairnFactoryReset s
  | .holdupCheck v => Sys2Proof.Machine.execHoldupCheck v s
  | .holdupRecheck v => Sys2Proof.Machine.execHoldupRecheck v s
  | .supplyFailure => Sys2Proof.Machine.execSupplyFailure s
  | .supplyRecovery => Sys2Proof.Machine.execSupplyRecovery s
  | .huweakClear => Sys2Proof.Machine.execHuweakClear s
  | .bvqUnderClear => Sys2Proof.Machine.execBvqUnderClear s
  | .commandDoorbell r n => Sys2Proof.Machine.execCommandDoorbell r n s
  | .completionDoorbell r n => Sys2Proof.Machine.execCompletionDoorbell r n s
  | .eventRingDoorbell n => Sys2Proof.Machine.execEventRingDoorbell n s
  | .captureRingDoorbell n => Sys2Proof.Machine.execCaptureRingDoorbell n s
  | .descriptorFetch r d dma => Sys2Proof.Machine.execDescriptorFetch r d dma s
  | .nopDescriptor r => Sys2Proof.Machine.execNopDescriptor r s
  | .setw r buf dma => Sys2Proof.Machine.execSetw r buf dma s
  | .setr r dma => Sys2Proof.Machine.execSetr r dma s
  | .pwmset r buf dma => Sys2Proof.Machine.execPwmset r buf dma s
  | .imgw r buf dma => Sys2Proof.Machine.execImgw r buf dma s
  | .lnktxWr r buf dma => Sys2Proof.Machine.execLnktxWr r buf dma s
  | .lnktxRd r => Sys2Proof.Machine.execLnktxRd r s
  | .capctlArm r => Sys2Proof.Machine.execCapctlArm r s
  | .capctlTrigger r => Sys2Proof.Machine.execCapctlTrigger r s
  | .capctlDisarm r => Sys2Proof.Machine.execCapctlDisarm r s
  | .caprd r => Sys2Proof.Machine.execCaprd r s
  | .txfrm r buf dma => Sys2Proof.Machine.execTxfrm r buf dma s
  | .rxbuf r => Sys2Proof.Machine.execRxbuf r s
  | .parmw r buf dma => Sys2Proof.Machine.execParmw r buf dma s
  | .interruptModerationExpiry v => Sys2Proof.Machine.execInterruptModerationExpiry v s
  | .ringDisable r => Sys2Proof.Machine.execRingDisable r s
  | .ringIdle r => Sys2Proof.Machine.execRingIdle r s
  | .pcieReset => Sys2Proof.Machine.execPcieReset s
  | .eventRingEnable en => Sys2Proof.Machine.execEventRingEnable en s
  | .captureFreeze w => Sys2Proof.Machine.execCaptureFreeze w s
  | .captureRingWrite => Sys2Proof.Machine.execCaptureRingWrite s
  | .ethFrameReceive len fcsOk ws dma => Sys2Proof.Machine.execEthFrameReceive len fcsOk ws dma s
  | .frameEgress => Sys2Proof.Machine.execFrameEgress s
  | .hstEthcntClr => Sys2Proof.Machine.execHstEthcntClr s
  | .hstErrClear mask => Sys2Proof.Machine.execHstErrClear mask s
  | .arm => Sys2Proof.Machine.execArm s
  | .connect => Sys2Proof.Machine.execConnect s
  | .stop => Sys2Proof.Machine.execStop s
  | .clear => Sys2Proof.Machine.execClear s
  | .trip => Sys2Proof.Machine.execTrip s
  | .reset => Sys2Proof.Machine.execReset s
  | .automaticRequest => Sys2Proof.Machine.execAutomaticRequest s
  | .automaticClear => Sys2Proof.Machine.execAutomaticClear s
  | .tcloseExpiry => Sys2Proof.Machine.execTcloseExpiry s
  | .nrstAssert ns => Sys2Proof.Machine.execNrstAssert ns s
  | .nrstRelease => Sys2Proof.Machine.execNrstRelease s
  | .bootComplete => Sys2Proof.Machine.execBootComplete s
  | .losDeasserted n => Sys2Proof.Machine.execLosDeasserted n s
  | .samplingInstant lane => Sys2Proof.Machine.execSamplingInstant lane s
  | .notchEdge m => Sys2Proof.Machine.execNotchEdge m s
  | .ethLinkChange up => Sys2Proof.Machine.execEthLinkChange up s
  | .imageWriteComplete => Sys2Proof.Machine.execImageWriteComplete s
  | .caprdComplete r dma => Sys2Proof.Machine.execCaprdComplete r dma s
  | .railOutOfRange inRange => Sys2Proof.Machine.execRailOutOfRange inRange s

end Sys2Proof.Machine
end

