-- ==== Sys2Proof/WellFormed.lean ====
section
/-! DEFINITION. Which commands can come about: the widths of what they bring where a type does not bound it (R399, R412, R563,
R574). No meaning asks for it; a command that fails it stands for nothing outside the module. -/

namespace Sys2Proof

/-- A word-aligned offset of BAR0 (R562, R563). -/
def regOff (off : Nat) : Bool := off % 4 = 0 && decide (off < 2 ^ 20)

/-- The widths of R574. -/
def Desc.wf (d : Desc) : Bool :=
  decide (d.opc < 2 ^ 8 ∧ d.tag < 2 ^ 16 ∧ d.len < 2 ^ 32 ∧ d.addr < 2 ^ 64 ∧ d.arg0 < 2 ^ 32 ∧ d.arg1 < 2 ^ 32 ∧
    d.arg2 < 2 ^ 32 ∧ d.arg3 < 2 ^ 32)

/-- The widths of R412, and a payload as long as `LEN` says. -/
def Packet.wf (p : Packet) : Bool :=
  decide (p.ty < 2 ^ 8 ∧ p.cls ≤ 4 ∧ p.status ≤ 4 ∧ p.len ≤ 256 ∧ p.tgt < 2 ^ 7 ∧ p.dst < 2 ^ 32 ∧ p.src < 2 ^ 32 ∧
    p.ofs < 2 ^ 20 ∧ p.tag < 2 ^ 8 ∧ p.att < 4 ∧ p.len = 4 * p.body.length)

/-- A frame's header has seven words, and no group more than 257 (R399). -/
def LinkFrame.wf (f : LinkFrame) : Bool :=
  decide (f.hdr.body.length ≤ 7) && (f.saf ++ f.cyc).all fun g => decide (g.body.length ≤ 257)

/-- Whether a command can come about. -/
def Instr.wf (i : Instr) : Bool :=
  match i with
  | .registerWrite off _ => regOff off
  | .unsupportedRequest _ addr len => decide (len ≠ 4 ∨ addr % 4 ≠ 0)
  | .shadowWrite off _ => regOff off
  | .trainingSequenceComplete _ far _ => decide (far.val ≠ 0)
  | .downFrame g => g.f.wf
  | .upFrame g => g.f.wf
  | .rd p => p.wf
  | .rdr p _ => p.wf
  | .wr p => p.wf
  | .wrr p => p.wf
  | .parw p => p.wf
  | .bopen p => p.wf
  | .bdata p => p.wf
  | .back p => p.wf
  | .alarmPacket p => p.wf
  | .logPacket p => p.wf
  | .tracePacket p => p.wf
  | .tripRep p => p.wf
  | .packetRelay p => p.wf
  | .belayStageWrite _ off _ => regOff off
  | .descriptorFetch _ d _ => d.wf
  | .ethFrameReceive len _ ws _ => decide (ws.length = ceilDiv len 4)
  | .lowWordRead _ _ | .plantTimeRead _ | .readWindowAdvance _ | .paceWindowEnd _ | .sysPaceExtClr
  | .refMonitorWindow _ _ | .refLost | .refOk | .pllLock _ | .pllUnlock _ | .pllStableLock _ | .coarseExit
  | .ckoChange _ | .clkLossClr | .ppsEdge | .hostOffsetSubmit _ | .servoSourceTimeout _ | .servoLock
  | .servoLockLoss | .ptcMatch _ | .mailboxTransfer _ | .eventHandshake _ | .fifoWordTransfer _ _ _ | .xdcResync _
  | .xdcClr _ | .xdcOvrClear _ | .timPtcLateClear _ | .carrierPeriodStart _ | .carrierMidBoundary _
  | .carrierPeak _ | .latchPoint _ | .pwmEdge _ _ | .deadTimeExpiry _ | .pwmCommitGo | .pwmCommitAbort
  | .pwmShadowDrop | .pwmStatClr | .pwmShStatDropClear | .atcWindowOpen _ | .atcWindowClose _ | .atcMissClear _
  | .gdfLandChange _ _ | .gdfFaultAssert _ | .softOffStage _ _ | .gdiBscntClr | .tripSourceAssert _
  | .tripFilterExpiry _ | .tripSourceRelease _ | .blankingMaxExpiry _ | .latchClear _ | .trpGrpCntClr _
  | .comparatorOutputChange _ _ | .comparatorDecision _ _ | .cmpChkfClear _ | .adcCalibrationComplete _
  | .rotationStep | .sliceHandover | .sliceCalibrationComplete _ | .conversionTimeout _ | .converterTrigger _
  | .conversionEnd _ _ | .queuedRunStart _ | .monitorIssue | .adcSwtrig _ | .adcDropClr | .adcOvrlClear _
  | .adcMonlossClear | .nop _ | .endLane _ | .bar _ | .barRelease _ | .wne _ | .wneWake _ | .lid _ | .flg _ | .br _
  | .call _ | .ret _ | .loop _ | .add _ | .sub _ | .and _ | .or _ | .xor _ | .shl _ | .shr _ | .sar _ | .min _
  | .max _ | .abs _ | .sat _ | .movi _ | .qmul _ | .qadd _ | .qsub _ | .qneg _ | .qmac _ | .qmsu _ | .accrd _
  | .accld _ | .imac _ | .fadd _ | .fsub _ | .fmul _ | .fma _ | .fcmp _ | .fdiv _ | .fsqrt _ | .fcvtq _ | .fcvtf _
  | .fcvti _ | .fcvtfi _ | .sincos _ | .atan2 _ | .ld _ | .st _ | .ld2 _ | .st2 _ | .ldq _ | .ups _
  | .updateSetAcknowledge | .evt _ | .trq _ | .swr _ | .swrCompletion _ | .clarke _ | .park _ | .ipark _
  | .piStep _ | .sogifll _ | .seqsep _ | .svm _ | .biquad _ | .corr _ | .mpptpo _ | .mpptic _ | .pq _ | .msq _
  | .ramp _ | .parityRefetchComplete _ | .ceCycleStart | .commitArrival | .deadlineExpiry | .ceMiss | .initTimeout
  | .ceReset | .ceActivate _ | .imageVerificationComplete | .imageLoadComplete | .bootImageLoad
  | .keyLoadWrite _ _ _ | .keyInstall _ _ | .keyErase _ _ | .ceMissClr | .ceChkClr | .ceDurmaxClr | .gridEvaluation
  | .gridStale | .curvePointTimerExpiry _ _ | .rideExit | .islRocof | .islActive | .codePeriodBoundary
  | .enterServiceTimer | .grdCntClr | .symbolLock _ | .miswireRetry _ | .lnkUp _ | .lnkDown _ _ | .retrainStart _
  | .txnResend _ | .lnkTxnTimeout _ | .bulkTimeout _ | .nofrm _ | .lnkErrClr _ | .lnkTxcnt2Clr | .partnerLost _
  | .admissionStart | .partnerForget | .phaseOffsetChange | .phaseRebalance | .plantCodeChange | .relayHoldExpiry
  | .pltDrop1Clr | .eventRecordWrite | .safetyCycle _ _ _ _ | .outputSwitchOff _ | .selfTestComplete _
  | .safetyRecordWrite | .safetyRecordAgeUpdate | .outputOffPulse _ _ | .offPulseEnd _ _ _ | .outOc _ _
  | .outOpen _ _ | .fb _ _ _ | .safCmdTest | .isolationTestOpenTime _ _ _ _ | .isolationTestSample _ _ _
  | .isolationTestEnd _ _ _ _ | .safTestDue | .testOverdue | .filteredInputChange _ _ _ | .testPulse _ _ _
  | .disc _ _ | .acknowledge _ | .safAckStuck | .safCmdAck _ | .netMismatch _ | .netLoss _ | .safSingle _
  | .belayStageTimeout | .safBlyProp _ _ | .safBlyConf _ _ | .comkeyRelease _ | .belayPendingTimeout
  | .belayEffective | .belayAbort _ | .safCntClr | .cycleWindowEnd | .pulseCount _ _ _ | .tallyCommit
  | .tallyWriteComplete | .finalCommitComplete | .mtrCtlSnap | .mtrCtlClr | .mtrCntClr | .mtrTlostClear
  | .bivouacPowerOn _ _ | .bivouacPowerOff | .burstCutOff | .burstReconnect | .cellSwitch | .storeReturn
  | .supervisorSample _ _ | .burstEnd _ | .vocSample | .vocSampleEnd _ | .irradianceMeasurement _ _
  | .irradianceMeasurementEnd _ | .wakeRelease | .bivouacRecordCommit _ _ | .realTimeSet _ | .realTimeLoad
  | .realTimeSync | .cairnWriteStart | .cairnWriteComplete | .cairnRestore _ _ | .cairnFactoryReset
  | .holdupCheck _ | .holdupRecheck _ | .supplyFailure | .supplyRecovery | .huweakClear | .bvqUnderClear
  | .commandDoorbell _ _ | .completionDoorbell _ _ | .eventRingDoorbell _ | .captureRingDoorbell _
  | .nopDescriptor _ | .setw _ _ _ | .setr _ _ | .pwmset _ _ _ | .imgw _ _ _ | .lnktxWr _ _ _ | .lnktxRd _
  | .capctlArm _ | .capctlTrigger _ | .capctlDisarm _ | .caprd _ | .txfrm _ _ _ | .rxbuf _ | .parmw _ _ _
  | .interruptModerationExpiry _ | .ringDisable _ | .ringIdle _ | .pcieReset | .eventRingEnable _
  | .captureFreeze _ | .captureRingWrite | .frameEgress | .hstEthcntClr | .hstErrClear _ | .arm | .connect | .stop
  | .clear | .trip | .reset | .automaticRequest | .automaticClear | .tcloseExpiry | .nrstAssert _ | .nrstRelease
  | .bootComplete | .losDeasserted _ | .samplingInstant _ | .notchEdge _ | .ethLinkChange _ | .imageWriteComplete
  | .caprdComplete _ _ | .railOutOfRange _ => true

end Sys2Proof
end

