-- ==== Sys2Proof/Safety.lean ====
section
/-! DEFINITION. The terms in which statements speak: a command that answers a next state, what it leaves alone, the outcome
of a register write, and the canonical form of the memories. -/

namespace Sys2Proof.Machine

/-- The command `c` in the state `s` answers a next state, and that state satisfies `P`. -/
def Answers (c : Instr) (s : State) (P : State → Prop) : Prop := ∃ t, exec c s = .next t ∧ P t

/-- The bits of the register at `off` that the fields of a list cover. -/
def fieldsMask (l : List Fld) (off : Nat) : Word := (l.filter fun x => x.off = off).foldl (fun m x => m ||| x.mask) 0

/-- What stays as it is outside the register file: every byte of the control engine's data memory, host memory, the queue of
commands and the ordering code. -/
structure KeepsMem (s t : State) : Prop where
  mem : ∀ a, t.byte a = s.byte a
  host : t.hst.mem = s.hst.mem
  queue : t.pending = s.pending
  part : t.part = s.part

/-- Nothing of a register changes but the listed fields, nor anything of `KeepsMem`. -/
structure KeepsBut (l : List Fld) (s t : State) : Prop extends KeepsMem s t where
  regs : ∀ off, t.reg off &&& ~~~ fieldsMask l off = s.reg off &&& ~~~ fieldsMask l off

/-- No register outside `p` changes, nor anything of `KeepsMem`. -/
structure KeepsOut (p : Nat → Prop) (s t : State) : Prop extends KeepsMem s t where
  regs : ∀ off, ¬ p off → t.reg off = s.reg off

/-- The registers that the posting of an event may change: `HST_EVR_STAT`, `HST_EVR_OFF`, the states of the capture windows,
the drop counts of the Cewlink queues and `XDC_STAT3` (R131, R448, R584, R585, R590). -/
def evReg (off : Nat) : Prop :=
  off = 0x1130C ∨ off = 0x11310 ∨ (0x11400 ≤ off ∧ off < 0x11500) ∨ (0xD028 ≤ off ∧ off < 0xD034) ∨ off = 0x300C

/-- Whether an offset lies in a page of 4 KiB of the map (R618). -/
def inPage (p off : Nat) : Prop := off / 0x1000 = p

/-- The outcome of a BAR0 write at an offset, as `HST_WRES` shows it (R565). -/
structure Recorded (off : Nat) (st : Status) (s t : State) : Prop where
  status : t.f R.HST_WRES_STATUS = st.code
  ofs : t.f R.HST_WRES_OFS = off
  cnt : t.f R.HST_WRES_CNT = if st = .done then s.f R.HST_WRES_CNT else min 255 (s.f R.HST_WRES_CNT + 1)

/-- The three fields of `HST_WRES`. -/
def wresFlds : List Fld := [R.HST_WRES_STATUS, R.HST_WRES_OFS, R.HST_WRES_CNT]

/-- The canonical form of the control engine's data memory: addresses strictly rising, no listed byte 0. -/
def Memory.wf (m : List Host.Cell) : Bool := Tab.wf (fun _ => (0 : Byte)) m

/-- The canonical form of the register file: offsets strictly rising, no listed word equal to its value after reset. -/
def regsWf (m : Tab Word) : Bool := Tab.wf RegMap.resetWord m

/-- The invariant of the memories: data memory and register file have their canonical form. -/
def State.canon (s : State) : Prop := Memory.wf s.mem = true ∧ regsWf s.regs = true

end Sys2Proof.Machine
end

