-- ==== Sys2Proof/Certificates/Slice0/Obligations.lean ====
section
/-! DEFINITION. The statements about the module for the provers, family by family. Each says, for hypotheses on the state and
the operands alone, which next state a command answers, and what it leaves alone. -/

open Sys2Proof Sys2Proof.Machine

/-! ### The queue, reset and the memories -/

/-- The command at the front of the queue is run on the state with the rest of the queue. -/
def Obligations.StepRunsFront : Prop :=
  ∀ (c : Instr) (s : State), step { s with pending := c :: s.pending } = exec c s

/-- While no command waits a step lets one clock period pass: one TBP count, 16 in coarse mode (R73, R97), a TBK cycle in
KEEPALIVE, nothing in OFF; everything else stays. The model's choice of log entry 1. -/
def Obligations.IdleStepPasses : Prop :=
  ∀ s : State, s.pending = [] → ∃ t, step s = .next t ∧
    t.regs = s.regs ∧ t.mem = s.mem ∧ t.pending = [] ∧ t.hst = s.hst ∧ t.sys = s.sys ∧
    (s.power = .main → t.tbp = s.tbp + (if s.f R.CLK_STAT_COARSE = 0 then 1 else 16)) ∧
    (s.power = .keepalive → t.tbp = s.tbp ∧ t.bvq.tbk = s.bvq.tbk + 1) ∧
    (s.power = .off → t = s)

/-- Every command answers a next state in every state, with the queue and the ordering code as they were: no command of the table
stops the module (the queue is the model's own, log entry 1). -/
def Obligations.CommandsComplete : Prop :=
  ∀ (c : Instr) (s : State), ∃ t, exec c s = .next t ∧ t.pending = s.pending ∧ t.part = s.part

/-- The commands that act without main power: those of the Bivouac domain and of its supplies, the rails and
nRST. -/
def wakesOff : Instr → Bool
  | .bivouacPowerOn .. | .bivouacPowerOff | .burstCutOff | .burstReconnect | .cellSwitch | .storeReturn
  | .supervisorSample .. | .burstEnd .. | .vocSample | .vocSampleEnd .. | .irradianceMeasurement ..
  | .irradianceMeasurementEnd .. | .bivouacRecordCommit .. | .supplyRecovery | .nrstAssert .. | .nrstRelease
  | .railOutOfRange .. => true
  | _ => false

/-- Without main power, in OFF and KEEPALIVE, every other command leaves the whole state as it is (R602, log entry 10). -/
def Obligations.UnpoweredCommandsDoNothing : Prop :=
  ∀ (c : Instr) (s : State), s.power ≠ .main → wakesOff c = false → exec c s = .next s

/-- The memories have their canonical form at reset, and the module stands in BOOT with TBP 0, its registers at their values
after reset and data memory 0. -/
def Obligations.ResetState : Prop :=
  State.reset.canon ∧ State.reset.live = true ∧ State.reset.st = stBoot ∧ State.reset.tbp = 0 ∧ State.reset.pending = [] ∧
    (∀ off, State.reset.reg off = RegMap.resetWord off) ∧ (∀ a, State.reset.byte a = 0)

/-- Every step keeps the canonical form of the data memory and of the register file. -/
def Obligations.StepKeepsCanon : Prop :=
  ∀ s t : State, s.canon → step s = .next t → t.canon

/-! ### Clears of counts and flags -/

/-- The rows that clear fields by a write of one register: its offset, and each field with its value after the write. -/
def clearRow : Instr → Option (Nat × List (Fld × Nat))
  | .sysPaceExtClr => some (0x48, [(R.SYS_PACE_EXT_MINPS, 0xFFF), (R.SYS_PACE_EXT_MAXPS, 0)])
  | .clkLossClr => some (0x1008, [(R.CLK_LOSS_PLLA, 0), (R.CLK_LOSS_PLLB, 0), (R.CLK_LOSS_PLLC, 0), (R.CLK_LOSS_REF, 0)])
  | .xdcOvrClear x => some (0x3000 + 4 * x, [(R.XDC_STAT_OVR x, 0)])
  | .pwmStatClr => some (0x4308, [(R.PWM_STAT_REFUSED, 0), (R.PWM_STAT_MERGED, 0)])
  | .pwmShStatDropClear => some (0x4300, [(R.PWM_SH_STAT_DROP, 0)])
  | .gdiBscntClr => some (0x621C, [(R.GDI_BSCNT_REFR, 0), (R.GDI_BSCNT_LOW, 0)])
  | .trpGrpCntClr g => some (0x730C + 16 * g, [(R.TRP_GRP_CNT_CBC g, 0), (R.TRP_GRP_CNT_LAT g, 0), (R.TRP_GRP_CNT_BLNK g, 0)])
  | .adcDropClr => some (0x90A0, [(R.ADC_DROP_REG, 0), (R.ADC_DROP_INJ, 0), (R.ADC_DROP_MON, 0), (R.ADC_DROP_EARLY, 0)])
  | .adcMonlossClear => some (0x9090, [(R.ADC_STAT_MONLOSS, 0)])
  | .ceMissClr => some (0xA010, [(R.CE_MISS_MISS, 0), (R.CE_MISS_SKIP, 0), (R.CE_MISS_LATE, 0)])
  | .ceChkClr => some (0xA014, [(R.CE_CHK_RETRY1, 0), (R.CE_CHK_RETRY2, 0), (R.CE_CHK_PARF, 0), (R.CE_CHK_PARS, 0),
      (R.CE_STAT_SUSP, 0)])
  | .ceDurmaxClr => some (0xA01C, [(R.CE_DURMAX_MAX, 0)])
  | .grdCntClr => some (0xB0EC, [(R.GRD_CNT_RIDE, 0), (R.GRD_CNT_CESS, 0), (R.GRD_CNT_STALE, 0)])
  | .lnkErrClr n => some (0xC030 + 4 * n, [(R.LNK_ERR_CRC n, 0), (R.LNK_ERR_STOMP n, 0), (R.LNK_ERR_RETR n, 0)])
  | .lnkTxcnt2Clr => some (0xC084, [(R.LNK_TXCNT_TMO, 0), (R.LNK_TXCNT_RTRY, 0), (R.LNK_TXCNT2_DUP, 0)])
  | .pltDrop1Clr => some (0xD02C, [(R.PLT_DROP0_ALARM, 0), (R.PLT_DROP0_TRIP, 0), (R.PLT_DROP1_LOG, 0),
      (R.PLT_DROP1_TRACE, 0), (⟨0xD030, 0, 32⟩, 0)])
  | .safCntClr => some (0xE090, [(R.SAF_CNT_DEM, 0), (R.SAF_CNT_DACC, 0), (R.SAF_CNT_BAD, 0)])
  | .mtrCntClr => some (0xF038, [(R.MTR_CNT_FILL, 0), (R.MTR_CNT_OVR, 0), (R.MTR_CNT_BNC, 0)])
  | .mtrTlostClear => some (0xF034, [(R.MTR_STAT_TLOST, 0)])
  | .huweakClear => some (0x10000, [(R.BVQ_STAT_HUWEAK, 0)])
  | .bvqUnderClear => some (0x10040, [(R.BVQ_BST_UNDER, 0)])
  | .hstEthcntClr => some (0x11704, [(R.HST_ETHCNT_RXDROP, 0), (R.HST_ETHCNT_FCS, 0)])
  | _ => none

/-- Each of these rows brings its fields to the values given, records DONE in `HST_WRES` and changes no other bit. -/
def clearsCountsHolds : Prop :=
  ∀ (c : Instr) (off : Nat) (l : List (Fld × Nat)) (s : State), clearRow c = some (off, l) → s.live = true →
    Answers c s fun t => (∀ e ∈ l, t.f e.1 = e.2) ∧ Recorded off .done s t ∧ KeepsBut (wresFlds ++ l.map (·.1)) s t

/-- The rows that clear the bits of a field at which the written mask is 1. -/
def maskRow : Instr → Option (Nat × Fld × Nat)
  | .timPtcLateClear m => some (0x2040, R.TIM_PTC_LATE_PTC, m.toNat)
  | .atcMissClear m => some (0x5080, R.ATC_MISS_ATC, m.toNat)
  | .cmpChkfClear m => some (0x80D4, R.CMP_CHKF_FAIL, m.toNat)
  | .adcOvrlClear m => some (0x90A4, R.ADC_OVRL_LANE, m.toNat)
  | _ => none

/-- Write one to clear: a bit of the field stays exactly when it was 1 and the mask has 0 there; nothing else changes but
`HST_WRES`. The flags of `HST_ERR` and the counts of `XDC_CLR` follow their own bits of the mask. -/
def maskClearsHolds : Prop :=
  (∀ (c : Instr) (off : Nat) (x : Fld) (m : Nat) (s : State), maskRow c = some (off, x, m) → s.live = true →
    Answers c s fun t => (∀ i, i < x.w → (t.f x).testBit i = ((s.f x).testBit i && !m.testBit i)) ∧
      Recorded off .done s t ∧ KeepsBut (x :: wresFlds) s t) ∧
  (∀ (m : BitVec 2) (s : State), s.live = true →
    Answers (.hstErrClear m) s fun t =>
      t.f R.HST_ERR_DBOVF = (if m.getLsbD 0 then 0 else s.f R.HST_ERR_DBOVF) ∧
      t.f R.HST_ERR_DMAERR = (if m.getLsbD 1 then 0 else s.f R.HST_ERR_DMAERR) ∧
      Recorded 0x11004 .done s t ∧ KeepsBut (R.HST_ERR_DBOVF :: R.HST_ERR_DMAERR :: wresFlds) s t) ∧
  (∀ (m : BitVec 18) (s : State), s.live = true →
    Answers (.xdcClr m) s fun t =>
      (∀ x < 18, t.f (R.XDC_STAT_LOST x) = (if m.getLsbD x then 0 else s.f (R.XDC_STAT_LOST x)) ∧
        t.f (R.XDC_STAT_DISC x) = (if m.getLsbD x then 0 else s.f (R.XDC_STAT_DISC x)) ∧
        t.f (R.XDC_STAT_RSYNC x) = (if m.getLsbD x then 0 else s.f (R.XDC_STAT_RSYNC x))) ∧
      Recorded 0x3080 .done s t ∧
      KeepsBut (wresFlds ++ (List.range 18).flatMap fun x => [R.XDC_STAT_LOST x, R.XDC_STAT_DISC x, R.XDC_STAT_RSYNC x]) s t)

/-- Clears of counts, and of bits by their mask. -/
def Obligations.Clears : Prop := clearsCountsHolds ∧ maskClearsHolds

/-! ### Device states -/

/-- The pages that a change of the device state may touch: `SYS_`, `ATC_`, `TRP_` (the block short), `GRD_STAT`, and what an event or an
outcome writes. -/
def statePages (off : Nat) : Prop :=
  inPage 0 off ∨ inPage 5 off ∨ inPage 7 off ∨ off = 0xB0E0 ∨ off = 0x11000 ∨ evReg off

/-- CONNECT, STOP, TRIP and CLEAR through BAR0, each where R605 allows it: the state they lead to, the state left as
`SYS_STATE.PREV`, and DONE in `HST_WRES`. A TRIP in BOOT is kept for the end of BOOT (R608). -/
def requestsChangeStateHolds : Prop :=
  ∀ s : State, s.live = true → s.sys.arm = none →
    (s.mayConnect = true → Answers .connect s fun t =>
      t.st = stConnected ∧ t.f R.SYS_STATE_PREV = s.st ∧ Recorded 0x104 .done s t ∧ KeepsOut statePages s t) ∧
    (s.inSt [stArmed, stConnected, stRide] = true → Answers .stop s fun t =>
      t.st = stStandby ∧ t.f R.SYS_STATE_PREV = s.st ∧ Recorded 0x104 .done s t ∧ KeepsOut statePages s t) ∧
    (s.inSt [stStandby, stArmed, stConnected, stRide] = true → s.heldStandby = false → Answers .trip s fun t =>
      t.st = stTripped ∧ t.f R.SYS_STATE_PREV = s.st ∧ t.sys.causes = s.sys.causes ++ [(0x20, 1)] ∧
        Recorded 0x104 .done s t ∧ KeepsOut statePages s t) ∧
    (s.st = stBoot → Answers .trip s fun t =>
      t.st = stBoot ∧ t.sys.bootTrip = true ∧ t.sys.causes = s.sys.causes ++ [(0x20, 1)] ∧
        Recorded 0x104 .done s t ∧ KeepsOut statePages s t) ∧
    (s.st = stTripped → (s.sys.causes.all fun c => s.causeCleared c) = true → Answers .clear s fun t =>
      t.st = stStandby ∧ t.sys.causes = [] ∧ t.f R.SYS_TCAUSE_FIRST = 0 ∧ Recorded 0x104 .done s t ∧ KeepsOut statePages s t) ∧
    (s.st = stSafe → s.f R.SAF_STAT_SAFE = 0 → Answers .clear s fun t =>
      t.st = (if (s.sys.causes.all fun c => s.causeCleared c) = true then stStandby else stTripped) ∧
        Recorded 0x104 .done s t ∧ KeepsOut statePages s t)

/-- A request that R605 does not allow changes nothing but the outcome: STATE. -/
def refusedRequestsChangeNothingHolds : Prop :=
  ∀ s : State, s.live = true →
    (s.mayConnect = false → Answers .connect s fun t => Recorded 0x104 .state s t ∧ KeepsBut wresFlds s t) ∧
    (s.inSt [stArmed, stConnected, stRide] = false → Answers .stop s fun t =>
      Recorded 0x104 .state s t ∧ KeepsBut wresFlds s t) ∧
    (s.mayArm = false → Answers .arm s fun t => Recorded 0x104 .state s t ∧ KeepsBut wresFlds s t) ∧
    (s.quiet = false → Answers .reset s fun t => Recorded 0x104 .state s t ∧ KeepsBut wresFlds s t) ∧
    (s.st = stTripped → (s.sys.causes.all fun c => s.causeCleared c) = false → Answers .clear s fun t =>
      Recorded 0x104 .state s t ∧ KeepsBut wresFlds s t)

/-- Requests of `SYS_CMD`, where R605 allows them and where not. -/
def Obligations.Requests : Prop := requestsChangeStateHolds ∧ refusedRequestsChangeNothingHolds

/-- ARM where it is allowed starts the isolation test and waits for it; the automatic requests of R604 do the same in STANDBY
and connect in ARMED; an automatic clear leaves TRIPPED (R610); the delay of R607 ends with every enabled pair waiting for
its period start. -/
def Obligations.ArmAndAutomaticRequests : Prop :=
  ∀ s : State, s.live = true →
    (s.mayArm = true → s.saf.test = 0 → Answers .arm s fun t =>
      t.saf.test = 1 ∧ t.saf.testAt = s.tbp ∧ t.sys.arm = some { who := .host } ∧ t.st = s.st ∧ t.reg 0x11000 = s.reg 0x11000 ∧
        KeepsMem s t) ∧
    (s.f R.SYS_CTL_AUTO = 1 → s.mayArm = true → s.saf.test = 0 → Answers .automaticRequest s fun t =>
      t.saf.test = 1 ∧ t.saf.testAt = s.tbp ∧ t.sys.arm = some { who := .auto } ∧ t.st = s.st ∧ KeepsMem s t) ∧
    (s.f R.SYS_CTL_AUTO = 1 → s.mayConnect = true → Answers .automaticRequest s fun t =>
      t.st = stConnected ∧ t.reg 0x11000 = s.reg 0x11000 ∧ KeepsOut statePages s t) ∧
    (∀ u, s.f R.SYS_CTL_GRIDRST = 1 → s.st = stTripped → s.sys.causes ≠ [] →
      (∀ c ∈ s.sys.causes, 0x10 ≤ c.1 ∧ c.1 ≤ 0x17) → s.sys.contSince = some u →
      u + s.f R.SYS_CTL_RDLY * perSec ≤ s.tbp →
      (s.sys.autoClears.filter fun a => decide (s.tbp < a + 3600 * perSec)).length < s.f R.SYS_CTL_RETRY →
      Answers .automaticClear s fun t =>
        t.st = stStandby ∧ t.sys.causes = [] ∧ s.tbp ∈ t.sys.autoClears ∧ KeepsOut statePages s t) ∧
    (∀ u, s.sys.closeAt = some u → u ≤ s.tbp → Answers .tcloseExpiry s fun t =>
      t.sys.closeAt = none ∧ (∀ m < 24, s.pairOn m = true → (t.pair m).blocked = true) ∧ t.regs = s.regs ∧ KeepsMem s t)

/-- A loss of the main domain: every register outside the Bivouac page and `SYS_RSTC` at its value after reset, data memory 0,
TBP 0, no descriptor in flight; queue, ordering code and host memory stay (R613, log entry 26). -/
structure MainAtReset (s t : State) : Prop where
  regs : ∀ off, bivouacReg off = false → off ≠ 0x110 → t.reg off = RegMap.resetWord off
  mem : ∀ a, t.byte a = 0
  tbp : t.tbp = 0
  rings : t.hst.rings = []
  queue : t.pending = s.pending
  part : t.part = s.part
  host : t.hst.mem = s.hst.mem

/-- RESET, a low of nRST of 10 µs or more, its release, the rails, and the end of BOOT (R605, R612 to R615). -/
def Obligations.ResetAndBoot : Prop :=
  ∀ s : State,
    (s.quiet = true → s.heldStandby = false → Answers .reset s fun t =>
      t.live = true ∧ t.st = stBoot ∧ t.f R.SYS_RSTC_CAUSE = 3 ∧ MainAtReset s t) ∧
    (∀ ns, 10000 ≤ ns → s.live = true → Answers (.nrstAssert ns) s fun t =>
      t.live = false ∧ t.sys.nrst = false ∧ t.f R.SYS_RSTC_CAUSE = 1 ∧ MainAtReset s t) ∧
    (∀ ns, ns < 1000 → Answers (.nrstAssert ns) s fun t => t = s) ∧
    (s.live = false → s.sys.railsOk = true → s.bvq.held = false → Answers .nrstRelease s fun t =>
      t.live = true ∧ t.tbp = 0 ∧ t.sys.nrst = true ∧ t.f R.BVQ_STAT_SRC = 0 ∧
        KeepsOut (fun o => [0x10000, 0x10038, 0x10040, 0x10044].contains o = true) s t) ∧
    (s.live = true → Answers (.railOutOfRange false) s fun t =>
      t.sys.railsOk = false ∧ (∀ m < 24, (t.pair m).up = false ∧ (t.pair m).lo = false) ∧ t.st = s.st ∧ KeepsMem s t) ∧
    (s.live = false → s.sys.nrst = true → s.bvq.held = false → Answers (.railOutOfRange true) s fun t =>
      t.live = true ∧ t.sys.railsOk = true ∧ t.tbp = 0 ∧
        KeepsOut (fun o => [0x10000, 0x10038, 0x10040, 0x10044].contains o = true) s t) ∧
    (s.live = true → s.st = stBoot → s.sys.restored = true → s.f R.SYS_STATE_WAIT = 0 → s.causeFree = true →
      Answers .bootComplete s fun t => t.st = (if s.sys.bootTrip then stTripped else stStandby) ∧ KeepsMem s t) ∧
    (s.live = true → s.st = stBoot → s.sys.restored = true → (s.f R.SYS_STATE_WAIT).testBit 0 = false → s.causeFree = false →
      Answers .bootComplete s fun t => t.st = stSafe ∧ KeepsMem s t)

/-! ### Clocks, plant time and crossings -/

/-- What a loss of CKREF leaves (R62, R67, R69, R72, R73, R79): no PLL locked, everything on OSC25 in coarse mode, plant time not
synchronised once Cairn restore has ended, and the block tripped unless `OSCACT` is 1. -/
def refGone (s t : State) : Prop :=
  t.f R.CLK_STAT_REFOK = 0 ∧ t.f R.CLK_STAT_ONOSC = 1 ∧ t.f R.CLK_STAT_COARSE = 1 ∧ t.clk.good = 0 ∧
    (∀ p < 3, t.bitAt R.CLK_STAT_LOCK p = false ∧ (s.bitAt R.CLK_STAT_LOCK p = true → t.bitAt R.CLK_STAT_STABLE p = false)) ∧
    t.clk.bypass = 7 ∧ (s.sys.restored = true → t.f R.PLT_TSTAT_OSC = 1 ∧ t.f R.PLT_TSTAT_UNSYNC = 1) ∧
    (s.f R.CLK_REF_OSCACT = 1 → t.st = s.st) ∧
    (s.f R.CLK_REF_OSCACT = 0 → s.inSt [stStandby, stArmed, stConnected, stRide] = true → t.st = stTripped) ∧
    KeepsMem s t

/-- The reference monitor and the pace monitor: a report and its extremes (R32 to R35), a judged window and the loss of CKREF it
may declare (R61, R62), the loss of CKREF with every PLL (R62, R67, R69, R72) and its return (R62, R657). -/
def referenceAndPaceHolds : Prop :=
  ∀ s : State, s.live = true → s.sys.arm = none →
    (∀ n : Fin 65536, Answers (.paceWindowEnd n) s fun t =>
      t.f R.SYS_PACE_CNT = n ∧ t.f R.SYS_PACE_MACPS = (Config.paceCal n).toNat ∧
        t.f R.SYS_PACE_SLOW = bit (decide (s.f R.SYS_PACE_CFG_LIM < (Config.paceCal n).toNat)) ∧
        t.f R.SYS_PACE_EXT_MINPS = min (Config.paceCal n).toNat (s.f R.SYS_PACE_EXT_MINPS) ∧
        t.f R.SYS_PACE_EXT_MAXPS = max (Config.paceCal n).toNat (s.f R.SYS_PACE_EXT_MAXPS) ∧
        KeepsOut (fun o => o = 0x40 ∨ o = 0x48 ∨ o = 0x301C ∨ evReg o) s t) ∧
    (∀ (ok : Bool) (ratio : Nat), s.f R.CLK_STAT_REFOK = 0 ∨ inTolerance ok ratio = true → Answers (.refMonitorWindow ok ratio) s fun t =>
      t.clk.good = (if inTolerance ok ratio then min 10 (s.clk.good + 1) else 0) ∧
        (s.f R.CLK_STAT_REFOK = 1 → t.clk.ratio = ratio) ∧ t.regs = s.regs ∧ t.pt = s.pt ∧ KeepsMem s t) ∧
    (∀ (ok : Bool) (ratio : Nat), s.f R.CLK_STAT_REFOK = 1 → inTolerance ok ratio = false →
      Answers (.refMonitorWindow ok ratio) s (refGone s)) ∧
    (s.f R.CLK_STAT_REFOK = 1 → Answers .refLost s (refGone s)) ∧
    (s.f R.CLK_STAT_REFOK = 0 → s.clk.good = 10 → Answers .refOk s fun t =>
      t.f R.CLK_STAT_REFOK = 1 ∧ t.f R.CLK_STAT_ONOSC = bit (!s.sys.restored) ∧ t.f R.PLT_TSTAT_OSC = 0 ∧
        KeepsOut (fun o => inPage 1 o ∨ inPage 0xD o ∨ o = 0xB0E0 ∨ o = 0x301C ∨ evReg o) s t)

/-- The PLLs: a lock declaration, after the 1,024 cycles of R65, stable lock after 1 ms (R68), an unlock with its count, coarse mode after PLLA's and the idle
network after PLLB's or PLLC's (R66, R70, R73, R86), the end of coarse mode (R82), and a clock output's new configuration
(R90). -/
def pllsAndCoarseModeHolds : Prop :=
  ∀ s : State, s.live = true →
    (∀ p : Fin 3, s.sys.restored = true → s.f R.CLK_STAT_REFOK = 1 → s.bitAt R.CLK_STAT_LOCK p = false →
      Tab.get (fun _ => 0) s.clk.lockFrom p + lockCycles ≤ s.tbp → Answers (.pllLock p) s fun t =>
      t.bitAt R.CLK_STAT_LOCK p = true ∧ (∀ q < 3, q ≠ p.val → t.bitAt R.CLK_STAT_LOCK q = s.bitAt R.CLK_STAT_LOCK q) ∧
        Tab.get (fun _ => 0) t.clk.lockAt p = s.tbp ∧ KeepsBut [R.CLK_STAT_LOCK, R.XDC_STAT_LOST 7, R.XDC_STAT_DISC 7] s t) ∧
    (∀ p : Fin 3, s.bitAt R.CLK_STAT_LOCK p = true → s.bitAt R.CLK_STAT_STABLE p = false →
      Tab.get (fun _ => 0) s.clk.lockAt p + perMs ≤ s.tbp → Answers (.pllStableLock p) s fun t =>
        t.bitAt R.CLK_STAT_STABLE p = true ∧ t.f R.CLK_STAT_LOCK = s.f R.CLK_STAT_LOCK ∧
          KeepsOut (fun o => inPage 1 o ∨ inPage 0xC o ∨ o = 0x301C) s t) ∧
    (∀ p : Fin 3, s.bitAt R.CLK_STAT_LOCK p = true → Answers (.pllUnlock p) s fun t =>
      t.bitAt R.CLK_STAT_LOCK p = false ∧ t.bitAt R.CLK_STAT_STABLE p = false ∧
        t.f (lossFld p) = min 255 (s.f (lossFld p) + 1) ∧ t.clk.bypass.testBit p = true ∧
        (p.val = 0 → t.f R.CLK_STAT_COARSE = 1) ∧
        (p.val ≠ 0 → ∀ i < 4, s.f (R.LNK_PORT_ST (4 * (p - 1) + i)) ≠ 0 → t.f (R.LNK_PORT_ST (4 * (p - 1) + i)) = 1) ∧
        KeepsMem s t) ∧
    (s.f R.CLK_STAT_COARSE = 1 → s.bitAt R.CLK_STAT_STABLE 0 = true → s.f R.CLK_STAT_REFOK = 1 → s.returnDue = true →
      Answers .coarseExit s fun t => t.f R.CLK_STAT_COARSE = 0 ∧ t.clk.bypass.testBit 0 = false ∧ t.part = s.part) ∧
    (∀ n : Fin 4, Answers (.ckoChange n) s fun t =>
      Tab.get (fun _ => 0) t.clk.cko n = (s.reg (0x1010 + 4 * n)).toNat ∧ t.regs = s.regs ∧ KeepsMem s t)

/-- The reference, the TBP, the PLLs and coarse mode. -/
def Obligations.ClocksAndCoarseMode : Prop := referenceAndPaceHolds ∧ pllsAndCoarseModeHolds

/-- The offset of a host submission in 2^-16 ns: `TIM_HOSTOFS_S` seconds plus `TIM_HOSTOFS_NS` × 2^-4 ns (R110). -/
def hostE (s : State) (sec : Word) : Int := sec.toInt * 1000000000 * 2 ^ 16 + signed 32 s.tim.hostNs * 2 ^ 12

/-- The registers of plant time and its servo, and `GRD_STAT`, whose `AISUSP` follows `UNSYNC` (R379). -/
def servoRegs (o : Nat) : Prop := inPage 2 o ∨ inPage 0xD o ∨ o = 0xB0E0 ∨ o = 0x11000 ∨ evReg o

/-- The servo (R107 to R113): a submitted host offset and a PPS edge are measurements of sources 3 and 4 and make them valid;
the measurement of the selected source shows its offset in `TIM_LASTOFS`, and one beyond `STEPTH` in a state that allows it
steps plant time by exactly the offset; a source whose time has run out is not valid; lock and loss of lock. -/
def servoHolds : Prop :=
  ∀ s : State, s.live = true →
    (∀ sec, Answers (.hostOffsetSubmit sec) s fun t =>
      t.srcMeas 3 = { last := some s.tbp, valid := true } ∧ Recorded 0x2034 .done s t ∧
        (s.f R.TIM_SRVSRC_P0 = 3 → s.f R.PLT_TSTAT_SRC = 3 →
          t.f R.TIM_LASTOFS_VAL = unsigned 32 (clampInt (-(2 ^ 31)) (2 ^ 31 - 1) (hostE s sec / 2 ^ 8)) ∧
          (s.sys.restored = true → s.tim.fresh = false → (s.srcMeas 3).last ≠ none → s.f R.TIM_SRV2_STEPTH * 1000 * 2 ^ 16 < (hostE s sec).natAbs →
            s.inSt [stBoot, stStandby, stTripped, stSafe] = true →
            t.tim.ptb = ((s.pt : Int) + hostE s sec * 2 ^ 25).toNat ∧ t.tim.tbpb = s.tbp ∧ t.tim.rhoI = s.tim.rhoI ∧
              t.tim.rhoP = 0 ∧ t.f R.PLT_TSTAT_LOCKED = 0)) ∧
        KeepsOut servoRegs s t) ∧
    (s.f R.PLT_TSTAT_LOCKED = 0 → Answers .ppsEdge s fun t =>
      t.srcMeas 4 = { last := some s.tbp, valid := true } ∧ KeepsOut servoRegs s t) ∧
    (∀ (i : Fin 5) (l : Nat), (s.srcMeas i).last = some l → (s.srcMeas i).valid = true → l + s.validFor i ≤ s.tbp →
      Answers (.servoSourceTimeout i) s fun t =>
        (t.srcMeas i).valid = false ∧ t.f R.PLT_TSTAT_SRC = (s.setSrcMeas i { last := some l }).bestSource ∧
          KeepsOut servoRegs s t) ∧
    (s.tim.inLock = 16 → s.f R.PLT_TSTAT_SRC ≠ 0 → Answers .servoLock s fun t =>
      t.f R.PLT_TSTAT_LOCKED = 1 ∧ t.f R.PLT_TSTAT_UNSYNC = s.f R.PLT_TSTAT_OSC ∧
        KeepsBut [R.PLT_TSTAT_LOCKED, R.PLT_TSTAT_UNSYNC, R.GRD_STAT_AISUSP, R.GRD_STAT_HITS] s t) ∧
    (s.f R.PLT_TSTAT_LOCKED = 1 → s.tim.outLock = 4 → Answers .servoLockLoss s fun t =>
      t.f R.PLT_TSTAT_LOCKED = 0 ∧ t.f R.PLT_TSTAT_UNSYNC = 1 ∧ KeepsBut [R.PLT_TSTAT_LOCKED, R.PLT_TSTAT_UNSYNC, R.GRD_STAT_AISUSP, R.GRD_STAT_HITS] s t)

/-- A match of compare unit n (R119, R120): a one-shot goes to `MODE` 0 and frees the resource of the unit, a periodic unit
moves to a grid point after the present plant time, a placed match is used up; and with none of the targets named, nothing
else changes but the wait for a Cairn write. -/
def compareMatchHolds : Prop :=
  ∀ (s : State) (n : Fin 16), s.live = true → s.ptcDue n = true → Answers (.ptcMatch n) s fun t =>
    (s.f (R.TIM_PTC_CFG_MODE n) = 1 → t.f (R.TIM_PTC_CFG_MODE n) = 0 ∧ t.owner (0x1000 + n) = 0) ∧
    (s.f (R.TIM_PTC_CFG_MODE n) = 2 → ∃ u, (t.ptc n).next = some u ∧ s.pt < u) ∧
    (s.f (R.TIM_PTC_CFG_MODE n) = 3 → (t.ptc n).placed = (s.ptc n).placed.drop 1) ∧
    (s.f (R.TIM_PTC_CFG_TGT n) = 0 → KeepsBut [R.TIM_PTC_CFG_MODE n, R.BVQ_CAIRN_PEND] s t)

/-- Plant time: the servo and compare units. -/
def Obligations.PlantTime : Prop := servoHolds ∧ compareMatchHolds

/-- A FIFO crossing passes words in order; one that is full makes a self-timed producer wait, and a clocked one discards the
newest word, counts it in `LOST` and sets `OVR` (R134). While a side is in reset a word is counted in `DISC` (R136). A channel that the
crossing does not have (R142) changes nothing. -/
def Obligations.FifoCrossings : Prop :=
  ∀ (s : State) (x : Fin 18) (ch : Fin 32) (v : Word), s.live = true → isFifo x = true →
    (fifoChans x ≤ ch.val → ∀ act, Answers (.fifoWordTransfer x ch act) s fun t => t = s) ∧
    (ch.val < fifoChans x → s.fifoInReset x ch = false → s.fifoFull x ch = false → Answers (.fifoWordTransfer x ch (.enter v)) s fun t =>
      t.fifo x ch = s.fifo x ch ++ [v.toNat] ∧ t.regs = s.regs ∧ KeepsMem s t) ∧
    (ch.val < fifoChans x → s.fifoInReset x ch = false → s.fifoFull x ch = true → clockedFifo x ch = false →
      Answers (.fifoWordTransfer x ch (.enter v)) s fun t => t = s) ∧
    (ch.val < fifoChans x → s.fifoInReset x ch = false → s.fifoFull x ch = true → clockedFifo x ch = true →
      Answers (.fifoWordTransfer x ch (.enter v)) s fun t =>
        t.fifo x ch = s.fifo x ch ∧ t.f (R.XDC_STAT_LOST x) = min 4095 (s.f (R.XDC_STAT_LOST x) + 1) ∧
          t.f (R.XDC_STAT_OVR x) = 1 ∧ KeepsMem s t) ∧
    (ch.val < fifoChans x → s.fifoInReset x ch = true → Answers (.fifoWordTransfer x ch (.enter v)) s fun t =>
      t.f (R.XDC_STAT_DISC x) = min 4095 (s.f (R.XDC_STAT_DISC x) + 1) ∧ KeepsBut [R.XDC_STAT_DISC x] s t) ∧
    (∀ (w : Nat) (l : List Nat), ch.val < fifoChans x → s.fifo x ch = w :: l → Answers (.fifoWordTransfer x ch .take) s fun t =>
      t.fifo x ch = l ∧ Tab.get (fun _ => 0) t.xdc.took (fifoKey x ch) = w ∧ KeepsMem s t)

/-- A mailbox delivers the value in flight and requests the pending one (R128, R129); an event crossing delivers and clears its
count once the one before has been taken (R130, R131), crossing 3 posts the reports that wait (R131, R584), crossing 4 does so for each of its triggers, that of an input without sequence being dropped (R279);
crossing 10 has a mailbox for each port; the
resynchronisation sets pointers and counters to 0, counts what was in flight and itself (R137, R138), and that of a retrained port does so for the port's two directions (R616). -/
def Obligations.MailboxesAndEvents : Prop :=
  ∀ s : State, s.live = true →
    (∀ (x : Fin 18) (v : List Nat), isMailbox x = true → x.val ≠ 0 → x.val ≠ 10 → (s.xing x).inReset = false → (s.xing x).flight = some v →
      Answers (.mailboxTransfer x) s fun t =>
        (t.xing x).dst = v ∧ (t.xing x).flight = (s.xing x).pend ∧ (t.xing x).pend = none ∧ t.regs = s.regs ∧ KeepsMem s t) ∧
    Answers (.mailboxTransfer 10) s (fun t =>
      (∀ n < 8, ∀ v, (s.xing (timeKey n)).inReset = false → (s.xing (timeKey n)).flight = some v →
        (t.xing (timeKey n)).dst = v ∧ (t.xing (timeKey n)).flight = (s.xing (timeKey n)).pend ∧ (t.xing (timeKey n)).pend = none) ∧
      t.regs = s.regs ∧ KeepsMem s t) ∧
    (∀ v : List Nat, (s.xing 0).inReset = false → (s.xing 0).flight = some v → Answers (.mailboxTransfer 0) s fun t =>
      (t.xing 0).dst = v ∧ (t.xing 0).flight = some v ∧ t.regs = s.regs ∧ KeepsMem s t) ∧
    ((s.xing 2).inReset = false → (s.xing 2).got = 0 → Answers (.eventHandshake 2) s fun t =>
      (t.xing 2).got = (s.xing 2).cnt ∧ (t.xing 2).cnt = 0 ∧ t.regs = s.regs ∧ KeepsMem s t) ∧
    ((s.xing 3).inReset = false → s.f R.HST_EVR_CFG_EN = 0 → Answers (.eventHandshake 3) s fun t =>
      t.xdc.rep3 = [] ∧ KeepsOut evReg s t) ∧
    ((s.xing 4).inReset = false → (∀ ch < 19, (s.xing (100 + ch)).got = 0) → Answers (.eventHandshake 4) s fun t =>
      (∀ ch < 19, (t.xing (100 + ch)).cnt = 0 ∧ (t.xing (100 + ch)).got =
        if ch < 16 ∧ s.f (R.ADC_TRIG_SEQ ch) = 0 then 0 else (s.xing (100 + ch)).cnt) ∧
        t.regs = s.regs ∧ KeepsMem s t) ∧
    (∀ x : Fin 18, (s.xing x).resync = true →
      (x.val = 8 ∨ x.val = 9 → ∀ i < 4, (s.xing (linkKey (4 * (x - 8) + i))).resync = false) →
      (x.val = 10 → ∀ n < 8, (s.xing (timeKey n)).resync = false) → Answers (.xdcResync x) s fun t =>
      (t.xing x).inReset = false ∧ (t.xing x).resync = false ∧ (t.xing x).cnt = 0 ∧
        t.f (R.XDC_STAT_DISC x) = min 4095 (s.f (R.XDC_STAT_DISC x) + s.inFlight x) ∧
        t.f (R.XDC_STAT_RSYNC x) = min 127 (s.f (R.XDC_STAT_RSYNC x) + 1) ∧ (isFifo x = true → ∀ ch < 32, t.fifo x ch = []) ∧
        KeepsOut (fun o => o = 0x3000 + 4 * x.val ∨ evReg o) s t) ∧
    (∀ (x : Fin 18) (n : Nat), n < 8 → x.val = 8 + n / 4 → (s.xing x).resync = false → (s.xing (linkKey n)).resync = true →
      (s.xing (linkKey n)).inReset = false → (∀ m < 8, m ≠ n → (s.xing (linkKey m)).resync = false) →
      Answers (.xdcResync x) s fun t =>
        t.fifo x (n % 4) = [] ∧ t.fifo x (n % 4 + 4) = [] ∧ (t.xing (linkKey n)).resync = false ∧
          t.f (R.XDC_STAT_DISC x) = min 4095 (s.f (R.XDC_STAT_DISC x) + ((s.fifo x (n % 4)).length + (s.fifo x (n % 4 + 4)).length)) ∧
          t.f (R.XDC_STAT_RSYNC x) = min 127 (s.f (R.XDC_STAT_RSYNC x) + 1) ∧
          KeepsOut (fun o => o = 0x3000 + 4 * x.val ∨ evReg o) s t)

/-! ### Auxiliary timers, gate drives, trips and comparators -/

/-- ATC windows: a pending opening that is due opens the window with the use, target and width its source event took, and a
conversion trigger enters its crossing (R186, R189, R275); a due close ends it; a window open past `MAX` masks no more (R214). -/
def atcWindowsHolds : Prop :=
  ∀ (s : State) (n : Fin 16), s.live = true → s.sys.arm = none →
    (∀ u, (s.atcOf n).pend = some u → u ≤ s.tbp → Answers (.atcWindowOpen n) s fun t =>
      (t.atcOf n).pend = none ∧ (t.atcOf n).opened = some s.tbp ∧ (t.atcOf n).fn = (s.atcOf n).pFn ∧
        (t.atcOf n).tgt = (s.atcOf n).pTgt ∧ (t.atcOf n).close = some (s.tbp + ((s.atcOf n).pClose - u)) ∧
        ((s.atcOf n).opened = none → (s.atcOf n).pFn = 2 → (s.xing 4).inReset = false →
          (s.xing (100 + (s.atcOf n).pTgt)).cnt < 15 →
          (t.xing (100 + (s.atcOf n).pTgt)).cnt = (s.xing (100 + (s.atcOf n).pTgt)).cnt + 1) ∧
        ((s.atcOf n).opened = none → KeepsOut (fun o => o = 0x3010 ∨ evReg o) s t) ∧ KeepsMem s t) ∧
    (∀ u v, (s.atcOf n).opened = some u → (s.atcOf n).close = some v → v ≤ s.tbp → Answers (.atcWindowClose n) s fun t =>
      (t.atcOf n).opened = none ∧ KeepsMem s t) ∧
    (∀ u, (s.atcOf n).opened = some u → (s.atcOf n).fn = 1 →
      u + s.durDown (s.f (R.TRP_GRP_BLK_MAX (s.atcOf n).tgt)) ≤ s.tbp → Answers (.blankingMaxExpiry n) s fun t =>
        (t.atcOf n).spent = true ∧ KeepsMem s t)

/-- GDF lands: a plain fault follows its land (R192), a coded low from 0.4 µs to 2.0 µs, the thresholds within ±5 %, is a bootstrap
report and is counted, a shorter one nothing, one declared longer a fault (R193); a soft-off stage that is due takes its lands low (R199). -/
def gateDriveInputsHolds : Prop :=
  ∀ s : State, s.live = true → s.sys.arm = none →
    (∀ (n : Fin 48) (high : Bool), (s.gdf n).low = high → Answers (.gdfLandChange n high) s fun t =>
      (t.gdf n).low = !high ∧ (t.gdf n).since = s.tbp ∧ (s.gdfMode n = 1 → t.gdfFault n = !high) ∧
        (s.gdfMode n = 2 → high = true → s.gdfFault n = true → t.gdfFault n = false) ∧
        (s.gdfMode n = 2 → high = true → s.gdfFault n = false → 168 ≤ s.tbp - (s.gdf n).since → s.tbp - (s.gdf n).since ≤ 840 →
          t.f R.GDI_BSCNT_LOW = min (2 ^ R.GDI_BSCNT_LOW.w - 1) (s.f R.GDI_BSCNT_LOW + 1) ∧
            (n.val % 2 = 0 → (t.pair (n / 2)).bsLow = true)) ∧
        (s.gdfMode n = 2 → high = true → s.gdfFault n = false → s.tbp - (s.gdf n).since < 152 → t.regs = s.regs) ∧ KeepsMem s t) ∧
    (∀ n : Fin 48, s.gdfMode n = 2 → (s.gdf n).low = true → (s.gdf n).since + 760 ≤ s.tbp → Answers (.gdfFaultAssert n) s fun t =>
      t.gdfFault n = true ∧ KeepsMem s t) ∧
    (∀ (leg : Fin 16) (stage : Fin 4), Answers (.softOffStage leg stage) s fun t =>
      (∀ m < 24, ∀ u, s.pairOn m = true → s.pairLeg m = leg → s.stage m = stage → (s.pair m).soft = some u → u ≤ s.tbp →
        (t.pair m).up = false ∧ (t.pair m).lo = false ∧ (t.pair m).soft = none) ∧
      (∀ m < 24, s.pairLeg m ≠ leg ∨ s.stage m ≠ stage → t.pair m = s.pair m) ∧ KeepsOut (fun o => o = 0x5080) s t)

/-- Auxiliary timers and gate-drive lands. -/
def Obligations.AtcAndGateDrive : Prop := atcWindowsHolds ∧ gateDriveInputsHolds

/-- Whether the level of trip source i is asserted by what stands behind it: a land (as told), a comparator, a GDF fault
(R210). -/
def srcLevelOf (s : State) (i : Nat) (land : Bool) : Bool :=
  if i < 16 then land else if i < 40 then s.cmpLevel (i - 16) else s.gdfFault (i - 40)

/-- Trip sources: without a filter a source acts at once, with one it waits (R211); a latching group it acts on latches with its
index and takes its stage-0 pairs low, but for the lower switch of a hold pulse under its own GDF source (R221, R222, R199, R208); a release and the end of a filter set `ACT`. -/
def tripSourcesHolds : Prop :=
  ∀ (s : State) (i : Fin 88), s.live = true → s.sys.arm = none →
    (srcLevelOf s i true = true → Answers (.tripSourceAssert i) s fun t =>
      (t.tsrc i).raw = true ∧ (s.f (R.TRP_SRC_CFG_FLT i) = 0 → t.srcOn i = true) ∧
        (s.f (R.TRP_SRC_CFG_FLT i) ≠ 0 → t.srcOn i = s.srcOn i) ∧
        (∀ g < 16, s.f (R.TRP_SRC_CFG_FLT i) = 0 → s.srcOn i = false → s.srcOf i g = true → s.f (R.TRP_GRP_CFG_EN g) = 1 →
          s.f (R.TRP_GRP_CFG_MODE g) = 1 → s.blanked g = false → s.f (R.TRP_GRP_STAT_LATCH g) = 0 →
          t.f (R.TRP_GRP_STAT_LATCH g) = 1 ∧ t.f (R.TRP_GRP_STAT_FIRST g) = i ∧
            ∀ m ∈ s.groupPairs g, s.stage m = 0 → (t.pair m).up = false ∧
              (i.val ≠ 40 + 2 * m ∨ s.bitAt R.GDI_BS_HOLD m = false → (t.pair m).lo = false)) ∧
        KeepsMem s t) ∧
    (srcLevelOf s i false = false → s.f (R.TRP_SRC_CFG_FLT i) = 0 → Answers (.tripSourceRelease i) s fun t =>
      (t.tsrc i).raw = false ∧ t.srcOn i = false ∧ KeepsOut (fun o => inPage 7 o) s t) ∧
    (s.f (R.TRP_SRC_CFG_FLT i) ≠ 0 → (s.tsrc i).raw ≠ s.srcOn i →
      (s.tsrc i).since + s.dur (s.f (R.TRP_SRC_CFG_FLT i)) ≤ s.tbp → Answers (.tripFilterExpiry i) s fun t =>
        t.srcOn i = (s.tsrc i).raw ∧ KeepsMem s t)

/-- A clear of a group's latch acts only when no enabled source of the group is asserted, and completes with STATE otherwise
(R223, R224). -/
def latchClearHolds : Prop :=
  ∀ (s : State) (g : Fin 16), s.live = true →
    (s.groupAsserted g = false → Answers (.latchClear g) s fun t =>
      t.f (R.TRP_GRP_STAT_LATCH g) = 0 ∧ t.f (R.TRP_GRP_STAT_FIRST g) = 0 ∧ t.f (R.TRP_GRP_STAT_SCB g) = 0 ∧
        t.f (R.TRP_GRP_STAT_MULTI g) = 0 ∧ Recorded (0x7308 + 16 * g) .done s t ∧
        KeepsBut (wresFlds ++ [R.TRP_GRP_STAT_LATCH g, R.TRP_GRP_STAT_FIRST g, R.TRP_GRP_STAT_SCB g, R.TRP_GRP_STAT_MULTI g])
          s t) ∧
    (s.groupAsserted g = true → Answers (.latchClear g) s fun t =>
      t.f (R.TRP_GRP_STAT_LATCH g) = s.f (R.TRP_GRP_STAT_LATCH g) ∧ Recorded (0x7308 + 16 * g) .state s t ∧
        KeepsBut wresFlds s t)

/-- Trip sources and the clearing of group latches. -/
def Obligations.Trips : Prop := tripSourcesHolds ∧ latchClearHolds

/-- The input of comparator n lies above, or below, every place its threshold of `HI` or `LO` may stand at: between the codes its
DAC may be on (one, once it has settled, R243), with the error of R250 on either side. -/
def cmpAbove (s : State) (n : Nat) (hi : Bool) (x : Int) : Prop := s.cmpTh n (codeSpan (s.dacCodes n hi)).2 + s.cmpErr n < x
def cmpBelow (s : State) (n : Nat) (hi : Bool) (x : Int) : Prop := x < s.cmpTh n (codeSpan (s.dacCodes n hi)).1 - s.cmpErr n

/-- Comparator n decides without hysteresis, and later changes with it (R237, R238, R241, R242), wherever within the bounds of R250
its thresholds and its hysteresis lie. -/
def Obligations.Comparators : Prop :=
  ∀ (s : State) (n : Fin 24) (v : LandVolts) (x : Int) (h0 h1 : Nat), s.live = true → s.sys.arm = none → s.f (R.CMP_CFG_EN n) = 1 →
    s.cmpInput n v.p v.q = x → hysBounds (s.cmpHys n).toNat = (h0, h1) →
    (s.bitAt R.CMP_RDY_RDY n = true → Answers (.comparatorOutputChange n v) s fun t =>
      (cmpAbove s n true x → t.bitAt R.CMP_STAT_HI n = true) ∧
        (cmpBelow s n true (x + h1) → t.bitAt R.CMP_STAT_HI n = false) ∧
        (cmpAbove s n true (x + h0) → cmpBelow s n true x → t.bitAt R.CMP_STAT_HI n = s.bitAt R.CMP_STAT_HI n) ∧
        (cmpBelow s n false x → t.bitAt R.CMP_STAT2_LO n = true) ∧
        (cmpAbove s n false (x - h1) → t.bitAt R.CMP_STAT2_LO n = false) ∧
        (cmpBelow s n false (x - h0) → cmpAbove s n false x → t.bitAt R.CMP_STAT2_LO n = s.bitAt R.CMP_STAT2_LO n) ∧
        KeepsMem s t) ∧
    (s.bitAt R.CMP_RDY_RDY n = false → Tab.get (fun _ => 0) s.cmp.decideAt n ≤ s.tbp + 40 →
      Answers (.comparatorDecision n v) s fun t =>
        t.bitAt R.CMP_RDY_RDY n = true ∧
          (cmpAbove s n true x → t.bitAt R.CMP_STAT_HI n = true) ∧ (cmpBelow s n true x → t.bitAt R.CMP_STAT_HI n = false) ∧
          (cmpBelow s n false x → t.bitAt R.CMP_STAT2_LO n = true) ∧ (cmpAbove s n false x → t.bitAt R.CMP_STAT2_LO n = false) ∧
          KeepsMem s t)

/-! ### PWM -/

/-- A carrier's period start: its first one (R157), one of a running carrier with nothing staged and no grid to follow (R151,
R152, R160), and the stop at a period start (R157). A pair whose device state does not let it switch has both lands low
(R148), unless a soft-off order is under way (R199). -/
def carrierPeriodsHolds : Prop :=
  ∀ (s : State) (k : Fin 16), s.live = true → (s.car k).next ≤ s.tbp → (s.car k).taken = none → (s.car k).bridging = false →
    s.f (R.PWM_CAR_EFF_COARSE k) = bit s.coarse →
    (s.carOn k = false → (s.car k).starting = true → s.f (R.PWM_CAR_CFG_SYNC k) = 0 ∨ (s.car k).syncAt = none →
      Answers (.carrierPeriodStart k) s fun t =>
      t.f (R.PWM_CAR_EFF_RUN k) = 1 ∧ t.f (R.PWM_CAR_EFF_PER k) = s.period k s.coarse ∧ t.f (R.PWM_CAR_EFF_DIDX k) = 0 ∧
        (t.car k).start = (s.car k).next ∧ (t.car k).starting = false ∧
        (t.car k).next = (s.car k).next + s.period k s.coarse * s.unit) ∧
    (s.carOn k = true → (s.car k).stopPend = false → s.f (R.PWM_CAR_CFG_SYNC k) = 0 →
      Answers (.carrierPeriodStart k) s fun t =>
        t.f (R.PWM_CAR_EFF_RUN k) = 1 ∧ t.f (R.PWM_CAR_EFF_PER k) = s.period k s.coarse ∧
          t.f (R.PWM_CAR_EFF_DIDX k) = (if s.coarse then s.f (R.PWM_CAR_EFF_DIDX k) else (s.f (R.PWM_CAR_EFF_DIDX k) + 1) % 16) ∧
          (t.car k).start = (s.car k).next ∧ (t.car k).next = (s.car k).next + s.period k s.coarse * s.unit ∧
          (∀ m < 24, s.pairOn m = true → s.pairCar m = k → s.stateAllows m = false → (s.pair m).soft = none →
            s.stage m = 0 ∨ (s.tripHeld m = false ∧ ∀ g ∈ s.groupsOf (s.pairLeg m), s.groupActs g = false) →
            (t.pair m).up = false ∧ (t.pair m).lo = false)) ∧
    (s.carOn k = true → (s.car k).stopPend = true → (s.car k).slot = {} → Answers (.carrierPeriodStart k) s fun t =>
      t.f (R.PWM_CAR_EFF_RUN k) = 0 ∧ t.f (R.PWM_CAR_EFF_PER k) = 0 ∧ t.car k = {} ∧
        (∀ m < 24, s.pairOn m = true → s.pairCar m = k → (t.pair m).up = false ∧ (t.pair m).lo = false))

/-- The peak of a period reaches the compare units and timer channels that select it (R122, R185, R186); the latch point takes
the slot whole and empties it (R176); a mid boundary brings the duty words taken for it into force (R177), the pair's dead times
never below DTMIN (R196). -/
def peaksAndLatchPointsHolds : Prop :=
  ∀ (s : State) (k : Fin 16), s.live = true → s.carOn k = true →
    (s.peakAt k ≤ s.tbp → (s.car k).peaked = false → Answers (.carrierPeak k) s fun t =>
      t.car k = { s.car k with peaked := true } ∧
        (∀ n < 16, s.f (R.TIM_PTC_CFG_MODE n) = 3 → s.f (R.TIM_PTC_CFG_CAR n) = k → (s.f (R.TIM_PTC_CFG_CEVT n)).testBit 1 = true →
          ∃ u, (t.ptc n).placed = (s.ptc n).placed ++ [u]) ∧
        (∀ n < 16, s.f (R.ATC_CFG_FN n) = 1 → s.f (R.ATC_CFG_SRC n) = 48 + k → (s.f (R.ATC_CFG_EDGE n)).testBit 1 = true →
          (s.atcOf n).opened = none → (s.atcOf n).pend = none →
          (t.atcOf n).pend = some (s.tbp + s.durNear (s.f (R.ATC_TIME_DLY n)))) ∧
        KeepsOut (fun o => o = 0x5080) s t) ∧
    ((s.car k).slot.regs ≠ [] → (s.car k).next ≤ s.tbp + 2 * s.unit → Answers (.latchPoint k) s fun t =>
      t.car k = { s.car k with slot := {}, taken := some (s.car k).slot } ∧ t.regs = s.regs ∧ KeepsMem s t) ∧
    ((s.car k).slot.regs ≠ [] → s.tbp + 2 * s.unit < (s.car k).next → (s.car k).slot.shadow = true →
      Answers (.latchPoint k) s fun t => t = s) ∧
    (∀ (m : Fin 24) (v : Word), s.f (R.PWM_CAR_CFG_MODE k) = 3 → s.f (R.PWM_CAR_CFG_UPD k) = 3 → s.peakAt k ≤ s.tbp →
      (s.car k).taken = some { regs := [(0x4104 + 16 * m, v)] } → Answers (.carrierMidBoundary k) s fun t =>
        t.reg (0x4104 + 16 * m) = v ∧ (t.car k).taken = none ∧
          KeepsOut (fun o => o = 0x4104 + 16 * m.val ∨ o = 0x4108 + 16 * m.val ∨ o = 0x5080) s t)

/-- Carrier periods, peaks and latch points. -/
def Obligations.Carriers : Prop := carrierPeriodsHolds ∧ peaksAndLatchPointsHolds

/-- The edges of W and the dead time (R162, R164, R166): at an edge the switch that is on turns off and the other waits for its
dead time, unless its pulse would be shorter than M: then the switch stays on without interruption (R165); the wait over, it turns on if the device state, the trip network and the minimum pulse (R165) let it. -/
def edgesAndDeadTimeHolds : Prop :=
  ∀ (s : State) (m : Fin 24), s.live = true →
    (∀ u, (s.pair m).rise = some u → u ≤ s.tbp → (s.pair m).nph ≠ 1 → s.f (R.PWM_PAIR_CFG_MODE m) = 1 → (s.pair m).up = false →
      0 < s.dtr m → (∀ v, (s.pair m).offLo = some v → v ≤ s.tbp) →
      (s.pair m).lo = false ∨ s.pulseShort m true (s.tbp + s.dtr m * s.carUnit (s.pairCar m)) = false → Answers (.pwmEdge m true) s fun t =>
        (t.pair m).w = true ∧ (t.pair m).rise = none ∧ (t.pair m).up = false ∧ (t.pair m).lo = false ∧
          (t.pair m).wait = some (true, s.tbp + s.dtr m * s.carUnit (s.pairCar m)) ∧ KeepsOut (fun o => o = 0x5080) s t) ∧
    (∀ u, (s.pair m).fall = some u → u ≤ s.tbp → (s.pair m).nph ≠ 1 → s.f (R.PWM_PAIR_CFG_MODE m) = 1 → (s.pair m).lo = false →
      0 < s.dtf m → (∀ v, (s.pair m).offUp = some v → v ≤ s.tbp) →
      (s.pair m).up = false ∨ s.pulseShort m false (s.tbp + s.dtf m * s.carUnit (s.pairCar m)) = false → Answers (.pwmEdge m false) s fun t =>
        (t.pair m).w = false ∧ (t.pair m).fall = none ∧ (t.pair m).up = false ∧ (t.pair m).lo = false ∧
          (t.pair m).wait = some (false, s.tbp + s.dtf m * s.carUnit (s.pairCar m)) ∧ KeepsOut (fun o => o = 0x5080) s t) ∧
    (∀ u, (s.pair m).rise = some u → u ≤ s.tbp → s.f (R.PWM_PAIR_CFG_MODE m) = 1 → (s.pair m).lo = true →
      s.pulseShort m true (s.tbp + s.dtr m * s.carUnit (s.pairCar m)) = true → Answers (.pwmEdge m true) s fun t =>
        t.pair m = { s.pair m with w := true, wAt := s.tbp, rise := none } ∧ KeepsBut [] s t) ∧
    (∀ u, (s.pair m).wait = some (true, u) → u ≤ s.tbp → Answers (.deadTimeExpiry m) s fun t =>
      (t.pair m).wait = none ∧ (t.pair m).lo = (s.pair m).lo ∧
        (s.mayOn m true = true → (s.pair m).fall = none → (s.pair m).notch = none → s.f (R.PWM_CAR_CFG_MODE (s.pairCar m)) ≠ 2 → (t.pair m).up = true) ∧
        (s.mayOn m true = false → (t.pair m).up = (s.pair m).up) ∧
        (∀ v, (s.pair m).fall = some v → s.onTick v < s.onTick s.tbp + s.minPulse m * s.carUnit (s.pairCar m) → (t.pair m).up = (s.pair m).up) ∧
        KeepsOut (fun o => o = 0x5080) s t)

/-- A refresh notch: it turns the upper switch off, counts itself and lets the lower pulse wait for its dead time; at the
pulse's end the notch is over (R202, R203, R206). -/
def refreshNotchHolds : Prop :=
  ∀ (s : State) (m : Fin 24) (a on off : Nat), s.live = true → (s.pair m).notch = some (a, on, off) →
    ((s.pair m).nph = 0 → a ≤ s.tbp → s.mayOn m false = true → Answers (.notchEdge m) s fun t =>
      (t.pair m).up = false ∧ (t.pair m).nph = 1 ∧ (t.pair m).notched = true ∧
        (t.pair m).wait = some (false, max on (s.tbp + (on - a))) ∧
        t.f R.GDI_BSCNT_REFR = min 65535 (s.f R.GDI_BSCNT_REFR + 1) ∧ KeepsOut (fun o => o = 0x621C ∨ o = 0x5080) s t) ∧
    ((s.pair m).nph = 1 → off ≤ s.tbp → Answers (.notchEdge m) s fun t =>
      (t.pair m).notch = none ∧ (t.pair m).nph = 2 ∧ KeepsOut (fun o => o = 0x5080) s t)

/-- Edges, dead time, and the notch of a bootstrap refresh. -/
def Obligations.Edges : Prop := edgesAndDeadTimeHolds ∧ refreshNotchHolds

/-- The shadow: a write to a carrier's or pair's field is held there and the register stays (R179); a commit empties it whatever
its outcome, and one that the ownership map refuses changes neither owners nor what was committed before (R180); an abort
and 64 periods without a commit empty it (R181). -/
def shadowHolds : Prop :=
  ∀ s : State, s.live = true →
    (∀ (off : Nat) (v : Word) (r : RegSpec), isPwmReg off = true → RegMap.find off = some r → off % 4 = 0 → r.mask Acc.cfg ≠ 0 →
      Answers (.shadowWrite off v) s fun t =>
        Tab.look t.pwm.shadow off = some (wordClamp off (r.write Acc.cfg 0 v)) ∧ t.f R.PWM_SH_STAT_PEND = 1 ∧
          Recorded off .done s t ∧ KeepsBut (R.PWM_SH_STAT_PEND :: wresFlds) s t) ∧
    (Answers .pwmCommitGo s fun t => t.pwm.shadow = [] ∧ t.f R.PWM_SH_STAT_PEND = 0) ∧
    (∀ c, s.pwmCommit.1 = .error c → Answers .pwmCommitGo s fun t =>
      t.f R.PWM_SH_STAT_RES = 2 ∧ t.sys.own = s.sys.own ∧ t.pwm.cairn = s.pwm.cairn ∧ Recorded 0x4304 .conflict s t) ∧
    (Answers .pwmCommitAbort s fun t => t.pwm.shadow = [] ∧ t.f R.PWM_SH_STAT_PEND = 0 ∧ Recorded 0x4304 .done s t ∧
      KeepsBut (R.PWM_SH_STAT_PEND :: wresFlds) s t) ∧
    (∀ k, s.shadowCars.head? = some k → s.carOn k = true → 64 ≤ s.pwm.shCount → Answers .pwmShadowDrop s fun t =>
      t.pwm.shadow = [] ∧ t.f R.PWM_SH_STAT_PEND = 0 ∧ t.f R.PWM_SH_STAT_DROP = 1 ∧ KeepsOut (fun o => o = 0x4300 ∨ evReg o) s t)

/-! ### Conversions -/

/-- The crossing that brings the status of the mixed-signal die to the fabric may count a report it replaces or discards (R129,
R136). -/
def xdc7 : List Fld := [R.XDC_STAT_LOST 7, R.XDC_STAT_DISC 7]

/-- The slices: the calibration at start-up with the slices it fails (R264, R269), a rotation step (R265), a handover after
200 ns of overlap while no lane waits for a spare (R266), and the end of a slice's calibration (R265, R269). -/
def slicesHolds : Prop :=
  ∀ s : State, s.live = true →
    (∀ failed : BitVec 17, s.f R.ADC_STAT_CALOK = 0 → Answers (.adcCalibrationComplete failed) s fun t =>
      t.f R.ADC_STAT_CALOK = 1 ∧
        (∀ sl < 17, t.bitAt R.ADC_SLFAIL_FAIL sl = (s.bitAt R.ADC_SLFAIL_FAIL sl || failed.getLsbD sl)) ∧
        KeepsOut (fun o => o = 0x9090 ∨ o = R.ADC_SLFAIL_FAIL.off ∨ o = 0x301C ∨ evReg o) s t) ∧
    (∀ (sp sl : Nat) (k : Fin 16), s.adc.spare = some sp → s.f R.ADC_CTL_ROT = 1 → s.f R.ADC_STAT_CALOK = 1 →
      s.f R.ADC_STAT_NOSPARE = 0 → s.adc.hand = none → s.adc.rotAt + 771000 ≤ s.tba → s.nextSlice sp = some sl →
      (s.lane k).slice = sl → (∀ j < 16, (s.lane j).slice = sl → j = k) → Answers .rotationStep s fun t =>
        t.adc.hand = some k.val ∧ (t.lane k).slice = sl ∧ (t.lane k).overlap = some s.tba ∧ t.adc.rot = (sl + 1) % 17 ∧
          t.adc.rotAt = s.tba ∧ t.regs = s.regs ∧ KeepsMem s t) ∧
    (∀ (sp u : Nat) (k : Fin 16), s.adc.spare = some sp → s.adc.hand = some k.val → (s.lane k).overlap = some u → u + 40 ≤ s.tba →
      (s.lane k).conv = none → s.bitAt R.ADC_SLFAIL_FAIL (s.lane k).slice = false → (s.lane k).slice < 17 →
      s.bitAt R.ADC_SLFAIL_FAIL sp = false → (∀ j < 16, s.laneDead j = false) → Answers .sliceHandover s fun t =>
        (t.lane k).slice = sp ∧ (t.lane k).overlap = none ∧ t.adc.hand = none ∧ t.adc.spare = some (s.lane k).slice ∧
          t.f R.ADC_STAT_CALSL = (s.lane k).slice ∧ KeepsBut (R.ADC_STAT_CALSL :: xdc7) s t) ∧
    (s.f R.ADC_STAT_CALSL < 17 → Answers (.sliceCalibrationComplete true) s fun t =>
      t.f R.ADC_STAT_CALSL = 31 ∧ KeepsBut (R.ADC_STAT_CALSL :: xdc7) s t) ∧
    (s.f R.ADC_STAT_CALSL < 17 → Answers (.sliceCalibrationComplete false) s fun t =>
      t.f R.ADC_STAT_CALSL = 31 ∧ t.bitAt R.ADC_SLFAIL_FAIL (s.f R.ADC_STAT_CALSL) = true ∧
        (s.bitAt R.ADC_SLFAIL_FAIL (s.f R.ADC_STAT_CALSL) = false → t.f R.ADC_STAT_NOSPARE = 1))

/-- The shadow copies and the slices of the power stage. -/
def Obligations.ShadowAndSlices : Prop := shadowHolds ∧ slicesHolds

/-- A run of sequence q has started at the present edge: it is the next of its count, it is in progress and no trigger of it is
queued, where every lane has a slice that works; nothing of a register changes but `ADC_STAT.RUN` (R276 to R278, R287). -/
def runStarted (q : Nat) (s t : State) : Prop :=
  (t.adcSeq q).runs = (s.adcSeq q).runs + 1 ∧ (t.adcSeq q).edge = s.tba ∧ t.pending = s.pending ∧ t.part = s.part ∧
    ((∀ k < 16, s.laneDead k = false) → (t.adcSeq q).running = true ∧ (t.adcSeq q).queued = false ∧
      KeepsBut (R.ADC_STAT_RUN :: xdc7) s t)

/-- Triggers (R264, R276 to R279, R287, R302): before calibration they are counted in `EARLY`; one starts a run where none is in
progress or queued, and the walk of monitor mode 1 at any time; the next is queued, a further one is dropped and counted; a second
one at the same edge is the same trigger. A queued run starts once the previous one has ended and its lanes are ready. -/
def converterTriggersHolds : Prop :=
  ∀ (s : State) (q : Fin 3), s.live = true →
    (s.seqOn q = true → (s.adcSeq q).last ≠ some s.tba →
      (s.f R.ADC_STAT_CALOK = 0 → Answers (.converterTrigger q) s fun t =>
        t.f R.ADC_DROP_EARLY = min 127 (s.f R.ADC_DROP_EARLY + 1) ∧ KeepsBut [R.ADC_DROP_EARLY] s t) ∧
      (s.f R.ADC_STAT_CALOK = 1 →
        ((s.adcSeq q).running = false ∧ (s.adcSeq q).queued = false ∨ q.val = 2 ∧ s.f R.ADC_MON_CFG_MODE = 1 →
          Answers (.converterTrigger q) s fun t => runStarted q s t ∧ (t.adcSeq q).last = some s.tba) ∧
        ((q.val = 2 → s.f R.ADC_MON_CFG_MODE ≠ 1) → (s.adcSeq q).running = true → (s.adcSeq q).queued = false →
          Answers (.converterTrigger q) s fun t =>
            (t.adcSeq q).queued = true ∧ (t.adcSeq q).runs = (s.adcSeq q).runs ∧ KeepsBut (R.ADC_STAT_RUN :: xdc7) s t) ∧
        ((q.val = 2 → s.f R.ADC_MON_CFG_MODE ≠ 1) → (s.adcSeq q).queued = true → Answers (.converterTrigger q) s fun t =>
          t.f (dropFld q) = min 255 (s.f (dropFld q) + 1) ∧ KeepsOut (fun o => o = 0x90A0 ∨ evReg o) s t))) ∧
    (s.seqOn q = false ∨ (s.adcSeq q).last = some s.tba → Answers (.converterTrigger q) s fun t => KeepsBut [] s t) ∧
    ((s.adcSeq q).queued = true → (s.adcSeq q).running = false →
      (q.val ≠ 2 → ∀ c ∈ firsts (s.entries q), s.laneReady c.lane c.ch = true ∧ (q.val = 0 → ∀ d ∈ s.adc.inj.todo, d.lane ≠ c.lane)) →
      (q.val = 2 → ∀ k < 16, ∀ e, s.monTable.find? (fun e => monLane e.1 = k) = some e → s.laneReady k (monCh e.1) = true) →
      Answers (.queuedRunStart q) s (runStarted q s))

/-- A write of `ADC_SWTRIG` reaches each selected, enabled sequence once (R300): it starts the sequence's run; before calibration
each is counted in `EARLY` (R264). -/
def softwareTriggerHolds : Prop :=
  ∀ (s : State) (mask : BitVec 3), s.live = true → (∀ q < 3, (s.adcSeq q).last ≠ some s.tba) →
    (s.f R.ADC_STAT_CALOK = 1 → (∀ q < 3, mask.getLsbD q = true → s.seqOn q = true ∧ (s.adcSeq q).running = false ∧
      (s.adcSeq q).queued = false) → (∀ k < 16, s.laneDead k = false) → Answers (.adcSwtrig mask) s fun t =>
        (∀ q < 3, (t.adcSeq q).running = ((s.adcSeq q).running || mask.getLsbD q) ∧
          (t.adcSeq q).runs = (s.adcSeq q).runs + (if mask.getLsbD q then 1 else 0)) ∧
        Recorded 0x908C .done s t ∧ KeepsBut (R.ADC_STAT_RUN :: xdc7 ++ wresFlds) s t) ∧
    (s.f R.ADC_STAT_CALOK = 0 → (∀ q < 3, s.seqOn q = true) → Answers (.adcSwtrig mask) s fun t =>
      t.f R.ADC_DROP_EARLY = min 127 (s.f R.ADC_DROP_EARLY +
        ((if mask.getLsbD 0 then 1 else 0) + (if mask.getLsbD 1 then 1 else 0) + (if mask.getLsbD 2 then 1 else 0))) ∧
      Recorded 0x908C .done s t ∧ KeepsBut (R.ADC_DROP_EARLY :: wresFlds) s t)

/-- Conversion triggers, by hardware and by software. -/
def Obligations.Triggers : Prop := converterTriggersHolds ∧ softwareTriggerHolds

/-- One conversion: the next planned one of a lane samples once the lane is ready (R271, R282), with the plant time of its edge
(R291); the monitor walk issues its next entry (R285, R286); the end of a monitor conversion stores value, flags and instant in its
slot (R289, R290, R295); and a conversion that has not ended after 1.0 µs fails its slice (R269). -/
def Obligations.Conversions : Prop :=
  ∀ (s : State) (k : Fin 16), s.live = true →
    (∀ c, s.nextConv k = some c → s.laneReady k c.ch = true → (c.seq = 1 → s.adc.inj.edge + s.acq ≤ s.tba) → s.laneDead k = false →
      Answers (.samplingInstant k) s fun t =>
        (∃ d, (t.lane k).conv = some d ∧ d.seq = c.seq ∧ d.ent = c.ent ∧ d.ch = c.ch ∧ d.at_ = s.tba ∧ d.pt = s.ptAt (2 * s.tba) ∧
          d.diff = s.chDiff c.ch ∧ d.flt = s.chDead c.ch) ∧ t.regs = s.regs ∧ KeepsMem s t) ∧
    (∀ e : Word × Word, s.adc.mon.ents[s.adc.ptr]? = some e → monLane e.1 = k.val → s.testLane k = false → s.adc.mon.running = true →
      s.f R.ADC_STAT_CALOK = 1 → s.laneReady k (monCh e.1) = true → s.adc.prev + 200 * s.adc.dly ≤ s.tba → s.laneDead k = false →
      Answers .monitorIssue s fun t =>
        t.adc.prev = s.tba ∧ t.adc.dly = e.2.toNat % 2 ^ 16 ∧
          t.adc.rep = (if s.adc.rep + 1 < monRep e.1 then s.adc.rep + 1 else 0) ∧
          ((t.lane k).conv.map fun c => (c.seq, c.ent, c.ch, c.at_)) = some (2, s.adc.ptr, monCh e.1, s.tba) ∧
          t.regs = s.regs ∧ KeepsMem s t) ∧
    (∀ (c : Conv) (v : LandVolts) (code : Int), (s.lane k).conv = some c → c.seq = 2 → c.flt = false → s.part = .c0 → (s.lane k).slice < 17 →
      c.code v.p v.q = (code, false) → nearFull c.diff code = false → s.f R.CMP_CHK_EN = 0 → s.arrives k c = true →
      Answers (.conversionEnd k v) s fun t =>
        (t.lane k).conv = none ∧
          (t.word (s.slotAddr 2 c.ent)).toNat % 2 ^ 16 = adcVal c.left code ∧
          (t.word (s.slotAddr 2 c.ent)).toNat / 2 ^ 20 % 16 = k ∧ (t.word (s.slotAddr 2 c.ent)).toNat / 2 ^ 29 = c.tag % 8 ∧
          t.word (s.slotAddr 2 c.ent + 4) = ptWord c.pt ∧
          (∀ a, a < s.slotAddr 2 c.ent ∨ s.slotAddr 2 c.ent + 8 ≤ a → t.byte a = s.byte a) ∧
          (∀ off, off ≠ 0x9090 → off ≠ 0x301C → t.reg off = s.reg off)) ∧
    (∀ c : Conv, (s.lane k).conv = some c → c.at_ + 200 ≤ s.tba → (s.lane k).slice < 17 → Answers (.conversionTimeout k) s fun t =>
      (t.lane k).conv = none ∧ t.bitAt R.ADC_SLFAIL_FAIL (s.lane k).slice = true ∧ t.pending = s.pending)

/-! ### Register reads -/

/-- A read of a low word returns it and captures the high word for the path (R15, R628); an access that is not one aligned word
changes nothing (R563); a read of the last word of the capture window advances its block (R596, R628). -/
def Obligations.Reads : Prop :=
  ∀ s : State,
    (∀ (p : Path) (r : LowReg) (v : Nat), s.live = true → s.pairAt (lowOff r) = some v → Answers (.lowWordRead p r) s fun t =>
      t.rdata = BitVec.ofNat 32 v ∧ t.readVal (Machine.Path.key p) (lowOff r + 4) = BitVec.ofNat 32 (v / 2 ^ 32) ∧ t.regs = s.regs ∧
        KeepsMem s t) ∧
    (∀ p : Path, s.live = true → Answers (.readWindowAdvance p) s fun t =>
      t.f R.HST_CAPRW_BLK = (s.f R.HST_CAPRW_BLK + 1) % 2 ^ R.HST_CAPRW_BLK.w ∧ KeepsBut [R.HST_CAPRW_BLK] s t) ∧
    (∀ (b : Bool) (addr len : Nat), Answers (.unsupportedRequest b addr len) s fun t => t = s)

/-- Plant time is read as three registers: the read of `TIM_PT_NS` captures the whole of it, and the other two return what it
captured until it is read again, whatever has changed in between (R104). -/
def Obligations.PlantTimeRead : Prop :=
  ∀ (s : State) (p : Path), s.live = true → Answers (.plantTimeRead p) s fun t =>
    t.rdata = BitVec.ofNat 32 (ptNs s.pt) ∧ KeepsBut [] s t ∧
      ∀ u : State, u.ptCap (Machine.Path.key p) = t.ptCap (Machine.Path.key p) →
        u.readVal (Machine.Path.key p) 0x2014 = BitVec.ofNat 32 (ptSec s.pt) ∧
        u.readVal (Machine.Path.key p) 0x2018 = BitVec.ofNat 32 (ptSec s.pt / 2 ^ 32 % 2 ^ 16 + ptFrac s.pt * 2 ^ 16)

/-- `SYS_ID.CAPMEM` reads 1 on an AKX7216-C8 and 0 on an AKX7216-C0 (R6). -/
def Obligations.CapmemBit : Prop :=
  ∀ (s : State) (path : Nat), R.SYS_ID_CAPMEM.get (s.readVal path 0) = (if s.part = .c8 then 1 else 0)

/-! ### The control engine -/

/-- Instruction x runs without a parity error or a mismatch: its lane executes now, no stored bit is struck, no attempt differs, and
every register carries the residue of its value (R329 to R334). -/
structure runsClean (x : CeInstr) (s : State) : Prop where
  runs : s.laneRuns x.lane = true
  program : x.par = false ∧ s.ce.badProg = []
  data : x.dpar = none ∧ s.upsets = []
  attempts : x.mis = 0
  values : ∀ r < 32, (s.vreg x.lane r).res = residue (s.vi x.lane r)
  accs : ∀ b, (s.accReg x.lane b).res = residue (s.acc x.lane b)

/-- Where the word at the lane's place is the instruction with opcode `op` and the fields of x (R310, R311), command i answers as
`P` says. -/
def Runs (op : Nat) (x : CeInstr) (i : Instr) (s : State) (P : State → Prop) : Prop :=
  s.stands op x = true → Answers i s P

/-- The same for the kernel with number `id` (R340, R341). -/
def Calls (id : Nat) (x : CeInstr) (i : Instr) (s : State) (P : State → Prop) : Prop :=
  Runs 0x0C { x with imm := BitVec.ofNat 32 id } i s P

/-- Lane l goes on to the next instruction; every other lane and every register of the map stays, and so do the memories. -/
structure LaneSteps (l : Nat) (s t : State) : Prop where
  place : ((t.ceLane l).ctx.pc, (t.ceLane l).ctx.loops) = nextPlace (s.ceLane l).ctx.pc (s.ceLane l).ctx.loops
  lanes : ∀ k, k ≠ l → t.ceLane k = s.ceLane k
  regs : t.regs = s.regs
  host : t.hst.mem = s.hst.mem
  queue : t.pending = s.pending
  part : t.part = s.part

/-- An instruction writes `w` to its destination D and raises the flags `fl`; v0 ignores the write, no other register of the
lane changes, nor a byte of memory. -/
structure LaneWrites (x : CeInstr) (w : Word) (fl : Nat) (s t : State) : Prop extends LaneSteps x.lane s t where
  dest : x.d.val ≠ 0 → t.v x.lane x.d = w
  others : ∀ r, r ≠ x.d.val → t.v x.lane r = s.v x.lane r
  accs : ∀ b, t.accReg x.lane b = s.accReg x.lane b
  flags : (t.ceLane x.lane).flags = (s.ceLane x.lane).flags ||| fl
  mem : ∀ a, t.byte a = s.byte a

/-- The int32 instructions (R306, R310, R311): wrapping sums, bitwise operations, shifts by less than 32, the smaller and the
larger, the absolute value, the limit to `MOD` + 1 bits, a constant and the lane number. A shift by 32 or more and the
absolute value of −2^31 write some value (log entry on free values). -/
def Obligations.IntegerInstructions : Prop :=
  ∀ (x : CeInstr) (s : State), runsClean x s →
    Runs 0x10 x (.add x) s (LaneWrites x (s.wa x + s.wb x) 0 s) ∧
    Runs 0x11 x (.sub x) s (LaneWrites x (s.wa x - s.wb x) 0 s) ∧
    Runs 0x12 x (.and x) s (LaneWrites x (s.wa x &&& s.wb x) 0 s) ∧
    Runs 0x13 x (.or x) s (LaneWrites x (s.wa x ||| s.wb x) 0 s) ∧
    Runs 0x14 x (.xor x) s (LaneWrites x (s.wa x ^^^ s.wb x) 0 s) ∧
    ((s.wb x).toNat < 32 →
      Runs 0x15 x (.shl x) s (LaneWrites x (s.wa x <<< (s.wb x).toNat) 0 s) ∧
      Runs 0x16 x (.shr x) s (LaneWrites x (s.wa x >>> (s.wb x).toNat) 0 s) ∧
      Runs 0x17 x (.sar x) s (LaneWrites x ((s.wa x).sshiftRight (s.wb x).toNat) 0 s)) ∧
    (32 ≤ (s.wb x).toNat →
      Runs 0x15 x (.shl x) s (fun t => ∃ w, LaneWrites x w 0 s t) ∧ Runs 0x16 x (.shr x) s (fun t => ∃ w, LaneWrites x w 0 s t) ∧
      Runs 0x17 x (.sar x) s (fun t => ∃ w, LaneWrites x w 0 s t)) ∧
    Runs 0x18 x (.min x) s (LaneWrites x (BitVec.ofInt 32 (min (s.wa x).toInt (s.wb x).toInt)) 0 s) ∧
    Runs 0x19 x (.max x) s (LaneWrites x (BitVec.ofInt 32 (max (s.wa x).toInt (s.wb x).toInt)) 0 s) ∧
    (s.wa x ≠ 0x80000000#32 → Runs 0x1A x (.abs x) s (LaneWrites x (BitVec.ofNat 32 (s.wa x).toInt.natAbs) 0 s)) ∧
    (s.wa x = 0x80000000#32 → Runs 0x1A x (.abs x) s (fun t => ∃ w, LaneWrites x w 0 s t)) ∧
    Runs 0x1B x (.sat x) s (LaneWrites x (BitVec.ofInt 32 (max (-(2 ^ x.mod.val)) (min (2 ^ x.mod.val - 1) (s.wa x).toInt))) 0 s) ∧
    Runs 0x1C x (.movi x) s (LaneWrites x x.imm 0 s) ∧
    Runs 0x04 x (.lid x) s (LaneWrites x (BitVec.ofNat 32 x.lane) 0 s)

/-- An accumulator instruction leaves `c` saturated to 48 bits in its accumulator, and raises flag 4 exactly when it saturates
(R305, R306). -/
structure LaneAccumulates (x : CeInstr) (c : Int) (s t : State) : Prop extends LaneSteps x.lane s t where
  acc : t.acc x.lane x.acc = max (-(2 ^ 47)) (min (2 ^ 47 - 1) c)
  other : t.accReg x.lane (!x.acc) = s.accReg x.lane (!x.acc)
  values : ∀ r, t.v x.lane r = s.v x.lane r
  flags : (t.ceLane x.lane).flags = (s.ceLane x.lane).flags ||| (if c < -(2 ^ 47) ∨ 2 ^ 47 - 1 < c then 16 else 0)
  mem : ∀ a, t.byte a = s.byte a

/-- A Q1.31 result: saturated, with flag 3 exactly when it leaves the range (R305). -/
def QResult (x : CeInstr) (q : Int) (s t : State) : Prop :=
  LaneWrites x (BitVec.ofInt 32 (max (-(2 ^ 31)) (min (2 ^ 31 - 1) q))) (if q < -(2 ^ 31) ∨ 2 ^ 31 - 1 < q then 8 else 0) s t

/-- The Q1.31 and accumulator instructions (R305, R306, R311): products to nearest with halves up, saturation with its flags,
and the exact 64-bit product of IMAC before its 48-bit sum. -/
def Obligations.FixedPointInstructions : Prop :=
  ∀ (x : CeInstr) (s : State), runsClean x s →
    let a := (s.wa x).toInt
    let b := (s.wb x).toInt
    let c := s.acc x.lane x.acc
    Runs 0x20 x (.qmul x) s (QResult x ((a * b + 2 ^ 30) / 2 ^ 31) s) ∧
    Runs 0x21 x (.qadd x) s (QResult x (a + b) s) ∧
    Runs 0x22 x (.qsub x) s (QResult x (a - b) s) ∧
    Runs 0x23 x (.qneg x) s (QResult x (-a) s) ∧
    Runs 0x24 x (.qmac x) s (LaneAccumulates x (c + (a * b + 2 ^ 30) / 2 ^ 31) s) ∧
    Runs 0x25 x (.qmsu x) s (LaneAccumulates x (c - (a * b + 2 ^ 30) / 2 ^ 31) s) ∧
    Runs 0x28 x (.imac x) s (LaneAccumulates x (c + (BitVec.ofInt 48 (a * b)).toInt) s) ∧
    Runs 0x26 x (.accrd x) s (QResult x (c * 2 ^ x.mod.val) s) ∧
    Runs 0x27 x (.accld x) s (LaneAccumulates x a s)

/-- A word that a binary32 result allows: the value itself, or any quiet NaN where the spec leaves sign and payload open (R307). -/
def fpAllows (r : FpRes) (w : Word) : Prop := if r.openNan then w &&& 0x7FC00000#32 = 0x7FC00000#32 else w = r.v

/-- A binary32 instruction writes an allowed word and raises the flags of its result. -/
def FpResult (x : CeInstr) (r : FpRes) (s t : State) : Prop := ∃ w, fpAllows r w ∧ LaneWrites x w r.fl s t

/-- The binary32 instructions and conversions (R304, R307, R308, R311). -/
def floatInstructionsHolds : Prop :=
  ∀ (x : CeInstr) (s : State), runsClean x s →
    Runs 0x30 x (.fadd x) s (FpResult x (fpAdd (s.wa x) (s.wb x)) s) ∧
    Runs 0x31 x (.fsub x) s (FpResult x (fpAdd (s.wa x) (s.wb x ^^^ 0x80000000#32)) s) ∧
    Runs 0x32 x (.fmul x) s (FpResult x (fpMul (s.wa x) (s.wb x)) s) ∧
    Runs 0x33 x (.fma x) s (FpResult x (fpFma (s.wa x) (s.wb x) (s.wc x)) s) ∧
    Runs 0x36 x (.fdiv x) s (FpResult x (fpDiv (s.wa x) (s.wb x)) s) ∧
    Runs 0x37 x (.fsqrt x) s (FpResult x (fpSqrt (s.wa x)) s) ∧
    Runs 0x34 x (.fcmp x) s (LaneWrites x (BitVec.ofInt 32 (fpCmp (s.wa x) (s.wb x)).1) (fpCmp (s.wa x) (s.wb x)).2 s) ∧
    Runs 0x38 x (.fcvtq x) s (FpResult x (fpOfInt (s.wa x).toInt (-31)) s) ∧
    Runs 0x3A x (.fcvti x) s (FpResult x (fpOfInt (s.wa x).toInt 0) s) ∧
    (∀ n m e, fpRead (s.wa x) = .fin n m e → Runs 0x39 x (.fcvtf x) s (QResult x (fpToInt n m (e + 31)) s)) ∧
    (∀ n m e, fpRead (s.wa x) = .fin n m e → -(2 ^ 31) ≤ fpToInt n m e → fpToInt n m e < 2 ^ 31 →
      Runs 0x3B x (.fcvtfi x) s (LaneWrites x (BitVec.ofInt 32 (fpToInt n m e)) 0 s)) ∧
    (∀ q, fpRead (s.wa x) = .nan q → Runs 0x39 x (.fcvtf x) s (LaneWrites x 0 1 s) ∧ Runs 0x3B x (.fcvtfi x) s (LaneWrites x 0 1 s))

/-- Binary32 sums and products do not depend on the order of their operands; a finite value divided by zero raises flag 2 and
gives the infinity of the product of the signs; a root of a negative value is invalid (R304, R307, R308). -/
def floatLawsHolds : Prop :=
  (∀ a b : Word, fpAdd a b = fpAdd b a ∧ fpMul a b = fpMul b a) ∧
  (∀ (a b : Word) (n p : Bool) (m : Nat) (e f : Int), fpRead a = .fin n m e → m ≠ 0 → fpRead b = .fin p 0 f →
    (fpDiv a b).fl = 4 ∧ (fpDiv a b).v = (if n = p then 0x7F800000#32 else 0xFF800000#32)) ∧
  (∀ (a : Word) (m : Nat) (e : Int), fpRead a = .fin true m e → m ≠ 0 → fpSqrt a = fpInvalid)

/-- Binary32 instructions and the laws of their results. -/
def Obligations.FloatInstructions : Prop := floatInstructionsHolds ∧ floatLawsHolds

/-- What a kernel leaves alone: v0, v1, v16 to v31, a0 and every other lane; it goes on to the next instruction (R340). -/
structure KernelSteps (x : CeInstr) (s t : State) : Prop extends LaneSteps x.lane s t where
  values : ∀ r, r < 2 ∨ 16 ≤ r → t.v x.lane r = s.v x.lane r
  acc0 : t.accReg x.lane false = s.accReg x.lane false

/-- y lies within five last places of a value, or is the end of the Q1.31 range nearest to it (log entry on accuracies). -/
def nearTo (y : Word) (v : Int) : Prop :=
  ∃ e : Int, -5 ≤ e ∧ e ≤ 5 ∧ y.toInt = max (-(2 ^ 31)) (min (2 ^ 31 - 1) (v + e))

/-- y is a Q1.31 value at most 2^-29, four last places, from x with 31 + n fractional bits, or the end of the range nearest to such a
value (R305, R311). -/
def withinFour (y : Word) (x : Int) (n : Nat) : Prop :=
  ∃ z : Int, z * 2 ^ n ≤ x + 4 * 2 ^ n ∧ x ≤ z * 2 ^ n + 4 * 2 ^ n ∧ y.toInt = max (-(2 ^ 31)) (min (2 ^ 31 - 1) z)

/-- SINCOS, ATAN2 and the kernels without a state block (R311, R340, R341). -/
def trigonometryAndKernelsHolds : Prop :=
  ∀ (x : CeInstr) (s : State), runsClean x s →
    let v (r : Nat) : Int := s.vi x.lane r
    let sc := fxSinCos (v 4)
    (x.d.val < 31 → Runs 0x3C x (.sincos x) s fun t =>
      (x.d.val ≠ 0 → withinFour (t.v x.lane x.d) (fxSinCos (s.wa x).toInt).1 31) ∧
        withinFour (t.v x.lane (x.d.val + 1)) (fxSinCos (s.wa x).toInt).2 31 ∧
        (∀ r, r ≠ x.d.val → r ≠ x.d.val + 1 → t.v x.lane r = s.v x.lane r) ∧ LaneSteps x.lane s t) ∧
    (x.d.val = 31 → Runs 0x3C x (.sincos x) s fun t => t.f R.CE_STAT_HOLD = 1 ∧ t.f R.CE_FAULT_KIND = 2) ∧
    (x.d.val ≠ 0 → (s.wa x ≠ 0 ∨ s.wb x ≠ 0) → Runs 0x3D x (.atan2 x) s fun t =>
      withinFour (t.v x.lane x.d) (fxAtan2Fine (s.wa x).toInt (s.wb x).toInt) 16 ∧
        (∀ r, r ≠ x.d.val → t.v x.lane r = s.v x.lane r) ∧ LaneSteps x.lane s t) ∧
    Calls 1 x (.clarke x) s (fun t => t.v x.lane 2 = qWord (nearDiv (2 * v 2 - v 3 - v 4) 3) ∧
      nearTo (t.v x.lane 3) (rnd ((v 3 - v 4) * fxInvSqrt3) 62) ∧ KernelSteps x s t ∧ t.mem = s.mem) ∧
    Calls 2 x (.park x) s (fun t => nearTo (t.v x.lane 2) (rnd (v 2 * sc.2 + v 3 * sc.1) 62) ∧
      nearTo (t.v x.lane 3) (rnd (v 3 * sc.2 - v 2 * sc.1) 62) ∧ KernelSteps x s t ∧ t.mem = s.mem) ∧
    Calls 3 x (.ipark x) s (fun t => nearTo (t.v x.lane 2) (rnd (v 2 * sc.2 - v 3 * sc.1) 62) ∧
      nearTo (t.v x.lane 3) (rnd (v 3 * sc.2 + v 2 * sc.1) 62) ∧ KernelSteps x s t ∧ t.mem = s.mem) ∧
    Calls 7 x (.seqsep x) s (fun t => t.v x.lane 2 = qWord (rnd (v 2 - v 5) 1) ∧ t.v x.lane 3 = qWord (rnd (v 4 + v 3) 1) ∧
      t.v x.lane 4 = qWord (rnd (v 2 + v 5) 1) ∧ t.v x.lane 5 = qWord (rnd (v 4 - v 3) 1) ∧ KernelSteps x s t ∧ t.mem = s.mem) ∧
    (v 2 = 0 → v 3 = 0 → Calls 8 x (.svm x) s fun t =>
      t.v x.lane 2 = 0x800000#32 ∧ t.v x.lane 3 = 0x800000#32 ∧ t.v x.lane 4 = 0x800000#32 ∧ KernelSteps x s t ∧ t.mem = s.mem) ∧
    Calls 13 x (.pq x) s (fun t => t.v x.lane 2 = qWord (rnd (v 2 * v 4 + v 3 * v 5) 31) ∧
      t.v x.lane 3 = qWord (rnd (v 3 * v 4 - v 2 * v 5) 31) ∧ KernelSteps x s t ∧ t.mem = s.mem)

/-- A kernel with a state block of n words at A: no byte outside the block changes. -/
structure BlockKernel (x : CeInstr) (a n : Nat) (s t : State) : Prop extends KernelSteps x s t where
  mem : ∀ b, b < a ∨ a + 4 * n ≤ b → t.byte b = s.byte b

/-- The kernels with a state block (R340, R359, R360, R362, R363, R376), for a block in the general area at a multiple of 8. -/
def blockKernelsHolds : Prop :=
  ∀ (x : CeInstr) (s : State) (a : Nat), runsClean x s → s.inFore x.lane = true → (s.v x.lane 1).toNat = a → a % 8 = 0 →
    a + 48 ≤ 0x10000 → (∀ i < 12, s.inConst (a + 4 * i) = false) →
    let v (r : Nat) : Int := s.vi x.lane r
    let m (i : Nat) : Int := (s.word (a + 4 * i)).toInt
    let clamp (lo hi y : Int) : Int := max lo (min hi y)
    let u := (m 0 * v 2 + 2 ^ 30) / 2 ^ 31 + m 4 + v 3
    let y := clampInt (-(2 ^ 31)) (2 ^ 31 - 1) (rnd (m 0 * v 2) 30 + m 5)
    let p := clampInt (-(2 ^ 31)) (2 ^ 31 - 1) ((v 2 * v 3 + 2 ^ 30) / 2 ^ 31)
    Calls 4 x (.piStep x) s (fun t => t.v x.lane 2 = BitVec.ofInt 32 (clamp (m 3) (m 2) u) ∧
      t.v x.lane 3 = BitVec.ofNat 32 (bit (decide (u < m 3 ∨ m 2 < u))) ∧
      ((u < m 3 ∨ m 2 < u) → t.word (a + 16) = s.word (a + 16)) ∧ (∀ i, i < 4 ∨ i = 5 → t.word (a + 4 * i) = s.word (a + 4 * i)) ∧
      BlockKernel x a 6 s t) ∧
    Calls 9 x (.biquad x) s (fun t => t.v x.lane 2 = BitVec.ofInt 32 y ∧ (∀ i < 5, t.word (a + 4 * i) = s.word (a + 4 * i)) ∧
      t.word (a + 24) = qWord (rnd (m 2 * v 2 - m 4 * y) 30) ∧ BlockKernel x a 8 s t) ∧
    Calls 6 x (.sogifll x) s (fun t => t.v x.lane 2 = t.word (a + 20) ∧ t.v x.lane 3 = t.word (a + 24) ∧
      t.v x.lane 4 = t.word (a + 28) ∧ (m 2 ≤ m 3 → m 2 ≤ (t.v x.lane 4).toInt ∧ (t.v x.lane 4).toInt ≤ m 3) ∧
      (∀ i < 5, t.word (a + 4 * i) = s.word (a + 4 * i)) ∧ BlockKernel x a 12 s t) ∧
    Calls 11 x (.mpptpo x) s (fun t => t.v x.lane 2 = t.word (a + 12) ∧ t.word (a + 16) = BitVec.ofInt 32 p ∧
      (t.word (a + 20)).toInt = (if p < m 4 then (BitVec.ofInt 32 (-(m 5))).toInt else m 5) ∧ BlockKernel x a 8 s t) ∧
    Calls 12 x (.mpptic x) s (fun t => t.v x.lane 2 = t.word (a + 12) ∧ t.word (a + 16) = s.v x.lane 2 ∧
      t.word (a + 20) = s.v x.lane 3 ∧ BlockKernel x a 8 s t) ∧
    Calls 14 x (.msq x) s (fun t => t.v x.lane 2 = qWord (m 1 + rnd (m 0 * (v 2 * v 2 - m 1 * 2 ^ 31)) 62) ∧
      t.word (a + 4) = t.v x.lane 2 ∧ BlockKernel x a 4 s t) ∧
    (0 ≤ m 0 → Calls 15 x (.ramp x) s fun t => t.v x.lane 2 = qWord (m 1 + clamp (-(m 0)) (m 0) (v 2 - m 1)) ∧ BlockKernel x a 4 s t) ∧
    (0 ≤ v 3 → (m 2 + 4 * (v 3 / 32)) % 4 = 0 → 0 ≤ m 2 → m 2 + 4 * (v 3 / 32) + 4 ≤ 0x10000 → Calls 10 x (.corr x) s fun t =>
      t.v x.lane 2 = s.word (a + 12) ∧ t.v x.lane 3 = BitVec.ofNat 32 (bit (decide (v 3 < m 4))) ∧
        t.word (a + 16) = s.v x.lane 3 ∧ BlockKernel x a 6 s t)

/-- Trigonometry, transforms and the block kernels. -/
def Obligations.Kernels : Prop := trigonometryAndKernelsHolds ∧ blockKernelsHolds

/-- A store changes exactly its n bytes, to the low bytes of the words given, and no register of the lane. -/
structure LaneStores (x : CeInstr) (a n : Nat) (byteOf : Nat → Byte) (s t : State) : Prop extends LaneSteps x.lane s t where
  stored : ∀ i, i < n → t.byte (a + i) = byteOf i
  rest : ∀ b, b < a ∨ a + n ≤ b → t.byte b = s.byte b
  values : ∀ r, t.v x.lane r = s.v x.lane r
  accs : ∀ c, t.accReg x.lane c = s.accReg x.lane c

/-- Loads and stores at A + `IMM` (R310 to R312): a word, bytes and halves, two and four words; a byte or half load leaves the
upper bits of D free; an access R337 does not allow is a program fault that changes no register of the lane. -/
def Obligations.LoadsAndStores : Prop :=
  ∀ (x : CeInstr) (s : State), runsClean x s →
    let a := (s.wa x + x.imm).toNat
    let byteOf (r i : Nat) : Byte := (s.v x.lane r).extractLsb' (8 * i) 8
    (x.mod.val % 4 = 2 → s.ceMayLoad a 4 = true → Runs 0x40 x (.ld x) s (LaneWrites x (s.ceWord x.lane a) 0 s)) ∧
    (∀ n : Nat, (x.mod.val % 4 = 0 ∧ n = 1) ∨ (x.mod.val % 4 = 1 ∧ n = 2) → s.ceMayLoad a n = true →
      Runs 0x40 x (.ld x) s fun t => ∃ w, w.toNat % 256 ^ n = s.ceNat x.lane a n ∧ LaneWrites x w 0 s t) ∧
    (∀ n : Nat, (x.mod.val % 4 = 0 ∧ n = 1) ∨ (x.mod.val % 4 = 1 ∧ n = 2) ∨ (x.mod.val % 4 = 2 ∧ n = 4) → s.ceMayStore a n = true →
      Runs 0x41 x (.st x) s (LaneStores x a n (byteOf x.d) s)) ∧
    (x.d.val < 31 → s.ceMayLoad a 8 = true → Runs 0x42 x (.ld2 x) s fun t =>
      (x.d.val ≠ 0 → t.v x.lane x.d = s.ceWord x.lane a) ∧ t.v x.lane (x.d.val + 1) = s.ceWord x.lane (a + 4) ∧
        (∀ r, r ≠ x.d.val → r ≠ x.d.val + 1 → t.v x.lane r = s.v x.lane r) ∧ t.mem = s.mem ∧ LaneSteps x.lane s t) ∧
    (x.d.val < 29 → s.ceMayLoad a 16 = true → Runs 0x44 x (.ldq x) s fun t =>
      (∀ i < 4, x.d.val + i ≠ 0 → t.v x.lane (x.d.val + i) = s.ceWord x.lane (a + 4 * i)) ∧
        (∀ r, r < x.d.val ∨ x.d.val + 4 ≤ r → t.v x.lane r = s.v x.lane r) ∧ t.mem = s.mem ∧ LaneSteps x.lane s t) ∧
    (x.d.val < 31 → s.ceMayStore a 8 = true → Runs 0x43 x (.st2 x) s
      (LaneStores x a 8 (fun i => if i < 4 then byteOf x.d i else byteOf (x.d.val + 1) (i - 4)) s)) ∧
    (x.mod.val % 4 = 2 → s.ceMayLoad a 4 = false → Runs 0x40 x (.ld x) s fun t =>
      t.f R.CE_STAT_HOLD = 1 ∧ t.f R.CE_FAULT_KIND = 2 ∧ t.f R.CE_FAULT_LANE = x.lane ∧ t.f R.CE_STAT_RUN = 0 ∧
        (∀ r, t.v x.lane r = s.v x.lane r))

/-- Control flow (R310, R311): branches on their conditions, calls to a depth of 16 and returns, hardware loops to a depth of 2,
NOP, the flags, and the end of a lane's part (R319). -/
def controlFlowHolds : Prop :=
  ∀ (x : CeInstr) (s : State), runsClean x s →
    let l := x.lane.val
    let c := (s.ceLane l).ctx
    let cond : Option Bool := match x.mod.val with
      | 0 => some true
      | 1 => some (s.v l x.a = s.v l x.b)
      | 2 => some (s.v l x.a ≠ s.v l x.b)
      | 3 => some (decide ((s.v l x.a).toInt < (s.v l x.b).toInt))
      | 4 => some (decide ((s.v l x.b).toInt ≤ (s.v l x.a).toInt))
      | 5 => some (decide ((s.v l x.a).toInt ≤ (s.v l x.b).toInt))
      | 6 => some (decide ((s.v l x.b).toInt < (s.v l x.a).toInt))
      | _ => none
    let quiet (t : State) : Prop := (∀ r, t.v l r = s.v l r) ∧ t.regs = s.regs ∧ KeepsMem s t
    Runs 0x00 x (.nop x) s (fun t => LaneSteps l s t ∧ quiet t) ∧
    (cond = some false → Runs 0x08 x (.br x) s fun t => LaneSteps l s t ∧ quiet t) ∧
    (cond = some true → s.badTarget x.imm.toNat = false → Runs 0x08 x (.br x) s fun t =>
      (t.ceLane l).ctx = { c with pc := x.imm.toNat } ∧ quiet t) ∧
    (cond = some true → s.badTarget x.imm.toNat = true → Runs 0x08 x (.br x) s fun t =>
      t.f R.CE_STAT_HOLD = 1 ∧ t.f R.CE_FAULT_KIND = 2 ∧ t.f R.CE_FAULT_OP = 0x08) ∧
    (c.calls.length < 16 → s.badTarget x.imm.toNat = false → Runs 0x09 x (.call x) s fun t =>
      (t.ceLane l).ctx.pc = x.imm.toNat ∧ (t.ceLane l).ctx.calls = (nextPlace c.pc c.loops).1 :: c.calls ∧ quiet t) ∧
    (∀ pc rest, c.calls = pc :: rest → Runs 0x0A x (.ret x) s fun t =>
      (t.ceLane l).ctx = { c with pc := pc, calls := rest } ∧ quiet t) ∧
    (c.loops.length < 2 → s.badTarget x.imm.toNat = false → 0 < s.vi l x.a → Runs 0x0B x (.loop x) s fun t =>
      (t.ceLane l).ctx.pc = (c.pc + 1) % 32768 ∧
        (t.ceLane l).ctx.loops = ((c.pc + 1) % 32768, x.imm.toNat, (s.vi l x.a).toNat) :: c.loops ∧ quiet t) ∧
    (c.loops.length < 2 → s.badTarget x.imm.toNat = false → s.vi l x.a ≤ 0 → Runs 0x0B x (.loop x) s fun t =>
      (t.ceLane l).ctx = { c with pc := (x.imm.toNat + 1) % 32768 } ∧ quiet t) ∧
    Runs 0x05 x (.flg x) s (fun t => (x.d.val ≠ 0 → t.v l x.d = BitVec.ofNat 32 (s.ceLane l).flags) ∧ (t.ceLane l).flags = 0 ∧
      (∀ r, r ≠ x.d.val → t.v l r = s.v l r) ∧ LaneSteps l s t ∧ KeepsMem s t) ∧
    (s.inFore l = true → (∃ k < 8, k ≠ l ∧ s.inFore k = true) → Runs 0x01 x (.endLane x) s fun t =>
      (t.ceLane l).fore = {} ∧ (t.ceLane l).back = (s.ceLane l).back ∧ t.regs = s.regs ∧ KeepsMem s t) ∧
    (s.inFore l = true → (∀ k < 8, k ≠ l → s.inFore k = false) → s.ce.part = .cycle → Runs 0x01 x (.endLane x) s fun t =>
      t.f R.CE_STAT_RUN = 0 ∧ t.ce.part = .idle ∧ t.ce.sent = true ∧ t.ce.parm = []) ∧
    (s.inFore l = false → Runs 0x01 x (.endLane x) s fun t => (t.ceLane l).back = {} ∧ t.regs = s.regs ∧ KeepsMem s t)

/-- Waits (R311, R334, R335): a barrier holds its lane until every lane of the mask has come to it, and then lets go every lane that
waits at a barrier with that mask; WNE waits until the word differs; a refetch mends the words with the error and lets the lane, in
its cycle part or its background, execute its instruction again. -/
def waitsHolds : Prop :=
  ∀ s : State, s.live = true →
    (∀ x : CeInstr, runsClean x s → Runs 0x02 x (.bar x) s fun t =>
      (t.ceLane x.lane).ctx = { (s.ceLane x.lane).ctx with wait := .bar (x.imm.toNat % 256) } ∧ t.regs = s.regs ∧ KeepsMem s t) ∧
    (∀ mask : BitVec 8, s.ceFree = true → (∀ l < 8, mask.getLsbD l = true → (s.ceLane l).ctx.wait = .bar mask.toNat) →
      Answers (.barRelease mask) s fun t =>
        (∀ l < 8, if (s.ceLane l).ctx.wait = .bar mask.toNat then (t.ceLane l).ctx.wait = .none ∧
            ((t.ceLane l).ctx.pc, (t.ceLane l).ctx.loops) = nextPlace (s.ceLane l).ctx.pc (s.ceLane l).ctx.loops
          else t.ceLane l = s.ceLane l) ∧ t.regs = s.regs ∧ KeepsMem s t) ∧
    (∀ mask : BitVec 8, (∃ l < 8, mask.getLsbD l = true ∧ (s.ceLane l).ctx.wait ≠ .bar mask.toNat) →
      Answers (.barRelease mask) s fun t => t = s) ∧
    (∀ x : CeInstr, runsClean x s → s.ceMayLoad (s.wa x + x.imm).toNat 4 = true → Runs 0x03 x (.wne x) s fun t =>
      (s.ceWord x.lane (s.wa x + x.imm).toNat ≠ s.v x.lane x.b → LaneSteps x.lane s t) ∧
        (s.ceWord x.lane (s.wa x + x.imm).toNat = s.v x.lane x.b →
          (t.ceLane x.lane).ctx = { (s.ceLane x.lane).ctx with wait := .wne (s.wa x + x.imm).toNat (s.v x.lane x.b) }) ∧
        t.regs = s.regs ∧ KeepsMem s t) ∧
    (∀ (l : Fin 8) (a : Nat) (b : Word), (s.ceLane l).ctx.wait = .wne a b → s.ceWord l a ≠ b → s.ceFree = true → s.laneUp l = true →
      s.upsets = [] →
      Answers (.wneWake l) s fun t => (t.ceLane l).ctx.wait = .none ∧ LaneSteps l s t ∧ KeepsMem s t) ∧
    (∀ (l : Fin 8) (prog : Bool) (a : Nat), (s.ceLane l).ctx.wait = .fetch prog a →
      (s.inFore l = true → (s.ceLane l).back.wait = .none) → (s.inFore l = false → (s.ceLane l).fore.wait = .none) →
      Answers (.parityRefetchComplete l) s fun t =>
        (t.ceLane l).ctx = { (s.ceLane l).ctx with wait := .none } ∧ t.regs = s.regs ∧
          (prog = true → (∀ i ∈ t.ce.badProg, i / 2 ≠ a) ∧ KeepsMem s t) ∧
          (prog = false → (∀ b ∈ t.upsets, b / 4 ≠ a / 4) ∧ ∀ b, b / 4 ≠ a / 4 → t.byte b = s.byte b))

/-- Control flow and waits of a program. -/
def Obligations.ControlFlow : Prop := controlFlowHolds ∧ waitsHolds

/-- What a program asks of the module (R172 to R174, R322, R327, R328): update sets and their acknowledge, events, block trips and
setup writes. -/
def programRequestsHolds : Prop :=
  ∀ (x : CeInstr) (s : State), runsClean x s → s.sys.arm = none →
    let l := x.lane.val
    let a := (s.v l x.a).toNat
    let n := (s.v l x.b).toNat
    (s.inFore l = true → a % 4 = 0 → a + 4 * n ≤ 0x20000 → n ≤ 28 → (∀ i < n, ceReserved (a + 4 * i) = false) →
      Runs 0x48 x (.ups x) s fun t =>
        t.ce.ups = s.ce.ups ++ [(l, (List.range n).map fun i => s.word (a + 4 * i), x.mod.val.testBit 0)] ∧
          (t.ceLane l).ctx.wait = .ups ∧ KeepsMem s t) ∧
    (s.inFore l = false → Runs 0x48 x (.ups x) s fun t => t.f R.CE_STAT_HOLD = 1 ∧ t.f R.CE_FAULT_KIND = 2) ∧
    (∀ ws last, s.ce.ups = [(l, ws, last)] → s.ce.sent = false → Answers .updateSetAcknowledge s fun t =>
      t.ce.ups = [] ∧ (t.xing 0).flight = none ∧
        ((∃ u, s.checkSet ws = .ok u) → t.ce.held = s.ce.held ++ [ws] ∧ t.regs = s.regs) ∧
        (∀ e, s.checkSet ws = .error e → t.ce.held = s.ce.held ∧
          t.f R.PWM_STAT_REFUSED = min (2 ^ R.PWM_STAT_REFUSED.w - 1) (s.f R.PWM_STAT_REFUSED + 1))) ∧
    ((∀ w < 16, s.f (R.HST_CAP_STAT_ST w) = 0) → s.f R.HST_EVR_CFG_EN = 1 → s.hst.held.length < 64 → s.f R.HST_EVR_CFG_LINK = 0 →
      Runs 0x49 x (.evt x) s fun t =>
        t.hst.held = s.hst.held ++ [{ s.evNow 0x0A05 l (x.imm.toNat % 2 ^ 16) a 0 with seq := s.hst.evSeq }] ∧
          LaneSteps l s t ∧ KeepsMem s t) ∧
    (s.inSt [stStandby, stArmed, stConnected, stRide] = true → Runs 0x4A x (.trq x) s fun t =>
      t.st = stTripped ∧ t.sys.causes = s.sys.causes ++ [(0x0B, x.imm.toNat % 256)] ∧ KeepsMem s t) ∧
    (s.inFore l = true → Runs 0x4B x (.swr x) s (LaneWrites x 1 0 s)) ∧
    (s.inFore l = false → x.mod.val.testBit 0 = false → Runs 0x4B x (.swr x) s fun t =>
      t.ce.swr = s.ce.swr ++ [(x.imm.toNat, s.wa x)] ∧ (t.ceLane l).ctx.wait = .swr x.d 0 ∧ LaneSteps l s t ∧ KeepsMem s t)

/-- The completion of a setup write brings its status to the destination register, and the lane goes on (R327). -/
def setupWriteCompletionHolds : Prop :=
  ∀ (s : State) (l : Fin 8) (d st : Nat), s.live = true → (s.ceLane l).back.wait = .swr d st → s.inFore l = false →
    s.sys.arm = none → d ≠ 0 → Answers (.swrCompletion l) s fun t =>
      t.v l d = BitVec.ofNat 32 st ∧ (t.ceLane l).ctx = { (s.ceLane l).ctx with wait := .none } ∧
        (∀ r, r ≠ d → t.v l r = s.v l r) ∧ t.regs = s.regs ∧ KeepsMem s t

/-- Requests a program makes, and the completion of its setup writes. -/
def Obligations.ProgramRequests : Prop := programRequestsHolds ∧ setupWriteCompletionHolds

/-- A cycle (R317 to R326): its start with number, deadline and cycle information; a commit in time, which clears the count of
consecutive misses, and a late one; a passed deadline; the trip on `MISSMAX`; an INIT that does not end in 10 ms. -/
def Obligations.ControlCycles : Prop :=
  ∀ s : State, s.live = true → s.sys.arm = none →
    (∀ i, s.ce.img = some i → s.ce.part = .idle → s.st ≠ stBoot → s.f R.CE_CTL_EN = 1 → s.f R.CE_STAT_LOADED = 1 →
      s.f R.CE_STAT_HOLD = 0 → s.ce.act = 0 → s.upsets = [] → (s.xing 2).got ≤ 1 → (∃ l < 8, (entryOf i.cycle l).isSome = true) →
      Answers .ceCycleStart s fun t =>
        t.f R.CE_CYC_CNT = (s.f R.CE_CYC_CNT + 1) % 2 ^ 32 ∧ t.f R.CE_STAT_RUN = 1 ∧ t.ce.part = .cycle ∧
          t.ce.start = (s.ce.matchAt.getD s.startMatch).at_ ∧ t.ce.startPt = (s.ce.matchAt.getD s.startMatch).pt ∧
          t.ce.deadline = (s.ce.matchAt.getD s.startMatch).deadline ∧
          t.ce.dlPending = true ∧ t.ce.arrived = false ∧ t.word 0x1E800 = BitVec.ofNat 32 (s.f R.CE_CYC_CNT + 1) ∧
          (∀ l < 8, ∀ pc, entryOf i.cycle l = some pc → (t.ceLane l).fore = { run := true, pc := pc }) ∧
          (∀ a, a < 0x1E800 ∨ 0x1E820 ≤ a → t.byte a = s.byte a)) ∧
    (s.startMatch = { at_ := s.tbp, pt := s.pt, deadline := s.tbp + s.durDown (s.f R.CE_DL_DL) }) ∧
    (s.upsets = [] → s.ce.sent = true → s.ce.arrived = false → s.ce.dlPending = true → s.tbp ≤ s.ce.deadline → Answers .commitArrival s fun t =>
      t.ce.arrived = true ∧ t.ce.dlPending = false ∧ t.ce.held = [] ∧ t.ce.consec = 0 ∧ t.f R.CE_STAT_CONSEC = 0 ∧
        t.f R.CE_STAT_MTRIP = 0 ∧ t.f R.CE_DUR_LAST = min (2 ^ 20 - 1) (s.tbp - s.ce.start) ∧ t.grd.waiting = true ∧
        t.grd.copyAt = s.ce.startPt ∧ KeepsMem s t) ∧
    (s.ce.sent = true → s.ce.arrived = false → s.ce.dlPending = false → Answers .commitArrival s fun t =>
      t.ce.arrived = true ∧ t.ce.held = [] ∧ t.f R.CE_MISS_LATE = min (2 ^ R.CE_MISS_LATE.w - 1) (s.f R.CE_MISS_LATE + 1) ∧
        t.pwm = s.pwm ∧ KeepsMem s t) ∧
    (s.upsets = [] → s.ce.dlPending = true → s.ce.arrived = false → s.ce.deadline ≤ s.tbp → Answers .deadlineExpiry s fun t =>
      t.ce.dlPending = false ∧ t.ce.prevMiss = true ∧ t.ce.consec = min 65535 (s.ce.consec + 1) ∧
        t.f R.CE_MISS_MISS = min (2 ^ R.CE_MISS_MISS.w - 1) (s.f R.CE_MISS_MISS + 1) ∧ KeepsMem s t) ∧
    (s.f R.CE_DL_MISSMAX ≤ s.ce.consec → s.f R.CE_STAT_MTRIP = 0 → s.ce.consec ≠ 0 → Answers .ceMiss s fun t =>
      t.f R.CE_STAT_MTRIP = 1 ∧ t.sys.causes = s.sys.causes ++ [(0x08, 0)] ∧ KeepsMem s t) ∧
    (∀ u stopped, s.ce.part = .init u stopped → u + 10 * perMs ≤ s.tbp → s.ce.act ≠ 1 → s.ce.act ≠ 2 → Answers .initTimeout s fun t =>
      t.f R.CE_STAT_HOLD = 1 ∧ t.f R.CE_FAULT_KIND = 3 ∧ t.ce.part = .idle ∧ t.ce.held = [])

/-- Images (R339, R345 to R347): a CE reset and an activation only in STANDBY, TRIPPED or SAFE; the verification leads to the load
or ends the activation with FORMAT or AUTH; the load makes the slot active; BOOT loads the active slot, or the other. -/
def Obligations.ProgramImages : Prop :=
  ∀ s : State, s.live = true →
    (s.quiet = false → Answers .ceReset s fun t => Recorded 0xA000 .state s t ∧ KeepsBut wresFlds s t) ∧
    (s.quiet = true → s.f R.CE_STAT_ACTBUSY = 0 → s.ce.img = none → Answers .ceReset s fun t =>
      t.f R.CE_STAT_HOLD = 0 ∧ t.f R.CE_STAT_RUN = 0 ∧ (∀ l < 8, t.ceLane l = { flags := (s.ceLane l).flags }) ∧
        t.ce.part = .idle ∧ t.ce.held = [] ∧ (∀ i < 8, t.word (0x1E800 + 4 * i) = 0) ∧ Recorded 0xA000 .done s t) ∧
    (∀ slot : Fin 2, s.quiet = true → s.f R.CE_STAT_ACTBUSY = 0 → Answers (.ceActivate slot) s fun t =>
      t.f R.CE_STAT_ACTBUSY = 1 ∧ t.ce.act = 1 ∧ t.ce.actSlot = slot ∧ Recorded 0xA000 .done s t ∧
        KeepsBut (R.CE_STAT_ACTBUSY :: wresFlds) s t) ∧
    (∀ slot : Fin 2, s.quiet = false → s.f R.CE_STAT_ACTBUSY = 0 → Answers (.ceActivate slot) s fun t =>
      t.f R.CE_STAT_ACTRES = 1 ∧ t.f R.CE_STAT_ACTBUSY = 0 ∧ t.ce.act = s.ce.act ∧ Recorded 0xA000 .state s t ∧ KeepsMem s t) ∧
    (s.ce.act = 1 → s.verifySlot s.ce.actSlot = 0 → Answers .imageVerificationComplete s fun t =>
      t.ce.act = 2 ∧ t.regs = s.regs ∧ KeepsMem s t) ∧
    (s.ce.act = 1 → s.verifySlot s.ce.actSlot ≠ 0 → Answers .imageVerificationComplete s fun t =>
      t.ce.act = 0 ∧ t.f R.CE_STAT_ACTBUSY = 0 ∧ t.f R.CE_STAT_ACTRES = s.verifySlot s.ce.actSlot ∧ t.ce.img = s.ce.img ∧
        KeepsMem s t) ∧
    (∀ img, s.ce.act = 2 → s.ce.actSlot < 2 → Tab.look s.ce.slots s.ce.actSlot = some img → Answers .imageLoadComplete s fun t =>
      t.ce.img = some (readHeader img) ∧ t.f R.CE_STAT_LOADED = 1 ∧ t.f R.CE_STAT_ACTIVE = s.ce.actSlot ∧
        t.f R.CE_IMG_ID = imgWord img 4 ∧ t.f R.CE_IMGV_VER = imgWord img 8) ∧
    (∀ img, s.st = stBoot → s.f R.CE_STAT_LOADED = 0 → s.ce.lastSlot < 2 → Tab.look s.ce.slots s.ce.lastSlot = some img →
      s.verifySlot s.ce.lastSlot = 0 → Answers .bootImageLoad s fun t =>
        t.ce.img = some (readHeader img) ∧ t.f R.CE_STAT_LOADED = 1 ∧ t.f R.CE_STAT_ACTIVE = s.ce.lastSlot) ∧
    (s.st = stBoot → s.f R.CE_STAT_LOADED = 0 → (∀ b < 2, s.verifySlot b ≠ 0) → s.ce.lastSlot < 2 → Answers .bootImageLoad s fun t =>
      t.f R.CE_STAT_LOADED = 0 ∧ t.bitAt R.SYS_STATE_WAIT 2 = false ∧ t.ce.img = s.ce.img ∧ KeepsBut [R.SYS_STATE_WAIT] s t)

/-! ### The grid supervisor -/

/-- An evaluation (R355, R366, R368, R369, R371): it takes the copy that waits once, shows the zone of its active points, and with
the supervisor enabled leaves CONNECTED or RIDE as the zone asks, unless a request of the same evaluation has tripped the
block; outside them the state stays and no cessation hold stands. -/
def gridEvaluationHolds : Prop :=
  ∀ s : State, s.live = true → s.sys.arm = none → s.st ≠ stBoot →
    (s.grd.waiting = false → Answers .gridEvaluation s fun t => t = s) ∧
    (s.grd.waiting = true → Answers .gridEvaluation s fun t =>
      t.grd.waiting = false ∧ t.grd.evalAt = s.grd.copyAt ∧ t.f R.GRD_STAT_ZONE = (zoneOf t.grd.active).1 ∧ KeepsMem s t ∧
        (s.inSt [stConnected, stRide] = true → s.f R.GRD_CFG_EN = 1 →
          t.st = stTripped ∨
            (t.f R.GRD_STAT_ZONE = 3 ∧ t.st = stRide ∧ t.f R.GRD_STAT_HOLD = 1) ∨
            (t.f R.GRD_STAT_ZONE < 3 ∧ 0 < t.f R.GRD_STAT_ZONE ∧ t.st = stRide ∧ t.f R.GRD_STAT_HOLD = 0) ∨
            (t.f R.GRD_STAT_ZONE = 0 ∧ (t.st = stConnected ∨ t.st = stRide) ∧ t.f R.GRD_STAT_HOLD = 0)) ∧
        (s.inSt [stConnected, stRide] = false → t.st = s.st ∧ t.f R.GRD_STAT_HOLD = 0))

/-- The supervisor's timers between evaluations: staleness (R358), a curve point's time (R365), the return from RIDE (R368), the
islanding checks (R372, R378), a code period (R377, R379) and enter service (R381). -/
def gridTimersHolds : Prop :=
  ∀ s : State, s.live = true → s.sys.arm = none →
    (s.inSt [stConnected, stRide] = true → s.grd.staleAt + s.f R.GRD_CFG_STALE * ptMs < s.pt → Answers .gridStale s fun t =>
      t.st = stTripped ∧ t.sys.causes = s.sys.causes ++ [(0x17, 0)] ∧ t.f R.GRD_STAT_CAUSE = 0x17 ∧ KeepsMem s t) ∧
    (s.inSt [stConnected, stRide] = false → Answers .gridStale s fun t => t = s) ∧
    (∀ c k : Fin 16, ∀ u, Tab.get (fun _ => 0) s.grd.timers (16 * c + k) = u + 1 → u + s.crvT c k * ptMs ≤ s.grd.evalAt →
      Answers (.curvePointTimerExpiry c k) s fun t => 16 * c.val + k.val ∈ t.grd.active ∧ t.regs = s.regs ∧ KeepsMem s t) ∧
    (s.st = stRide → s.f R.GRD_CFG_EN = 1 → s.f R.GRD_STAT_ZONE = 0 → s.exitDue s.grd.evalAt = true → Answers .rideExit s fun t =>
      t.st = stConnected ∧ t.f R.SYS_STATE_PREV = stRide ∧ t.grd.exitFrom = none ∧ s.grd.evalAt < t.grd.suspTo ∧ KeepsMem s t) ∧
    (s.st = stConnected → s.f R.GRD_CFG_EN = 1 → s.f R.GRD_ROC_EN = 1 → s.rocDue s.grd.evalAt = true → Answers .islRocof s fun t =>
      t.st = stTripped ∧ t.sys.causes = s.sys.causes ++ [(0x14, 0)] ∧ t.f R.GRD_STAT_CAUSE = 0x14 ∧ KeepsMem s t) ∧
    (s.st = stConnected → s.f R.GRD_CFG_EN = 1 → s.suspended s.st s.grd.evalAt = false →
      s.f R.GRD_AIL_ACNT ≤ s.f R.GRD_STAT_HITS → 0 < s.f R.GRD_STAT_HITS → Answers .islActive s fun t =>
        t.st = stTripped ∧ t.sys.causes = s.sys.causes ++ [(0x16, 0)] ∧ t.f R.GRD_STAT_CAUSE = 0x16 ∧ KeepsMem s t) ∧
    (∀ u, s.grd.codeAt = some u → u / codePeriod s.codeWord < s.pt / codePeriod s.codeWord → Answers .codePeriodBoundary s fun t =>
      t.codeWord = s.reg 0xB050 ∧ t.grd.codeAt = none ∧ t.f R.GRD_STAT_AISUSP = bit t.aiSusp ∧
        t.f R.GRD_STAT_HITS = (if t.aiSusp then 0 else s.f R.GRD_STAT_HITS) ∧ KeepsBut [R.GRD_STAT_AISUSP, R.GRD_STAT_HITS] s t) ∧
    (∀ u, s.grd.okFrom = some u → u + s.f R.GRD_ENTD_DELAY * 1000 * ptMs ≤ s.grd.evalAt → Answers .enterServiceTimer s fun t =>
      t.f R.GRD_STAT_CONNOK = 1 ∧ KeepsBut [R.GRD_STAT_CONNOK] s t)

/-- The grid supervisor: its evaluation and its timers. -/
def Obligations.GridSupervisor : Prop := gridEvaluationHolds ∧ gridTimersHolds

/-! ### Cewlink -/

/-- A port from electrical idle to up and back (R100, R392, R393, R419, R420): training starts when the far end shows light, once the
port has been idle for its time; /TS/ with the acknowledge names the far end, one without changes nothing; the port is up after the
relation of its counter to TBP has been measured; a port that goes down cuts off what it was forwarding, stomped, and puts the link
side of its crossings into reset. The acknowledge is the model's reading of log entry 64. -/
def Obligations.PortTraining : Prop :=
  ∀ (s : State) (n : Fin 8), s.live = true →
    (portKind s.role n ≠ 0 → s.portClocked n = true → s.f (R.LNK_PORT_ST n) < 2 → s.idleDone n = true → Answers (.losDeasserted n) s fun t =>
      t.f (R.LNK_PORT_ST n) = 2 ∧ t.f (R.LNK_PORT_LOS n) = 0 ∧ (t.port n).phase = 0 ∧ (t.port n).at_ = s.tbp ∧ t.tbl n = 0 ∧
        ((s.port n).at_ = 0 → t.f (R.LNK_ERR_RETR n) = s.f (R.LNK_ERR_RETR n)) ∧
        ((s.port n).at_ ≠ 0 → t.f (R.LNK_ERR_RETR n) = min 127 (s.f (R.LNK_ERR_RETR n) + 1)) ∧
        KeepsBut [R.LNK_PORT_ST n, R.LNK_PORT_LOS n, R.LNK_ERR_RETR n] s t) ∧
    (s.f (R.LNK_PORT_ST n) = 2 → (s.port n).phase = 0 → Answers (.symbolLock n) s fun t =>
      (t.port n).phase = 1 ∧ t.regs = s.regs ∧ KeepsMem s t) ∧
    (∀ (far : Fin 4) (ts : TrainSeq), ts.ack = false → Answers (.trainingSequenceComplete n far ts) s fun t => t = s) ∧
    (∀ (far : Fin 4) (ts : TrainSeq), ts.ack = true → s.f (R.LNK_PORT_ST n) = 2 → (s.port n).phase = 1 →
      Answers (.trainingSequenceComplete n far ts) s fun t =>
        t.f (R.LNK_PORT_FAR n) = far ∧ (t.port n).farSer = ts.serial ∧
          (legalPair (portKind s.role n) far = true → ts.woad = decide (4 ≤ n.val) → t.f (R.LNK_PORT_ST n) = 2 ∧ (t.port n).phase = 2 ∧
            (t.port n).at_ = s.tbp) ∧
          (legalPair (portKind s.role n) far = false ∨ ts.woad ≠ decide (4 ≤ n.val) → t.f (R.LNK_PORT_ST n) = 4) ∧
          KeepsOut (fun o => o = 0xC010 + 4 * n.val ∨ evReg o) s t) ∧
    (s.f (R.LNK_PORT_ST n) = 4 → (s.port n).at_ + perSec ≤ s.tbp → Answers (.miswireRetry n) s fun t =>
      t.f (R.LNK_PORT_ST n) = 2 ∧ (t.port n).phase = 0 ∧ KeepsBut [R.LNK_PORT_ST n] s t) ∧
    (s.f (R.LNK_PORT_ST n) = 2 → (s.port n).phase = 2 → (s.port n).at_ + perMs ≤ s.tbp → Answers (.lnkUp n) s fun t =>
      t.f (R.LNK_PORT_ST n) = 3 ∧ (t.port n).seen = some s.tbp ∧ (t.xing (timeKey n)).dst = s.relation n ∧
        KeepsOut (fun o => o = 0xC010 + 4 * n.val ∨ evReg o) s t) ∧
    (∀ los : Bool, 2 ≤ s.f (R.LNK_PORT_ST n) → Answers (.lnkDown n los) s fun t =>
      t.f (R.LNK_PORT_ST n) = 1 ∧ t.f (R.LNK_PORT_FAR n) = 0 ∧ (los = true → t.f (R.LNK_PORT_LOS n) = 1) ∧
        (t.xing (linkKey n)).inReset = true ∧ (t.xing (timeKey n)).inReset = true ∧
        (∀ o u, otherPort s.role n = some o → (s.port o).outAt = some u → t.sent o = (s.sent o).cut ((s.tbp - u) * 5 / 8)) ∧
        KeepsMem s t) ∧
    (s.f (R.LNK_PORT_ST n) = 1 → s.f (R.LNK_PORT_LOS n) = 0 → s.portClocked n = true → portKind s.role n ≠ 0 →
      s.idleDone n = true → Answers (.retrainStart n) s fun t =>
        t.f (R.LNK_PORT_ST n) = 2 ∧ (t.xing (linkKey n)).inReset = false ∧ t.f (R.LNK_ERR_RETR n) = min 127 (s.f (R.LNK_ERR_RETR n) + 1) ∧ KeepsMem s t) ∧
    (∀ u, (s.port n).seen = some u → portKind s.role n = 2 → s.f (R.LNK_PORT_ST n) = 3 → u + 4 * s.lnk.per * perUs ≤ s.tbp →
      Answers (.nofrm n) s fun t =>
        t.f (R.LNK_PORT_NOFRM n) = 1 ∧ t.f (R.LNK_PORT_ST n) = 3 ∧ KeepsBut [R.LNK_PORT_NOFRM n] s t)

/-- A request that this module serves, and that is not a repetition of one it has served. -/
def served (s : State) (q : Packet) : Prop := s.live = true ∧ s.mine q = true ∧ q.att = 0

/-- A response is kept for a request, to be sent again should the request come again (R416). -/
def keptFor (q : Packet) (ty status : Nat) (body : List Word) (t : State) : Prop :=
  ∃ k ∈ t.lnk.kept, k.src = q.src ∧ k.tag = q.tag ∧ k.resp.ty = ty ∧ k.resp.status = status ∧ k.resp.body = body

/-- Requests at the addressee (R314, R414, R415): register reads and writes, parameter writes, and bulk transfers into the image
slot, each with the status of its response. -/
def cewlinkRequestsHolds : Prop :=
  ∀ (s : State) (q : Packet), served s q →
    (∀ n : Nat, q.len = 4 → (q.body.getD 0 0).toNat = n → 0 < n → n ≤ 64 → q.ofs % 4 = 0 → Answers (.rd q) s fun t =>
      keptFor q 0x11 0 (State.readRegs n s 17 q.ofs).1 t ∧ KeepsMem s t) ∧
    (q.body.length = 0 ∨ 64 < q.body.length ∨ q.len ≠ 4 * q.body.length → Answers (.wr q) s fun t =>
      keptFor q 0x13 4 [] t ∧ t.regs = s.regs ∧ KeepsMem s t) ∧
    (∀ v, q.body = [v] → q.len = 4 → q.ofs = 0xB050 → fromManager q = false → Answers (.wr q) s fun t =>
      keptFor q 0x13 3 [] t ∧ t.regs = s.regs ∧ KeepsMem s t) ∧
    (∀ v, q.body = [v] → q.len = 4 → q.ofs % 4 = 0 → inPage 0x11 q.ofs →
      (q.ofs < 0x11100 ∨ 0x11300 ≤ q.ofs) → (q.ofs < 0x11400 ∨ 0x11500 ≤ q.ofs) → accMask Acc.cfg q.ofs ≠ 0 →
      accMask Acc.cmd q.ofs = 0 → Answers (.wr q) s fun t =>
        keptFor q 0x13 0 [] t ∧ t.reg q.ofs &&& accMask Acc.cfg q.ofs = s.written Acc.cfg q.ofs v &&& accMask Acc.cfg q.ofs ∧
          KeepsOut (fun o => inPage 0x11 o ∨ inPage 0 o ∨ inPage 0x10 o) s t) ∧
    (fromManager q = false → Answers (.parw q) s fun t => keptFor q 0x13 3 [] t ∧ t.regs = s.regs ∧ KeepsMem s t) ∧
    (fromManager q = true → q.len = 4 * q.body.length → 0 < q.body.length → q.body.length ≤ 64 → q.ofs % 4 = 0 →
      q.ofs + q.len ≤ 0x1000 → s.f R.CE_STAT_RUN = 0 → Answers (.parw q) s fun t =>
        keptFor q 0x13 0 [] t ∧ t.words (0x1C000 + q.ofs) q.body.length = q.body ∧
          (∀ a, a < 0x1C000 + q.ofs ∨ 0x1C000 + q.ofs + q.len ≤ a → t.byte a = s.byte a) ∧ t.regs = s.regs) ∧
    ((∀ b < 8, s.owner (0x1C10 + b) ≠ 0) → q.tgt = 1 → q.len = 8 → (q.body.getD 0 0).toNat ≤ 393216 →
      (q.body.getD 1 0).toNat < 2 → (q.body.getD 1 0).toNat ≠ s.f R.CE_STAT_ACTIVE → Answers (.bopen q) s fun t =>
        keptFor q 0x22 2 [0] t ∧ t.lnk.bulk = s.lnk.bulk ∧ t.regs = s.regs ∧ KeepsMem s t) ∧
    (∀ b < 8, s.owner (0x1C10 + b) = 0 → (∀ c < b, s.owner (0x1C10 + c) ≠ 0) → q.tgt = 1 → q.len = 8 →
      (q.body.getD 0 0).toNat ≤ 393216 → (q.body.getD 1 0).toNat < 2 → (q.body.getD 1 0).toNat ≠ s.f R.CE_STAT_ACTIVE →
      Answers (.bopen q) s fun t =>
        keptFor q 0x22 0 [0] t ∧ t.owner (0x1C10 + b) = 0xAC00 + b ∧ ((Tab.look t.lnk.bulk b).map (·.src)) = some q.src ∧
          t.regs = s.regs ∧ KeepsMem s t) ∧
    (q.tgt = 1 → q.len = 8 → (q.body.getD 0 0).toNat ≤ 393216 → (q.body.getD 1 0).toNat < 2 →
      (q.body.getD 1 0).toNat = s.f R.CE_STAT_ACTIVE → Answers (.bopen q) s fun t =>
        keptFor q 0x22 1 [0] t ∧ t.lnk.bulk = s.lnk.bulk ∧ t.regs = s.regs ∧ KeepsMem s t) ∧
    (∀ b x, s.lnk.bulk.find? (fun e => e.2.src = q.src) = some (b, x) → q.tgt = 1 → q.ofs = x.next → s.f R.CE_STAT_ACTBUSY = 0 →
      x.slot ≠ s.f R.CE_STAT_ACTIVE → q.last = true → 0 < q.body.length → q.body.length ≤ 64 →
      4 * (x.ws.length + q.body.length) ≤ x.total → Answers (.bdata q) s fun t =>
        keptFor q 0x22 0 [BitVec.ofNat 32 (x.next + 1)] t ∧ Tab.look t.ce.slots x.slot = some (x.ws ++ q.body) ∧
          t.owner (0x1C10 + b) = 0 ∧ t.regs = s.regs ∧ KeepsMem s t) ∧
    (∀ b x, s.lnk.bulk.find? (fun e => e.2.src = q.src) = some (b, x) → q.tgt = 1 → q.ofs ≠ x.next → Answers (.bdata q) s fun t =>
      keptFor q 0x22 0 [BitVec.ofNat 32 x.next] t ∧ t.ce = s.ce ∧ t.regs = s.regs ∧ KeepsMem s t)

/-- Responses at the requester, repetition and the end of a bulk transfer without data (R415, R416): a response ends its
transaction and completes the descriptor that waits for it; a request without response goes out again with `ATT` + 1. -/
def cewlinkResponsesHolds : Prop :=
  ∀ (s : State) (p : Packet) (x : Txn), s.live = true →
    (s.mine p = true → s.txnFor p = some x →
      (∀ r i, x.p.ty = 0x10 → x.who = .ring r i → Answers (.rdr p false) s fun t =>
        t.lnk.txns = s.lnk.txns.erase x ∧ t.flightOf r i = none) ∧
      (x.p.ty = 0x12 → x.who = .nobody → Answers (.wrr p) s fun t =>
        t.lnk.txns = s.lnk.txns.erase x ∧ t.regs = s.regs ∧ KeepsMem s t) ∧
      (∀ r i, x.p.ty = 0x12 → x.who = .ring r i → Answers (.wrr p) s fun t =>
        t.lnk.txns = s.lnk.txns.erase x ∧ t.flightOf r i = none) ∧
      (x.p.ty = 0x20 ∨ x.p.ty = 0x21 → Answers (.back p) s fun t =>
        t.lnk.txns = s.lnk.txns.erase x ∧ t.regs = s.regs ∧ KeepsMem s t)) ∧
    (∀ tag : BitVec 8, s.lnk.txns = [x] → x.p.tag = tag.toNat → x.sent = true → s.f R.LNK_TXN_TO ≤ x.frames →
      x.p.att < s.f R.LNK_TXN_RETRY → Answers (.txnResend tag) s fun t =>
        t.lnk.txns = [{ x with p := { x.p with att := x.p.att + 1 }, sent := false, frames := 0 }] ∧
          t.f R.LNK_TXCNT_RTRY = min 65535 (s.f R.LNK_TXCNT_RTRY + 1) ∧ KeepsBut [R.LNK_TXCNT_RTRY] s t) ∧
    (∀ (b : Fin 8) (k : Bulk), Tab.look s.lnk.bulk b = some k → k.at_ + perSec ≤ s.tbp → Answers (.bulkTimeout b) s fun t =>
      Tab.look t.lnk.bulk b = none ∧ t.owner (0x1C10 + b) = 0 ∧ t.regs = s.regs ∧ KeepsMem s t)

/-- Cewlink transactions, at the addressee and at the requester. -/
def Obligations.CewlinkTransactions : Prop := cewlinkRequestsHolds ∧ cewlinkResponsesHolds

/-- When the last attempt has no response, the transaction ends, LNK_TXN_TIMEOUT is posted, and a descriptor that started it
completes with STATE and the link reason NOREPLY (R417). The posting is seen in the event ring's queue, the completion in host
memory. -/
def Obligations.TransactionTimeout : Prop :=
  ∀ (s : State) (x : Txn) (tag : BitVec 8), s.live = true → s.lnk.txns = [x] → x.p.tag = tag.toNat → x.sent = true →
    s.f R.LNK_TXN_TO ≤ x.frames → s.f R.LNK_TXN_RETRY ≤ x.p.att →
    Answers (.lnkTxnTimeout tag) s fun t =>
      (x.who = .nobody → t.lnk.txns = []) ∧ t.f R.LNK_TXCNT_TMO = min 65535 (s.f R.LNK_TXCNT_TMO + 1) ∧
        (s.f R.HST_EVR_CFG_EN = 1 → s.hst.held.length < 64 → ∃ e ∈ t.hst.held, e.code = 0x0C04) ∧
        (∀ r i f, x.who = .ring r i → r < 16 → (s.ring r).infl = [f] → f.idx = i → f.comp = none → (s.xing 11).inReset = false →
          t.lnk.txns = [] ∧ (t.ring r).infl = [] ∧
            ∀ w, w = t.hostWord (s.f (R.HST_RING_CBL_VAL r) + s.f (R.HST_RING_CBH_VAL r) * 2 ^ 32 +
                16 * ((s.ring r).cprod % s.ringSize r)) →
              w.toNat % 2 ^ 16 = f.d.tag % 2 ^ 16 ∧ w.toNat / 2 ^ 24 % 8 = 1 ∧ w.toNat / 2 ^ 27 = 1)

/-- Frames (R396, R398, R400, R403, R405, R408, R410, R419): at a device's up port a good header gives its position and its number,
the delay of the link above when the frame follows one it has measured, and the slot reaches data memory once; the frame goes on with its
`HOP` counted up and a new CRC, or the end device answers it; a failing header is counted, goes on stomped and leaves position and
number; at a manager's line port the number of devices, the loop time and each slot's words are taken. -/
def Obligations.Frames : Prop :=
  ∀ s : State, s.live = true →
    (∀ (g : DownFrame) (n dn : Nat), n = upPort 1 (netNo g.woad) → dn = downPort 1 (netNo g.woad) → s.role = 1 → s.portUp n = true →
      g.f.hdr.good = true → Answers (.downFrame g) s fun t =>
        t.lnk.num = 256 * g.f.line + g.f.hop ∧ t.f (R.LNK_PORT_POS n) = g.f.hop ∧ t.f (R.LNK_PORT_NOFRM n) = 0 ∧
          t.lnk.curFrm = some g.f.frame ∧
          (∀ ws, slotIn 8 g.f.cyc g.f.hop = some ws → s.f R.PLT_ASG_ADM = 1 → s.f R.PLT_ASG_PART = 256 * g.f.line + g.f.hop →
            g.f.frame ∉ s.delivered 1024 → t.words 0x1AC00 8 = ws) ∧
          (∀ k hop u v, (s.port n).arr = some (k, hop, u) → (s.port n).turn = some v → g.f.loop ≠ 0 → (k + 1) % 2 ^ 32 = g.f.frame →
            hop = g.f.hop → t.f (R.LNK_DLY_D n) = unsigned 32 (nearDiv (nearDiv ((g.f.loop : Int) - v) 2) 256)) ∧
          (s.portUp dn = true → t.f (R.LNK_PORT_END dn) = 0 ∧ ∃ acc,
            t.sent dn = { g.f.forward with hdr := segOf true (g.f.rehead (g.f.hop + 1) acc (s.port dn).loop.toNat) }) ∧
          (s.portUp dn = false → t.f (R.LNK_PORT_END dn) = 1 ∧ (t.sent n).hdr.good = true ∧ (t.sent n).frame = g.f.frame)) ∧
    (∀ (g : DownFrame) (n dn : Nat), n = upPort 1 (netNo g.woad) → dn = downPort 1 (netNo g.woad) → s.role = 1 → s.portUp n = true →
      g.f.hdr.good = false → (s.port n).bad < 3 → Answers (.downFrame g) s fun t =>
        t.lnk.num = s.lnk.num ∧ (t.port n).bad = (s.port n).bad + 1 ∧ (t.port n).arr = none ∧
          t.f (R.LNK_ERR_CRC n) = min 4095 (s.f (R.LNK_ERR_CRC n) + g.f.fails) ∧
          t.f (R.LNK_ERR_STOMP n) = min 255 (s.f (R.LNK_ERR_STOMP n) + g.f.stomps) ∧
          (s.portUp dn = true → t.sent dn = g.f.forward) ∧ KeepsMem s t) ∧
    (∀ (g : UpFrame) (pos : Nat) (ws : List Word), portKind s.role g.port = 1 → s.portUp g.port = true → g.f.hdr.good = true →
      slotCount g.f.cyc ≤ 256 → pos < 256 → pos < g.f.ndev → slotIn 8 g.f.cyc pos = some ws →
      g.f.frame ∉ s.delivered (256 * (g.port % 4) + pos) → Answers (.upFrame g) s fun t =>
        t.f (R.LNK_LINE_NDEV (g.port % 4)) = slotCount g.f.cyc ∧ t.words (0x10000 + 32 * (256 * (g.port % 4) + pos)) 8 = ws ∧
          ∀ k u, (s.port g.port).dep = some (k, u) → k = g.f.frame →
            (t.port g.port).loop = BitVec.ofNat 32 (nearDiv ((s.relate g.port).stamp g.port g.arr - u) 256).toNat)

/-! ### Managers and the plant -/

/-- The partner table (R424, R425, R432, R438): a partner whose slot has stopped is lost; the one queried is forgotten; an
admission reads the serial number of the next new partner; a rebalance leaves every partner its number, serial and state, and
moves none that is not switching. -/
def partnerTableHolds : Prop :=
  ∀ s : State, s.live = true →
    (∀ p : Fin 1024, 2 ≤ s.role → (s.partner p).st = 2 → s.f R.PLT_MCFG_LOSTF ≤ s.slotAge p → Answers (.partnerLost p) s fun t =>
      t.partner p = { s.partner p with st := 3 } ∧ (∀ q, q ≠ p.val → t.partner q = s.partner q) ∧ KeepsOut evReg s t) ∧
    (s.role < 2 → Answers .partnerForget s fun t => t.plt = s.plt ∧ Recorded 0xD074 .done s t ∧ KeepsBut wresFlds s t) ∧
    (2 ≤ s.role → Answers .partnerForget s fun t =>
      t.partner (s.f R.PLT_PQRY_PART) = {} ∧ (∀ q, q ≠ s.f R.PLT_PQRY_PART → t.partner q = s.partner q) ∧
        Recorded 0xD074 .done s t ∧ KeepsBut wresFlds s t) ∧
    (∀ (p : Nat) (x : Partner), 2 ≤ s.role → s.f R.PLT_MCFG_ADMIT = 1 → s.admitting = [] → s.plt.tab = [(p, x)] → x.st = 1 →
      Answers .admissionStart s fun t =>
        (∃ k : Txn, t.lnk.txns = s.lnk.txns ++ [k] ∧ k.who = .admission p 1 ∧ k.p.ty = 0x10 ∧ k.p.dst = p ∧ k.p.ofs = 0xD004 ∧
          k.p.body = [2]) ∧ t.plt = s.plt ∧ t.regs = s.regs ∧ KeepsMem s t) ∧
    (Tab.wf (fun _ => {}) s.plt.tab = true → Answers .phaseRebalance s fun t =>
      (∀ p, (t.partner p).st = (s.partner p).st ∧ (t.partner p).serial = (s.partner p).serial ∧
        (s.switching p = false → (t.partner p).slot = (s.partner p).slot)) ∧ Recorded 0xD060 .done s t ∧ KeepsBut wresFlds s t)

/-- A changed phase offset reaches each carrier of `CARS` through its staging slot and no other (R437); a change of the code's
timing first goes out with `ON` = 0 to every admitted partner, one of the row alone goes out at once (R442). -/
def phaseAndCodeHolds : Prop :=
  ∀ s : State, s.live = true →
    (s.plt.dOfs ≠ 0 → (∀ k < 16, (s.car k).slot = {}) → Answers .phaseOffsetChange s fun t =>
      t.plt.dOfs = 0 ∧ t.regs = s.regs ∧ KeepsMem s t ∧
        (∀ k < 16, s.bitAt R.PLT_PHC_CARS k = true → ∃ w, (t.car k).slot.regs = [(0x4008 + 16 * k, w)] ∧
          (R.PWM_CAR_PH_PHASE k).get w = (s.f (R.PWM_CAR_PH_PHASE k) + s.plt.dOfs) % 2 ^ 24) ∧
        (∀ k < 16, s.bitAt R.PLT_PHC_CARS k = false → t.car k = s.car k)) ∧
    (s.plt.code = 1 → s.admitted ≠ [] → Answers .plantCodeChange s fun t =>
      t.plt.code = 2 ∧ (∀ p ∈ s.admitted, ∃ k ∈ t.lnk.txns, k.who = .codeOff ∧ k.p.dst = p ∧ k.p.ofs = 0xB050 ∧
        k.p.body.map R.GRD_CODE_ON.get = [0]) ∧ t.regs = s.regs ∧ KeepsMem s t) ∧
    (s.plt.code = 3 → Answers .plantCodeChange s fun t =>
      t.plt.code = 0 ∧ (∀ p ∈ s.admitted, ∃ k ∈ t.lnk.txns, k.who = .nobody ∧ k.p.dst = p ∧ k.p.ofs = 0xB050 ∧
        k.p.body = [s.partnerCode p]) ∧ t.regs = s.regs ∧ KeepsMem s t)

/-- Partners, their phases and the plant code at a manager. -/
def Obligations.PartnersAndPhase : Prop := partnerTableHolds ∧ phaseAndCodeHolds

/-- Reports at a manager (R413, R448, R450, R451): alarms, trip reports, logs and traces join their queues in order of arrival
while there is room, and a full queue drops and counts; an entry that has waited may go; a packet for the top manager goes
upward. -/
def Obligations.Reports : Prop :=
  ∀ (s : State) (p : Packet), s.live = true → 2 ≤ s.role →
    ((∀ e ∈ s.que.alarm, e.code ≠ (readEnt p.body).code) → s.que.alarm.length < 32 → Answers (.alarmPacket p) s fun t =>
      (∃ e, t.que.alarm = s.que.alarm ++ [e] ∧ e.code = (readEnt p.body).code ∧ e.hold = s.f R.PLT_CRD1_HOLD + 1) ∧
        t.que.trip = s.que.trip ∧ t.regs = s.regs ∧ KeepsMem s t) ∧
    ((∀ e ∈ s.que.alarm, e.code ≠ (readEnt p.body).code) → 32 ≤ s.que.alarm.length → Answers (.alarmPacket p) s fun t =>
      t.que.alarm = s.que.alarm ∧ t.f R.PLT_DROP0_ALARM = min 65535 (s.f R.PLT_DROP0_ALARM + 1) ∧ KeepsBut [R.PLT_DROP0_ALARM] s t) ∧
    ((∀ e ∈ s.que.trip, e.code ≠ (readEnt p.body).code) → s.que.trip.length < 8 → Answers (.tripRep p) s fun t =>
      (∃ e, t.que.trip = s.que.trip ++ [e] ∧ e.code = (readEnt p.body).code) ∧ t.que.alarm = s.que.alarm ∧
        (t.partner (s.partnerOf p)).cause = (readEnt p.body).code % 256 ∧ t.regs = s.regs ∧ KeepsMem s t) ∧
    (s.que.log.length < 32 → Answers (.logPacket p) s fun t =>
      t.que.log = s.que.log ++ [p] ∧ t.regs = s.regs ∧ KeepsMem s t) ∧
    (s.que.trace.length < 16 → s.f R.PLT_CRD1_TRLINK = 1 → Answers (.tracePacket p) s fun t =>
      t.que.trace = s.que.trace ++ [p] ∧ t.regs = s.regs ∧ KeepsMem s t) ∧
    (s.role = 2 → aTop p.dst = true → aBcast p.dst = false → p.cls = 0 → Answers (.packetRelay p) s fun t =>
      t.lnk.upq = s.lnk.upq ++ [p] ∧ t.que = s.que ∧ t.regs = s.regs ∧ KeepsMem s t) ∧
    (s.role = 2 → aTop p.dst = true → aBcast p.dst = false → p.cls = 2 → (∀ e ∈ s.que.alarm, e.code ≠ (readEnt p.body).code) →
      s.que.alarm.length < 32 → Answers (.packetRelay p) s fun t =>
        t.lnk.upq = s.lnk.upq ∧ (∃ e, t.que.alarm = s.que.alarm ++ [e] ∧ e.code = (readEnt p.body).code) ∧ t.regs = s.regs ∧ KeepsMem s t) ∧
    Answers .relayHoldExpiry s (fun t =>
      t.que.alarm = s.que.alarm.map (fun e => if e.hold = 1 then { e with hold := 0 } else e) ∧
        t.que.trip = s.que.trip.map (fun e => if e.hold = 1 then { e with hold := 0 } else e) ∧ t.regs = s.regs ∧ KeepsMem s t)

/-! ### Safety -/

/-- The registers that a safe reaction may touch: the `SAF_` page and those of a change of the device state. -/
def safePages (off : Nat) : Prop := inPage 0xE off ∨ statePages off

/-- A safety cycle of a channel (R454, R455, R457, R460, R463, R473): an enabled pair that is not active demands; a channel that
has been informed is in the reaction after its cycle; a second missing heartbeat or a wrong cycle length is CHANNEL_DIFF; with
nothing amiss each switch follows the conditions of R463. -/
def safetyCycles : Prop :=
  ∀ (s : State) (sb : Bool) (nodes : BitVec 4), s.live = true → s.sys.arm = none →
    (∀ (beat lenOk : Bool) (k : Nat), k < 4 → s.f (R.SAF_IN_MODE k) ≠ 0 → s.inPair sb k ≠ 1 →
      Answers (.safetyCycle sb beat lenOk nodes) s fun t => (t.chan sb).dem.testBit k = true ∧ KeepsMem s t) ∧
    (∀ beat lenOk : Bool, (s.chan sb).told = true → Answers (.safetyCycle sb beat lenOk nodes) s fun t =>
      (t.chan sb).safe = true ∧ (t.chan sb).told = false ∧ KeepsMem s t) ∧
    (∀ beat lenOk : Bool, lenOk = false ∨ (beat = false ∧ 1 ≤ (s.chan sb).noBeat) →
      Answers (.safetyCycle sb beat lenOk nodes) s fun t => (t.chan sb).flt.testBit 13 = true ∧ KeepsMem s t) ∧
    (s.trp.isoReq = false → (s.chan sb).safe = false → (s.chan sb).told = false →
      (∀ k < 4, s.f (R.SAF_IN_MODE k) ≠ 0 → s.inPair sb k = 1 ∧ Tab.get (fun _ => 0) (s.chan sb).disAt k = 0) →
      (∀ n < 2, nodes.toNat.testBit (2 * n) = s.saf.a.sw.testBit n ∧ nodes.toNat.testBit (2 * n + 1) = s.saf.b.sw.testBit n) →
      s.saf.a.decision = s.saf.b.decision → Answers (.safetyCycle sb true true nodes) s fun t =>
        (∀ n < 2, (t.chan sb).sw.testBit n = s.mayEnergise n) ∧ t.chan (!sb) = s.chan (!sb) ∧ (t.chan sb).flt = (s.chan sb).flt ∧
          (t.chan sb).safe = false ∧ KeepsOut (fun o => inPage 0xE o ∨ o = 0x303C ∨ o = 0x3040) s t)

/-- The self-test of BOOT ends it with or without a fault (R456); the retained record holds what is latched, of demands those
that an acknowledge must clear, and its age advances once a minute (R461). -/
def safetyRecord : Prop :=
  ∀ s : State, s.live = true → s.sys.arm = none →
    (s.st = stBoot → s.bitAt R.SYS_STATE_WAIT 0 = true → Answers (.selfTestComplete true) s fun t =>
      t.bitAt R.SYS_STATE_WAIT 0 = false ∧ t.saf.selfOk = true ∧ KeepsBut [R.SYS_STATE_WAIT] s t) ∧
    (s.st = stBoot → s.bitAt R.SYS_STATE_WAIT 0 = true → s.saf.a.flt.testBit 14 = false → s.saf.b.flt.testBit 14 = false →
      Answers (.selfTestComplete false) s fun t =>
        t.bitAt R.SYS_STATE_WAIT 0 = false ∧ t.saf.selfOk = false ∧ t.saf.a.flt.testBit 14 = true ∧ t.saf.b.flt.testBit 14 = true ∧
          t.st = stBoot ∧ KeepsMem s t) ∧
    Answers .safetyRecordWrite s (fun t =>
      (∃ r, t.saf.record = some r ∧ r.fltA = s.saf.a.flt ∧ r.fltB = s.saf.b.flt ∧ r.discA = s.saf.a.disc ∧ r.tpB = s.saf.b.tp ∧
        r.cause = s.f R.SAF_STAT_CAUSE ∧
        ∀ k < 4, r.demA.testBit k = (s.saf.a.dem.testBit k && decide (s.f (R.SAF_IN_ACKM k) = 1))) ∧ t.regs = s.regs ∧ KeepsMem s t) ∧
    (s.saf.ageAt + 60 * perSec ≤ s.tbp → Answers .safetyRecordAgeUpdate s fun t =>
      t.f R.SAF_TSTAT_AGE = min 65535 (s.f R.SAF_TSTAT_AGE + 1) ∧ t.saf.ageAt = s.tbp ∧
        (∃ r, t.saf.record = some r ∧ r.age = t.f R.SAF_TSTAT_AGE) ∧ KeepsBut [R.SAF_TSTAT_AGE] s t)

/-- Inputs (R472 to R475): an input's level is taken; a pair that leaves the active state demands, counted once for both channels,
and the channel reacts; a demand that clears by itself does so when the pair is active; a disagreement beyond its bound and an
input of a test pulse that did not follow are latched. -/
def safetyInputs : Prop :=
  ∀ (s : State) (sb : Bool), s.live = true → s.sys.arm = none →
    (∀ (x : Fin 8) (high : Bool), s.f (R.SAF_IN_MODE (x / 2)) = 0 → Answers (.filteredInputChange sb x high) s fun t =>
      (t.chan sb).ins.testBit x = high ∧ t.regs = s.regs ∧ KeepsMem s t) ∧
    (∀ (x : Fin 8) (high : Bool), s.f (R.SAF_IN_MODE (x / 2)) ≠ 0 → s.inPair sb (x / 2) = 1 →
      (s.chan sb).dem.testBit (x / 2) = false → (s.chan (!sb)).dem.testBit (x / 2) = false → s.f R.SAF_CNT_DEM < 255 →
      (s.chan sb).ins.testBit x = !high → s.f (R.SAF_IN_MODE (x / 2)) < 3 →
      Answers (.filteredInputChange sb x high) s fun t =>
        (t.chan sb).ins.testBit x = high ∧ (t.chan sb).dem.testBit (x / 2) = true ∧ (t.chan sb).safe = true ∧
          t.f R.SAF_CNT_DEM = s.f R.SAF_CNT_DEM + 1 ∧ KeepsOut safePages s t) ∧
    (∀ (x : Fin 8) (high : Bool), s.f (R.SAF_IN_MODE (x / 2)) ≠ 0 → s.f (R.SAF_IN_ACKM (x / 2)) = 0 →
      Answers (.filteredInputChange sb x high) s fun t =>
        (t.chan sb).ins.testBit x = high ∧
          (t.inPair sb (x / 2) = 1 → (t.chan sb).dem.testBit (x / 2) = false) ∧ KeepsMem s t) ∧
    (∀ (k : Fin 4) (u : Nat), Tab.get (fun _ => 0) (s.chan sb).disAt k = u + 1 → s.f (R.SAF_IN_MODE k) ≠ 0 →
      s.f (R.SAF_IN_DISC k) * 392000 - 200000 < s.tbp - u → Answers (.disc sb k) s fun t =>
        (t.chan sb).disc.testBit k = true ∧ KeepsOut safePages s t) ∧
    (∀ (k : Fin 4) (u : Nat), Tab.get (fun _ => 0) (s.chan sb).disAt k = u + 1 →
      s.tbp - u ≤ s.f (R.SAF_IN_DISC k) * 392000 - 200000 → Answers (.disc sb k) s fun t => t = s) ∧
    (∀ stay fell : BitVec 4, Answers (.testPulse sb stay fell) s fun t =>
      (∀ k < 4, (t.chan sb).tp.testBit k = ((s.chan sb).tp.testBit k || (decide (s.f (R.SAF_IN_MODE k) ≠ 0) &&
        s.on (R.SAF_IN_TP k) && (stay.getLsbD k || fell.getLsbD k)))) ∧ KeepsOut safePages s t)

/-- What an acknowledge leaves in each channel (R476, R478, R480): faults whose condition persists, demands of pairs that are not
active, and input faults that have not been through the safe and the active state. -/
def Acknowledged (s t : State) : Prop :=
  ∀ b : Bool, (∀ i < 17, (t.chan b).flt.testBit i = ((s.chan b).flt.testBit i && s.persists b i)) ∧
    (∀ k < 4, (t.chan b).dem.testBit k = ((s.chan b).dem.testBit k && decide (s.inPair b k ≠ 1)) ∧
      (t.chan b).disc.testBit k = ((s.chan b).disc.testBit k && decide (Tab.get (fun _ => 0) (s.chan b).prog k ≠ 2)) ∧
      (t.chan b).tp.testBit k = ((s.chan b).tp.testBit k && decide (Tab.get (fun _ => 0) (s.chan b).prog k ≠ 2)))

/-- SAFACK (R477): a press below 50 ms does nothing, one of 5 s or more only ends ACKSTUCK, one between acknowledges; the
command of R479 acknowledges for the host and a manager where `RACK` allows it. The reaction ends when no cause is left (R480). -/
def acknowledges : Prop :=
  ∀ s : State, s.live = true →
    (∀ ms : Nat, ms < 50 → Answers (.acknowledge ms) s fun t => t = s) ∧
    (∀ ms : Nat, 5000 ≤ ms → Answers (.acknowledge ms) s fun t =>
      t.f R.SAF_STAT_ACKSTUCK = 0 ∧ t.saf = s.saf ∧ KeepsBut [R.SAF_STAT_ACKSTUCK] s t) ∧
    (∀ ms : Nat, 50 ≤ ms → ms < 5000 → Answers (.acknowledge ms) s fun t =>
      Acknowledged s t ∧ t.f R.SAF_STAT_ACKSTUCK = 0 ∧ t.st = s.st ∧
        (t.causeFree = true → s.st ≠ stBoot → (t.chan false).safe = false ∧ (t.chan true).safe = false ∨
          (s.saf.a.safe = false ∧ s.saf.b.safe = false)) ∧ KeepsOut (fun o => inPage 0xE o ∨ evReg o) s t) ∧
    (s.f R.SAF_STAT_ACKSTUCK = 0 → Answers .safAckStuck s fun t =>
      t.f R.SAF_STAT_ACKSTUCK = 1 ∧ t.saf = s.saf ∧ KeepsOut (fun o => o = 0xE080 ∨ evReg o) s t) ∧
    (s.f R.SAF_CFG_RACK = 1 → s.f R.SAF_STAT_ACKSTUCK = 0 → Answers (.safCmdAck .host) s fun t =>
      Acknowledged s t ∧ Recorded 0xE0A0 .done s t ∧ KeepsOut (fun o => inPage 0xE o ∨ evReg o ∨ o = 0x11000) s t) ∧
    (s.f R.SAF_CFG_RACK = 0 → Answers (.safCmdAck .host) s fun t =>
      t.saf = s.saf ∧ Recorded 0xE0A0 .state s t ∧ KeepsBut wresFlds s t) ∧
    (∀ who : Writer, who = .link ∨ who = .ce → Answers (.safCmdAck who) s fun t => t = s)

/-- Inputs and acknowledges of the safety channels (R472 to R480). -/
def Obligations.SafetyInputs : Prop := safetyInputs ∧ acknowledges

/-- Outputs (R457, R464 to R466): `ODLY` after the decision both switches of the channel are off; an off-pulse leaves the command
as it is, and a node that has not followed at its end is a fault; an overcurrent takes both channels' switches off at once;
too little current for 10 ms and a feedback contact that disagrees beyond `TOPEN` are faults. -/
def Obligations.SafetyOutputs : Prop :=
  ∀ (s : State) (sb : Bool) (n : Fin 2), s.live = true → s.sys.arm = none →
    (∀ u, (s.chan sb).offAt = some u → u ≤ s.tbp → (s.chan sb).safe = true → Answers (.outputSwitchOff sb) s fun t =>
      (t.chan sb).sw.testBit 0 = false ∧ (t.chan sb).sw.testBit 1 = false ∧ (t.chan sb).offAt = none ∧
        t.chan (!sb) = s.chan (!sb) ∧ KeepsOut (inPage 0xE) s t) ∧
    (s.f R.SAF_CFG_OUTM = 0 → s.energised n = true → (s.chan true).pulse.testBit n = false →
      Tab.get (fun _ => 0) (s.chan true).pulseAt n + 980 * perMs ≤ s.tbp + 1 →
      Tab.get (fun _ => 0) (s.chan false).pulseAt n + 100 * perMs ≤ s.tbp + 1 → Answers (.outputOffPulse true n) s fun t =>
        (t.chan true).pulse.testBit n = true ∧ Tab.get (fun _ => 0) (t.chan true).pulseAt n = s.tbp + 1 ∧
          (t.chan true).sw = (s.chan true).sw ∧ t.chan false = s.chan false ∧ t.regs = s.regs ∧ KeepsMem s t) ∧
    (s.f R.SAF_CFG_OUTM = 0 → s.energised n = true → (s.chan false).pulse.testBit n = false →
      0 < Tab.get (fun _ => 0) (s.chan true).pulseAt n →
      Tab.get (fun _ => 0) (s.chan false).pulseAt n < Tab.get (fun _ => 0) (s.chan true).pulseAt n →
      Tab.get (fun _ => 0) (s.chan true).pulseAt n + 450 * perMs ≤ s.tbp + 1 →
      s.tbp + 1 ≤ Tab.get (fun _ => 0) (s.chan true).pulseAt n + 550 * perMs → Answers (.outputOffPulse false n) s fun t =>
        (t.chan false).pulse.testBit n = true ∧ Tab.get (fun _ => 0) (t.chan false).pulseAt n = s.tbp + 1 ∧
          t.chan true = s.chan true ∧ t.regs = s.regs ∧ KeepsMem s t) ∧
    (s.f R.SAF_CFG_OUTM = 1 → Answers (.outputOffPulse sb n) s fun t => t = s) ∧
    ((s.chan sb).pulse.testBit n = true →
      Tab.get (fun _ => 0) (s.chan sb).pulseAt n + s.f R.SAF_OUT_OPW * perUs ≤ s.tbp + 1 →
      (Answers (.offPulseEnd sb n true) s fun t =>
        (t.chan sb).pulse.testBit n = false ∧ (t.chan sb).flt = (s.chan sb).flt ∧ t.regs = s.regs ∧ KeepsMem s t) ∧
      (Answers (.offPulseEnd sb n false) s fun t =>
        (t.chan sb).pulse.testBit n = false ∧ (t.chan sb).flt.testBit n = true ∧ KeepsOut safePages s t)) ∧
    (s.energised n = true → Answers (.outOc sb n) s fun t =>
      t.saf.a.sw.testBit n = false ∧ t.saf.b.sw.testBit n = false ∧ (t.chan sb).flt.testBit (2 + n) = true ∧
        KeepsOut safePages s t) ∧
    (s.energised n = true → Tab.get (fun _ => 0) s.saf.outAt n + 10 * perMs ≤ s.tbp → Answers (.outOpen sb n) s fun t =>
      (t.chan sb).flt.testBit (4 + n) = true ∧ KeepsOut safePages s t) ∧
    (∀ low : Bool, s.f R.SAF_CFG_OUTM = 1 →
      Tab.get (fun _ => 0) s.saf.outAt n + s.f R.SAF_CFG_TOPEN * perMs ≤ s.tbp → Answers (.fb sb n low) s fun t =>
        (t.chan sb).cond.testBit (6 + n) = decide (low ≠ s.energised n) ∧
          (low ≠ s.energised n → (t.chan sb).flt.testBit (6 + n) = true) ∧
          (low = s.energised n → (t.chan sb).flt = (s.chan sb).flt) ∧ KeepsOut safePages s t)

/-- Both references of the isolation test are within their limits (R469). -/
def refsGood (c117 c118 : Fin 4096) : Prop := 2032 ≤ c117.val ∧ c117.val ≤ 2064 ∧ c118.val ≤ 16

/-- What a channel has seen of an isolation test passes, its last references apart (R469). -/
def seenGood (s : State) (b : Bool) : Prop :=
  (s.chan b).refBad = false ∧ (s.chan b).fbLow = false ∧
    ∀ i < 6, s.f (R.SAF_VCHK_EN i) = 1 → s.f (R.SAF_VCHK_THR i) ≤ Tab.get (fun _ => 0) (s.chan b).maxRef i ∧
      s.f (R.SAF_VCHK_THR i) ≤ Tab.get (fun _ => 0) (s.chan b).maxCh i

/-- The isolation test (R467 to R471): it starts with both outputs de-energised, takes its lanes after `TOPEN`, keeps the largest
codes, and ends with a pass, a failure or neither; a pass with a waiting ARM arms. Its validity ends after 24 h. -/
def Obligations.IsolationTest : Prop :=
  ∀ s : State, s.live = true →
    (s.quiet = true → s.saf.test = 0 → Answers .safCmdTest s fun t =>
      t.saf.test = 1 ∧ t.saf.testAt = s.tbp ∧
        (∀ n < 2, t.saf.a.sw.testBit n = false ∧ t.saf.b.sw.testBit n = false) ∧ Recorded 0xE0A0 .done s t ∧
        KeepsOut (fun o => inPage 0xE o ∨ o = 0x11000) s t) ∧
    (s.quiet = false ∨ s.saf.test ≠ 0 → Answers .safCmdTest s fun t =>
      t.saf = s.saf ∧ Recorded 0xE0A0 .state s t ∧ KeepsBut wresFlds s t) ∧
    (∀ a b c d : Fin 4096, s.saf.test = 1 → s.saf.testAt + s.f R.SAF_CFG_TOPEN * perMs ≤ s.tbp →
      Answers (.isolationTestOpenTime a b c d) s fun t =>
        t.saf.test = 2 ∧ t.saf.testAt = s.tbp ∧ (t.lane (s.f R.SAF_TST_LANEA)).mux = 117 ∧
          (t.lane (s.f R.SAF_TST_LANEB)).mux = 117 ∧ ((t.chan false).refBad = false ↔ s.saf.a.refBad = false ∧ refsGood a b) ∧
          ((t.chan true).refBad = false ↔ s.saf.b.refBad = false ∧ refsGood c d) ∧ t.regs = s.regs ∧ KeepsMem s t) ∧
    (∀ (sb : Bool) (codes : List (Int × Int)) (fb : Bool), s.saf.test = 2 → Answers (.isolationTestSample sb codes fb) s fun t =>
      (∀ i < 6, s.f (R.SAF_VCHK_EN i) = 1 →
        Tab.get (fun _ => 0) (t.chan sb).maxCh i =
          max (Tab.get (fun _ => 0) (s.chan sb).maxCh i) (codes.getD i (0, 0)).1.natAbs ∧
        Tab.get (fun _ => 0) (t.chan sb).maxRef i =
          max (Tab.get (fun _ => 0) (s.chan sb).maxRef i) (codes.getD i (0, 0)).2.natAbs) ∧ t.regs = s.regs ∧ KeepsMem s t) ∧
    (s.saf.test = 2 → s.saf.testAt + s.f R.SAF_CFG_TWIN * perMs ≤ s.tbp → ∀ a b c d : Fin 4096,
      (s.sys.arm = none ∨ s.sys.arm = some { who := .host } → refsGood a b → refsGood c d → seenGood s false → seenGood s true →
        Answers (.isolationTestEnd a b c d) s fun t =>
          t.f R.SAF_TSTAT_RES = 1 ∧ t.f R.SAF_TSTAT_POLES = 0 ∧ t.f R.SAF_STAT_TESTOK = 1 ∧ t.f R.SAF_TSTAT_AGE = 0 ∧
            t.saf.test = 0 ∧ (s.sys.arm = none → t.st = s.st) ∧
            (s.sys.arm = some { who := .host } → s.st = stStandby → s.f R.CE_STAT_LOADED = 1 → s.f R.SAF_STAT_CONF = 1 →
              s.f R.SYS_STATE_HOLDSB = 0 → t.st = stArmed ∧ t.sys.arm = none ∧ Recorded 0x104 .done s t) ∧ KeepsMem s t) ∧
      (s.sys.arm = none → refsGood a b → s.saf.a.refBad = false → s.saf.a.flt.testBit 8 = false →
        (∃ i < 6, s.f (R.SAF_VCHK_EN i) = 1 ∧ s.f (R.SAF_VCHK_THR i) ≤ Tab.get (fun _ => 0) s.saf.a.maxRef i ∧
          Tab.get (fun _ => 0) s.saf.a.maxCh i < s.f (R.SAF_VCHK_THR i)) →
        Answers (.isolationTestEnd a b c d) s fun t =>
          t.f R.SAF_TSTAT_RES = 2 ∧ t.f R.SAF_STAT_TESTOK = 0 ∧ t.saf.a.flt.testBit 8 = true ∧ t.saf.a.safe = true ∧
            t.saf.test = 0 ∧ KeepsMem s t) ∧
      (s.sys.arm = none → ¬ refsGood a b → ¬ refsGood c d → Answers (.isolationTestEnd a b c d) s fun t =>
        t.f R.SAF_TSTAT_RES = 3 ∧ t.f R.SAF_STAT_TESTOK = s.f R.SAF_STAT_TESTOK ∧ t.saf.a.flt = s.saf.a.flt ∧ t.saf.test = 0 ∧
          KeepsOut (fun o => o = 0xE088 ∨ evReg o) s t)) ∧
    (s.f R.SAF_STAT_TESTOK = 1 → s.saf.due = false → (24 - s.f R.SAF_CFG_WARN) * 60 ≤ s.f R.SAF_TSTAT_AGE →
      Answers .safTestDue s fun t => t.saf.due = true ∧ KeepsOut evReg s t) ∧
    (s.f R.SAF_STAT_TESTOK = 1 → 1440 ≤ s.f R.SAF_TSTAT_AGE → s.sys.arm = none → Answers .testOverdue s fun t =>
      t.f R.SAF_STAT_TESTOK = 0 ∧
        (s.inSt [stConnected, stRide] = false → t.saf = s.saf ∧ KeepsBut [R.SAF_STAT_TESTOK] s t) ∧
        (s.inSt [stConnected, stRide] = true → s.causeFree = true →
          t.st = stSafe ∧ t.saf.a.flt.testBit 9 = true ∧ t.saf.b.flt.testBit 9 = true ∧ KeepsOut safePages s t))

/-- Safe data (R483, R484, R486): four bad frames in a row, a loss of the channel's own source, and delivery by one network alone. -/
def safetyNetwork : Prop :=
  ∀ (s : State) (sb : Bool), s.live = true → s.sys.arm = none →
    (s.f R.SAF_NET_EN = 1 → s.f R.SAF_NET_FOLLOW = 1 → 4 ≤ (s.chan sb).net.badRun → Answers (.netMismatch sb) s fun t =>
      (t.chan sb).flt.testBit 12 = true ∧ KeepsOut safePages s t) ∧
    ((s.chan sb).net.badRun < 4 → Answers (.netMismatch sb) s fun t => t = s) ∧
    (s.f R.SAF_NET_EN = 1 → s.f R.SAF_NET_FOLLOW = 1 → s.role = 1 →
      (s.chan sb).net.goodAt + s.f R.LNK_CFG_PER * 1800 ≤ s.tbp → Answers (.netLoss sb) s fun t =>
        (t.chan sb).flt.testBit 11 = true ∧ KeepsOut safePages s t) ∧
    (s.tbp < (s.chan sb).net.goodAt + s.f R.LNK_CFG_PER * 1800 → Answers (.netLoss sb) s fun t => t = s) ∧
    (s.f R.SAF_NET_EN = 1 → s.f R.SAF_STAT_SINGLE = 0 →
      min (s.chan sb).net.mad (s.chan sb).net.woad + s.f R.SAF_NET_SINGLE * perSec ≤ s.tbp →
      s.tbp < max (s.chan sb).net.mad (s.chan sb).net.woad + s.f R.SAF_NET_SINGLE * perSec → Answers (.safSingle sb) s fun t =>
        t.f R.SAF_STAT_SINGLE = 1 ∧ t.saf = s.saf ∧ KeepsOut (fun o => o = 0xE080 ∨ evReg o) s t)

/-- The channels' cycles, self-test and record, and the safe data they receive (R454 to R463, R473, R483 to R486). -/
def Obligations.SafetyChannels : Prop := safetyCycles ∧ safetyRecord ∧ safetyNetwork

/-! ### The Belay procedure -/

/-- A stage or a pending change of the Belay procedure that is surely not yet out of time (R495). -/
def belayYoung (s : State) : Prop := 10 * s.belayAge < 591 * perSec

/-- The stage (R350, R491, R492, R624): the first write of a party opens it and changes nothing in force; a write by any other
source does nothing; one while another party holds the stage, or a change is pending, completes with STATE; keys are staged
slot by slot, and a loaded key that is no point of the curve is FORMAT. -/
def Obligations.BelayStage : Prop :=
  ∀ s : State, s.live = true →
    (∀ (off : Nat) (v : Word) (r : RegSpec), RegMap.find off = some r → hasBelay off = true → s.changesCfg off v = false →
      s.f R.SAF_BLY_STAT_ST = 0 → Answers (.belayStageWrite .host off v) s fun t =>
        t.f R.SAF_BLY_STAT_ST = 1 ∧ t.f R.SAF_BLY_STAT_PARTY = 1 ∧ t.saf.belay.at_ = s.tbp ∧
          t.stagedWord off = wordClamp off (r.write Acc.belay (s.reg off) v) ∧ Recorded off .done s t ∧
          KeepsBut (wresFlds ++ [R.SAF_BLY_STAT_ST, R.SAF_BLY_STAT_PARTY]) s t) ∧
    (∀ (off : Nat) (v : Word), hasBelay off = true → s.changesCfg off v = false → belayYoung s →
      (s.f R.SAF_BLY_STAT_ST = 1 ∧ s.f R.SAF_BLY_STAT_PARTY ≠ 1) ∨ 2 ≤ s.f R.SAF_BLY_STAT_ST →
      Answers (.belayStageWrite .host off v) s fun t => t.saf = s.saf ∧ Recorded off .state s t ∧ KeepsBut wresFlds s t) ∧
    (∀ (who : Writer) (off : Nat) (v : Word), who = .link ∨ who = .ce → Answers (.belayStageWrite who off v) s fun t => t = s) ∧
    (∀ (i : Fin 16) (v : Word), s.f R.SAF_BLY_STAT_ST = 0 → Answers (.keyLoadWrite .host i v) s fun t =>
      Tab.get (fun _ => 0) t.saf.belay.load i = v ∧ t.f R.SAF_BLY_STAT_ST = 1 ∧ Recorded (0xA080 + 4 * i) .done s t ∧ t.ce = s.ce ∧
        KeepsBut (wresFlds ++ [R.SAF_BLY_STAT_ST, R.SAF_BLY_STAT_PARTY]) s t) ∧
    (∀ slot : Fin 4, keyOk s.loadedKey = false → Answers (.keyInstall .host slot) s fun t =>
      t.saf = s.saf ∧ Recorded 0xA0C0 .format s t ∧ KeepsBut wresFlds s t) ∧
    (∀ slot : Fin 4, keyOk s.loadedKey = true → s.f R.SAF_BLY_STAT_ST = 1 → s.f R.SAF_BLY_STAT_PARTY = 1 → belayYoung s →
      Answers (.keyInstall .host slot) s fun t =>
        Tab.look t.saf.belay.keys slot = some (some s.loadedKey) ∧ t.ce = s.ce ∧ Recorded 0xA0C0 .done s t ∧
          KeepsBut wresFlds s t) ∧
    (∀ slot : Fin 4, s.f R.SAF_BLY_STAT_ST = 0 → Answers (.keyErase .host slot) s fun t =>
      Tab.look t.saf.belay.keys slot = some none ∧ t.ce = s.ce ∧ Recorded 0xA0C0 .done s t ∧
        KeepsBut (wresFlds ++ [R.SAF_BLY_STAT_ST, R.SAF_BLY_STAT_PARTY]) s t)

/-- The Belay change is gone with an outcome of `LAST`, and nothing in force has changed. -/
def Discarded (outcome : Nat) (s t : State) : Prop :=
  t.f R.SAF_BLY_STAT_ST = 0 ∧ t.f R.SAF_BLY_STAT_PARTY = 0 ∧ t.f R.SAF_BLY_STAT_LAST = outcome ∧ t.f R.SAF_BLY_CV_CV = 0 ∧
    t.saf = { s.saf with belay := {} } ∧ t.ce.keys = s.ce.keys ∧
    KeepsOut (fun o => o = 0xE0C0 ∨ o = 0xE0C4 ∨ o = 0x11000 ∨ evReg o) s t

/-- From proposal to effect (R493 to R498): a right check value makes the change pending, a wrong one discards it; its own party
does not confirm it; another's right confirmation is accepted and claims; COMKEY confirms between 1 s and 5 s; times out,
aborts; and once its Cairn write is complete the change is in force, confirmed, and the stage empty. -/
def Obligations.BelayChange : Prop :=
  ∀ s : State, s.live = true → s.sys.arm = none →
    (∀ cv : Word, s.f R.SAF_BLY_STAT_ST = 1 → s.f R.SAF_BLY_STAT_PARTY = 1 → belayYoung s → s.checkStaged = cv →
      Answers (.safBlyProp .host cv) s fun t =>
        t.f R.SAF_BLY_STAT_ST = 2 ∧ t.f R.SAF_BLY_CV_CV = cv.toNat ∧ t.saf.belay = { s.saf.belay with at_ := s.tbp } ∧
          Recorded 0xE0C8 .done s t ∧ KeepsOut (fun o => o = 0xE0C0 ∨ o = 0xE0C4 ∨ o = 0x11000 ∨ evReg o) s t) ∧
    (∀ cv : Word, s.f R.SAF_BLY_STAT_ST = 1 → s.f R.SAF_BLY_STAT_PARTY = 1 → belayYoung s → s.checkStaged ≠ cv →
      Answers (.safBlyProp .host cv) s fun t => Discarded 3 s t ∧ Recorded 0xE0C8 .auth s t) ∧
    (s.f R.SAF_BLY_STAT_ST = 2 → belayYoung s →
      (∀ cv : Word, s.f R.SAF_BLY_STAT_PARTY = 1 → Answers (.safBlyConf .host cv) s fun t =>
        t.saf = s.saf ∧ Recorded 0xE0CC .auth s t ∧ KeepsBut wresFlds s t) ∧
      (∀ cv : Word, s.f R.SAF_BLY_STAT_PARTY = 1 → cv.toNat ≠ s.f R.SAF_BLY_CV_CV →
        Answers (.safBlyConf .manager cv) s fun t => Discarded 3 s t) ∧
      (∀ (cv : Word) (own : Tab Nat), s.f R.SAF_BLY_STAT_PARTY = 1 → cv.toNat = s.f R.SAF_BLY_CV_CV →
        (s.quiet = true ∨ ∀ o ∈ s.belayOffs, o < 0xE000) → s.stateBad s.belayTarget s.belayOffs = false →
        commitMap s s.belayTarget = .ok own → Answers (.safBlyConf .manager cv) s fun t =>
          t.f R.SAF_BLY_STAT_ST = 3 ∧ t.saf.belay.party = 2 ∧ t.sys.own = own ∧ t.saf.belay.regs = s.saf.belay.regs ∧
            (s.bvq.cairnWr = none → ∃ i c, t.bvq.cairnWr = some (i, c, s.tbp) ∧ c.conf = some s.checkStaged) ∧
            KeepsBut [R.SAF_BLY_STAT_ST, R.BVQ_CAIRN_PEND] s t) ∧
      (∀ (ms : Nat) (own : Tab Nat), 1000 ≤ ms → ms ≤ 5000 → s.f R.SAF_BLY_STAT_PARTY = 1 →
        (s.quiet = true ∨ ∀ o ∈ s.belayOffs, o < 0xE000) → s.stateBad s.belayTarget s.belayOffs = false →
        commitMap s s.belayTarget = .ok own → Answers (.comkeyRelease ms) s fun t =>
          t.f R.SAF_BLY_STAT_ST = 3 ∧ t.saf.belay.party = 3 ∧ t.sys.own = own ∧
            KeepsBut [R.SAF_BLY_STAT_ST, R.BVQ_CAIRN_PEND] s t)) ∧
    (∀ ms : Nat, ms < 1000 ∨ 5000 < ms → Answers (.comkeyRelease ms) s fun t => t = s) ∧
    (s.f R.SAF_BLY_STAT_ST = 1 → 591 * perSec ≤ 10 * s.belayAge → Answers .belayStageTimeout s fun t => Discarded 2 s t) ∧
    (s.f R.SAF_BLY_STAT_ST = 2 → 591 * perSec ≤ 10 * s.belayAge → Answers .belayPendingTimeout s fun t => Discarded 2 s t) ∧
    (s.f R.SAF_BLY_STAT_ST = 1 ∨ s.f R.SAF_BLY_STAT_ST = 2 → belayYoung s → Answers (.belayAbort .host) s fun t =>
      Discarded 4 s t ∧ Recorded 0xE0D0 .done s t) ∧
    (s.f R.SAF_BLY_STAT_ST = 0 ∨ s.f R.SAF_BLY_STAT_ST = 3 → Answers (.belayAbort .host) s fun t =>
      t.saf = s.saf ∧ Recorded 0xE0D0 .state s t ∧ KeepsBut wresFlds s t) ∧
    (∀ (off : Nat) (w : Word), s.f R.SAF_BLY_STAT_ST = 3 → s.saf.belay.wr = 3 → s.saf.belay.regs = [(off, w)] →
      Answers .belayEffective s fun t =>
        t.reg off &&& accMask Acc.belay off = w &&& accMask Acc.belay off ∧ t.f R.SAF_BLY_STAT_ST = 0 ∧
          t.f R.SAF_BLY_STAT_LAST = 1 ∧ t.f R.SAF_STAT_CONF = 1 ∧ t.f R.SAF_CV_CV = s.checkStaged.toNat ∧
          t.saf.confCv = some s.checkStaged ∧ t.saf.belay = {} ∧ (off / 0x1000 ≠ 0xB → KeepsMem s t))

/-! ### Energy metering -/

/-- The instant at which the grid angle has wrapped, by the frequency it follows (R505). -/
def wrapAt (s : State) : Nat := s.mtr.thAt + ((turn - s.mtr.th) * 1000 * second / (s.mtrFreq.1 * turn)).toNat

/-- Cycle windows and pulses (R505, R507, R510, R512 to R514): before the angle has wrapped nothing ends; the first wrap only
begins a window; a window without enough samples is counted and takes the energies of the last powers; a pulse that lasts adds
its weight, one that does not is counted as a bounce. -/
def Obligations.Metering : Prop :=
  ∀ s : State, s.live = true →
    (s.mtr.run = true → s.mtrOn = true → s.mtrTheta s.pt < turn → Answers .cycleWindowEnd s fun t => t = s) ∧
    (s.mtr.run = true → s.mtrOn = true → turn ≤ s.mtrTheta s.pt → Answers .cycleWindowEnd s fun t =>
      t.mtr.wrapped = true ∧ t.mtr.winAt = wrapAt s ∧ t.mtr.th = s.mtr.th - turn ∧ t.mtr.bad = s.mtr.badNext ∧ t.mtr.pls = s.mtr.pls ∧
        (s.mtr.wrapped = false → t.mtr.acc = s.mtr.acc ∧ t.regs = s.regs) ∧
        (s.mtr.wrapped = true → s.mtrFilled (wrapAt s) = true → t.f R.MTR_CNT_FILL = min 4095 (s.f R.MTR_CNT_FILL + 1) ∧
          (s.mtr.pow = none → t.mtr.acc = s.mtr.acc) ∧
          (∀ p, s.mtr.pow = some p → s.f R.MTR_CFG_WIRE = 0 → ∀ k < 8,
            Tab.get (fun _ => 0) t.mtr.acc (20 * (k / 4) + 5 * (k % 4)) = (if p.getD (3 * k) 0 < 0 then
              min (2 ^ 96 - 1) (Tab.get (fun _ => 0) s.mtr.acc (20 * (k / 4) + 5 * (k % 4)) +
                (p.getD (3 * k) 0).natAbs * (wrapAt s - s.mtr.winAt) / second)
              else Tab.get (fun _ => 0) s.mtr.acc (20 * (k / 4) + 5 * (k % 4))))) ∧
        (s.mtr.wrapped = true → s.mtrFilled (wrapAt s) = false → t.mtr.pow.isSome = true ∧ t.f R.MTR_CNT_FILL = s.f R.MTR_CNT_FILL) ∧
        KeepsOut (inPage 0xF) s t) ∧
    (∀ (k : Fin 8) (active : Bool) (ms : Nat), s.mtrOn = true → s.f (R.MTR_PIN_EN k) = 1 → (s.pls k).act = !active →
      Answers (.pulseCount k active ms) s fun t =>
        (ms < s.f (R.MTR_PIN_DB k) → t.f R.MTR_CNT_BNC = min 127 (s.f R.MTR_CNT_BNC + 1) ∧ t.mtr = s.mtr ∧
          KeepsBut [R.MTR_CNT_BNC] s t) ∧
        (s.f (R.MTR_PIN_DB k) ≤ ms → t.regs = s.regs ∧ KeepsMem s t ∧ (t.pls k).act = active ∧ t.mtr.acc = s.mtr.acc ∧
          (t.pls k).cnt = (if active then ((s.pls k).cnt + 1) % 2 ^ 32 else (s.pls k).cnt) ∧
          (t.pls k).tot = (if active then ((s.pls k).tot + s.f (R.MTR_PWT_W k)) % 2 ^ 64 else (s.pls k).tot) ∧
          ∀ j, j ≠ k.val → t.pls j = s.pls j)) ∧
    (∀ (k : Fin 8) (active : Bool) (ms : Nat), s.f (R.MTR_PIN_EN k) = 0 → Answers (.pulseCount k active ms) s fun t => t = s)

/-- The tally store (R516, R517, R520): a commit that is due takes its snapshot with the next sequence number and frees the record
it writes; the record is valid, and its number shown, once it is written; SNAP copies every accumulator at one instant; CLR
clears them in STANDBY alone and commits. -/
def Obligations.TallyStore : Prop :=
  ∀ s : State, s.live = true →
    (s.mtr.run = true → s.mtrOn = true → s.mtr.writing = none → s.mtr.commitAt + perSec ≤ s.tbp → Answers .tallyCommit s fun t =>
      t.mtr.commitAt = s.mtr.commitAt + perSec ∧
        (∃ i, t.mtr.writing = some (i, s.tallyRecord ((s.f R.MTR_TSEQ_SEQ + 1) % 2 ^ 32), false) ∧ Tab.look t.mtr.tally i = none ∧
          (∀ j q, s.tallyNewest = some (j, q) → i = 1 - j)) ∧ t.mtr.acc = s.mtr.acc ∧ t.regs = s.regs ∧ KeepsMem s t) ∧
    (∀ (i : Nat) (l : List Word), s.mtr.writing = some (i, l, false) → Answers .tallyWriteComplete s fun t =>
      Tab.look t.mtr.tally i = some l ∧ t.mtr.writing = none ∧ t.reg 0xF03C = l.getD 0 0 ∧ KeepsOut (fun o => o = 0xF03C) s t) ∧
    (s.mtr.writing = none → Answers .tallyWriteComplete s fun t => t = s) ∧
    Answers .mtrCtlSnap s (fun t =>
      (∀ i < 40, Tab.get (fun _ => 0) t.mtr.snap i = Tab.get (fun _ => 0) s.mtr.acc i / 2 ^ 32) ∧
        (∀ k < 8, Tab.get (fun _ => 0) t.mtr.snap (40 + k) = (s.pls k).tot ∧
          Tab.get (fun _ => 0) t.mtr.snap (48 + k) = (s.pls k).cnt) ∧
        t.mtr.acc = s.mtr.acc ∧ t.mtr.pls = s.mtr.pls ∧ Recorded 0xF030 .done s t ∧ KeepsBut wresFlds s t) ∧
    (s.st = stStandby → Tab.wf (fun _ => ({} : PlsSt)) s.mtr.pls = true → Answers .mtrCtlClr s fun t =>
      t.mtr.acc = [] ∧ (∀ k, (t.pls k).tot = 0 ∧ (t.pls k).cnt = (s.pls k).cnt) ∧
        (∃ i l, t.mtr.writing = some (i, l, false)) ∧ Recorded 0xF030 .done s t ∧
        KeepsOut (fun o => o = 0x11000 ∨ evReg o) s t) ∧
    (s.st ≠ stStandby → Answers .mtrCtlClr s fun t => t.mtr = s.mtr ∧ Recorded 0xF030 .state s t ∧ KeepsBut wresFlds s t)

/-! ### The Bivouac domain -/

/-- The domain's supplies (R525 to R529, R547): it comes up from OFF with the counts of its newest record, is lost whole but for
MRAM, moves between store and cell, and cuts the burst loads off and on by the thresholds of a supervisor sample, each clear of the 2 % that R532 allows them. -/
def Obligations.BivouacSupplies : Prop :=
  ∀ s : State,
    (∀ hvst cell : Nat, s.power = .off → 2244 ≤ hvst ∨ 2040 ≤ cell → Answers (.bivouacPowerOn hvst cell) s fun t =>
      t.power = .keepalive ∧ (2244 ≤ hvst → t.f R.BVQ_STAT_SRC = 1) ∧ (hvst < 2156 → t.f R.BVQ_STAT_SRC = 2) ∧
        (∀ r, Tab.look s.bvq.recs s.bvq.recSlot = some r →
          t.reg 0x10044 = r.cellt ∧ t.reg 0x10040 = r.bst &&& 0x7FFFFF ∧ t.f R.BVQ_LRT_SEC = r.rt % 2 ^ 32) ∧
        KeepsOut (inPage 0x10) s t) ∧
    (∀ hvst cell : Nat, s.power ≠ .off ∨ (hvst < 2156 ∧ cell < 1960) → Answers (.bivouacPowerOn hvst cell) s fun t => t = s) ∧
    (s.power = .keepalive → Answers .bivouacPowerOff s fun t =>
      t.power = .off ∧ (∀ off, inPage 0x10 off → t.reg off = RegMap.resetWord off) ∧ t.bvq.tbk = 0 ∧ t.bvq.recs = s.bvq.recs ∧
        t.bvq.cairn = s.bvq.cairn ∧ t.mtr = s.mtr ∧ t.saf = s.saf ∧ t.f R.SYS_RSTC_CAUSE = 0 ∧
        KeepsOut (fun o => inPage 0x10 o ∨ o = 0x110) s t) ∧
    (s.power ≠ .keepalive → Answers .bivouacPowerOff s fun t => t = s) ∧
    (s.power = .keepalive → s.f R.BVQ_STAT_SRC ≠ 0 → s.f R.BVQ_STAT_CUT = 0 → Answers .burstCutOff s fun t =>
      t.f R.BVQ_STAT_CUT = 1 ∧ t.f R.BVQ_BST_CUT = min 127 (s.f R.BVQ_BST_CUT + 1) ∧ t.bvq.due.testBit 1 = true ∧
        KeepsBut [R.BVQ_STAT_CUT, R.BVQ_BST_CUT] s t) ∧
    Answers .burstReconnect s (fun t => t.f R.BVQ_STAT_CUT = 0 ∧ t.bvq = s.bvq ∧ KeepsBut [R.BVQ_STAT_CUT] s t) ∧
    (s.power = .keepalive → s.f R.BVQ_ST_CELLEN = 1 → s.f R.BVQ_STAT_SRC = 1 → Answers .cellSwitch s fun t =>
      t.f R.BVQ_STAT_SRC = 2 ∧ t.bvq.cellFrom = some s.tbkSec ∧ KeepsBut [R.BVQ_STAT_SRC] s t) ∧
    (∀ u, s.power = .keepalive → s.f R.BVQ_STAT_SRC = 2 → s.bvq.cellFrom = some u → Answers .storeReturn s fun t =>
      t.f R.BVQ_STAT_SRC = 1 ∧ t.bvq.cellFrom = none ∧
        t.f R.BVQ_CELLT_MIN = min (2 ^ 32 - 1) (s.f R.BVQ_CELLT_MIN + (s.bvq.cellPart + (s.tbkSec - u)) / 60) ∧
        KeepsBut [R.BVQ_STAT_SRC, R.BVQ_CELLT_MIN] s t) ∧
    (∀ hvst cell : Nat, s.power = .keepalive → s.f R.BVQ_STAT_SRC = 1 →
      (2652 ≤ hvst → Answers (.supervisorSample hvst cell) s fun t =>
        t.power = .keepalive ∧ t.f R.BVQ_STAT_CUT = 0 ∧ t.f R.BVQ_STAT_SRC = 1 ∧ t.f R.BVQ_VST_HVST = min 1023 (hvst / 10) ∧
          KeepsOut (inPage 0x10) s t) ∧
      (hvst < 1862 → 2040 ≤ cell → s.f R.BVQ_ST_CELLEN = 1 → Answers (.supervisorSample hvst cell) s fun t =>
        t.power = .keepalive ∧ t.f R.BVQ_STAT_CUT = 1 ∧ t.f R.BVQ_STAT_SRC = 2 ∧ KeepsOut (inPage 0x10) s t) ∧
      (hvst < 1764 → cell < 1960 → Answers (.supervisorSample hvst cell) s fun t =>
        t.power = .off ∧ t.bvq.tbk = 0 ∧ KeepsOut (inPage 0x10) s t)) ∧
    (∀ hvst cell : Nat, s.power = .keepalive → s.f R.BVQ_STAT_SRC = 2 → 2244 ≤ hvst → Answers (.supervisorSample hvst cell) s fun t =>
      t.f R.BVQ_STAT_SRC = 1 ∧ t.bvq.cellFrom = none ∧ KeepsOut (inPage 0x10) s t)

/-- Bursts and measurements (R534, R536 to R539, R541 to R543, R547): a request is admitted when the store covers it, else refused
and counted; a record commit writes the slot not written last; Voc and Isc end their times after the TBK counts of R541 and
R542, and enough high values after low ones request a wake. -/
def bursts : Prop :=
  ∀ s : State,
    (∀ (hvst k : Nat), s.bvq.burst = some k → s.bvq.irr = none → Answers (.burstEnd hvst) s fun t =>
      t.bvq.burst = none ∧
        (s.bvq.stored = true → hvst < 2000 → t.f R.BVQ_BST_UNDER = 1 ∧ (s.power = .keepalive → s.f R.BVQ_STAT_SRC ≠ 0 → t.f R.BVQ_STAT_CUT = 1)) ∧
        (s.bvq.stored = false ∨ 2000 ≤ hvst → t.regs = s.regs) ∧ KeepsOut (inPage 0x10) s t) ∧
    (∀ hvst cell : Nat, s.power = .keepalive → s.f R.BVQ_STAT_SRC ≠ 0 → s.bvq.recAt + s.f R.BVQ_ST_LOGH * 3600 ≤ s.tbkSec → s.bvq.burst = none →
      (s.storeCovers 1 hvst = true → Answers (.bivouacRecordCommit hvst cell) s fun t =>
        (∃ r, Tab.look t.bvq.recs (1 - s.bvq.recSlot) = some r ∧ r.rt = s.realTime ∧ r.cellt = s.reg 0x10044 ∧
          r.bst = s.reg 0x10040) ∧ t.bvq.recSlot = 1 - s.bvq.recSlot ∧ t.bvq.burst = some 1 ∧ t.regs = s.regs ∧ KeepsMem s t) ∧
      (s.storeCovers 1 hvst = false → s.f R.BVQ_ST_CELLEN = 0 → Answers (.bivouacRecordCommit hvst cell) s fun t =>
        t.bvq.recs = s.bvq.recs ∧ t.bvq.burst = none ∧ t.bvq.due.testBit 1 = true ∧
          t.f R.BVQ_BST_REF = min 255 (s.f R.BVQ_BST_REF + 1) ∧ KeepsBut [R.BVQ_BST_REF] s t)) ∧
    (∀ hvst cell : Nat, s.power = .main → s.bvq.irrAt + s.f R.BVQ_IRRCFG_P ≤ s.tbkSec → s.bvq.burst = none → s.bvq.voc = none →
      Answers (.irradianceMeasurement hvst cell) s fun t =>
        t.bvq.irr = some s.bvq.tbk ∧ t.bvq.burst = some 2 ∧ t.bvq.irrAt = s.tbkSec ∧ t.regs = s.regs ∧ KeepsMem s t) ∧
    (∀ (isc : Fin 4096) (u : Nat), s.bvq.irr = some u → u + 65 ≤ s.bvq.tbk → Answers (.irradianceMeasurementEnd isc) s fun t =>
      t.bvq.irr = none ∧ t.f R.BVQ_IRR_ISC = isc ∧ t.f R.BVQ_IRR_G = min 65535 (isc * s.f R.BVQ_IRRCFG_K / 256) ∧
        (s.f R.BVQ_WAKE_EN = 1 → s.power = .keepalive → s.f R.BVQ_STAT_SRC ≠ 0 → s.f R.BVQ_WAKE_TH ≤ t.f R.BVQ_IRR_G →
          s.f R.BVQ_WAKE_N ≤ min 15 (s.bvq.hits + 1) → s.bvq.again = true → s.bvq.wake = false → t.bvq.due.testBit 0 = true) ∧
        KeepsBut [R.BVQ_IRR_ISC, R.BVQ_IRR_G] s t) ∧
    (s.power ≠ .off → s.bvq.voc = none → s.bvq.irr = none → s.bvq.vocAt + s.f R.BVQ_HARV_VOCP + 1 ≤ s.tbkSec →
      Answers .vocSample s fun t => t.bvq.voc = some s.bvq.tbk ∧ t.bvq.vocAt = s.tbkSec ∧ t.regs = s.regs ∧ KeepsMem s t) ∧
    (∀ mv u : Nat, s.bvq.voc = some u → u + 163 ≤ s.bvq.tbk → Answers (.vocSampleEnd mv) s fun t =>
      t.bvq.voc = none ∧ t.bvq.idle = decide (mv < 300) ∧ t.f R.BVQ_VST_VOC = min 1023 (mv / 10) ∧ KeepsBut [R.BVQ_VST_VOC] s t) ∧
    (s.live = true → s.bvq.wake = true → Answers .wakeRelease s fun t =>
      t.bvq.wake = false ∧ t.bvq.again = false ∧ Recorded 0x10020 .done s t ∧ KeepsBut wresFlds s t)

/-- Real time (R544 to R546): a write of both halves waits for the next whole TBK second, counts from there, and is kept equal to
the plant-time seconds every 64 s where `SYNC` asks for it. -/
def realTimes : Prop :=
  ∀ s : State, s.live = true →
    (∀ hi : Word, Answers (.realTimeSet hi) s fun t =>
      t.bvq.load = some ((s.bvq.rtsl.toNat + hi.toNat % 2 ^ 16 * 2 ^ 32) % 2 ^ 48, s.tbkSec + 1) ∧ t.realTime = s.realTime ∧
        Recorded 0x10034 .done s t ∧ KeepsBut wresFlds s t) ∧
    (∀ v u : Nat, s.bvq.load = some (v, u) → u ≤ s.tbkSec → Answers .realTimeLoad s fun t =>
      t.realTime = (v + (s.tbkSec - u)) % 2 ^ 48 ∧ t.bvq.load = none ∧ t.f R.BVQ_STAT_RTV = 1 ∧ KeepsBut [R.BVQ_STAT_RTV] s t) ∧
    (s.f R.BVQ_ST_SYNC = 1 → s.f R.PLT_TSTAT_LOCKED = 1 → s.bvq.syncAt + 64 ≤ s.tbkSec → Answers .realTimeSync s fun t =>
      t.bvq.load = some (ptSec (s.ptAt (s.tbp + ceilDiv ((32768 - s.bvq.tbk % 32768) * 390625 - s.bvq.sub) 32)) % 2 ^ 48,
        s.tbkSec + 1) ∧ t.bvq.syncAt = s.tbkSec ∧ t.regs = s.regs ∧ KeepsMem s t)

/-- Bursts, measurements and the real time of the Bivouac domain (R534 to R547). -/
def Obligations.BurstsAndRealTime : Prop := bursts ∧ realTimes

/-- Cairn (R549 to R554): a change is written to the copy that does not hold the newest valid image, which is not valid meanwhile;
its number is shown at the end; without a valid copy the configuration stays at its reset values, with one its grid registers
and keys are restored; a factory reset erases both copies, in STANDBY alone. -/
def Obligations.CairnStore : Prop :=
  ∀ s : State, s.live = true →
    (∀ u, s.bvq.cairnAt = some u → u ≤ s.tbp → s.bvq.cairnWr = none → s.bvq.failing = false → s.saf.belay.party = 0 →
      Answers .cairnWriteStart s fun t =>
        (∃ i, t.bvq.cairnWr = some (i, s.cairnImage, s.tbp) ∧ (Tab.look t.bvq.cairn i).map (·.bad) = some true ∧
          ∀ j c, s.cairnNewest = some (j, c) → i = 1 - j) ∧ t.bvq.cairnAt = none ∧ t.regs = s.regs ∧ KeepsMem s t) ∧
    (∀ (i u : Nat) (c : Cairn), s.bvq.cairnWr = some (i, c, u) → s.bvq.cairnMore = false → s.saf.belay.party = 0 →
      Answers .cairnWriteComplete s fun t =>
        Tab.look t.bvq.cairn i = some c ∧ t.bvq.cairnWr = none ∧ t.f R.BVQ_CSEQL_SEQ = c.seq % 2 ^ 32 ∧
          t.f R.BVQ_CAIRN_PEND = bit s.bvq.cairnAt.isSome ∧ KeepsBut [R.BVQ_CSEQL_SEQ, R.BVQ_CAIRN_PEND] s t) ∧
    (∀ (i u : Nat) (c : Cairn), s.bvq.cairnWr = some (i, c, u) → s.saf.belay.party ≠ 0 → s.saf.belay.wr = 2 →
      Answers .cairnWriteComplete s fun t =>
        Tab.look t.bvq.cairn i = some c ∧ t.saf.belay.wr = 3 ∧ KeepsBut [R.BVQ_CSEQL_SEQ, R.BVQ_CAIRN_PEND] s t) ∧
    (∀ badA badB : Bool, s.st = stBoot → s.sys.restored = false → s.bvq.cairn = [] → Answers (.cairnRestore badA badB) s fun t =>
      t.f R.BVQ_CAIRN_SRC = 2 ∧ t.f R.BVQ_CAIRN_BADA = 1 ∧ t.f R.BVQ_CAIRN_BADB = 1 ∧ t.sys.restored = true ∧
        t.f R.SAF_STAT_CONF = 0 ∧ t.f R.TIM_RATE_VAL = 0 ∧
        ∀ off, inPage 0xB off → t.reg off &&& accMask Acc.kept off = RegMap.resetWord off &&& accMask Acc.kept off) ∧
    (∀ (i : Nat) (c : Cairn), i < 2 → s.st = stBoot → s.sys.restored = false → s.bvq.cairn = [(i, c)] → c.bad = false →
      Answers (.cairnRestore false false) s fun t =>
        t.f R.BVQ_CAIRN_SRC = i ∧ t.f R.BVQ_CSEQL_SEQ = c.seq % 2 ^ 32 ∧ t.sys.restored = true ∧ t.ce.keys = c.keys ∧
          ∀ off, inPage 0xB off →
            t.reg off &&& accMask Acc.kept off = Tab.get cairnDflt c.regs off &&& accMask Acc.kept off) ∧
    (s.st = stStandby → Answers .cairnFactoryReset s fun t =>
      t.bvq.cairn = [] ∧ t.live = true ∧ t.st = stBoot ∧ t.f R.SYS_RSTC_CAUSE = 4 ∧ MainAtReset s t) ∧
    (s.st ≠ stStandby → Answers .cairnFactoryReset s fun t =>
      t.bvq = s.bvq ∧ Recorded 0x10060 .state s t ∧ KeepsBut wresFlds s t)

/-- Hold-up and supply failure (R556 to R560): the check of BOOT passes or holds BOOT, the recheck warns; a failure turns the power
stage off, abandons a Cairn write and begins the final commit; when that is written the module is held in reset, until the
capacitor has recovered. -/
def Obligations.SupplyFailure : Prop :=
  ∀ s : State,
    (∀ v : Nat, s.live = true → s.st = stBoot → s.sys.restored = true → s.bitAt R.SYS_STATE_WAIT 3 = true → s.bvq.huAt = none →
      Answers (.holdupCheck v) s fun t =>
        t.f R.BVQ_HUSTAT_V = min 65535 v ∧ t.f R.BVQ_HUSTAT_E = s.huEnergy ∧
          (s.huEnough = true → 105 * s.f R.BVQ_HUV_VFAIL ≤ 100 * v → t.f R.BVQ_STAT_HUOK = 1 ∧ t.bitAt R.SYS_STATE_WAIT 3 = false ∧
            KeepsBut [R.BVQ_HUSTAT_V, R.BVQ_HUSTAT_E, R.BVQ_STAT_HUOK, R.SYS_STATE_WAIT] s t) ∧
          (s.huEnough = false ∨ 100 * v < 105 * s.f R.BVQ_HUV_VFAIL → t.f R.BVQ_STAT_HUOK = s.f R.BVQ_STAT_HUOK ∧
            t.bitAt R.SYS_STATE_WAIT 3 = true ∧ t.bvq.huLow = true ∧ KeepsOut (fun o => o = 0x10058 ∨ evReg o) s t)) ∧
    (∀ v : Nat, s.live = true → s.st ≠ stBoot → s.bvq.huAt = none → Answers (.holdupRecheck v) s fun t =>
      t.f R.BVQ_HUSTAT_V = min 65535 v ∧
        (s.huEnough = true → 105 * s.f R.BVQ_HUV_VFAIL ≤ 100 * v → KeepsBut [R.BVQ_HUSTAT_V, R.BVQ_HUSTAT_E] s t) ∧
        (s.huEnough = false ∨ 100 * v < 105 * s.f R.BVQ_HUV_VFAIL →
          t.f R.BVQ_STAT_HUWEAK = 1 ∧ t.st = s.st ∧ KeepsOut (fun o => o = 0x10000 ∨ o = 0x10058 ∨ evReg o) s t)) ∧
    (s.live = true → s.bvq.failing = false → s.sys.arm = none → Answers .supplyFailure s fun t =>
      t.bvq.failing = true ∧ t.bvq.wake = false ∧ t.bvq.cairnWr = none ∧ (∃ i l, t.mtr.writing = some (i, l, true)) ∧
        (∀ m < 24, s.pairOn m = true → s.stage m = 0 → (t.pair m).up = false ∧ (t.pair m).lo = false) ∧
        (∀ a, t.byte a = 0) ∧ (∀ off, inPage 9 off ∨ inPage 0xA off ∨ inPage 0xC off ∨ inPage 0x11 off →
          t.reg off = RegMap.resetWord off) ∧
        (∀ off, ¬ (inPage 9 off ∨ inPage 0xA off ∨ inPage 0xC off ∨ inPage 0x11 off) → off / 0x1000 ≠ 5 →
          t.reg off = s.reg off) ∧
        t.hst.mem = s.hst.mem ∧ t.pending = s.pending ∧ t.part = s.part) ∧
    (∀ (i : Nat) (l : List Word), s.live = true → s.bvq.failing = true → s.mtr.writing = some (i, l, true) →
      Answers .finalCommitComplete s fun t =>
        t.live = false ∧ t.bvq.held = true ∧ t.f R.SYS_RSTC_CAUSE = 2 ∧ Tab.look t.mtr.tally i = some l ∧ MainAtReset s t) ∧
    (s.live = true → s.bvq.failing = false → Answers .finalCommitComplete s fun t => t = s) ∧
    (s.bvq.held = true → s.live = false → s.sys.railsOk = true → s.sys.nrst = true → Answers .supplyRecovery s fun t =>
      t.live = true ∧ t.tbp = 0 ∧ t.bvq.held = false ∧
        KeepsOut (fun o => [0x10000, 0x10038, 0x10040, 0x10044].contains o = true) s t) ∧
    (s.bvq.held = false → Answers .supplyRecovery s fun t => t = s)

/-! ### The host interface -/

/-- Register writes through BAR0 (R45, R46, R564, R565, R573, R585): an offset that holds no register, or that is not aligned,
completes with FORMAT; a refused claim with CONFLICT, recorded in `SYS_OWN_LAST`, with nothing written; else the fields of the
`HST_` page take the written values, within their ranges, and the claims are recorded. The event ring's enable and the disable
of a ring are such writes. -/
def Obligations.RegisterWrites : Prop :=
  ∀ s : State, s.live = true →
    (∀ (off : Nat) (v : Word), off < 2 ^ 20 → off % 4 ≠ 0 ∨ RegMap.find off = none → Answers (.registerWrite off v) s fun t =>
      Recorded off .format s t ∧ t.sys = s.sys ∧ KeepsBut wresFlds s t) ∧
    (∀ (off : Nat) (v : Word) (c : Conflict), off % 4 = 0 → RegMap.find off ≠ none → isPwmReg off = false →
      accMask Acc.cfg off ≠ 0 → s.isBelayWrite off v = false → s.stateBad (s.writeCfg [(0, off, v)]) [off] = false →
      commitMap s (s.writeCfg [(0, off, v)]) = .error c →
      Answers (.registerWrite off v) s fun t =>
        Recorded off .conflict s t ∧ t.sys = s.sys ∧ t.f R.SYS_OWN_LAST_RESID = c.res % 2 ^ R.SYS_OWN_LAST_RESID.w ∧
          t.f R.SYS_OWN_LAST_OWNER = c.holder % 2 ^ R.SYS_OWN_LAST_OWNER.w ∧
          t.f R.SYS_OWN_LASTC_CLAIM = c.claimer % 2 ^ R.SYS_OWN_LASTC_CLAIM.w ∧ t.f R.SYS_OWN_LASTC_RESTORE = 0 ∧
          KeepsBut (wresFlds ++ [R.SYS_OWN_LAST_RESID, R.SYS_OWN_LAST_OWNER, R.SYS_OWN_LASTC_CLAIM, R.SYS_OWN_LASTC_RESTORE,
            R.SYS_OWN_LASTC_COUNT]) s t) ∧
    (∀ (off : Nat) (v : Word) (own : Tab Nat), off % 4 = 0 → inPage 0x11 off → accMask Acc.cfg off ≠ 0 → accMask Acc.cmd off = 0 →
      s.stateBad (s.writeCfg [(0, off, v)]) [off] = false → commitMap s (s.writeCfg [(0, off, v)]) = .ok own →
      Answers (.registerWrite off v) s fun t =>
        t.reg off &&& accMask Acc.cfg off = s.written Acc.cfg off v &&& accMask Acc.cfg off ∧ Recorded off .done s t ∧
          KeepsOut (fun o => inPage 0x11 o ∨ inPage 0 o ∨ inPage 0x10 o) s t) ∧
    (∀ (off : Nat) (v : Word), off % 4 = 0 → inPage 0x11 off → (off < 0x11400 ∨ 0x11500 ≤ off) → accMask Acc.cfg off ≠ 0 →
      accMask Acc.cmd off = 0 → (∀ r < 16, 0x11100 + 32 * r ≤ off → off < 0x11120 + 32 * r → s.f (R.HST_RING_CFG_EN r) = 0) →
      Answers (.registerWrite off v) s fun t =>
        t.reg off &&& accMask Acc.cfg off = s.written Acc.cfg off v &&& accMask Acc.cfg off ∧ Recorded off .done s t ∧
          KeepsOut (fun o => inPage 0x11 o ∨ inPage 0 o ∨ inPage 0x10 o) s t) ∧
    (∀ en : Bool, Answers (.eventRingEnable en) s fun t =>
        t.f R.HST_EVR_CFG_EN = bit en ∧ Recorded 0x11308 .done s t ∧
          (en = false → s.f R.HST_EVR_CFG_EN = 1 → t.hst.held = [] ∧
            t.f R.HST_EVR_OFF_CNT = min 65535 (s.f R.HST_EVR_OFF_CNT + s.hst.held.length)) ∧ KeepsMem s t) ∧
    (∀ r : Fin 16, s.f (R.HST_RING_CFG_EN r) = 1 → 4 ≤ s.f (R.HST_RING_CFG_LOG2SZ r) → s.f (R.HST_RING_CFG_LOG2SZ r) ≤ 12 →
      Answers (.ringDisable r) s fun t =>
        t.f (R.HST_RING_CFG_EN r) = 0 ∧ (t.ring r).infl = (s.ring r).infl ∧
          ((s.ring r).infl = [] → t.f (R.HST_RING_STAT_IDLE r) = 1) ∧ Recorded (0x11110 + 32 * r.val) .done s t ∧ KeepsMem s t)

/-- When a doorbell value would place a producer more than one ring size ahead of its consumer, or a consumer ahead of its
producer, the write is ignored and `HST_ERR.DBOVF` set with the ring number; a doorbell of a disabled ring is ignored; any other
is taken (R568). Indices are free-running 16-bit counts. -/
def Obligations.Doorbells : Prop :=
  ∀ (s : State) (i : BitVec 16), s.live = true →
    (∀ r : Fin 16, s.f (R.HST_RING_CFG_EN r) = 0 →
      (Answers (.commandDoorbell r i) s fun t => t.ring r = s.ring r ∧ t.regs = s.regs ∧ KeepsMem s t) ∧
      (Answers (.completionDoorbell r i) s fun t => t.ring r = s.ring r ∧ t.regs = s.regs ∧ KeepsMem s t)) ∧
    (∀ r : Fin 16, s.f (R.HST_RING_CFG_EN r) = 1 →
      (s.ringSize r < ahead i.toNat (s.f (R.HST_RING_STAT_CI r)) → Answers (.commandDoorbell r i) s fun t =>
        t.ring r = s.ring r ∧ t.f R.HST_ERR_DBOVF = 1 ∧ t.f R.HST_ERR_RING = r ∧ KeepsBut [R.HST_ERR_DBOVF, R.HST_ERR_RING] s t) ∧
      (ahead i.toNat (s.f (R.HST_RING_STAT_CI r)) ≤ s.ringSize r → Answers (.commandDoorbell r i) s fun t =>
        t.ring r = { s.ring r with prod := i.toNat } ∧ t.regs = s.regs ∧ KeepsMem s t) ∧
      (s.ringSize r < ahead (s.ring r).cprod i.toNat → Answers (.completionDoorbell r i) s fun t =>
        t.ring r = s.ring r ∧ t.f R.HST_ERR_DBOVF = 1 ∧ t.f R.HST_ERR_RING = r ∧ KeepsBut [R.HST_ERR_DBOVF, R.HST_ERR_RING] s t) ∧
      (ahead (s.ring r).cprod i.toNat ≤ s.ringSize r → Answers (.completionDoorbell r i) s fun t =>
        t.ring r = { s.ring r with cons := i.toNat } ∧ t.regs = s.regs ∧ KeepsMem s t)) ∧
    (s.f R.HST_EVR_CFG_EN = 0 → Answers (.eventRingDoorbell i) s fun t =>
      t.hst.evCons = s.hst.evCons ∧ t.regs = s.regs ∧ KeepsMem s t) ∧
    (s.f R.HST_EVR_CFG_EN = 1 → Answers (.eventRingDoorbell i) s fun t =>
      (2 ^ s.f R.HST_EVR_CFG_LOG2SZ < ahead (s.f R.HST_EVR_STAT_PI) i.toNat → t.hst.evCons = s.hst.evCons ∧
        t.f R.HST_ERR_DBOVF = 1) ∧
      (ahead (s.f R.HST_EVR_STAT_PI) i.toNat ≤ 2 ^ s.f R.HST_EVR_CFG_LOG2SZ → t.hst.evCons = i.toNat ∧ t.regs = s.regs) ∧
      KeepsBut [R.HST_ERR_DBOVF] s t) ∧
    (s.f R.HST_CPR_CFG_EN = 0 → Answers (.captureRingDoorbell i) s fun t =>
      t.hst.capCons = s.hst.capCons ∧ t.regs = s.regs ∧ KeepsMem s t) ∧
    (s.f R.HST_CPR_CFG_EN = 1 → Answers (.captureRingDoorbell i) s fun t =>
      (2 ^ s.f R.HST_CPR_CFG_LOG2SZ < ahead (s.f R.HST_CPR_STAT_PI) i.toNat → t.hst.capCons = s.hst.capCons ∧
        t.f R.HST_ERR_DBOVF = 1) ∧
      (ahead (s.f R.HST_CPR_STAT_PI) i.toNat ≤ 2 ^ s.f R.HST_CPR_CFG_LOG2SZ → t.hst.capCons = i.toNat ∧ t.regs = s.regs) ∧
      KeepsBut [R.HST_ERR_DBOVF] s t)

/-- One descriptor, that of ring r, is the next to start, with nothing in its ring before or behind it, and the host can take its
completion. -/
def OneWaits (s : State) (r : Nat) (f : Flight) : Prop :=
  s.live = true ∧ (s.ring r).infl = [f] ∧ f.started = false ∧ f.comp = none ∧ f.d.addr % 4 = 0 ∧ (s.xing 11).inReset = false ∧
    s.serves r f.d.opc = true

/-- One descriptor runs in ring r, and the host can take its completion. -/
def OneRuns (s : State) (r : Nat) (f : Flight) : Prop :=
  s.live = true ∧ (s.ring r).infl = [f] ∧ f.started = true ∧ f.comp = none ∧ (s.xing 11).inReset = false

/-- The address of the next completion of a ring (R572, R578). -/
def compAddr (s : State) (r : Nat) : Nat :=
  s.f (R.HST_RING_CBL_VAL r) + s.f (R.HST_RING_CBH_VAL r) * 2 ^ 32 + 16 * ((s.ring r).cprod % s.ringSize r)

/-- The descriptor of ring r has completed: its four words stand at the next entry, and it is no longer in flight. -/
structure Completed (r : Nat) (f : Flight) (c : Comp) (s t : State) : Prop where
  words : ∀ i < 4, t.hostWord (compAddr s r + 4 * i) =
    (compWords f.d c f.idx (if (s.ring r).cprod / s.ringSize r % 2 = 0 then 1 else 0)).getD i 0
  none : (t.ring r).infl = []
  cprod : (t.ring r).cprod = ((s.ring r).cprod + 1) % 2 ^ 16
  infl : t.f (R.HST_RING_STAT_INFL r) = 0
  queue : t.pending = s.pending
  part : t.part = s.part

/-- Beside the completion nothing of the data memory, of host memory or of a register outside `p`, the ring's own status and
`HST_ERR` has changed. -/
structure CompletedOnly (p : Nat → Prop) (r : Nat) (f : Flight) (c : Comp) (s t : State) : Prop extends Completed r f c s t where
  mem : ∀ a, t.byte a = s.byte a
  host : ∀ a, a < compAddr s r ∨ compAddr s r + 16 ≤ a → t.hostWord a = s.hostWord a
  regs : ∀ off, ¬ p off → off ≠ 0x11004 → off ≠ 0x11114 + 32 * r → t.reg off = s.reg off

/-- Ring service (R566, R569 to R573, R582): the next ring's descriptor is fetched and its index passed; an unknown opcode
completes at once; a held interrupt goes out at the end of its spacing; the ring's status follows what is in flight; a PCIe
reset disables every ring and empties them. -/
def Obligations.RingService : Prop :=
  ∀ s : State, s.live = true →
    (∀ (r : Fin 16) (d : Desc), s.nextRing = some r.val → s.inFlightAll < 256 → descVoid d = false →
      (∀ f ∈ (s.ring r).infl, f.comp = none) → Answers (.descriptorFetch r d false) s fun t =>
        (t.ring r).infl = (s.ring r).infl ++ [{ d := d, idx := s.f (R.HST_RING_STAT_CI r), started := false, comp := none }] ∧
          t.f (R.HST_RING_STAT_CI r) = (s.f (R.HST_RING_STAT_CI r) + 1) % 2 ^ 16 ∧
          KeepsBut [R.HST_RING_STAT_CI r, R.HST_RING_STAT_INFL r, R.HST_RING_STAT_IDLE r, R.HST_ERR_INFL] s t) ∧
    (∀ (r : Fin 16) (d : Desc), s.nextRing = some r.val → s.inFlightAll < 256 → 0x0A < d.opc → (s.ring r).infl = [] →
      (s.xing 11).inReset = false → Answers (.descriptorFetch r d false) s fun t =>
        CompletedOnly (fun _ => False) r { d := d, idx := s.f (R.HST_RING_STAT_CI r) } compFormat s t) ∧
    (∀ (r : Fin 16) (d : Desc) (dma : Bool), s.nextRing ≠ some r.val → Answers (.descriptorFetch r d dma) s fun t => t = s) ∧
    (∀ (v : Fin 32) (u : Nat), (Tab.get (fun _ => ({} : VecSt)) s.hst.vecs v).held = true →
      (Tab.get (fun _ => ({} : VecSt)) s.hst.vecs v).last = some u → u + s.f R.HST_IMOD_US * perUs ≤ s.tbp →
      Answers (.interruptModerationExpiry v) s fun t =>
        (Tab.get (fun _ => ({} : VecSt)) t.hst.vecs v).held = false ∧ (Tab.get (fun _ => ({} : VecSt)) t.hst.vecs v).last = some s.tbp ∧
          (Tab.get (fun _ => ({} : VecSt)) t.hst.vecs v).sent = (Tab.get (fun _ => ({} : VecSt)) s.hst.vecs v).sent + 1 ∧
          t.regs = s.regs ∧ KeepsMem s t) ∧
    (∀ r : Fin 16, (s.ring r).infl.length < 512 → Answers (.ringIdle r) s fun t =>
      t.f (R.HST_RING_STAT_INFL r) = (s.ring r).infl.length ∧
        t.f (R.HST_RING_STAT_IDLE r) = bit (decide (s.f (R.HST_RING_CFG_EN r) = 0) && (s.ring r).infl.isEmpty) ∧
        KeepsBut [R.HST_RING_STAT_INFL r, R.HST_RING_STAT_IDLE r, R.HST_ERR_INFL] s t) ∧
    Answers .pcieReset s (fun t =>
      (∀ r < 16, t.f (R.HST_RING_CFG_EN r) = 0 ∧ (t.ring r).infl = [] ∧ t.f (R.HST_RING_STAT_CI r) = s.f (R.HST_RING_STAT_CI r)) ∧
        (t.xing 11).inReset = true ∧ t.f R.HST_EVR_CFG_EN = 0 ∧ t.f R.HST_CPR_CFG_EN = 0 ∧ t.hst.vecs = [] ∧
        KeepsOut (fun o => inPage 0x11 o ∨ o = 0x302C) s t)

/-- The opcodes NOP, SETW, SETR, PWMSET, IMGW, LNKTX and PARMW (R314, R347, R575 to R578, R581): each completes with its status at
the entry of R578, or goes on; a field out of its range is FORMAT. -/
def Obligations.Descriptors : Prop :=
  ∀ (s : State) (r : Fin 16) (f : Flight), OneWaits s r f →
    (f.d.opc = 0 → f.d.len = 0 → Answers (.nopDescriptor r) s fun t => CompletedOnly (fun _ => False) r f compDone s t) ∧
    (f.d.opc = 0 → f.d.len ≠ 0 → Answers (.nopDescriptor r) s fun t => CompletedOnly (fun _ => False) r f compFormat s t) ∧
    (∀ buf : List Word, f.d.opc = 1 → f.d.len = 1 → (buf.getD 0 0).toNat % 4 ≠ 0 → Answers (.setw r buf false) s fun t =>
      CompletedOnly (fun _ => False) r f compFormat s t) ∧
    (∀ buf : List Word, f.d.opc = 1 → f.d.len = 1 → buf.getD 0 0 = 0x1100C → Answers (.setw r buf false) s fun t =>
        t.f R.HST_IMOD_US = (buf.getD 1 0).toNat % 2 ^ 16 ∧
          CompletedOnly (fun o => o = 0x1100C ∨ inPage 0 o ∨ inPage 0x10 o) r f compDone s t) ∧
    (∀ dma : Bool, f.d.opc = 2 → f.d.len = 0 ∨ 4096 < f.d.len → Answers (.setr r dma) s fun t =>
      CompletedOnly (fun _ => False) r f compFormat s t) ∧
    (f.d.opc = 2 → 1 ≤ f.d.len → f.d.arg0 % 4 = 0 → 0x1000 ≤ f.d.arg0 → f.d.arg0 + 4 * f.d.len ≤ 0x2000 →
      (f.d.addr + 4 * f.d.len ≤ compAddr s r ∨ compAddr s r + 16 ≤ f.d.addr) → Answers (.setr r false) s fun t =>
        Completed r f compDone s t ∧ (∀ i < f.d.len, t.hostWord (f.d.addr + 4 * i) = s.reg (f.d.arg0 + 4 * i)) ∧
          (∀ a, t.byte a = s.byte a) ∧ ∀ off, off ≠ 0x11004 → off ≠ 0x11114 + 32 * r.val → t.reg off = s.reg off) ∧
    (∀ (buf : List Word) (e : Nat), f.d.opc = 3 → 1 ≤ f.d.len → f.d.len ≤ 27 →
      s.checkSet ((List.range f.d.len).map (buf.getD · 0)) = .error e → Answers (.pwmset r buf false) s fun t =>
        CompletedOnly (fun o => inPage 4 o ∨ evReg o) r f compFormat s t ∧ t.pwm.cars = s.pwm.cars) ∧
    (∀ (buf : List Word) (u : UpdateSet), f.d.opc = 3 → 1 ≤ f.d.len → f.d.len ≤ 27 →
      s.checkSet ((List.range f.d.len).map (buf.getD · 0)) = .ok u → Answers (.pwmset r buf false) s fun t =>
        Completed r f compDone s t ∧ ((s.car u.car).slot = {} →
          (t.car u.car).slot.regs = u.regs.foldl (fun t e => Tab.put t e.1 e.2) []) ∧
          ∀ a, t.byte a = s.byte a) ∧
    (∀ buf : List Word, f.d.opc = 4 → f.d.len % 8 = 0 → f.d.len ≤ 393216 → s.f R.CE_STAT_ACTBUSY = 0 → s.hst.imgw = [] →
      Answers (.imgw r buf false) s fun t =>
        (∃ x : ImgWrite, t.hst.imgw = [x] ∧ x.r = r ∧ x.idx = f.idx ∧ x.slot = 1 - s.f R.CE_STAT_ACTIVE ∧
          x.ws = (List.range (f.d.len / 4)).map (buf.getD · 0) ∧ Tab.look t.ce.slots x.slot = none) ∧
          (t.ring r).infl = [{ f with started := true }] ∧ t.regs = s.regs ∧ KeepsMem s t) ∧
    (∀ buf : List Word, f.d.opc = 4 → f.d.len % 8 = 0 → f.d.len ≤ 393216 → s.f R.CE_STAT_ACTBUSY = 1 →
      Answers (.imgw r buf false) s fun t => CompletedOnly (fun _ => False) r f compState s t ∧ t.ce = s.ce) ∧
    (∀ buf : List Word, f.d.opc = 5 → f.d.arg1.testBit 31 = true → 1 ≤ f.d.len → f.d.len ≤ 64 →
      (∀ n ∈ s.portsTo f.d.arg0, s.portUp n = false) → Answers (.lnktxWr r buf false) s fun t =>
        CompletedOnly (fun _ => False) r f { status := 1, reason := 2 } s t ∧ t.lnk = s.lnk) ∧
    (∀ buf : List Word, f.d.opc = 5 → f.d.arg1.testBit 31 = true → 1 ≤ f.d.len → f.d.len ≤ 64 →
      (∃ n ∈ s.portsTo f.d.arg0, s.portUp n = true) → Answers (.lnktxWr r buf false) s fun t =>
        (∃ k : Txn, t.lnk.txns = s.lnk.txns ++ [k] ∧ k.who = .ring r f.idx ∧ k.p.ty = 0x12 ∧ k.p.dst = f.d.arg0 ∧
          k.p.ofs = f.d.arg1 % 2 ^ 20 ∧ k.p.body = (List.range f.d.len).map (buf.getD · 0)) ∧
          (t.ring r).infl = [{ f with started := true }] ∧ t.regs = s.regs ∧ KeepsMem s t) ∧
    (f.d.opc = 5 → f.d.arg1.testBit 31 = false → 1 ≤ f.d.len → f.d.len ≤ 64 → (∃ n ∈ s.portsTo f.d.arg0, s.portUp n = true) →
      Answers (.lnktxRd r) s fun t =>
        (∃ k : Txn, t.lnk.txns = s.lnk.txns ++ [k] ∧ k.who = .ring r f.idx ∧ k.p.ty = 0x10 ∧ k.p.dst = f.d.arg0 ∧
          k.p.body = [BitVec.ofNat 32 f.d.len]) ∧
          (t.ring r).infl = [{ f with started := true }] ∧ t.regs = s.regs ∧ KeepsMem s t) ∧
    (∀ buf : List Word, f.d.opc = 10 → f.d.len % 4 = 0 → 4 ≤ f.d.len → f.d.len ≤ 256 → f.d.arg0 % 4 = 0 →
      f.d.arg0 + f.d.len ≤ 0x1000 → s.f R.CE_STAT_RUN = 0 → Answers (.parmw r buf false) s fun t =>
        Completed r f compDone s t ∧
          t.words (0x1C000 + f.d.arg0) (f.d.len / 4) = (List.range (f.d.len / 4)).map (buf.getD · 0) ∧
          (∀ a, a < 0x1C000 + f.d.arg0 ∨ 0x1C000 + f.d.arg0 + f.d.len ≤ a → t.byte a = s.byte a) ∧
          ∀ off, off ≠ 0x11004 → off ≠ 0x11114 + 32 * r.val → t.reg off = s.reg off)

/-- The oldest image write is done: its slot holds the image, and its descriptor completes with the slot (R347, R577). -/
def imageWrites : Prop :=
  ∀ (s : State) (f : Flight) (x : ImgWrite), x.r < 16 → OneRuns s x.r f → s.hst.imgw = [x] → x.idx = f.idx →
    Answers .imageWriteComplete s fun t =>
      Tab.look t.ce.slots x.slot = some x.ws ∧ t.hst.imgw = [] ∧
        CompletedOnly (fun _ => False) x.r f { status := 0, det0 := x.slot } s t

/-- Capture descriptors and the freeze (R7, R590 to R592): on a C0 part they complete with STATE and change nothing; a window that is
off, armed or in its post-trigger part does not arm; a trigger starts the post-trigger part; a disarm freezes, and so does the
end of that part; a read of a frozen window goes on, and answers the number of bytes it has read. -/
def captureDescriptors : Prop :=
  ∀ (s : State) (r : Fin 16) (f : Flight),
    (OneWaits s r f → f.d.opc = 6 → f.d.len = 0 → ∀ w, f.d.arg0 % 16 = w →
      (s.part = .c0 → f.d.arg0 / 2 ^ 8 % 4 = 1 → Answers (.capctlArm r) s fun t => CompletedOnly (fun _ => False) r f compState s t) ∧
      (s.part = .c8 → f.d.arg0 / 2 ^ 8 % 4 = 1 → s.f (R.HST_CAP_CFG_EN w) = 1 →
        s.f (R.HST_CAP_STAT_ST w) = 0 ∨ s.f (R.HST_CAP_STAT_ST w) = 3 → s.capReading w = false → Answers (.capctlArm r) s fun t =>
          t.f (R.HST_CAP_STAT_ST w) = 1 ∧ t.f (R.HST_CAP_STAT_LOST w) = 0 ∧ t.win w = {} ∧
            CompletedOnly (fun o => o = 0x1140C + 16 * w) r f compDone s t) ∧
      (s.part = .c8 → f.d.arg0 / 2 ^ 8 % 4 = 1 → s.f (R.HST_CAP_CFG_EN w) = 0 ∨ s.f (R.HST_CAP_STAT_ST w) = 1 ∨
        s.f (R.HST_CAP_STAT_ST w) = 2 → Answers (.capctlArm r) s fun t => CompletedOnly (fun _ => False) r f compState s t) ∧
      (s.part = .c8 → f.d.arg0 / 2 ^ 8 % 4 = 2 → s.f (R.HST_CAP_STAT_ST w) = 1 →
        (s.f (R.HST_CAP_TRG_MASK w)).testBit 1 = true → Answers (.capctlTrigger r) s fun t =>
          t.f (R.HST_CAP_STAT_ST w) = 2 ∧ (t.win w).trg = 2 ∧ CompletedOnly evReg r f compDone s t) ∧
      (s.part = .c8 → f.d.arg0 / 2 ^ 8 % 4 = 2 → s.f (R.HST_CAP_STAT_ST w) ≠ 1 ∨
        (s.f (R.HST_CAP_TRG_MASK w)).testBit 1 = false → Answers (.capctlTrigger r) s fun t =>
          CompletedOnly (fun _ => False) r f compDone s t) ∧
      (s.part = .c8 → f.d.arg0 / 2 ^ 8 % 4 = 3 → s.f (R.HST_CAP_STAT_ST w) = 1 ∨ s.f (R.HST_CAP_STAT_ST w) = 2 →
        Answers (.capctlDisarm r) s fun t =>
          t.f (R.HST_CAP_STAT_ST w) = 3 ∧ t.hst.capWait.length = s.hst.capWait.length + 1 ∧
            CompletedOnly (fun o => o = 0x1140C + 16 * w) r f compDone s t)) ∧
    (OneWaits s r f → f.d.opc = 7 → f.d.len % 4 = 0 → f.d.len ≤ 2 ^ 22 → f.d.arg0 < 16 →
      (s.part = .c8 → s.f (R.HST_CAP_STAT_ST f.d.arg0) = 3 → Answers (.caprd r) s fun t =>
        (t.ring r).infl = [{ f with started := true }] ∧ t.regs = s.regs ∧ KeepsMem s t) ∧
      (s.part = .c0 ∨ s.f (R.HST_CAP_STAT_ST f.d.arg0) ≠ 3 → Answers (.caprd r) s fun t =>
        CompletedOnly (fun _ => False) r f compState s t)) ∧
    (OneRuns s r f → f.d.opc = 7 → f.d.arg0 < 16 → s.f (R.HST_CAP_STAT_ST f.d.arg0) = 3 → ∀ n,
      n = min f.d.len (s.winBytes f.d.arg0 - (f.d.arg1 + f.d.arg2 * 2 ^ 32)) → Answers (.caprdComplete r false) s fun t =>
        Completed r f { status := 0, det0 := n } s t ∧ (∀ a, t.byte a = s.byte a) ∧
          ∀ off, off ≠ 0x11004 → off ≠ 0x11114 + 32 * r.val → t.reg off = s.reg off) ∧
    (s.live = true → ∀ w : Fin 16, s.f (R.HST_CAP_STAT_ST w) = 2 → (s.win w).left = 0 → (s.win w).trg ≠ 0 →
      Answers (.captureFreeze w) s fun t =>
        t.f (R.HST_CAP_STAT_ST w) = 3 ∧ (∃ x, t.hst.capWait = s.hst.capWait ++ [x] ∧
          x.getD 1 0 = BitVec.ofNat 32 (s.win w).trgNs ∧ x.getD 3 0 = BitVec.ofNat 32 (s.winBytes w) ∧
          x.getD 7 0 = BitVec.ofNat 32 (s.f (R.HST_CAP_STAT_LOST w))) ∧ KeepsBut [R.HST_CAP_STAT_ST w] s t) ∧
    (s.live = true → ∀ w : Fin 16, s.f (R.HST_CAP_STAT_ST w) ≠ 2 ∨ (s.win w).left ≠ 0 → Answers (.captureFreeze w) s fun t => t = s)

/-- Image writes, capture windows and their descriptors (R7, R347, R577, R590 to R592). -/
def Obligations.ImagesAndCapture : Prop := imageWrites ∧ captureDescriptors

/-- Event and capture rings (R583 to R585, R591): the oldest record goes to the entry at the producer index, and the index passes on;
nothing is written while the ring has no room. -/
def Obligations.RecordRings : Prop :=
  ∀ s : State, s.live = true → (s.xing 11).inReset = false →
    (∀ (e : EvRec) (l : List EvRec) (size : Nat), s.hst.held = e :: l → s.f R.HST_EVR_CFG_EN = 1 → size = 2 ^ s.f R.HST_EVR_CFG_LOG2SZ →
      (ahead (s.f R.HST_EVR_STAT_PI) s.hst.evCons < size → s.hst.evLost = false → Answers .eventRecordWrite s fun t =>
        t.hst.held = l ∧ t.f R.HST_EVR_STAT_PI = (s.f R.HST_EVR_STAT_PI + 1) % 2 ^ 16 ∧
          (∀ i < 8, t.hostWord (s.f R.HST_EVR_BL_VAL + s.f R.HST_EVR_BH_VAL * 2 ^ 32 + 32 * (s.f R.HST_EVR_STAT_PI % size) + 4 * i) =
            (e.words (if s.f R.HST_EVR_STAT_PI / size % 2 = 0 then 1 else 0)).getD i 0) ∧
          (∀ a, t.byte a = s.byte a) ∧ ∀ off, off ≠ 0x1130C → t.reg off = s.reg off) ∧
      (size ≤ ahead (s.f R.HST_EVR_STAT_PI) s.hst.evCons → Answers .eventRecordWrite s fun t => t = s)) ∧
    (s.hst.held = [] → Answers .eventRecordWrite s fun t => t = s) ∧
    (∀ (x : List Word) (l : List (List Word)) (size : Nat), s.hst.capWait = x :: l → 7 ≤ x.length → s.f R.HST_CPR_CFG_EN = 1 →
      size = 2 ^ s.f R.HST_CPR_CFG_LOG2SZ →
      (ahead (s.f R.HST_CPR_STAT_PI) s.hst.capCons < size → Answers .captureRingWrite s fun t =>
        t.hst.capWait = l ∧ t.f R.HST_CPR_STAT_PI = (s.f R.HST_CPR_STAT_PI + 1) % 2 ^ 16 ∧
          (∀ i < 7, t.hostWord (s.f R.HST_CPR_BL_VAL + s.f R.HST_CPR_BH_VAL * 2 ^ 32 + 32 * (s.f R.HST_CPR_STAT_PI % size) + 4 * i) =
            x.getD i 0) ∧ (∀ a, t.byte a = s.byte a) ∧ ∀ off, off ≠ 0x1132C → t.reg off = s.reg off) ∧
      (size ≤ ahead (s.f R.HST_CPR_STAT_PI) s.hst.capCons → Answers .captureRingWrite s fun t => t = s))

/-- The Ethernet port (R597 to R600): TXFRM queues its frame while the port is enabled, RXBUF waits for one; a frame without a good
FCS, too long or without a buffer is counted and dropped, else it fills the oldest buffer; a frame that leaves without a
timestamp completes; the link follows. -/
def Obligations.Ethernet : Prop :=
  ∀ s : State, s.live = true →
    (∀ (f : Flight) (buf : List Word), OneWaits s 15 f → f.d.opc = 8 → 60 ≤ f.d.len → f.d.len ≤ 2044 →
      (s.f R.HST_ETH_EN = 1 → Answers (.txfrm 15 buf false) s fun t =>
        t.hst.ethTx = s.hst.ethTx ++ [(f.d.len, (List.range (ceilDiv f.d.len 4)).map (buf.getD · 0))] ∧
          (t.ring 15).infl = [{ f with started := true }] ∧ t.regs = s.regs ∧ KeepsMem s t) ∧
      (s.f R.HST_ETH_EN = 0 → Answers (.txfrm 15 buf false) s fun t => CompletedOnly (fun _ => False) 15 f compState s t)) ∧
    (∀ f : Flight, OneWaits s 15 f → f.d.opc = 9 → 2048 ≤ f.d.len → Answers (.rxbuf 15) s fun t =>
      (t.ring 15).infl = [{ f with started := true }] ∧ t.regs = s.regs ∧ KeepsMem s t) ∧
    (∀ f : Flight, OneRuns s 15 f → f.d.opc = 8 → f.d.arg0 % 2 = 0 → Answers .frameEgress s fun t =>
      CompletedOnly (fun _ => False) 15 f compDone s t) ∧
    (∀ (len : Nat) (fcsOk : Bool) (ws : List Word) (dma : Bool),
      (s.f R.HST_ETH_EN = 0 → Answers (.ethFrameReceive len fcsOk ws dma) s fun t => t = s) ∧
      (s.f R.HST_ETH_EN = 1 → (s.xing 17).inReset = false →
        (fcsOk = false → Answers (.ethFrameReceive len fcsOk ws dma) s fun t =>
          t.f R.HST_ETHCNT_FCS = min 32767 (s.f R.HST_ETHCNT_FCS + 1) ∧ (t.ring 15).infl = (s.ring 15).infl ∧
            KeepsBut [R.HST_ETHCNT_FCS] s t) ∧
        (fcsOk = true → 2044 < len ∨ (s.ring 15).infl = [] → Answers (.ethFrameReceive len fcsOk ws dma) s fun t =>
          t.f R.HST_ETHCNT_RXDROP = min 65535 (s.f R.HST_ETHCNT_RXDROP + 1) ∧ (t.ring 15).infl = (s.ring 15).infl ∧
            KeepsBut [R.HST_ETHCNT_RXDROP] s t) ∧
        (∀ f : Flight, fcsOk = true → len ≤ 2044 → len % 4 = 0 → OneRuns s 15 f → f.d.opc = 9 → dma = false →
          (f.d.addr + len ≤ compAddr s 15 ∨ compAddr s 15 + 16 ≤ f.d.addr) → Answers (.ethFrameReceive len fcsOk ws dma) s fun t =>
            (∀ i < len / 4, t.hostWord (f.d.addr + 4 * i) = ws.getD i 0) ∧
              (∃ c : Comp, c.status = 0 ∧ c.det1 / 2 ^ 16 = len ∧ Completed 15 f c s t) ∧ ∀ a, t.byte a = s.byte a))) ∧
    (∀ up : Bool, Answers (.ethLinkChange up) s fun t => t.f R.HST_ETH_LINK = bit up ∧ KeepsBut [R.HST_ETH_LINK] s t)
end

