-- ==== Sys2Proof/Laws/State.lean ====
section
/-! SUPPORT. The plainest updates of the state, field by field: every field an update does not write stays. -/

namespace Sys2Proof.Machine

variable (s : State)

/-! `setReg` -/

@[simp] theorem State.setReg_pending (o : Nat) (v : Word) : (s.setReg o v).pending = s.pending := rfl
@[simp] theorem State.setReg_part (o : Nat) (v : Word) : (s.setReg o v).part = s.part := rfl
@[simp] theorem State.setReg_power (o : Nat) (v : Word) : (s.setReg o v).power = s.power := rfl
@[simp] theorem State.setReg_tbp (o : Nat) (v : Word) : (s.setReg o v).tbp = s.tbp := rfl
@[simp] theorem State.setReg_mem (o : Nat) (v : Word) : (s.setReg o v).mem = s.mem := rfl
@[simp] theorem State.setReg_upsets (o : Nat) (v : Word) : (s.setReg o v).upsets = s.upsets := rfl
@[simp] theorem State.setReg_rdata (o : Nat) (v : Word) : (s.setReg o v).rdata = s.rdata := rfl
@[simp] theorem State.setReg_capHi (o : Nat) (v : Word) : (s.setReg o v).capHi = s.capHi := rfl
@[simp] theorem State.setReg_capPt (o : Nat) (v : Word) : (s.setReg o v).capPt = s.capPt := rfl
@[simp] theorem State.setReg_free (o : Nat) (v : Word) : (s.setReg o v).free = s.free := rfl
@[simp] theorem State.setReg_sys (o : Nat) (v : Word) : (s.setReg o v).sys = s.sys := rfl
@[simp] theorem State.setReg_clk (o : Nat) (v : Word) : (s.setReg o v).clk = s.clk := rfl
@[simp] theorem State.setReg_tim (o : Nat) (v : Word) : (s.setReg o v).tim = s.tim := rfl
@[simp] theorem State.setReg_xdc (o : Nat) (v : Word) : (s.setReg o v).xdc = s.xdc := rfl
@[simp] theorem State.setReg_pwm (o : Nat) (v : Word) : (s.setReg o v).pwm = s.pwm := rfl
@[simp] theorem State.setReg_atc (o : Nat) (v : Word) : (s.setReg o v).atc = s.atc := rfl
@[simp] theorem State.setReg_trp (o : Nat) (v : Word) : (s.setReg o v).trp = s.trp := rfl
@[simp] theorem State.setReg_cmp (o : Nat) (v : Word) : (s.setReg o v).cmp = s.cmp := rfl
@[simp] theorem State.setReg_adc (o : Nat) (v : Word) : (s.setReg o v).adc = s.adc := rfl
@[simp] theorem State.setReg_ce (o : Nat) (v : Word) : (s.setReg o v).ce = s.ce := rfl
@[simp] theorem State.setReg_grd (o : Nat) (v : Word) : (s.setReg o v).grd = s.grd := rfl
@[simp] theorem State.setReg_mtr (o : Nat) (v : Word) : (s.setReg o v).mtr = s.mtr := rfl
@[simp] theorem State.setReg_lnk (o : Nat) (v : Word) : (s.setReg o v).lnk = s.lnk := rfl
@[simp] theorem State.setReg_plt (o : Nat) (v : Word) : (s.setReg o v).plt = s.plt := rfl
@[simp] theorem State.setReg_saf (o : Nat) (v : Word) : (s.setReg o v).saf = s.saf := rfl
@[simp] theorem State.setReg_bvq (o : Nat) (v : Word) : (s.setReg o v).bvq = s.bvq := rfl
@[simp] theorem State.setReg_que (o : Nat) (v : Word) : (s.setReg o v).que = s.que := rfl
@[simp] theorem State.setReg_hst (o : Nat) (v : Word) : (s.setReg o v).hst = s.hst := rfl

/-! `setF` -/

@[simp] theorem State.setF_pending (x : Fld) (n : Nat) : (s.setF x n).pending = s.pending := rfl
@[simp] theorem State.setF_part (x : Fld) (n : Nat) : (s.setF x n).part = s.part := rfl
@[simp] theorem State.setF_power (x : Fld) (n : Nat) : (s.setF x n).power = s.power := rfl
@[simp] theorem State.setF_tbp (x : Fld) (n : Nat) : (s.setF x n).tbp = s.tbp := rfl
@[simp] theorem State.setF_mem (x : Fld) (n : Nat) : (s.setF x n).mem = s.mem := rfl
@[simp] theorem State.setF_upsets (x : Fld) (n : Nat) : (s.setF x n).upsets = s.upsets := rfl
@[simp] theorem State.setF_rdata (x : Fld) (n : Nat) : (s.setF x n).rdata = s.rdata := rfl
@[simp] theorem State.setF_capHi (x : Fld) (n : Nat) : (s.setF x n).capHi = s.capHi := rfl
@[simp] theorem State.setF_capPt (x : Fld) (n : Nat) : (s.setF x n).capPt = s.capPt := rfl
@[simp] theorem State.setF_free (x : Fld) (n : Nat) : (s.setF x n).free = s.free := rfl
@[simp] theorem State.setF_sys (x : Fld) (n : Nat) : (s.setF x n).sys = s.sys := rfl
@[simp] theorem State.setF_clk (x : Fld) (n : Nat) : (s.setF x n).clk = s.clk := rfl
@[simp] theorem State.setF_tim (x : Fld) (n : Nat) : (s.setF x n).tim = s.tim := rfl
@[simp] theorem State.setF_xdc (x : Fld) (n : Nat) : (s.setF x n).xdc = s.xdc := rfl
@[simp] theorem State.setF_pwm (x : Fld) (n : Nat) : (s.setF x n).pwm = s.pwm := rfl
@[simp] theorem State.setF_atc (x : Fld) (n : Nat) : (s.setF x n).atc = s.atc := rfl
@[simp] theorem State.setF_trp (x : Fld) (n : Nat) : (s.setF x n).trp = s.trp := rfl
@[simp] theorem State.setF_cmp (x : Fld) (n : Nat) : (s.setF x n).cmp = s.cmp := rfl
@[simp] theorem State.setF_adc (x : Fld) (n : Nat) : (s.setF x n).adc = s.adc := rfl
@[simp] theorem State.setF_ce (x : Fld) (n : Nat) : (s.setF x n).ce = s.ce := rfl
@[simp] theorem State.setF_grd (x : Fld) (n : Nat) : (s.setF x n).grd = s.grd := rfl
@[simp] theorem State.setF_mtr (x : Fld) (n : Nat) : (s.setF x n).mtr = s.mtr := rfl
@[simp] theorem State.setF_lnk (x : Fld) (n : Nat) : (s.setF x n).lnk = s.lnk := rfl
@[simp] theorem State.setF_plt (x : Fld) (n : Nat) : (s.setF x n).plt = s.plt := rfl
@[simp] theorem State.setF_saf (x : Fld) (n : Nat) : (s.setF x n).saf = s.saf := rfl
@[simp] theorem State.setF_bvq (x : Fld) (n : Nat) : (s.setF x n).bvq = s.bvq := rfl
@[simp] theorem State.setF_que (x : Fld) (n : Nat) : (s.setF x n).que = s.que := rfl
@[simp] theorem State.setF_hst (x : Fld) (n : Nat) : (s.setF x n).hst = s.hst := rfl

/-! `count` -/

@[simp] theorem State.count_pending (x : Fld) (n : Nat) : (s.count x n).pending = s.pending := rfl
@[simp] theorem State.count_part (x : Fld) (n : Nat) : (s.count x n).part = s.part := rfl
@[simp] theorem State.count_power (x : Fld) (n : Nat) : (s.count x n).power = s.power := rfl
@[simp] theorem State.count_tbp (x : Fld) (n : Nat) : (s.count x n).tbp = s.tbp := rfl
@[simp] theorem State.count_mem (x : Fld) (n : Nat) : (s.count x n).mem = s.mem := rfl
@[simp] theorem State.count_upsets (x : Fld) (n : Nat) : (s.count x n).upsets = s.upsets := rfl
@[simp] theorem State.count_rdata (x : Fld) (n : Nat) : (s.count x n).rdata = s.rdata := rfl
@[simp] theorem State.count_capHi (x : Fld) (n : Nat) : (s.count x n).capHi = s.capHi := rfl
@[simp] theorem State.count_capPt (x : Fld) (n : Nat) : (s.count x n).capPt = s.capPt := rfl
@[simp] theorem State.count_free (x : Fld) (n : Nat) : (s.count x n).free = s.free := rfl
@[simp] theorem State.count_sys (x : Fld) (n : Nat) : (s.count x n).sys = s.sys := rfl
@[simp] theorem State.count_clk (x : Fld) (n : Nat) : (s.count x n).clk = s.clk := rfl
@[simp] theorem State.count_tim (x : Fld) (n : Nat) : (s.count x n).tim = s.tim := rfl
@[simp] theorem State.count_xdc (x : Fld) (n : Nat) : (s.count x n).xdc = s.xdc := rfl
@[simp] theorem State.count_pwm (x : Fld) (n : Nat) : (s.count x n).pwm = s.pwm := rfl
@[simp] theorem State.count_atc (x : Fld) (n : Nat) : (s.count x n).atc = s.atc := rfl
@[simp] theorem State.count_trp (x : Fld) (n : Nat) : (s.count x n).trp = s.trp := rfl
@[simp] theorem State.count_cmp (x : Fld) (n : Nat) : (s.count x n).cmp = s.cmp := rfl
@[simp] theorem State.count_adc (x : Fld) (n : Nat) : (s.count x n).adc = s.adc := rfl
@[simp] theorem State.count_ce (x : Fld) (n : Nat) : (s.count x n).ce = s.ce := rfl
@[simp] theorem State.count_grd (x : Fld) (n : Nat) : (s.count x n).grd = s.grd := rfl
@[simp] theorem State.count_mtr (x : Fld) (n : Nat) : (s.count x n).mtr = s.mtr := rfl
@[simp] theorem State.count_lnk (x : Fld) (n : Nat) : (s.count x n).lnk = s.lnk := rfl
@[simp] theorem State.count_plt (x : Fld) (n : Nat) : (s.count x n).plt = s.plt := rfl
@[simp] theorem State.count_saf (x : Fld) (n : Nat) : (s.count x n).saf = s.saf := rfl
@[simp] theorem State.count_bvq (x : Fld) (n : Nat) : (s.count x n).bvq = s.bvq := rfl
@[simp] theorem State.count_que (x : Fld) (n : Nat) : (s.count x n).que = s.que := rfl
@[simp] theorem State.count_hst (x : Fld) (n : Nat) : (s.count x n).hst = s.hst := rfl

/-! `setBit` -/

@[simp] theorem State.setBit_pending (x : Fld) (i : Nat) (b : Bool) : (s.setBit x i b).pending = s.pending := rfl
@[simp] theorem State.setBit_part (x : Fld) (i : Nat) (b : Bool) : (s.setBit x i b).part = s.part := rfl
@[simp] theorem State.setBit_power (x : Fld) (i : Nat) (b : Bool) : (s.setBit x i b).power = s.power := rfl
@[simp] theorem State.setBit_tbp (x : Fld) (i : Nat) (b : Bool) : (s.setBit x i b).tbp = s.tbp := rfl
@[simp] theorem State.setBit_mem (x : Fld) (i : Nat) (b : Bool) : (s.setBit x i b).mem = s.mem := rfl
@[simp] theorem State.setBit_upsets (x : Fld) (i : Nat) (b : Bool) : (s.setBit x i b).upsets = s.upsets := rfl
@[simp] theorem State.setBit_rdata (x : Fld) (i : Nat) (b : Bool) : (s.setBit x i b).rdata = s.rdata := rfl
@[simp] theorem State.setBit_capHi (x : Fld) (i : Nat) (b : Bool) : (s.setBit x i b).capHi = s.capHi := rfl
@[simp] theorem State.setBit_capPt (x : Fld) (i : Nat) (b : Bool) : (s.setBit x i b).capPt = s.capPt := rfl
@[simp] theorem State.setBit_free (x : Fld) (i : Nat) (b : Bool) : (s.setBit x i b).free = s.free := rfl
@[simp] theorem State.setBit_sys (x : Fld) (i : Nat) (b : Bool) : (s.setBit x i b).sys = s.sys := rfl
@[simp] theorem State.setBit_clk (x : Fld) (i : Nat) (b : Bool) : (s.setBit x i b).clk = s.clk := rfl
@[simp] theorem State.setBit_tim (x : Fld) (i : Nat) (b : Bool) : (s.setBit x i b).tim = s.tim := rfl
@[simp] theorem State.setBit_xdc (x : Fld) (i : Nat) (b : Bool) : (s.setBit x i b).xdc = s.xdc := rfl
@[simp] theorem State.setBit_pwm (x : Fld) (i : Nat) (b : Bool) : (s.setBit x i b).pwm = s.pwm := rfl
@[simp] theorem State.setBit_atc (x : Fld) (i : Nat) (b : Bool) : (s.setBit x i b).atc = s.atc := rfl
@[simp] theorem State.setBit_trp (x : Fld) (i : Nat) (b : Bool) : (s.setBit x i b).trp = s.trp := rfl
@[simp] theorem State.setBit_cmp (x : Fld) (i : Nat) (b : Bool) : (s.setBit x i b).cmp = s.cmp := rfl
@[simp] theorem State.setBit_adc (x : Fld) (i : Nat) (b : Bool) : (s.setBit x i b).adc = s.adc := rfl
@[simp] theorem State.setBit_ce (x : Fld) (i : Nat) (b : Bool) : (s.setBit x i b).ce = s.ce := rfl
@[simp] theorem State.setBit_grd (x : Fld) (i : Nat) (b : Bool) : (s.setBit x i b).grd = s.grd := rfl
@[simp] theorem State.setBit_mtr (x : Fld) (i : Nat) (b : Bool) : (s.setBit x i b).mtr = s.mtr := rfl
@[simp] theorem State.setBit_lnk (x : Fld) (i : Nat) (b : Bool) : (s.setBit x i b).lnk = s.lnk := rfl
@[simp] theorem State.setBit_plt (x : Fld) (i : Nat) (b : Bool) : (s.setBit x i b).plt = s.plt := rfl
@[simp] theorem State.setBit_saf (x : Fld) (i : Nat) (b : Bool) : (s.setBit x i b).saf = s.saf := rfl
@[simp] theorem State.setBit_bvq (x : Fld) (i : Nat) (b : Bool) : (s.setBit x i b).bvq = s.bvq := rfl
@[simp] theorem State.setBit_que (x : Fld) (i : Nat) (b : Bool) : (s.setBit x i b).que = s.que := rfl
@[simp] theorem State.setBit_hst (x : Fld) (i : Nat) (b : Bool) : (s.setBit x i b).hst = s.hst := rfl

/-! `clearMask` -/

@[simp] theorem State.clearMask_pending (x : Fld) (m : Nat) : (s.clearMask x m).pending = s.pending := rfl
@[simp] theorem State.clearMask_part (x : Fld) (m : Nat) : (s.clearMask x m).part = s.part := rfl
@[simp] theorem State.clearMask_power (x : Fld) (m : Nat) : (s.clearMask x m).power = s.power := rfl
@[simp] theorem State.clearMask_tbp (x : Fld) (m : Nat) : (s.clearMask x m).tbp = s.tbp := rfl
@[simp] theorem State.clearMask_mem (x : Fld) (m : Nat) : (s.clearMask x m).mem = s.mem := rfl
@[simp] theorem State.clearMask_upsets (x : Fld) (m : Nat) : (s.clearMask x m).upsets = s.upsets := rfl
@[simp] theorem State.clearMask_rdata (x : Fld) (m : Nat) : (s.clearMask x m).rdata = s.rdata := rfl
@[simp] theorem State.clearMask_capHi (x : Fld) (m : Nat) : (s.clearMask x m).capHi = s.capHi := rfl
@[simp] theorem State.clearMask_capPt (x : Fld) (m : Nat) : (s.clearMask x m).capPt = s.capPt := rfl
@[simp] theorem State.clearMask_free (x : Fld) (m : Nat) : (s.clearMask x m).free = s.free := rfl
@[simp] theorem State.clearMask_sys (x : Fld) (m : Nat) : (s.clearMask x m).sys = s.sys := rfl
@[simp] theorem State.clearMask_clk (x : Fld) (m : Nat) : (s.clearMask x m).clk = s.clk := rfl
@[simp] theorem State.clearMask_tim (x : Fld) (m : Nat) : (s.clearMask x m).tim = s.tim := rfl
@[simp] theorem State.clearMask_xdc (x : Fld) (m : Nat) : (s.clearMask x m).xdc = s.xdc := rfl
@[simp] theorem State.clearMask_pwm (x : Fld) (m : Nat) : (s.clearMask x m).pwm = s.pwm := rfl
@[simp] theorem State.clearMask_atc (x : Fld) (m : Nat) : (s.clearMask x m).atc = s.atc := rfl
@[simp] theorem State.clearMask_trp (x : Fld) (m : Nat) : (s.clearMask x m).trp = s.trp := rfl
@[simp] theorem State.clearMask_cmp (x : Fld) (m : Nat) : (s.clearMask x m).cmp = s.cmp := rfl
@[simp] theorem State.clearMask_adc (x : Fld) (m : Nat) : (s.clearMask x m).adc = s.adc := rfl
@[simp] theorem State.clearMask_ce (x : Fld) (m : Nat) : (s.clearMask x m).ce = s.ce := rfl
@[simp] theorem State.clearMask_grd (x : Fld) (m : Nat) : (s.clearMask x m).grd = s.grd := rfl
@[simp] theorem State.clearMask_mtr (x : Fld) (m : Nat) : (s.clearMask x m).mtr = s.mtr := rfl
@[simp] theorem State.clearMask_lnk (x : Fld) (m : Nat) : (s.clearMask x m).lnk = s.lnk := rfl
@[simp] theorem State.clearMask_plt (x : Fld) (m : Nat) : (s.clearMask x m).plt = s.plt := rfl
@[simp] theorem State.clearMask_saf (x : Fld) (m : Nat) : (s.clearMask x m).saf = s.saf := rfl
@[simp] theorem State.clearMask_bvq (x : Fld) (m : Nat) : (s.clearMask x m).bvq = s.bvq := rfl
@[simp] theorem State.clearMask_que (x : Fld) (m : Nat) : (s.clearMask x m).que = s.que := rfl
@[simp] theorem State.clearMask_hst (x : Fld) (m : Nat) : (s.clearMask x m).hst = s.hst := rfl

/-! `takeFree` -/

@[simp] theorem State.takeFree_pending : s.takeFree.2.pending = s.pending := rfl
@[simp] theorem State.takeFree_part : s.takeFree.2.part = s.part := rfl
@[simp] theorem State.takeFree_power : s.takeFree.2.power = s.power := rfl
@[simp] theorem State.takeFree_tbp : s.takeFree.2.tbp = s.tbp := rfl
@[simp] theorem State.takeFree_regs : s.takeFree.2.regs = s.regs := rfl
@[simp] theorem State.takeFree_mem : s.takeFree.2.mem = s.mem := rfl
@[simp] theorem State.takeFree_upsets : s.takeFree.2.upsets = s.upsets := rfl
@[simp] theorem State.takeFree_rdata : s.takeFree.2.rdata = s.rdata := rfl
@[simp] theorem State.takeFree_capHi : s.takeFree.2.capHi = s.capHi := rfl
@[simp] theorem State.takeFree_capPt : s.takeFree.2.capPt = s.capPt := rfl
@[simp] theorem State.takeFree_sys : s.takeFree.2.sys = s.sys := rfl
@[simp] theorem State.takeFree_clk : s.takeFree.2.clk = s.clk := rfl
@[simp] theorem State.takeFree_tim : s.takeFree.2.tim = s.tim := rfl
@[simp] theorem State.takeFree_xdc : s.takeFree.2.xdc = s.xdc := rfl
@[simp] theorem State.takeFree_pwm : s.takeFree.2.pwm = s.pwm := rfl
@[simp] theorem State.takeFree_atc : s.takeFree.2.atc = s.atc := rfl
@[simp] theorem State.takeFree_trp : s.takeFree.2.trp = s.trp := rfl
@[simp] theorem State.takeFree_cmp : s.takeFree.2.cmp = s.cmp := rfl
@[simp] theorem State.takeFree_adc : s.takeFree.2.adc = s.adc := rfl
@[simp] theorem State.takeFree_ce : s.takeFree.2.ce = s.ce := rfl
@[simp] theorem State.takeFree_grd : s.takeFree.2.grd = s.grd := rfl
@[simp] theorem State.takeFree_mtr : s.takeFree.2.mtr = s.mtr := rfl
@[simp] theorem State.takeFree_lnk : s.takeFree.2.lnk = s.lnk := rfl
@[simp] theorem State.takeFree_plt : s.takeFree.2.plt = s.plt := rfl
@[simp] theorem State.takeFree_saf : s.takeFree.2.saf = s.saf := rfl
@[simp] theorem State.takeFree_bvq : s.takeFree.2.bvq = s.bvq := rfl
@[simp] theorem State.takeFree_que : s.takeFree.2.que = s.que := rfl
@[simp] theorem State.takeFree_hst : s.takeFree.2.hst = s.hst := rfl

/-! `rebase` -/

@[simp] theorem State.rebase_pending : (s.rebase).pending = s.pending := by simp only [State.rebase]; split <;> rfl
@[simp] theorem State.rebase_part : (s.rebase).part = s.part := by simp only [State.rebase]; split <;> rfl
@[simp] theorem State.rebase_power : (s.rebase).power = s.power := by simp only [State.rebase]; split <;> rfl
@[simp] theorem State.rebase_tbp : (s.rebase).tbp = s.tbp := by simp only [State.rebase]; split <;> rfl
@[simp] theorem State.rebase_regs : (s.rebase).regs = s.regs := by simp only [State.rebase]; split <;> rfl
@[simp] theorem State.rebase_mem : (s.rebase).mem = s.mem := by simp only [State.rebase]; split <;> rfl
@[simp] theorem State.rebase_upsets : (s.rebase).upsets = s.upsets := by simp only [State.rebase]; split <;> rfl
@[simp] theorem State.rebase_rdata : (s.rebase).rdata = s.rdata := by simp only [State.rebase]; split <;> rfl
@[simp] theorem State.rebase_capHi : (s.rebase).capHi = s.capHi := by simp only [State.rebase]; split <;> rfl
@[simp] theorem State.rebase_capPt : (s.rebase).capPt = s.capPt := by simp only [State.rebase]; split <;> rfl
@[simp] theorem State.rebase_free : (s.rebase).free = s.free := by simp only [State.rebase]; split <;> rfl
@[simp] theorem State.rebase_sys : (s.rebase).sys = s.sys := by simp only [State.rebase]; split <;> rfl
@[simp] theorem State.rebase_clk : (s.rebase).clk = s.clk := by simp only [State.rebase]; split <;> rfl
@[simp] theorem State.rebase_xdc : (s.rebase).xdc = s.xdc := by simp only [State.rebase]; split <;> rfl
@[simp] theorem State.rebase_pwm : (s.rebase).pwm = s.pwm := by simp only [State.rebase]; split <;> rfl
@[simp] theorem State.rebase_atc : (s.rebase).atc = s.atc := by simp only [State.rebase]; split <;> rfl
@[simp] theorem State.rebase_trp : (s.rebase).trp = s.trp := by simp only [State.rebase]; split <;> rfl
@[simp] theorem State.rebase_cmp : (s.rebase).cmp = s.cmp := by simp only [State.rebase]; split <;> rfl
@[simp] theorem State.rebase_adc : (s.rebase).adc = s.adc := by simp only [State.rebase]; split <;> rfl
@[simp] theorem State.rebase_ce : (s.rebase).ce = s.ce := by simp only [State.rebase]; split <;> rfl
@[simp] theorem State.rebase_grd : (s.rebase).grd = s.grd := by simp only [State.rebase]; split <;> rfl
@[simp] theorem State.rebase_mtr : (s.rebase).mtr = s.mtr := by simp only [State.rebase]; split <;> rfl
@[simp] theorem State.rebase_lnk : (s.rebase).lnk = s.lnk := by simp only [State.rebase]; split <;> rfl
@[simp] theorem State.rebase_plt : (s.rebase).plt = s.plt := by simp only [State.rebase]; split <;> rfl
@[simp] theorem State.rebase_saf : (s.rebase).saf = s.saf := by simp only [State.rebase]; split <;> rfl
@[simp] theorem State.rebase_bvq : (s.rebase).bvq = s.bvq := by simp only [State.rebase]; split <;> rfl
@[simp] theorem State.rebase_que : (s.rebase).que = s.que := by simp only [State.rebase]; split <;> rfl
@[simp] theorem State.rebase_hst : (s.rebase).hst = s.hst := by simp only [State.rebase]; split <;> rfl

/-! `tbkBy` -/

@[simp] theorem State.tbkBy_pending (n : Nat) : (s.tbkBy n).pending = s.pending := rfl
@[simp] theorem State.tbkBy_part (n : Nat) : (s.tbkBy n).part = s.part := rfl
@[simp] theorem State.tbkBy_power (n : Nat) : (s.tbkBy n).power = s.power := rfl
@[simp] theorem State.tbkBy_tbp (n : Nat) : (s.tbkBy n).tbp = s.tbp := rfl
@[simp] theorem State.tbkBy_regs (n : Nat) : (s.tbkBy n).regs = s.regs := rfl
@[simp] theorem State.tbkBy_mem (n : Nat) : (s.tbkBy n).mem = s.mem := rfl
@[simp] theorem State.tbkBy_upsets (n : Nat) : (s.tbkBy n).upsets = s.upsets := rfl
@[simp] theorem State.tbkBy_rdata (n : Nat) : (s.tbkBy n).rdata = s.rdata := rfl
@[simp] theorem State.tbkBy_capHi (n : Nat) : (s.tbkBy n).capHi = s.capHi := rfl
@[simp] theorem State.tbkBy_capPt (n : Nat) : (s.tbkBy n).capPt = s.capPt := rfl
@[simp] theorem State.tbkBy_free (n : Nat) : (s.tbkBy n).free = s.free := rfl
@[simp] theorem State.tbkBy_sys (n : Nat) : (s.tbkBy n).sys = s.sys := rfl
@[simp] theorem State.tbkBy_clk (n : Nat) : (s.tbkBy n).clk = s.clk := rfl
@[simp] theorem State.tbkBy_tim (n : Nat) : (s.tbkBy n).tim = s.tim := rfl
@[simp] theorem State.tbkBy_xdc (n : Nat) : (s.tbkBy n).xdc = s.xdc := rfl
@[simp] theorem State.tbkBy_pwm (n : Nat) : (s.tbkBy n).pwm = s.pwm := rfl
@[simp] theorem State.tbkBy_atc (n : Nat) : (s.tbkBy n).atc = s.atc := rfl
@[simp] theorem State.tbkBy_trp (n : Nat) : (s.tbkBy n).trp = s.trp := rfl
@[simp] theorem State.tbkBy_cmp (n : Nat) : (s.tbkBy n).cmp = s.cmp := rfl
@[simp] theorem State.tbkBy_adc (n : Nat) : (s.tbkBy n).adc = s.adc := rfl
@[simp] theorem State.tbkBy_ce (n : Nat) : (s.tbkBy n).ce = s.ce := rfl
@[simp] theorem State.tbkBy_grd (n : Nat) : (s.tbkBy n).grd = s.grd := rfl
@[simp] theorem State.tbkBy_mtr (n : Nat) : (s.tbkBy n).mtr = s.mtr := rfl
@[simp] theorem State.tbkBy_lnk (n : Nat) : (s.tbkBy n).lnk = s.lnk := rfl
@[simp] theorem State.tbkBy_plt (n : Nat) : (s.tbkBy n).plt = s.plt := rfl
@[simp] theorem State.tbkBy_saf (n : Nat) : (s.tbkBy n).saf = s.saf := rfl
@[simp] theorem State.tbkBy_que (n : Nat) : (s.tbkBy n).que = s.que := rfl
@[simp] theorem State.tbkBy_hst (n : Nat) : (s.tbkBy n).hst = s.hst := rfl

/-! `setCar` -/

@[simp] theorem State.setCar_pending (k : Nat) (c : CarSt) : (s.setCar k c).pending = s.pending := rfl
@[simp] theorem State.setCar_part (k : Nat) (c : CarSt) : (s.setCar k c).part = s.part := rfl
@[simp] theorem State.setCar_power (k : Nat) (c : CarSt) : (s.setCar k c).power = s.power := rfl
@[simp] theorem State.setCar_tbp (k : Nat) (c : CarSt) : (s.setCar k c).tbp = s.tbp := rfl
@[simp] theorem State.setCar_regs (k : Nat) (c : CarSt) : (s.setCar k c).regs = s.regs := rfl
@[simp] theorem State.setCar_mem (k : Nat) (c : CarSt) : (s.setCar k c).mem = s.mem := rfl
@[simp] theorem State.setCar_upsets (k : Nat) (c : CarSt) : (s.setCar k c).upsets = s.upsets := rfl
@[simp] theorem State.setCar_rdata (k : Nat) (c : CarSt) : (s.setCar k c).rdata = s.rdata := rfl
@[simp] theorem State.setCar_capHi (k : Nat) (c : CarSt) : (s.setCar k c).capHi = s.capHi := rfl
@[simp] theorem State.setCar_capPt (k : Nat) (c : CarSt) : (s.setCar k c).capPt = s.capPt := rfl
@[simp] theorem State.setCar_free (k : Nat) (c : CarSt) : (s.setCar k c).free = s.free := rfl
@[simp] theorem State.setCar_sys (k : Nat) (c : CarSt) : (s.setCar k c).sys = s.sys := rfl
@[simp] theorem State.setCar_clk (k : Nat) (c : CarSt) : (s.setCar k c).clk = s.clk := rfl
@[simp] theorem State.setCar_tim (k : Nat) (c : CarSt) : (s.setCar k c).tim = s.tim := rfl
@[simp] theorem State.setCar_xdc (k : Nat) (c : CarSt) : (s.setCar k c).xdc = s.xdc := rfl
@[simp] theorem State.setCar_atc (k : Nat) (c : CarSt) : (s.setCar k c).atc = s.atc := rfl
@[simp] theorem State.setCar_trp (k : Nat) (c : CarSt) : (s.setCar k c).trp = s.trp := rfl
@[simp] theorem State.setCar_cmp (k : Nat) (c : CarSt) : (s.setCar k c).cmp = s.cmp := rfl
@[simp] theorem State.setCar_adc (k : Nat) (c : CarSt) : (s.setCar k c).adc = s.adc := rfl
@[simp] theorem State.setCar_ce (k : Nat) (c : CarSt) : (s.setCar k c).ce = s.ce := rfl
@[simp] theorem State.setCar_grd (k : Nat) (c : CarSt) : (s.setCar k c).grd = s.grd := rfl
@[simp] theorem State.setCar_mtr (k : Nat) (c : CarSt) : (s.setCar k c).mtr = s.mtr := rfl
@[simp] theorem State.setCar_lnk (k : Nat) (c : CarSt) : (s.setCar k c).lnk = s.lnk := rfl
@[simp] theorem State.setCar_plt (k : Nat) (c : CarSt) : (s.setCar k c).plt = s.plt := rfl
@[simp] theorem State.setCar_saf (k : Nat) (c : CarSt) : (s.setCar k c).saf = s.saf := rfl
@[simp] theorem State.setCar_bvq (k : Nat) (c : CarSt) : (s.setCar k c).bvq = s.bvq := rfl
@[simp] theorem State.setCar_que (k : Nat) (c : CarSt) : (s.setCar k c).que = s.que := rfl
@[simp] theorem State.setCar_hst (k : Nat) (c : CarSt) : (s.setCar k c).hst = s.hst := rfl

/-! `setPair` -/

@[simp] theorem State.setPair_pending (m : Nat) (p : PairSt) : (s.setPair m p).pending = s.pending := rfl
@[simp] theorem State.setPair_part (m : Nat) (p : PairSt) : (s.setPair m p).part = s.part := rfl
@[simp] theorem State.setPair_power (m : Nat) (p : PairSt) : (s.setPair m p).power = s.power := rfl
@[simp] theorem State.setPair_tbp (m : Nat) (p : PairSt) : (s.setPair m p).tbp = s.tbp := rfl
@[simp] theorem State.setPair_regs (m : Nat) (p : PairSt) : (s.setPair m p).regs = s.regs := rfl
@[simp] theorem State.setPair_mem (m : Nat) (p : PairSt) : (s.setPair m p).mem = s.mem := rfl
@[simp] theorem State.setPair_upsets (m : Nat) (p : PairSt) : (s.setPair m p).upsets = s.upsets := rfl
@[simp] theorem State.setPair_rdata (m : Nat) (p : PairSt) : (s.setPair m p).rdata = s.rdata := rfl
@[simp] theorem State.setPair_capHi (m : Nat) (p : PairSt) : (s.setPair m p).capHi = s.capHi := rfl
@[simp] theorem State.setPair_capPt (m : Nat) (p : PairSt) : (s.setPair m p).capPt = s.capPt := rfl
@[simp] theorem State.setPair_free (m : Nat) (p : PairSt) : (s.setPair m p).free = s.free := rfl
@[simp] theorem State.setPair_sys (m : Nat) (p : PairSt) : (s.setPair m p).sys = s.sys := rfl
@[simp] theorem State.setPair_clk (m : Nat) (p : PairSt) : (s.setPair m p).clk = s.clk := rfl
@[simp] theorem State.setPair_tim (m : Nat) (p : PairSt) : (s.setPair m p).tim = s.tim := rfl
@[simp] theorem State.setPair_xdc (m : Nat) (p : PairSt) : (s.setPair m p).xdc = s.xdc := rfl
@[simp] theorem State.setPair_atc (m : Nat) (p : PairSt) : (s.setPair m p).atc = s.atc := rfl
@[simp] theorem State.setPair_trp (m : Nat) (p : PairSt) : (s.setPair m p).trp = s.trp := rfl
@[simp] theorem State.setPair_cmp (m : Nat) (p : PairSt) : (s.setPair m p).cmp = s.cmp := rfl
@[simp] theorem State.setPair_adc (m : Nat) (p : PairSt) : (s.setPair m p).adc = s.adc := rfl
@[simp] theorem State.setPair_ce (m : Nat) (p : PairSt) : (s.setPair m p).ce = s.ce := rfl
@[simp] theorem State.setPair_grd (m : Nat) (p : PairSt) : (s.setPair m p).grd = s.grd := rfl
@[simp] theorem State.setPair_mtr (m : Nat) (p : PairSt) : (s.setPair m p).mtr = s.mtr := rfl
@[simp] theorem State.setPair_lnk (m : Nat) (p : PairSt) : (s.setPair m p).lnk = s.lnk := rfl
@[simp] theorem State.setPair_plt (m : Nat) (p : PairSt) : (s.setPair m p).plt = s.plt := rfl
@[simp] theorem State.setPair_saf (m : Nat) (p : PairSt) : (s.setPair m p).saf = s.saf := rfl
@[simp] theorem State.setPair_bvq (m : Nat) (p : PairSt) : (s.setPair m p).bvq = s.bvq := rfl
@[simp] theorem State.setPair_que (m : Nat) (p : PairSt) : (s.setPair m p).que = s.que := rfl
@[simp] theorem State.setPair_hst (m : Nat) (p : PairSt) : (s.setPair m p).hst = s.hst := rfl

/-! `setAtc` -/

@[simp] theorem State.setAtc_pending (n : Nat) (a : AtcSt) : (s.setAtc n a).pending = s.pending := rfl
@[simp] theorem State.setAtc_part (n : Nat) (a : AtcSt) : (s.setAtc n a).part = s.part := rfl
@[simp] theorem State.setAtc_power (n : Nat) (a : AtcSt) : (s.setAtc n a).power = s.power := rfl
@[simp] theorem State.setAtc_tbp (n : Nat) (a : AtcSt) : (s.setAtc n a).tbp = s.tbp := rfl
@[simp] theorem State.setAtc_regs (n : Nat) (a : AtcSt) : (s.setAtc n a).regs = s.regs := rfl
@[simp] theorem State.setAtc_mem (n : Nat) (a : AtcSt) : (s.setAtc n a).mem = s.mem := rfl
@[simp] theorem State.setAtc_upsets (n : Nat) (a : AtcSt) : (s.setAtc n a).upsets = s.upsets := rfl
@[simp] theorem State.setAtc_rdata (n : Nat) (a : AtcSt) : (s.setAtc n a).rdata = s.rdata := rfl
@[simp] theorem State.setAtc_capHi (n : Nat) (a : AtcSt) : (s.setAtc n a).capHi = s.capHi := rfl
@[simp] theorem State.setAtc_capPt (n : Nat) (a : AtcSt) : (s.setAtc n a).capPt = s.capPt := rfl
@[simp] theorem State.setAtc_free (n : Nat) (a : AtcSt) : (s.setAtc n a).free = s.free := rfl
@[simp] theorem State.setAtc_sys (n : Nat) (a : AtcSt) : (s.setAtc n a).sys = s.sys := rfl
@[simp] theorem State.setAtc_clk (n : Nat) (a : AtcSt) : (s.setAtc n a).clk = s.clk := rfl
@[simp] theorem State.setAtc_tim (n : Nat) (a : AtcSt) : (s.setAtc n a).tim = s.tim := rfl
@[simp] theorem State.setAtc_xdc (n : Nat) (a : AtcSt) : (s.setAtc n a).xdc = s.xdc := rfl
@[simp] theorem State.setAtc_pwm (n : Nat) (a : AtcSt) : (s.setAtc n a).pwm = s.pwm := rfl
@[simp] theorem State.setAtc_trp (n : Nat) (a : AtcSt) : (s.setAtc n a).trp = s.trp := rfl
@[simp] theorem State.setAtc_cmp (n : Nat) (a : AtcSt) : (s.setAtc n a).cmp = s.cmp := rfl
@[simp] theorem State.setAtc_adc (n : Nat) (a : AtcSt) : (s.setAtc n a).adc = s.adc := rfl
@[simp] theorem State.setAtc_ce (n : Nat) (a : AtcSt) : (s.setAtc n a).ce = s.ce := rfl
@[simp] theorem State.setAtc_grd (n : Nat) (a : AtcSt) : (s.setAtc n a).grd = s.grd := rfl
@[simp] theorem State.setAtc_mtr (n : Nat) (a : AtcSt) : (s.setAtc n a).mtr = s.mtr := rfl
@[simp] theorem State.setAtc_lnk (n : Nat) (a : AtcSt) : (s.setAtc n a).lnk = s.lnk := rfl
@[simp] theorem State.setAtc_plt (n : Nat) (a : AtcSt) : (s.setAtc n a).plt = s.plt := rfl
@[simp] theorem State.setAtc_saf (n : Nat) (a : AtcSt) : (s.setAtc n a).saf = s.saf := rfl
@[simp] theorem State.setAtc_bvq (n : Nat) (a : AtcSt) : (s.setAtc n a).bvq = s.bvq := rfl
@[simp] theorem State.setAtc_que (n : Nat) (a : AtcSt) : (s.setAtc n a).que = s.que := rfl
@[simp] theorem State.setAtc_hst (n : Nat) (a : AtcSt) : (s.setAtc n a).hst = s.hst := rfl

/-! `setXing` -/

@[simp] theorem State.setXing_pending (x : Nat) (c : Crossing) : (s.setXing x c).pending = s.pending := rfl
@[simp] theorem State.setXing_part (x : Nat) (c : Crossing) : (s.setXing x c).part = s.part := rfl
@[simp] theorem State.setXing_power (x : Nat) (c : Crossing) : (s.setXing x c).power = s.power := rfl
@[simp] theorem State.setXing_tbp (x : Nat) (c : Crossing) : (s.setXing x c).tbp = s.tbp := rfl
@[simp] theorem State.setXing_regs (x : Nat) (c : Crossing) : (s.setXing x c).regs = s.regs := rfl
@[simp] theorem State.setXing_mem (x : Nat) (c : Crossing) : (s.setXing x c).mem = s.mem := rfl
@[simp] theorem State.setXing_upsets (x : Nat) (c : Crossing) : (s.setXing x c).upsets = s.upsets := rfl
@[simp] theorem State.setXing_rdata (x : Nat) (c : Crossing) : (s.setXing x c).rdata = s.rdata := rfl
@[simp] theorem State.setXing_capHi (x : Nat) (c : Crossing) : (s.setXing x c).capHi = s.capHi := rfl
@[simp] theorem State.setXing_capPt (x : Nat) (c : Crossing) : (s.setXing x c).capPt = s.capPt := rfl
@[simp] theorem State.setXing_free (x : Nat) (c : Crossing) : (s.setXing x c).free = s.free := rfl
@[simp] theorem State.setXing_sys (x : Nat) (c : Crossing) : (s.setXing x c).sys = s.sys := rfl
@[simp] theorem State.setXing_clk (x : Nat) (c : Crossing) : (s.setXing x c).clk = s.clk := rfl
@[simp] theorem State.setXing_tim (x : Nat) (c : Crossing) : (s.setXing x c).tim = s.tim := rfl
@[simp] theorem State.setXing_pwm (x : Nat) (c : Crossing) : (s.setXing x c).pwm = s.pwm := rfl
@[simp] theorem State.setXing_atc (x : Nat) (c : Crossing) : (s.setXing x c).atc = s.atc := rfl
@[simp] theorem State.setXing_trp (x : Nat) (c : Crossing) : (s.setXing x c).trp = s.trp := rfl
@[simp] theorem State.setXing_cmp (x : Nat) (c : Crossing) : (s.setXing x c).cmp = s.cmp := rfl
@[simp] theorem State.setXing_adc (x : Nat) (c : Crossing) : (s.setXing x c).adc = s.adc := rfl
@[simp] theorem State.setXing_ce (x : Nat) (c : Crossing) : (s.setXing x c).ce = s.ce := rfl
@[simp] theorem State.setXing_grd (x : Nat) (c : Crossing) : (s.setXing x c).grd = s.grd := rfl
@[simp] theorem State.setXing_mtr (x : Nat) (c : Crossing) : (s.setXing x c).mtr = s.mtr := rfl
@[simp] theorem State.setXing_lnk (x : Nat) (c : Crossing) : (s.setXing x c).lnk = s.lnk := rfl
@[simp] theorem State.setXing_plt (x : Nat) (c : Crossing) : (s.setXing x c).plt = s.plt := rfl
@[simp] theorem State.setXing_saf (x : Nat) (c : Crossing) : (s.setXing x c).saf = s.saf := rfl
@[simp] theorem State.setXing_bvq (x : Nat) (c : Crossing) : (s.setXing x c).bvq = s.bvq := rfl
@[simp] theorem State.setXing_que (x : Nat) (c : Crossing) : (s.setXing x c).que = s.que := rfl
@[simp] theorem State.setXing_hst (x : Nat) (c : Crossing) : (s.setXing x c).hst = s.hst := rfl

/-! `setFifo` -/

@[simp] theorem State.setFifo_pending (x ch : Nat) (l : List Nat) : (s.setFifo x ch l).pending = s.pending := rfl
@[simp] theorem State.setFifo_part (x ch : Nat) (l : List Nat) : (s.setFifo x ch l).part = s.part := rfl
@[simp] theorem State.setFifo_power (x ch : Nat) (l : List Nat) : (s.setFifo x ch l).power = s.power := rfl
@[simp] theorem State.setFifo_tbp (x ch : Nat) (l : List Nat) : (s.setFifo x ch l).tbp = s.tbp := rfl
@[simp] theorem State.setFifo_regs (x ch : Nat) (l : List Nat) : (s.setFifo x ch l).regs = s.regs := rfl
@[simp] theorem State.setFifo_mem (x ch : Nat) (l : List Nat) : (s.setFifo x ch l).mem = s.mem := rfl
@[simp] theorem State.setFifo_upsets (x ch : Nat) (l : List Nat) : (s.setFifo x ch l).upsets = s.upsets := rfl
@[simp] theorem State.setFifo_rdata (x ch : Nat) (l : List Nat) : (s.setFifo x ch l).rdata = s.rdata := rfl
@[simp] theorem State.setFifo_capHi (x ch : Nat) (l : List Nat) : (s.setFifo x ch l).capHi = s.capHi := rfl
@[simp] theorem State.setFifo_capPt (x ch : Nat) (l : List Nat) : (s.setFifo x ch l).capPt = s.capPt := rfl
@[simp] theorem State.setFifo_free (x ch : Nat) (l : List Nat) : (s.setFifo x ch l).free = s.free := rfl
@[simp] theorem State.setFifo_sys (x ch : Nat) (l : List Nat) : (s.setFifo x ch l).sys = s.sys := rfl
@[simp] theorem State.setFifo_clk (x ch : Nat) (l : List Nat) : (s.setFifo x ch l).clk = s.clk := rfl
@[simp] theorem State.setFifo_tim (x ch : Nat) (l : List Nat) : (s.setFifo x ch l).tim = s.tim := rfl
@[simp] theorem State.setFifo_pwm (x ch : Nat) (l : List Nat) : (s.setFifo x ch l).pwm = s.pwm := rfl
@[simp] theorem State.setFifo_atc (x ch : Nat) (l : List Nat) : (s.setFifo x ch l).atc = s.atc := rfl
@[simp] theorem State.setFifo_trp (x ch : Nat) (l : List Nat) : (s.setFifo x ch l).trp = s.trp := rfl
@[simp] theorem State.setFifo_cmp (x ch : Nat) (l : List Nat) : (s.setFifo x ch l).cmp = s.cmp := rfl
@[simp] theorem State.setFifo_adc (x ch : Nat) (l : List Nat) : (s.setFifo x ch l).adc = s.adc := rfl
@[simp] theorem State.setFifo_ce (x ch : Nat) (l : List Nat) : (s.setFifo x ch l).ce = s.ce := rfl
@[simp] theorem State.setFifo_grd (x ch : Nat) (l : List Nat) : (s.setFifo x ch l).grd = s.grd := rfl
@[simp] theorem State.setFifo_mtr (x ch : Nat) (l : List Nat) : (s.setFifo x ch l).mtr = s.mtr := rfl
@[simp] theorem State.setFifo_lnk (x ch : Nat) (l : List Nat) : (s.setFifo x ch l).lnk = s.lnk := rfl
@[simp] theorem State.setFifo_plt (x ch : Nat) (l : List Nat) : (s.setFifo x ch l).plt = s.plt := rfl
@[simp] theorem State.setFifo_saf (x ch : Nat) (l : List Nat) : (s.setFifo x ch l).saf = s.saf := rfl
@[simp] theorem State.setFifo_bvq (x ch : Nat) (l : List Nat) : (s.setFifo x ch l).bvq = s.bvq := rfl
@[simp] theorem State.setFifo_que (x ch : Nat) (l : List Nat) : (s.setFifo x ch l).que = s.que := rfl
@[simp] theorem State.setFifo_hst (x ch : Nat) (l : List Nat) : (s.setFifo x ch l).hst = s.hst := rfl

/-! `xReset` -/

@[simp] theorem State.xReset_pending (x : Nat) : (s.xReset x).pending = s.pending := rfl
@[simp] theorem State.xReset_part (x : Nat) : (s.xReset x).part = s.part := rfl
@[simp] theorem State.xReset_power (x : Nat) : (s.xReset x).power = s.power := rfl
@[simp] theorem State.xReset_tbp (x : Nat) : (s.xReset x).tbp = s.tbp := rfl
@[simp] theorem State.xReset_regs (x : Nat) : (s.xReset x).regs = s.regs := rfl
@[simp] theorem State.xReset_mem (x : Nat) : (s.xReset x).mem = s.mem := rfl
@[simp] theorem State.xReset_upsets (x : Nat) : (s.xReset x).upsets = s.upsets := rfl
@[simp] theorem State.xReset_rdata (x : Nat) : (s.xReset x).rdata = s.rdata := rfl
@[simp] theorem State.xReset_capHi (x : Nat) : (s.xReset x).capHi = s.capHi := rfl
@[simp] theorem State.xReset_capPt (x : Nat) : (s.xReset x).capPt = s.capPt := rfl
@[simp] theorem State.xReset_free (x : Nat) : (s.xReset x).free = s.free := rfl
@[simp] theorem State.xReset_sys (x : Nat) : (s.xReset x).sys = s.sys := rfl
@[simp] theorem State.xReset_clk (x : Nat) : (s.xReset x).clk = s.clk := rfl
@[simp] theorem State.xReset_tim (x : Nat) : (s.xReset x).tim = s.tim := rfl
@[simp] theorem State.xReset_pwm (x : Nat) : (s.xReset x).pwm = s.pwm := rfl
@[simp] theorem State.xReset_atc (x : Nat) : (s.xReset x).atc = s.atc := rfl
@[simp] theorem State.xReset_trp (x : Nat) : (s.xReset x).trp = s.trp := rfl
@[simp] theorem State.xReset_cmp (x : Nat) : (s.xReset x).cmp = s.cmp := rfl
@[simp] theorem State.xReset_adc (x : Nat) : (s.xReset x).adc = s.adc := rfl
@[simp] theorem State.xReset_ce (x : Nat) : (s.xReset x).ce = s.ce := rfl
@[simp] theorem State.xReset_grd (x : Nat) : (s.xReset x).grd = s.grd := rfl
@[simp] theorem State.xReset_mtr (x : Nat) : (s.xReset x).mtr = s.mtr := rfl
@[simp] theorem State.xReset_lnk (x : Nat) : (s.xReset x).lnk = s.lnk := rfl
@[simp] theorem State.xReset_plt (x : Nat) : (s.xReset x).plt = s.plt := rfl
@[simp] theorem State.xReset_saf (x : Nat) : (s.xReset x).saf = s.saf := rfl
@[simp] theorem State.xReset_bvq (x : Nat) : (s.xReset x).bvq = s.bvq := rfl
@[simp] theorem State.xReset_que (x : Nat) : (s.xReset x).que = s.que := rfl
@[simp] theorem State.xReset_hst (x : Nat) : (s.xReset x).hst = s.hst := rfl

/-! `setWin` -/

@[simp] theorem State.setWin_pending (w : Nat) (c : WinSt) : (s.setWin w c).pending = s.pending := rfl
@[simp] theorem State.setWin_part (w : Nat) (c : WinSt) : (s.setWin w c).part = s.part := rfl
@[simp] theorem State.setWin_power (w : Nat) (c : WinSt) : (s.setWin w c).power = s.power := rfl
@[simp] theorem State.setWin_tbp (w : Nat) (c : WinSt) : (s.setWin w c).tbp = s.tbp := rfl
@[simp] theorem State.setWin_regs (w : Nat) (c : WinSt) : (s.setWin w c).regs = s.regs := rfl
@[simp] theorem State.setWin_mem (w : Nat) (c : WinSt) : (s.setWin w c).mem = s.mem := rfl
@[simp] theorem State.setWin_upsets (w : Nat) (c : WinSt) : (s.setWin w c).upsets = s.upsets := rfl
@[simp] theorem State.setWin_rdata (w : Nat) (c : WinSt) : (s.setWin w c).rdata = s.rdata := rfl
@[simp] theorem State.setWin_capHi (w : Nat) (c : WinSt) : (s.setWin w c).capHi = s.capHi := rfl
@[simp] theorem State.setWin_capPt (w : Nat) (c : WinSt) : (s.setWin w c).capPt = s.capPt := rfl
@[simp] theorem State.setWin_free (w : Nat) (c : WinSt) : (s.setWin w c).free = s.free := rfl
@[simp] theorem State.setWin_sys (w : Nat) (c : WinSt) : (s.setWin w c).sys = s.sys := rfl
@[simp] theorem State.setWin_clk (w : Nat) (c : WinSt) : (s.setWin w c).clk = s.clk := rfl
@[simp] theorem State.setWin_tim (w : Nat) (c : WinSt) : (s.setWin w c).tim = s.tim := rfl
@[simp] theorem State.setWin_xdc (w : Nat) (c : WinSt) : (s.setWin w c).xdc = s.xdc := rfl
@[simp] theorem State.setWin_pwm (w : Nat) (c : WinSt) : (s.setWin w c).pwm = s.pwm := rfl
@[simp] theorem State.setWin_atc (w : Nat) (c : WinSt) : (s.setWin w c).atc = s.atc := rfl
@[simp] theorem State.setWin_trp (w : Nat) (c : WinSt) : (s.setWin w c).trp = s.trp := rfl
@[simp] theorem State.setWin_cmp (w : Nat) (c : WinSt) : (s.setWin w c).cmp = s.cmp := rfl
@[simp] theorem State.setWin_adc (w : Nat) (c : WinSt) : (s.setWin w c).adc = s.adc := rfl
@[simp] theorem State.setWin_ce (w : Nat) (c : WinSt) : (s.setWin w c).ce = s.ce := rfl
@[simp] theorem State.setWin_grd (w : Nat) (c : WinSt) : (s.setWin w c).grd = s.grd := rfl
@[simp] theorem State.setWin_mtr (w : Nat) (c : WinSt) : (s.setWin w c).mtr = s.mtr := rfl
@[simp] theorem State.setWin_lnk (w : Nat) (c : WinSt) : (s.setWin w c).lnk = s.lnk := rfl
@[simp] theorem State.setWin_plt (w : Nat) (c : WinSt) : (s.setWin w c).plt = s.plt := rfl
@[simp] theorem State.setWin_saf (w : Nat) (c : WinSt) : (s.setWin w c).saf = s.saf := rfl
@[simp] theorem State.setWin_bvq (w : Nat) (c : WinSt) : (s.setWin w c).bvq = s.bvq := rfl
@[simp] theorem State.setWin_que (w : Nat) (c : WinSt) : (s.setWin w c).que = s.que := rfl

/-! `setRing` -/

@[simp] theorem State.setRing_pending (r : Nat) (c : RingSt) : (s.setRing r c).pending = s.pending := rfl
@[simp] theorem State.setRing_part (r : Nat) (c : RingSt) : (s.setRing r c).part = s.part := rfl
@[simp] theorem State.setRing_power (r : Nat) (c : RingSt) : (s.setRing r c).power = s.power := rfl
@[simp] theorem State.setRing_tbp (r : Nat) (c : RingSt) : (s.setRing r c).tbp = s.tbp := rfl
@[simp] theorem State.setRing_regs (r : Nat) (c : RingSt) : (s.setRing r c).regs = s.regs := rfl
@[simp] theorem State.setRing_mem (r : Nat) (c : RingSt) : (s.setRing r c).mem = s.mem := rfl
@[simp] theorem State.setRing_upsets (r : Nat) (c : RingSt) : (s.setRing r c).upsets = s.upsets := rfl
@[simp] theorem State.setRing_rdata (r : Nat) (c : RingSt) : (s.setRing r c).rdata = s.rdata := rfl
@[simp] theorem State.setRing_capHi (r : Nat) (c : RingSt) : (s.setRing r c).capHi = s.capHi := rfl
@[simp] theorem State.setRing_capPt (r : Nat) (c : RingSt) : (s.setRing r c).capPt = s.capPt := rfl
@[simp] theorem State.setRing_free (r : Nat) (c : RingSt) : (s.setRing r c).free = s.free := rfl
@[simp] theorem State.setRing_sys (r : Nat) (c : RingSt) : (s.setRing r c).sys = s.sys := rfl
@[simp] theorem State.setRing_clk (r : Nat) (c : RingSt) : (s.setRing r c).clk = s.clk := rfl
@[simp] theorem State.setRing_tim (r : Nat) (c : RingSt) : (s.setRing r c).tim = s.tim := rfl
@[simp] theorem State.setRing_xdc (r : Nat) (c : RingSt) : (s.setRing r c).xdc = s.xdc := rfl
@[simp] theorem State.setRing_pwm (r : Nat) (c : RingSt) : (s.setRing r c).pwm = s.pwm := rfl
@[simp] theorem State.setRing_atc (r : Nat) (c : RingSt) : (s.setRing r c).atc = s.atc := rfl
@[simp] theorem State.setRing_trp (r : Nat) (c : RingSt) : (s.setRing r c).trp = s.trp := rfl
@[simp] theorem State.setRing_cmp (r : Nat) (c : RingSt) : (s.setRing r c).cmp = s.cmp := rfl
@[simp] theorem State.setRing_adc (r : Nat) (c : RingSt) : (s.setRing r c).adc = s.adc := rfl
@[simp] theorem State.setRing_ce (r : Nat) (c : RingSt) : (s.setRing r c).ce = s.ce := rfl
@[simp] theorem State.setRing_grd (r : Nat) (c : RingSt) : (s.setRing r c).grd = s.grd := rfl
@[simp] theorem State.setRing_mtr (r : Nat) (c : RingSt) : (s.setRing r c).mtr = s.mtr := rfl
@[simp] theorem State.setRing_lnk (r : Nat) (c : RingSt) : (s.setRing r c).lnk = s.lnk := rfl
@[simp] theorem State.setRing_plt (r : Nat) (c : RingSt) : (s.setRing r c).plt = s.plt := rfl
@[simp] theorem State.setRing_saf (r : Nat) (c : RingSt) : (s.setRing r c).saf = s.saf := rfl
@[simp] theorem State.setRing_bvq (r : Nat) (c : RingSt) : (s.setRing r c).bvq = s.bvq := rfl
@[simp] theorem State.setRing_que (r : Nat) (c : RingSt) : (s.setRing r c).que = s.que := rfl

/-! `signal` -/

@[simp] theorem State.signal_pending (v : Nat) : (s.signal v).pending = s.pending := rfl
@[simp] theorem State.signal_part (v : Nat) : (s.signal v).part = s.part := rfl
@[simp] theorem State.signal_power (v : Nat) : (s.signal v).power = s.power := rfl
@[simp] theorem State.signal_tbp (v : Nat) : (s.signal v).tbp = s.tbp := rfl
@[simp] theorem State.signal_regs (v : Nat) : (s.signal v).regs = s.regs := rfl
@[simp] theorem State.signal_mem (v : Nat) : (s.signal v).mem = s.mem := rfl
@[simp] theorem State.signal_upsets (v : Nat) : (s.signal v).upsets = s.upsets := rfl
@[simp] theorem State.signal_rdata (v : Nat) : (s.signal v).rdata = s.rdata := rfl
@[simp] theorem State.signal_capHi (v : Nat) : (s.signal v).capHi = s.capHi := rfl
@[simp] theorem State.signal_capPt (v : Nat) : (s.signal v).capPt = s.capPt := rfl
@[simp] theorem State.signal_free (v : Nat) : (s.signal v).free = s.free := rfl
@[simp] theorem State.signal_sys (v : Nat) : (s.signal v).sys = s.sys := rfl
@[simp] theorem State.signal_clk (v : Nat) : (s.signal v).clk = s.clk := rfl
@[simp] theorem State.signal_tim (v : Nat) : (s.signal v).tim = s.tim := rfl
@[simp] theorem State.signal_xdc (v : Nat) : (s.signal v).xdc = s.xdc := rfl
@[simp] theorem State.signal_pwm (v : Nat) : (s.signal v).pwm = s.pwm := rfl
@[simp] theorem State.signal_atc (v : Nat) : (s.signal v).atc = s.atc := rfl
@[simp] theorem State.signal_trp (v : Nat) : (s.signal v).trp = s.trp := rfl
@[simp] theorem State.signal_cmp (v : Nat) : (s.signal v).cmp = s.cmp := rfl
@[simp] theorem State.signal_adc (v : Nat) : (s.signal v).adc = s.adc := rfl
@[simp] theorem State.signal_ce (v : Nat) : (s.signal v).ce = s.ce := rfl
@[simp] theorem State.signal_grd (v : Nat) : (s.signal v).grd = s.grd := rfl
@[simp] theorem State.signal_mtr (v : Nat) : (s.signal v).mtr = s.mtr := rfl
@[simp] theorem State.signal_lnk (v : Nat) : (s.signal v).lnk = s.lnk := rfl
@[simp] theorem State.signal_plt (v : Nat) : (s.signal v).plt = s.plt := rfl
@[simp] theorem State.signal_saf (v : Nat) : (s.signal v).saf = s.saf := rfl
@[simp] theorem State.signal_bvq (v : Nat) : (s.signal v).bvq = s.bvq := rfl
@[simp] theorem State.signal_que (v : Nat) : (s.signal v).que = s.que := rfl

/-! `setPort` -/

@[simp] theorem State.setPort_pending (n : Nat) (q : PortSt) : (s.setPort n q).pending = s.pending := rfl
@[simp] theorem State.setPort_part (n : Nat) (q : PortSt) : (s.setPort n q).part = s.part := rfl
@[simp] theorem State.setPort_power (n : Nat) (q : PortSt) : (s.setPort n q).power = s.power := rfl
@[simp] theorem State.setPort_tbp (n : Nat) (q : PortSt) : (s.setPort n q).tbp = s.tbp := rfl
@[simp] theorem State.setPort_regs (n : Nat) (q : PortSt) : (s.setPort n q).regs = s.regs := rfl
@[simp] theorem State.setPort_mem (n : Nat) (q : PortSt) : (s.setPort n q).mem = s.mem := rfl
@[simp] theorem State.setPort_upsets (n : Nat) (q : PortSt) : (s.setPort n q).upsets = s.upsets := rfl
@[simp] theorem State.setPort_rdata (n : Nat) (q : PortSt) : (s.setPort n q).rdata = s.rdata := rfl
@[simp] theorem State.setPort_capHi (n : Nat) (q : PortSt) : (s.setPort n q).capHi = s.capHi := rfl
@[simp] theorem State.setPort_capPt (n : Nat) (q : PortSt) : (s.setPort n q).capPt = s.capPt := rfl
@[simp] theorem State.setPort_free (n : Nat) (q : PortSt) : (s.setPort n q).free = s.free := rfl
@[simp] theorem State.setPort_sys (n : Nat) (q : PortSt) : (s.setPort n q).sys = s.sys := rfl
@[simp] theorem State.setPort_clk (n : Nat) (q : PortSt) : (s.setPort n q).clk = s.clk := rfl
@[simp] theorem State.setPort_tim (n : Nat) (q : PortSt) : (s.setPort n q).tim = s.tim := rfl
@[simp] theorem State.setPort_xdc (n : Nat) (q : PortSt) : (s.setPort n q).xdc = s.xdc := rfl
@[simp] theorem State.setPort_pwm (n : Nat) (q : PortSt) : (s.setPort n q).pwm = s.pwm := rfl
@[simp] theorem State.setPort_atc (n : Nat) (q : PortSt) : (s.setPort n q).atc = s.atc := rfl
@[simp] theorem State.setPort_trp (n : Nat) (q : PortSt) : (s.setPort n q).trp = s.trp := rfl
@[simp] theorem State.setPort_cmp (n : Nat) (q : PortSt) : (s.setPort n q).cmp = s.cmp := rfl
@[simp] theorem State.setPort_adc (n : Nat) (q : PortSt) : (s.setPort n q).adc = s.adc := rfl
@[simp] theorem State.setPort_ce (n : Nat) (q : PortSt) : (s.setPort n q).ce = s.ce := rfl
@[simp] theorem State.setPort_grd (n : Nat) (q : PortSt) : (s.setPort n q).grd = s.grd := rfl
@[simp] theorem State.setPort_mtr (n : Nat) (q : PortSt) : (s.setPort n q).mtr = s.mtr := rfl
@[simp] theorem State.setPort_plt (n : Nat) (q : PortSt) : (s.setPort n q).plt = s.plt := rfl
@[simp] theorem State.setPort_saf (n : Nat) (q : PortSt) : (s.setPort n q).saf = s.saf := rfl
@[simp] theorem State.setPort_bvq (n : Nat) (q : PortSt) : (s.setPort n q).bvq = s.bvq := rfl
@[simp] theorem State.setPort_que (n : Nat) (q : PortSt) : (s.setPort n q).que = s.que := rfl
@[simp] theorem State.setPort_hst (n : Nat) (q : PortSt) : (s.setPort n q).hst = s.hst := rfl

/-! `setByte` -/

@[simp] theorem State.setByte_pending (a : Nat) (b : Byte) : (s.setByte a b).pending = s.pending := rfl
@[simp] theorem State.setByte_part (a : Nat) (b : Byte) : (s.setByte a b).part = s.part := rfl
@[simp] theorem State.setByte_power (a : Nat) (b : Byte) : (s.setByte a b).power = s.power := rfl
@[simp] theorem State.setByte_tbp (a : Nat) (b : Byte) : (s.setByte a b).tbp = s.tbp := rfl
@[simp] theorem State.setByte_regs (a : Nat) (b : Byte) : (s.setByte a b).regs = s.regs := rfl
@[simp] theorem State.setByte_rdata (a : Nat) (b : Byte) : (s.setByte a b).rdata = s.rdata := rfl
@[simp] theorem State.setByte_capHi (a : Nat) (b : Byte) : (s.setByte a b).capHi = s.capHi := rfl
@[simp] theorem State.setByte_capPt (a : Nat) (b : Byte) : (s.setByte a b).capPt = s.capPt := rfl
@[simp] theorem State.setByte_free (a : Nat) (b : Byte) : (s.setByte a b).free = s.free := rfl
@[simp] theorem State.setByte_sys (a : Nat) (b : Byte) : (s.setByte a b).sys = s.sys := rfl
@[simp] theorem State.setByte_clk (a : Nat) (b : Byte) : (s.setByte a b).clk = s.clk := rfl
@[simp] theorem State.setByte_tim (a : Nat) (b : Byte) : (s.setByte a b).tim = s.tim := rfl
@[simp] theorem State.setByte_xdc (a : Nat) (b : Byte) : (s.setByte a b).xdc = s.xdc := rfl
@[simp] theorem State.setByte_pwm (a : Nat) (b : Byte) : (s.setByte a b).pwm = s.pwm := rfl
@[simp] theorem State.setByte_atc (a : Nat) (b : Byte) : (s.setByte a b).atc = s.atc := rfl
@[simp] theorem State.setByte_trp (a : Nat) (b : Byte) : (s.setByte a b).trp = s.trp := rfl
@[simp] theorem State.setByte_cmp (a : Nat) (b : Byte) : (s.setByte a b).cmp = s.cmp := rfl
@[simp] theorem State.setByte_adc (a : Nat) (b : Byte) : (s.setByte a b).adc = s.adc := rfl
@[simp] theorem State.setByte_ce (a : Nat) (b : Byte) : (s.setByte a b).ce = s.ce := rfl
@[simp] theorem State.setByte_grd (a : Nat) (b : Byte) : (s.setByte a b).grd = s.grd := rfl
@[simp] theorem State.setByte_mtr (a : Nat) (b : Byte) : (s.setByte a b).mtr = s.mtr := rfl
@[simp] theorem State.setByte_lnk (a : Nat) (b : Byte) : (s.setByte a b).lnk = s.lnk := rfl
@[simp] theorem State.setByte_plt (a : Nat) (b : Byte) : (s.setByte a b).plt = s.plt := rfl
@[simp] theorem State.setByte_saf (a : Nat) (b : Byte) : (s.setByte a b).saf = s.saf := rfl
@[simp] theorem State.setByte_bvq (a : Nat) (b : Byte) : (s.setByte a b).bvq = s.bvq := rfl
@[simp] theorem State.setByte_que (a : Nat) (b : Byte) : (s.setByte a b).que = s.que := rfl
@[simp] theorem State.setByte_hst (a : Nat) (b : Byte) : (s.setByte a b).hst = s.hst := rfl

/-! `setWord` -/

@[simp] theorem State.setWord_pending (a : Nat) (v : Word) : (s.setWord a v).pending = s.pending := by
  simp only [State.setWord, State.setByte_pending]
@[simp] theorem State.setWord_part (a : Nat) (v : Word) : (s.setWord a v).part = s.part := by
  simp only [State.setWord, State.setByte_part]
@[simp] theorem State.setWord_power (a : Nat) (v : Word) : (s.setWord a v).power = s.power := by
  simp only [State.setWord, State.setByte_power]
@[simp] theorem State.setWord_tbp (a : Nat) (v : Word) : (s.setWord a v).tbp = s.tbp := by
  simp only [State.setWord, State.setByte_tbp]
@[simp] theorem State.setWord_regs (a : Nat) (v : Word) : (s.setWord a v).regs = s.regs := by
  simp only [State.setWord, State.setByte_regs]
@[simp] theorem State.setWord_rdata (a : Nat) (v : Word) : (s.setWord a v).rdata = s.rdata := by
  simp only [State.setWord, State.setByte_rdata]
@[simp] theorem State.setWord_capHi (a : Nat) (v : Word) : (s.setWord a v).capHi = s.capHi := by
  simp only [State.setWord, State.setByte_capHi]
@[simp] theorem State.setWord_capPt (a : Nat) (v : Word) : (s.setWord a v).capPt = s.capPt := by
  simp only [State.setWord, State.setByte_capPt]
@[simp] theorem State.setWord_free (a : Nat) (v : Word) : (s.setWord a v).free = s.free := by
  simp only [State.setWord, State.setByte_free]
@[simp] theorem State.setWord_sys (a : Nat) (v : Word) : (s.setWord a v).sys = s.sys := by
  simp only [State.setWord, State.setByte_sys]
@[simp] theorem State.setWord_clk (a : Nat) (v : Word) : (s.setWord a v).clk = s.clk := by
  simp only [State.setWord, State.setByte_clk]
@[simp] theorem State.setWord_tim (a : Nat) (v : Word) : (s.setWord a v).tim = s.tim := by
  simp only [State.setWord, State.setByte_tim]
@[simp] theorem State.setWord_xdc (a : Nat) (v : Word) : (s.setWord a v).xdc = s.xdc := by
  simp only [State.setWord, State.setByte_xdc]
@[simp] theorem State.setWord_pwm (a : Nat) (v : Word) : (s.setWord a v).pwm = s.pwm := by
  simp only [State.setWord, State.setByte_pwm]
@[simp] theorem State.setWord_atc (a : Nat) (v : Word) : (s.setWord a v).atc = s.atc := by
  simp only [State.setWord, State.setByte_atc]
@[simp] theorem State.setWord_trp (a : Nat) (v : Word) : (s.setWord a v).trp = s.trp := by
  simp only [State.setWord, State.setByte_trp]
@[simp] theorem State.setWord_cmp (a : Nat) (v : Word) : (s.setWord a v).cmp = s.cmp := by
  simp only [State.setWord, State.setByte_cmp]
@[simp] theorem State.setWord_adc (a : Nat) (v : Word) : (s.setWord a v).adc = s.adc := by
  simp only [State.setWord, State.setByte_adc]
@[simp] theorem State.setWord_ce (a : Nat) (v : Word) : (s.setWord a v).ce = s.ce := by
  simp only [State.setWord, State.setByte_ce]
@[simp] theorem State.setWord_grd (a : Nat) (v : Word) : (s.setWord a v).grd = s.grd := by
  simp only [State.setWord, State.setByte_grd]
@[simp] theorem State.setWord_mtr (a : Nat) (v : Word) : (s.setWord a v).mtr = s.mtr := by
  simp only [State.setWord, State.setByte_mtr]
@[simp] theorem State.setWord_lnk (a : Nat) (v : Word) : (s.setWord a v).lnk = s.lnk := by
  simp only [State.setWord, State.setByte_lnk]
@[simp] theorem State.setWord_plt (a : Nat) (v : Word) : (s.setWord a v).plt = s.plt := by
  simp only [State.setWord, State.setByte_plt]
@[simp] theorem State.setWord_saf (a : Nat) (v : Word) : (s.setWord a v).saf = s.saf := by
  simp only [State.setWord, State.setByte_saf]
@[simp] theorem State.setWord_bvq (a : Nat) (v : Word) : (s.setWord a v).bvq = s.bvq := by
  simp only [State.setWord, State.setByte_bvq]
@[simp] theorem State.setWord_que (a : Nat) (v : Word) : (s.setWord a v).que = s.que := by
  simp only [State.setWord, State.setByte_que]
@[simp] theorem State.setWord_hst (a : Nat) (v : Word) : (s.setWord a v).hst = s.hst := by
  simp only [State.setWord, State.setByte_hst]

end Sys2Proof.Machine
end

