-- ==== Sys2Proof/Laws/Tab.lean ====
section
/-! SUPPORT. Sparse tables: what an entry reads as after a write, for any table, and that a write keeps the canonical form, in
which equal contents are equal tables. -/

namespace Sys2Proof.Machine

variable {α : Type}

@[simp] theorem Tab.look_put_self (t : Tab α) (n : Nat) (v : α) : Tab.look (Tab.put t n v) n = some v := by
  induction t with
  | nil => simp [Tab.put, Tab.look]
  | cons e t ih =>
    obtain ⟨k, w⟩ := e
    simp only [Tab.put]
    split
    · simp [Tab.look]
    · split
      · simp [Tab.look]
      · simp [Tab.look, *]

theorem Tab.look_put_ne (t : Tab α) {n m : Nat} (v : α) (h : m ≠ n) : Tab.look (Tab.put t n v) m = Tab.look t m := by
  induction t with
  | nil => simp [Tab.put, Tab.look, h]
  | cons e t ih =>
    obtain ⟨k, w⟩ := e
    simp only [Tab.put]
    split
    · simp [Tab.look, h]
    · split
      · subst_vars; simp [Tab.look, h]
      · simp [Tab.look, ih]

@[simp] theorem Tab.look_del_self (t : Tab α) (n : Nat) : Tab.look (Tab.del t n) n = none := by
  induction t with
  | nil => rfl
  | cons e t ih =>
    obtain ⟨k, w⟩ := e
    simp only [Tab.del]
    split
    · exact ih
    · simp [Tab.look, *]

theorem Tab.look_del_ne (t : Tab α) {n m : Nat} (h : m ≠ n) : Tab.look (Tab.del t n) m = Tab.look t m := by
  induction t with
  | nil => rfl
  | cons e t ih =>
    obtain ⟨k, w⟩ := e
    simp only [Tab.del]
    split
    · subst_vars; simp [Tab.look, h, ih]
    · simp [Tab.look, ih]

@[simp] theorem Tab.get_nil (d : Nat → α) (n : Nat) : Tab.get d [] n = d n := rfl

@[simp] theorem Tab.get_put_self (d : Nat → α) (t : Tab α) (n : Nat) (v : α) : Tab.get d (Tab.put t n v) n = v := by
  simp [Tab.get]

theorem Tab.get_put_ne (d : Nat → α) (t : Tab α) {n m : Nat} (v : α) (h : m ≠ n) :
    Tab.get d (Tab.put t n v) m = Tab.get d t m := by
  simp [Tab.get, Tab.look_put_ne t v h]

/-- A key reads what was written for it last. -/
@[simp] theorem Tab.get_set_self [DecidableEq α] (d : Nat → α) (t : Tab α) (n : Nat) (v : α) :
    Tab.get d (Tab.set d t n v) n = v := by
  unfold Tab.set
  split
  · simp [Tab.get, *]
  · simp

/-- Every other key reads as before. -/
theorem Tab.get_set_ne [DecidableEq α] (d : Nat → α) (t : Tab α) {n m : Nat} (v : α) (h : m ≠ n) :
    Tab.get d (Tab.set d t n v) m = Tab.get d t m := by
  unfold Tab.set
  split
  · simp [Tab.get, Tab.look_del_ne t h]
  · exact Tab.get_put_ne d t v h

theorem Tab.get_set [DecidableEq α] (d : Nat → α) (t : Tab α) (n m : Nat) (v : α) :
    Tab.get d (Tab.set d t n v) m = if m = n then v else Tab.get d t m := by
  split
  · subst_vars; simp
  · exact Tab.get_set_ne d t v ‹_›

/-! ### The canonical form -/

theorem Tab.above_put {t : Tab α} {k n : Nat} {v : α} (h : Tab.above k t = true) (hn : k < n) :
    Tab.above k (Tab.put t n v) = true := by
  induction t with
  | nil => simp [Tab.put, Tab.above, hn]
  | cons e t ih =>
    obtain ⟨j, w⟩ := e
    simp only [Tab.above, Bool.and_eq_true, decide_eq_true_eq] at h
    simp only [Tab.put]
    split
    · simp [Tab.above, hn, h]
    · split
      · simp [Tab.above, hn, h]
      · simp [Tab.above, h, ih h.2]

theorem Tab.above_of_lt {t : Tab α} {k n : Nat} (h : Tab.above n t = true) (hk : k < n) : Tab.above k t = true := by
  induction t with
  | nil => rfl
  | cons e t ih =>
    obtain ⟨j, w⟩ := e
    simp only [Tab.above, Bool.and_eq_true, decide_eq_true_eq] at h ⊢
    exact ⟨by omega, ih h.2⟩

theorem Tab.above_del {t : Tab α} {k : Nat} (n : Nat) (h : Tab.above k t = true) : Tab.above k (Tab.del t n) = true := by
  induction t with
  | nil => rfl
  | cons e t ih =>
    obtain ⟨j, w⟩ := e
    simp only [Tab.above, Bool.and_eq_true, decide_eq_true_eq] at h
    simp only [Tab.del]
    split
    · exact ih h.2
    · simp [Tab.above, h, ih h.2]

theorem Tab.wf_del [DecidableEq α] {d : Nat → α} {t : Tab α} (n : Nat) (h : Tab.wf d t = true) : Tab.wf d (Tab.del t n) = true := by
  induction t with
  | nil => rfl
  | cons e t ih =>
    obtain ⟨k, w⟩ := e
    simp only [Tab.wf, Bool.and_eq_true, decide_eq_true_eq] at h
    simp only [Tab.del]
    split
    · exact ih h.2
    · simp [Tab.wf, Tab.above_del n h.1.1, h, ih h.2]

theorem Tab.wf_put [DecidableEq α] {d : Nat → α} {t : Tab α} {n : Nat} {v : α} (h : Tab.wf d t = true) (hv : v ≠ d n) :
    Tab.wf d (Tab.put t n v) = true := by
  induction t with
  | nil => simp [Tab.put, Tab.wf, Tab.above, hv]
  | cons e t ih =>
    obtain ⟨k, w⟩ := e
    simp only [Tab.wf, Bool.and_eq_true, decide_eq_true_eq] at h
    simp only [Tab.put]
    split
    · simp [Tab.wf, Tab.above, *, Tab.above_of_lt h.1.1 ‹n < k›]
    · split
      · subst_vars; simp [Tab.wf, h, hv]
      · simp [Tab.wf, h, ih h.2, Tab.above_put h.1.1 (show k < n by omega)]

/-- A write keeps the canonical form. -/
theorem Tab.wf_set [DecidableEq α] {d : Nat → α} {t : Tab α} (n : Nat) (v : α) (h : Tab.wf d t = true) :
    Tab.wf d (Tab.set d t n v) = true := by
  unfold Tab.set
  split
  · exact Tab.wf_del n h
  · exact Tab.wf_put h ‹_›

theorem Tab.above_filter {t : Tab α} {k : Nat} (p : Nat × α → Bool) (h : Tab.above k t = true) : Tab.above k (t.filter p) = true := by
  induction t with
  | nil => rfl
  | cons e t ih =>
    obtain ⟨j, w⟩ := e
    simp only [Tab.above, Bool.and_eq_true, decide_eq_true_eq] at h
    simp only [List.filter_cons]
    split
    · simp [Tab.above, h, ih h.2]
    · exact ih h.2

/-- So does the removal of entries. -/
theorem Tab.wf_filter [DecidableEq α] {d : Nat → α} {t : Tab α} (p : Nat × α → Bool) (h : Tab.wf d t = true) :
    Tab.wf d (t.filter p) = true := by
  induction t with
  | nil => rfl
  | cons e t ih =>
    obtain ⟨k, w⟩ := e
    simp only [Tab.wf, Bool.and_eq_true, decide_eq_true_eq] at h
    simp only [List.filter_cons]
    split
    · simp [Tab.wf, h, ih h.2, Tab.above_filter p h.1.1]
    · exact ih h.2

/-- Below its first key a table lists nothing. -/
theorem Tab.look_of_above {t : Tab α} {k n : Nat} (h : Tab.above k t = true) (hn : n ≤ k) : Tab.look t n = none := by
  induction t with
  | nil => rfl
  | cons e t ih =>
    obtain ⟨j, w⟩ := e
    simp only [Tab.above, Bool.and_eq_true, decide_eq_true_eq] at h
    simp [Tab.look, show n ≠ j by omega, ih h.2]

/-- Two tables in canonical form that read alike are equal. -/
theorem Tab.ext_get [DecidableEq α] {d : Nat → α} {t u : Tab α} (ht : Tab.wf d t = true) (hu : Tab.wf d u = true)
    (h : ∀ n, Tab.get d t n = Tab.get d u n) : t = u := by
  induction t generalizing u with
  | nil =>
    cases u with
    | nil => rfl
    | cons e u =>
      obtain ⟨k, w⟩ := e
      simp only [Tab.wf, Bool.and_eq_true, decide_eq_true_eq] at hu
      have := h k
      simp [Tab.get, Tab.look] at this
      exact absurd this.symm hu.1.2
  | cons e t ih =>
    obtain ⟨k, v⟩ := e
    simp only [Tab.wf, Bool.and_eq_true, decide_eq_true_eq] at ht
    cases u with
    | nil =>
      have := h k
      simp [Tab.get, Tab.look] at this
      exact absurd this ht.1.2
    | cons e u =>
      obtain ⟨j, w⟩ := e
      simp only [Tab.wf, Bool.and_eq_true, decide_eq_true_eq] at hu
      have hkj : k = j := by
        rcases Nat.lt_trichotomy k j with hl | he | hl
        · have := h k
          simp [Tab.get, Tab.look, show k ≠ j by omega, Tab.look_of_above hu.1.1 (show k ≤ j by omega)] at this
          exact absurd this ht.1.2
        · exact he
        · have := h j
          simp [Tab.get, Tab.look, show j ≠ k by omega, Tab.look_of_above ht.1.1 (show j ≤ k by omega)] at this
          exact absurd this.symm hu.1.2
      subst hkj
      have hv : v = w := by simpa [Tab.get, Tab.look] using h k
      subst hv
      have := ih ht.2 hu.2 fun n => by
        by_cases hn : n = k
        · subst hn
          simp [Tab.get, Tab.look_of_above ht.1.1, Tab.look_of_above hu.1.1]
        · simpa [Tab.get, Tab.look, hn] using h n
      rw [this]

/-- Entries kept by a filter on keys read as before, those removed as unlisted. -/
theorem Tab.get_filter (d : Nat → α) (t : Tab α) (p : Nat → Bool) (n : Nat) :
    Tab.get d (t.filter fun e => p e.1) n = if p n = true then Tab.get d t n else d n := by
  induction t with
  | nil => simp
  | cons e t ih =>
    obtain ⟨k, w⟩ := e
    simp only [Tab.get] at ih
    simp only [List.filter_cons, Tab.get]
    by_cases hk : p k = true <;> by_cases hn : n = k
    · subst hn; simp [hk, Tab.look]
    · simp [hk, Tab.look, hn, ih]
    · subst hn; simp only [hk, Bool.false_eq_true, if_false, ih]
    · simp only [hk, Bool.false_eq_true, if_false, ih, Tab.look, hn]

end Sys2Proof.Machine
end

