-- ==== Sys2Proof/Laws/Ops.lean ====
section
/-! SUPPORT. The shared operations: registers and fields, data memory and host memory, one operation over a list, what the
posting of an event can do, and the outcome of a register write. -/

namespace Sys2Proof.Machine

variable {s t u : State}

/-! ### Fields of a word -/

theorem Fld.mask_getLsbD (x : Fld) (h : x.lo + x.w ≤ 32) (i : Nat) :
    x.mask.getLsbD i = decide (x.lo ≤ i ∧ i < x.lo + x.w) := by
  simp only [Fld.mask, BitVec.getLsbD_ofNat, Nat.testBit_shiftLeft, Nat.testBit_two_pow_sub_one]
  by_cases h1 : x.lo ≤ i <;> by_cases h2 : i < x.lo + x.w <;> simp [h1, h2] <;> omega

/-- A bit of a word with a field written. -/
theorem Fld.put_getLsbD (x : Fld) (h : x.lo + x.w ≤ 32) (v : Word) (n i : Nat) :
    (x.put v n).getLsbD i = if x.lo ≤ i ∧ i < x.lo + x.w then n.testBit (i - x.lo) else v.getLsbD i := by
  simp only [Fld.put, BitVec.getLsbD_or, BitVec.getLsbD_and, BitVec.getLsbD_not, Fld.mask_getLsbD x h, BitVec.getLsbD_ofNat,
    Nat.testBit_shiftLeft, Nat.testBit_mod_two_pow]
  by_cases h1 : x.lo ≤ i ∧ i < x.lo + x.w
  · simp [h1, show i < 32 by omega, show i - x.lo < x.w by omega]
  · simp [h1]
    intro h2
    exact BitVec.lt_of_getLsbD h2

theorem Fld.get_testBit (x : Fld) (v : Word) (i : Nat) : (x.get v).testBit i = (decide (i < x.w) && v.getLsbD (x.lo + i)) := by
  simp [Fld.get, BitVec.testBit_toNat]

theorem Fld.get_lt (x : Fld) (v : Word) : x.get v < 2 ^ x.w := by
  simpa [Fld.get] using (v.extractLsb' x.lo x.w).isLt

/-- A field reads what was written to it last, within its width. -/
theorem Fld.get_put_self (x : Fld) (h : x.lo + x.w ≤ 32) (v : Word) (n : Nat) : x.get (x.put v n) = n % 2 ^ x.w := by
  apply Nat.eq_of_testBit_eq
  intro i
  rw [Fld.get_testBit, Fld.put_getLsbD x h, Nat.testBit_mod_two_pow]
  by_cases h1 : i < x.w <;> simp [h1]

/-- A field that shares no bit with the one written reads as before. -/
theorem Fld.get_put_apart (x y : Fld) (h : x.lo + x.w ≤ 32) (hd : y.lo + y.w ≤ x.lo ∨ x.lo + x.w ≤ y.lo) (v : Word) (n : Nat) :
    y.get (x.put v n) = y.get v := by
  apply Nat.eq_of_testBit_eq
  intro i
  rw [Fld.get_testBit, Fld.get_testBit, Fld.put_getLsbD x h]
  by_cases h1 : i < y.w
  · rw [if_neg (by omega)]
  · simp [h1]

/-! ### Registers -/

@[simp] theorem State.reg_setReg_self (o : Nat) (v : Word) : (s.setReg o v).reg o = v := by simp [State.reg, State.setReg]

theorem State.reg_setReg_ne {o p : Nat} (v : Word) (h : p ≠ o) : (s.setReg o v).reg p = s.reg p :=
  Tab.get_set_ne _ _ _ h

theorem State.reg_setF_ne (x : Fld) (n : Nat) {p : Nat} (h : p ≠ x.off) : (s.setF x n).reg p = s.reg p :=
  State.reg_setReg_ne _ h

@[simp] theorem State.reg_setF_self (x : Fld) (n : Nat) : (s.setF x n).reg x.off = x.put (s.reg x.off) n := by
  simp [State.setF]

theorem State.f_setF_self (x : Fld) (h : x.lo + x.w ≤ 32) (n : Nat) : (s.setF x n).f x = n % 2 ^ x.w := by
  simp [State.f, Fld.get_put_self x h]

/-- A field of another register, or of other bits of the same one, reads as before. -/
theorem State.f_setF_ne (x y : Fld) (h : x.lo + x.w ≤ 32)
    (hd : y.off ≠ x.off ∨ y.lo + y.w ≤ x.lo ∨ x.lo + x.w ≤ y.lo) (n : Nat) : (s.setF x n).f y = s.f y := by
  by_cases ho : y.off = x.off
  · simp only [State.f, ho, State.reg_setF_self]
    exact Fld.get_put_apart x y h (hd.resolve_left fun k => k ho) _ _
  · simp only [State.f, State.reg_setF_ne x n ho]

/-- A count rises by `k` and stays at the largest value of its field. -/
theorem State.f_count_self (x : Fld) (h : x.lo + x.w ≤ 32) (k : Nat) : (s.count x k).f x = min (2 ^ x.w - 1) (s.f x + k) := by
  have := Nat.two_pow_pos x.w
  rw [State.count, State.f_setF_self x h, satAdd, Nat.mod_eq_of_lt (by omega)]

/-! ### The canonical form of the memories -/

theorem State.canon_setReg (o : Nat) (v : Word) (h : s.canon) : (s.setReg o v).canon := ⟨h.1, Tab.wf_set o v h.2⟩
theorem State.canon_setF (x : Fld) (n : Nat) (h : s.canon) : (s.setF x n).canon := State.canon_setReg _ _ h
theorem State.canon_count (x : Fld) (n : Nat) (h : s.canon) : (s.count x n).canon := State.canon_setReg _ _ h
theorem State.canon_setBit (x : Fld) (i : Nat) (b : Bool) (h : s.canon) : (s.setBit x i b).canon := State.canon_setReg _ _ h
theorem State.canon_clearMask (x : Fld) (m : Nat) (h : s.canon) : (s.clearMask x m).canon := State.canon_setReg _ _ h
theorem State.canon_setByte (a : Nat) (b : Byte) (h : s.canon) : (s.setByte a b).canon := ⟨Tab.wf_set a b h.1, h.2⟩
theorem State.canon_setWord (a : Nat) (v : Word) (h : s.canon) : (s.setWord a v).canon :=
  State.canon_setByte _ _ (State.canon_setByte _ _ (State.canon_setByte _ _ (State.canon_setByte _ _ h)))

theorem State.canon_setWords (a : Nat) (ws : List Word) (h : s.canon) : (s.setWords a ws).canon := by
  induction ws generalizing s a with
  | nil => exact h
  | cons v vs ih => exact ih (a + 4) (State.canon_setWord a v h)

theorem State.canon_onMain (hs : s.canon) (ht : t.canon) : (s.onMain t).canon := by
  unfold State.onMain
  split <;> assumption

/-- Reset memory has the canonical form. -/
theorem State.canon_reset : State.reset.canon := ⟨rfl, rfl⟩

/-! ### One operation over a list -/

/-- What holds before, and is kept by each use, holds after all of them. -/
theorem State.each_ind {P : State → Prop} {l : List Nat} {g : Nat → State → State} (h0 : P s)
    (hg : ∀ i ∈ l, ∀ u, P u → P (g i u)) : P (s.each l g) := by
  unfold State.each
  induction l generalizing s with
  | nil => exact h0
  | cons i l ih =>
    exact ih (hg i (by simp) s h0) fun j hj => hg j (by simp [hj])

theorem State.canon_each {l : List Nat} {g : Nat → State → State} (h : s.canon) (hg : ∀ i u, u.canon → (g i u).canon) :
    (s.each l g).canon := State.each_ind h fun i _ => hg i

/-! ### Data memory and host memory -/

@[simp] theorem State.byte_setByte_self (a : Nat) (b : Byte) : (s.setByte a b).byte a = b := by simp [State.byte, State.setByte]

theorem State.byte_setByte_ne {a c : Nat} (b : Byte) (h : c ≠ a) : (s.setByte a b).byte c = s.byte c := Tab.get_set_ne _ _ _ h

/-- Bytes outside a stored word stay. -/
theorem State.byte_setWord_ne {a c : Nat} (v : Word) (h : c < a ∨ a + 4 ≤ c) : (s.setWord a v).byte c = s.byte c := by
  simp only [State.setWord]
  rw [State.byte_setByte_ne _ (by omega), State.byte_setByte_ne _ (by omega), State.byte_setByte_ne _ (by omega),
    State.byte_setByte_ne _ (by omega)]

/-- A stored word reads back. -/
theorem State.word_setWord_self (a : Nat) (v : Word) : (s.setWord a v).word a = v := by
  simp only [State.word, State.setWord, State.byte, State.setByte, Tab.get_set]
  simp only [show a + 3 ≠ a + 2 by omega, show a + 2 ≠ a + 3 by omega, show a + 1 ≠ a + 3 by omega, show a + 1 ≠ a + 2 by omega,
    show a ≠ a + 3 by omega, show a ≠ a + 2 by omega, show a ≠ a + 1 by omega, if_true, if_false]
  apply BitVec.eq_of_getLsbD_eq
  intro i hi
  simp only [BitVec.getLsbD_append, BitVec.getLsbD_extractLsb']
  by_cases h0 : i < 8
  · simp [h0]
  · by_cases h1 : i - 8 < 8
    · simp [h0, h1]; congr 1; omega
    · by_cases h2 : i - 8 - 8 < 8
      · simp [h0, h1, h2]; congr 1; omega
      · simp [h0, h1, h2, show i - 8 - 8 - 8 < 8 by omega]; congr 1; omega

/-- Bytes outside stored words stay. -/
theorem State.byte_setWords_ne (ws : List Word) {a c : Nat} (h : c < a ∨ a + 4 * ws.length ≤ c) :
    (s.setWords a ws).byte c = s.byte c := by
  induction ws generalizing s a with
  | nil => rfl
  | cons v vs ih =>
    simp only [List.length_cons] at h
    rw [State.setWords, ih (by omega), State.byte_setWord_ne v (by omega)]

/-- Host memory outside the written words stays. -/
theorem State.hostWord_hostWrite_ne (ws : List Word) {a c : Nat} (h : c < a ∨ a + 4 * ws.length ≤ c) :
    (s.hostWrite a ws).hostWord c = s.hostWord c := by
  induction ws generalizing s a with
  | nil => rfl
  | cons v vs ih =>
    simp only [List.length_cons] at h
    rw [State.hostWrite, ih (by omega)]
    exact Tab.get_set_ne _ _ _ (by omega)

/-- A word written to host memory reads back. -/
theorem State.hostWord_hostWrite (ws : List Word) (a i : Nat) (h : i < ws.length) :
    (s.hostWrite a ws).hostWord (a + 4 * i) = ws.getD i 0 := by
  induction ws generalizing s a i with
  | nil => simp at h
  | cons v vs ih =>
    cases i with
    | zero =>
      rw [State.hostWrite, State.hostWord_hostWrite_ne vs (by omega)]
      simp [State.hostWord]
    | succ i =>
      have := ih (s := { s with hst := { s.hst with mem := Tab.set (fun _ => 0) s.hst.mem a v } }) (a + 4) i (by simpa using h)
      rw [State.hostWrite, show a + 4 * (i + 1) = a + 4 + 4 * i by omega, this]
      simp

end Sys2Proof.Machine
end

