-- ==== Sys2Proof/Laws/Events.lean ====
section
/-! SUPPORT. What the posting of an event may change, said once: the event queue and its counts, the queues of Cewlink with
their drop counts, and the capture windows. Every other part of the state stays as it is, and the register file keeps its
canonical form. -/

namespace Sys2Proof.Machine

variable {s t u : State}

/-- All that the posting of an event leaves as it was. -/
structure Posted (s t : State) : Prop where
  reg : ∀ off, ¬ evReg off → t.reg off = s.reg off
  canon : s.canon → t.canon
  pending : t.pending = s.pending
  part : t.part = s.part
  power : t.power = s.power
  tbp : t.tbp = s.tbp
  mem : t.mem = s.mem
  rdata : t.rdata = s.rdata
  capHi : t.capHi = s.capHi
  capPt : t.capPt = s.capPt
  free : t.free = s.free
  sys : t.sys = s.sys
  clk : t.clk = s.clk
  tim : t.tim = s.tim
  xdc : t.xdc = s.xdc
  pwm : t.pwm = s.pwm
  atc : t.atc = s.atc
  trp : t.trp = s.trp
  cmp : t.cmp = s.cmp
  adc : t.adc = s.adc
  ce : t.ce = s.ce
  grd : t.grd = s.grd
  mtr : t.mtr = s.mtr
  lnk : t.lnk = s.lnk
  plt : t.plt = s.plt
  saf : t.saf = s.saf
  bvq : t.bvq = s.bvq
  hst_rings : t.hst.rings = s.hst.rings
  hst_lastRing : t.hst.lastRing = s.hst.lastRing
  hst_evCons : t.hst.evCons = s.hst.evCons
  hst_capCons : t.hst.capCons = s.hst.capCons
  hst_capWait : t.hst.capWait = s.hst.capWait
  hst_capPaused : t.hst.capPaused = s.hst.capPaused
  hst_vecs : t.hst.vecs = s.hst.vecs
  hst_mem : t.hst.mem = s.hst.mem
  hst_bells : t.hst.bells = s.hst.bells
  hst_imgw : t.hst.imgw = s.hst.imgw
  hst_ethTx : t.hst.ethTx = s.hst.ethTx

theorem Posted.refl (s : State) : Posted s s := by constructor <;> first | exact fun h => h | exact fun _ _ => rfl | rfl

theorem Posted.trans (h : Posted s t) (k : Posted t u) : Posted s u where
  reg off ho := (k.reg off ho).trans (h.reg off ho)
  canon c := k.canon (h.canon c)
  pending := k.pending.trans h.pending
  part := k.part.trans h.part
  power := k.power.trans h.power
  tbp := k.tbp.trans h.tbp
  mem := k.mem.trans h.mem
  rdata := k.rdata.trans h.rdata
  capHi := k.capHi.trans h.capHi
  capPt := k.capPt.trans h.capPt
  free := k.free.trans h.free
  sys := k.sys.trans h.sys
  clk := k.clk.trans h.clk
  tim := k.tim.trans h.tim
  xdc := k.xdc.trans h.xdc
  pwm := k.pwm.trans h.pwm
  atc := k.atc.trans h.atc
  trp := k.trp.trans h.trp
  cmp := k.cmp.trans h.cmp
  adc := k.adc.trans h.adc
  ce := k.ce.trans h.ce
  grd := k.grd.trans h.grd
  mtr := k.mtr.trans h.mtr
  lnk := k.lnk.trans h.lnk
  plt := k.plt.trans h.plt
  saf := k.saf.trans h.saf
  bvq := k.bvq.trans h.bvq
  hst_rings := k.hst_rings.trans h.hst_rings
  hst_lastRing := k.hst_lastRing.trans h.hst_lastRing
  hst_evCons := k.hst_evCons.trans h.hst_evCons
  hst_capCons := k.hst_capCons.trans h.hst_capCons
  hst_capWait := k.hst_capWait.trans h.hst_capWait
  hst_capPaused := k.hst_capPaused.trans h.hst_capPaused
  hst_vecs := k.hst_vecs.trans h.hst_vecs
  hst_mem := k.hst_mem.trans h.hst_mem
  hst_bells := k.hst_bells.trans h.hst_bells
  hst_imgw := k.hst_imgw.trans h.hst_imgw
  hst_ethTx := k.hst_ethTx.trans h.hst_ethTx

/-- A field of a register an event may change. -/
theorem Posted.setF (x : Fld) (n : Nat) (h : evReg x.off) : Posted s (s.setF x n) := by
  constructor <;> first | rfl | exact fun off ho => State.reg_setF_ne x n (fun e => ho (e ▸ h)) | exact State.canon_setF x n

theorem Posted.count (x : Fld) (n : Nat) (h : evReg x.off) : Posted s (s.count x n) := Posted.setF x _ h

/-- A change of the Cewlink queues alone. -/
theorem Posted.que (q : QueSt) : Posted s { s with que := q } := by
  constructor <;> first | exact fun h => h | exact fun _ _ => rfl | rfl

/-- A change of the event queue, of the windows or of the pause alone. -/
theorem Posted.hst (q : HstSt) (_ : q.rings = s.hst.rings) (_ : q.lastRing = s.hst.lastRing) (_ : q.evCons = s.hst.evCons) (_ : q.capCons = s.hst.capCons) (_ : q.capWait = s.hst.capWait) (_ : q.capPaused = s.hst.capPaused) (_ : q.vecs = s.hst.vecs) (_ : q.mem = s.hst.mem) (_ : q.bells = s.hst.bells) (_ : q.imgw = s.hst.imgw) (_ : q.ethTx = s.hst.ethTx) : Posted s { s with hst := q } := by
  constructor <;> first | assumption | exact fun h => h | exact fun _ _ => rfl | rfl

theorem Posted.evSeq (n : Nat) : Posted s { s with hst := { s.hst with evSeq := n } } :=
  Posted.hst _ rfl rfl rfl rfl rfl rfl rfl rfl rfl rfl rfl
theorem Posted.capOwed : Posted s { s with hst := { s.hst with capOwed := true } } :=
  Posted.hst _ rfl rfl rfl rfl rfl rfl rfl rfl rfl rfl rfl

theorem Posted.setWin (w : Nat) (c : WinSt) : Posted s (s.setWin w c) := by
  constructor <;> first | exact fun h => h | exact fun _ _ => rfl | rfl

theorem Posted.each {l : List Nat} {g : Nat → State → State} (hg : ∀ i ∈ l, ∀ u, Posted u (g i u)) : Posted s (s.each l g) :=
  State.each_ind (P := Posted s) (Posted.refl s) fun i hi u hu => hu.trans (hg i hi u)

/-! ### The operations -/

theorem evReg_cap {w : Nat} (h : w < 16) : evReg (0x1140C + 16 * w) := .inr (.inr (.inl (by omega)))

theorem State.winPut_posted {w : Nat} (hw : w < 16) (r : List Word) : Posted s (s.winPut w r) := by
  unfold State.winPut
  dsimp only
  split
  · exact (Posted.setF (R.HST_CAP_STAT_WRAP w) 1 (evReg_cap hw)).trans (Posted.setWin w _)
  · exact Posted.setWin w _

theorem State.capture_posted (ty flg n : Nat) (x : Word) (body : List Word) : Posted s (s.capture ty flg n x body) := by
  refine Posted.each fun w hw u => ?_
  have hw : w < 16 := by simpa using hw
  dsimp only
  split
  · split
    · refine Posted.trans Posted.capOwed (Posted.trans ?_ (Posted.setWin w _))
      exact Posted.count (R.HST_CAP_STAT_LOST w) 1 (evReg_cap hw)
    · exact State.winPut_posted hw _
  · exact Posted.refl u

theorem State.winTrigger_posted {w : Nat} (hw : w < 16) (src : Nat) : Posted s (s.winTrigger w src) :=
  (Posted.setF (R.HST_CAP_STAT_ST w) 2 (evReg_cap hw)).trans (Posted.setWin w _)

theorem evReg_drop0 : evReg R.PLT_DROP0_ALARM.off := .inr (.inr (.inr (.inl ⟨by decide, by decide⟩)))
theorem evReg_drop1 : evReg R.PLT_DROP1_LOG.off := .inr (.inr (.inr (.inl ⟨by decide, by decide⟩)))
theorem evReg_merged : evReg 0xD030 := .inr (.inr (.inr (.inl ⟨by decide, by decide⟩)))

theorem State.queueAlarm_posted (a : AlarmEnt) : Posted s (s.queueAlarm a) := by
  unfold State.queueAlarm
  split
  · exact (Posted.que _).trans (Posted.count ⟨0xD030, 0, 32⟩ 1 evReg_merged)
  · split
    · exact Posted.que _
    · exact Posted.count _ 1 evReg_drop0

theorem State.queueTrip_posted (a : AlarmEnt) : Posted s (s.queueTrip a) := by
  unfold State.queueTrip
  split
  · exact Posted.que _
  · exact Posted.count R.PLT_DROP0_TRIP 1 evReg_drop0

theorem State.queueLog_posted (p : Packet) : Posted s (s.queueLog p) := by
  unfold State.queueLog
  split
  · exact Posted.que _
  · split
    · exact State.capture_posted ..
    · exact Posted.count _ 1 evReg_drop1

theorem State.linkEvent_posted (e : EvRec) : Posted s (s.linkEvent e) := by
  unfold State.linkEvent
  split
  · dsimp only
    split
    · exact State.queueAlarm_posted _
    · exact State.queueTrip_posted _
    · exact State.queueLog_posted _
  · exact Posted.refl s

theorem State.ringEvent_posted (e : EvRec) : Posted s (s.ringEvent e) := by
  unfold State.ringEvent
  split
  · split
    · exact Posted.hst _ rfl rfl rfl rfl rfl rfl rfl rfl rfl rfl rfl
    · dsimp only
      have h : Posted s (s.count R.HST_EVR_STAT_DROP 1) := Posted.count _ 1 (.inl rfl)
      split
      · exact h
      · exact h.trans (Posted.hst _ rfl rfl rfl rfl rfl rfl rfl rfl rfl rfl rfl)
  · exact Posted.count _ 1 (.inr (.inl rfl))

theorem State.emitN_posted (fuel : Nat) (e : EvRec) : Posted s (State.emitN fuel e s) := by
  induction fuel generalizing s e with
  | zero => exact Posted.refl s
  | succ n ih =>
    unfold State.emitN
    dsimp only
    refine Posted.trans (t := State.capture _ _ _ _ _ _) ?_ (Posted.each fun w hw u => ?_)
    · refine Posted.trans ?_ (State.capture_posted ..)
      refine Posted.trans ?_ (State.linkEvent_posted _)
      exact (Posted.evSeq _).trans (State.ringEvent_posted _)
    split
    · exact (State.winTrigger_posted (by simpa using hw) 6).trans (ih _)
    · exact Posted.refl u

theorem State.emit_posted (e : EvRec) : Posted s (s.emit e) := State.emitN_posted 18 e

/-- All that `post` can do. -/
theorem State.post_posted (code inst d0 d1 d2 : Nat) : Posted s (s.post code inst d0 d1 d2) := State.emit_posted _

theorem State.capTriggerAll_posted (src : Nat) (only : Nat → Bool) : Posted s (s.capTriggerAll src only) := by
  refine Posted.each fun w hw u => ?_
  split
  · exact (State.winTrigger_posted (by simpa using hw) src).trans (State.post_posted ..)
  · exact Posted.refl u

/-! ### The same, field by field -/

variable (s)
@[simp] theorem State.post_pending (c i a b d : Nat) : (s.post c i a b d).pending = s.pending := (State.post_posted c i a b d).pending
@[simp] theorem State.post_part (c i a b d : Nat) : (s.post c i a b d).part = s.part := (State.post_posted c i a b d).part
@[simp] theorem State.post_power (c i a b d : Nat) : (s.post c i a b d).power = s.power := (State.post_posted c i a b d).power
@[simp] theorem State.post_tbp (c i a b d : Nat) : (s.post c i a b d).tbp = s.tbp := (State.post_posted c i a b d).tbp
@[simp] theorem State.post_mem (c i a b d : Nat) : (s.post c i a b d).mem = s.mem := (State.post_posted c i a b d).mem
@[simp] theorem State.post_rdata (c i a b d : Nat) : (s.post c i a b d).rdata = s.rdata := (State.post_posted c i a b d).rdata
@[simp] theorem State.post_capHi (c i a b d : Nat) : (s.post c i a b d).capHi = s.capHi := (State.post_posted c i a b d).capHi
@[simp] theorem State.post_capPt (c i a b d : Nat) : (s.post c i a b d).capPt = s.capPt := (State.post_posted c i a b d).capPt
@[simp] theorem State.post_free (c i a b d : Nat) : (s.post c i a b d).free = s.free := (State.post_posted c i a b d).free
@[simp] theorem State.post_sys (c i a b d : Nat) : (s.post c i a b d).sys = s.sys := (State.post_posted c i a b d).sys
@[simp] theorem State.post_clk (c i a b d : Nat) : (s.post c i a b d).clk = s.clk := (State.post_posted c i a b d).clk
@[simp] theorem State.post_tim (c i a b d : Nat) : (s.post c i a b d).tim = s.tim := (State.post_posted c i a b d).tim
@[simp] theorem State.post_xdc (c i a b d : Nat) : (s.post c i a b d).xdc = s.xdc := (State.post_posted c i a b d).xdc
@[simp] theorem State.post_pwm (c i a b d : Nat) : (s.post c i a b d).pwm = s.pwm := (State.post_posted c i a b d).pwm
@[simp] theorem State.post_atc (c i a b d : Nat) : (s.post c i a b d).atc = s.atc := (State.post_posted c i a b d).atc
@[simp] theorem State.post_trp (c i a b d : Nat) : (s.post c i a b d).trp = s.trp := (State.post_posted c i a b d).trp
@[simp] theorem State.post_cmp (c i a b d : Nat) : (s.post c i a b d).cmp = s.cmp := (State.post_posted c i a b d).cmp
@[simp] theorem State.post_adc (c i a b d : Nat) : (s.post c i a b d).adc = s.adc := (State.post_posted c i a b d).adc
@[simp] theorem State.post_ce (c i a b d : Nat) : (s.post c i a b d).ce = s.ce := (State.post_posted c i a b d).ce
@[simp] theorem State.post_grd (c i a b d : Nat) : (s.post c i a b d).grd = s.grd := (State.post_posted c i a b d).grd
@[simp] theorem State.post_mtr (c i a b d : Nat) : (s.post c i a b d).mtr = s.mtr := (State.post_posted c i a b d).mtr
@[simp] theorem State.post_lnk (c i a b d : Nat) : (s.post c i a b d).lnk = s.lnk := (State.post_posted c i a b d).lnk
@[simp] theorem State.post_plt (c i a b d : Nat) : (s.post c i a b d).plt = s.plt := (State.post_posted c i a b d).plt
@[simp] theorem State.post_saf (c i a b d : Nat) : (s.post c i a b d).saf = s.saf := (State.post_posted c i a b d).saf
@[simp] theorem State.post_bvq (c i a b d : Nat) : (s.post c i a b d).bvq = s.bvq := (State.post_posted c i a b d).bvq
@[simp] theorem State.post_hst_rings (c i a b d : Nat) : (s.post c i a b d).hst.rings = s.hst.rings := (State.post_posted c i a b d).hst_rings
@[simp] theorem State.post_hst_lastRing (c i a b d : Nat) : (s.post c i a b d).hst.lastRing = s.hst.lastRing := (State.post_posted c i a b d).hst_lastRing
@[simp] theorem State.post_hst_evCons (c i a b d : Nat) : (s.post c i a b d).hst.evCons = s.hst.evCons := (State.post_posted c i a b d).hst_evCons
@[simp] theorem State.post_hst_capCons (c i a b d : Nat) : (s.post c i a b d).hst.capCons = s.hst.capCons := (State.post_posted c i a b d).hst_capCons
@[simp] theorem State.post_hst_capWait (c i a b d : Nat) : (s.post c i a b d).hst.capWait = s.hst.capWait := (State.post_posted c i a b d).hst_capWait
@[simp] theorem State.post_hst_capPaused (c i a b d : Nat) : (s.post c i a b d).hst.capPaused = s.hst.capPaused := (State.post_posted c i a b d).hst_capPaused
@[simp] theorem State.post_hst_vecs (c i a b d : Nat) : (s.post c i a b d).hst.vecs = s.hst.vecs := (State.post_posted c i a b d).hst_vecs
@[simp] theorem State.post_hst_mem (c i a b d : Nat) : (s.post c i a b d).hst.mem = s.hst.mem := (State.post_posted c i a b d).hst_mem
@[simp] theorem State.post_hst_bells (c i a b d : Nat) : (s.post c i a b d).hst.bells = s.hst.bells := (State.post_posted c i a b d).hst_bells
@[simp] theorem State.post_hst_imgw (c i a b d : Nat) : (s.post c i a b d).hst.imgw = s.hst.imgw := (State.post_posted c i a b d).hst_imgw
@[simp] theorem State.post_hst_ethTx (c i a b d : Nat) : (s.post c i a b d).hst.ethTx = s.hst.ethTx := (State.post_posted c i a b d).hst_ethTx

@[simp] theorem State.capTriggerAll_pending (n : Nat) (p : Nat → Bool) : (s.capTriggerAll n p).pending = s.pending := (State.capTriggerAll_posted n p).pending
@[simp] theorem State.capTriggerAll_part (n : Nat) (p : Nat → Bool) : (s.capTriggerAll n p).part = s.part := (State.capTriggerAll_posted n p).part
@[simp] theorem State.capTriggerAll_power (n : Nat) (p : Nat → Bool) : (s.capTriggerAll n p).power = s.power := (State.capTriggerAll_posted n p).power
@[simp] theorem State.capTriggerAll_tbp (n : Nat) (p : Nat → Bool) : (s.capTriggerAll n p).tbp = s.tbp := (State.capTriggerAll_posted n p).tbp
@[simp] theorem State.capTriggerAll_mem (n : Nat) (p : Nat → Bool) : (s.capTriggerAll n p).mem = s.mem := (State.capTriggerAll_posted n p).mem
@[simp] theorem State.capTriggerAll_rdata (n : Nat) (p : Nat → Bool) : (s.capTriggerAll n p).rdata = s.rdata := (State.capTriggerAll_posted n p).rdata
@[simp] theorem State.capTriggerAll_capHi (n : Nat) (p : Nat → Bool) : (s.capTriggerAll n p).capHi = s.capHi := (State.capTriggerAll_posted n p).capHi
@[simp] theorem State.capTriggerAll_capPt (n : Nat) (p : Nat → Bool) : (s.capTriggerAll n p).capPt = s.capPt := (State.capTriggerAll_posted n p).capPt
@[simp] theorem State.capTriggerAll_free (n : Nat) (p : Nat → Bool) : (s.capTriggerAll n p).free = s.free := (State.capTriggerAll_posted n p).free
@[simp] theorem State.capTriggerAll_sys (n : Nat) (p : Nat → Bool) : (s.capTriggerAll n p).sys = s.sys := (State.capTriggerAll_posted n p).sys
@[simp] theorem State.capTriggerAll_clk (n : Nat) (p : Nat → Bool) : (s.capTriggerAll n p).clk = s.clk := (State.capTriggerAll_posted n p).clk
@[simp] theorem State.capTriggerAll_tim (n : Nat) (p : Nat → Bool) : (s.capTriggerAll n p).tim = s.tim := (State.capTriggerAll_posted n p).tim
@[simp] theorem State.capTriggerAll_xdc (n : Nat) (p : Nat → Bool) : (s.capTriggerAll n p).xdc = s.xdc := (State.capTriggerAll_posted n p).xdc
@[simp] theorem State.capTriggerAll_pwm (n : Nat) (p : Nat → Bool) : (s.capTriggerAll n p).pwm = s.pwm := (State.capTriggerAll_posted n p).pwm
@[simp] theorem State.capTriggerAll_atc (n : Nat) (p : Nat → Bool) : (s.capTriggerAll n p).atc = s.atc := (State.capTriggerAll_posted n p).atc
@[simp] theorem State.capTriggerAll_trp (n : Nat) (p : Nat → Bool) : (s.capTriggerAll n p).trp = s.trp := (State.capTriggerAll_posted n p).trp
@[simp] theorem State.capTriggerAll_cmp (n : Nat) (p : Nat → Bool) : (s.capTriggerAll n p).cmp = s.cmp := (State.capTriggerAll_posted n p).cmp
@[simp] theorem State.capTriggerAll_adc (n : Nat) (p : Nat → Bool) : (s.capTriggerAll n p).adc = s.adc := (State.capTriggerAll_posted n p).adc
@[simp] theorem State.capTriggerAll_ce (n : Nat) (p : Nat → Bool) : (s.capTriggerAll n p).ce = s.ce := (State.capTriggerAll_posted n p).ce
@[simp] theorem State.capTriggerAll_grd (n : Nat) (p : Nat → Bool) : (s.capTriggerAll n p).grd = s.grd := (State.capTriggerAll_posted n p).grd
@[simp] theorem State.capTriggerAll_mtr (n : Nat) (p : Nat → Bool) : (s.capTriggerAll n p).mtr = s.mtr := (State.capTriggerAll_posted n p).mtr
@[simp] theorem State.capTriggerAll_lnk (n : Nat) (p : Nat → Bool) : (s.capTriggerAll n p).lnk = s.lnk := (State.capTriggerAll_posted n p).lnk
@[simp] theorem State.capTriggerAll_plt (n : Nat) (p : Nat → Bool) : (s.capTriggerAll n p).plt = s.plt := (State.capTriggerAll_posted n p).plt
@[simp] theorem State.capTriggerAll_saf (n : Nat) (p : Nat → Bool) : (s.capTriggerAll n p).saf = s.saf := (State.capTriggerAll_posted n p).saf
@[simp] theorem State.capTriggerAll_bvq (n : Nat) (p : Nat → Bool) : (s.capTriggerAll n p).bvq = s.bvq := (State.capTriggerAll_posted n p).bvq

theorem State.reg_post {off : Nat} (h : ¬ evReg off) (c i a b d : Nat) : (s.post c i a b d).reg off = s.reg off :=
  (State.post_posted c i a b d).reg off h

theorem State.f_post (x : Fld) (h : ¬ evReg x.off) (c i a b d : Nat) : (s.post c i a b d).f x = s.f x := by
  simp only [State.f, State.reg_post s h]

theorem State.canon_post (c i a b d : Nat) (h : s.canon) : (s.post c i a b d).canon := (State.post_posted c i a b d).canon h

end Sys2Proof.Machine
end

