-- ==== Sys2Proof/Laws/Within.lean ====
section
/-! SUPPORT. `Within p`: an operation changes no register outside `p`, and nothing of data memory, host memory, the queue, the
ordering code, the supply condition or TBP; it keeps the canonical form of the memories. One lemma for each shared operation of
this kind; by `Within.trans` they compose. -/

namespace Sys2Proof.Machine

variable {s t u : State} {p q : Nat → Prop}

/-- What an operation that writes registers of `p` alone leaves as it was. -/
structure Within (p : Nat → Prop) (s t : State) : Prop where
  reg : ∀ off, ¬ p off → t.reg off = s.reg off
  mem : t.mem = s.mem
  host : t.hst.mem = s.hst.mem
  pending : t.pending = s.pending
  part : t.part = s.part
  power : t.power = s.power
  tbp : t.tbp = s.tbp
  canon : s.canon → t.canon

theorem Within.refl (p : Nat → Prop) (s : State) : Within p s s := ⟨fun _ _ => rfl, rfl, rfl, rfl, rfl, rfl, rfl, id⟩

theorem Within.trans (h : Within p s t) (k : Within p t u) : Within p s u :=
  ⟨fun o ho => (k.reg o ho).trans (h.reg o ho), k.mem.trans h.mem, k.host.trans h.host, k.pending.trans h.pending,
    k.part.trans h.part, k.power.trans h.power, k.tbp.trans h.tbp, fun c => k.canon (h.canon c)⟩

theorem Within.mono (h : Within p s t) (hpq : ∀ o, p o → q o) : Within q s t :=
  ⟨fun o ho => h.reg o fun hp => ho (hpq o hp), h.mem, h.host, h.pending, h.part, h.power, h.tbp, h.canon⟩

/-- What a statement's frame asks for. -/
theorem Within.keepsMem (h : Within p s t) : KeepsMem s t := ⟨fun _ => by simp only [State.byte, h.mem], h.host, h.pending, h.part⟩
theorem Within.keepsOut (h : Within p s t) : KeepsOut p s t := ⟨h.keepsMem, h.reg⟩

/-- An update of other parts of the state than those `Within` speaks of. -/
theorem Within.same (h : Within p s t) (hp : u.pending = t.pending) (ha : u.part = t.part) (hw : u.power = t.power) (hb : u.tbp = t.tbp)
    (hr : u.regs = t.regs) (hm : u.mem = t.mem) (hh : u.hst.mem = t.hst.mem) : Within p s u :=
  h.trans ⟨fun o _ => by simp only [State.reg, hr], hm, hh, hp, ha, hw, hb, fun c => ⟨hm ▸ c.1, hr ▸ c.2⟩⟩

theorem Within.setReg (o : Nat) (v : Word) (ho : p o) (h : Within p s t) : Within p s (t.setReg o v) :=
  h.trans ⟨fun _ hq => State.reg_setReg_ne v fun e => hq (e ▸ ho), rfl, rfl, rfl, rfl, rfl, rfl, State.canon_setReg o v⟩
theorem Within.setF (x : Fld) (n : Nat) (ho : p x.off) (h : Within p s t) : Within p s (t.setF x n) := h.setReg _ _ ho
theorem Within.count (x : Fld) (n : Nat) (ho : p x.off) (h : Within p s t) : Within p s (t.count x n) := h.setReg _ _ ho
theorem Within.setBit (x : Fld) (i : Nat) (b : Bool) (ho : p x.off) (h : Within p s t) : Within p s (t.setBit x i b) :=
  h.setReg _ _ ho
theorem Within.clearMask (x : Fld) (m : Nat) (ho : p x.off) (h : Within p s t) : Within p s (t.clearMask x m) := h.setReg _ _ ho

theorem Posted.within (h : Posted s t) (hp : ∀ o, evReg o → p o) : Within p s t :=
  ⟨fun o ho => h.reg o fun e => ho (hp o e), h.mem, h.hst_mem, h.pending, h.part, h.power, h.tbp, h.canon⟩

theorem Within.post (hp : ∀ o, evReg o → p o) (c i a b d : Nat) (h : Within p s t) : Within p s (t.post c i a b d) :=
  h.trans ((State.post_posted c i a b d).within hp)
theorem Within.emit (hp : ∀ o, evReg o → p o) (e : EvRec) (h : Within p s t) : Within p s (t.emit e) :=
  h.trans ((State.emit_posted e).within hp)
theorem Within.capTriggerAll (hp : ∀ o, evReg o → p o) (n : Nat) (f : Nat → Bool) (h : Within p s t) :
    Within p s (t.capTriggerAll n f) := h.trans ((State.capTriggerAll_posted n f).within hp)

theorem Within.each {l : List Nat} {g : Nat → State → State} (h : Within p s t)
    (hg : ∀ i ∈ l, ∀ u, Within p s u → Within p s (g i u)) : Within p s (t.each l g) := State.each_ind h hg

theorem Within.ite {c : Prop} [Decidable c] (ht : Within p s t) (hu : Within p s u) : Within p s (if c then t else u) := by
  split <;> assumption

/-- Only a powered module acts; without power nothing changes. -/
theorem Within.onMain (h : Within p s t) : Within p s (s.onMain t) := by
  unfold State.onMain
  exact h.ite (Within.refl p s)

/-! ### Crossings -/

/-- `XDC_STAT3`, and what an event writes. -/
theorem State.overrun_within (x : Nat) (hx : p (0x3000 + 4 * x)) (hp : ∀ o, evReg o → p o) (h : Within p s t) :
    Within p s (t.overrun x) := by
  unfold State.overrun
  exact h.ite ((h.setF (R.XDC_STAT_OVR x) 1 hx).post hp ..)

theorem State.xEvent_within (x : Nat) (hx : p (0x3000 + 4 * x)) (hp : ∀ o, evReg o → p o) (h : Within p s t) :
    Within p s (t.xEvent x).2 := by
  unfold State.xEvent
  dsimp only
  split
  · exact h.count (R.XDC_STAT_DISC x) 1 hx
  · split
    · exact State.overrun_within x hx hp (h.count (R.XDC_STAT_LOST x) 1 hx)
    · exact .same h rfl rfl rfl rfl rfl rfl rfl

theorem State.produceAt_within (x key : Nat) (v : List Nat) (hx : p (0x3000 + 4 * x)) (h : Within p s t) :
    Within p s (t.produceAt x key v) := by
  unfold State.produceAt
  dsimp only
  split
  · exact .same (h.count (R.XDC_STAT_DISC x) 1 hx) rfl rfl rfl rfl rfl rfl rfl
  · split
    · exact .same h rfl rfl rfl rfl rfl rfl rfl
    · exact .same ((h.count (R.XDC_STAT_LOST x) 1 hx).ite h) rfl rfl rfl rfl rfl rfl rfl

theorem State.xProduce_within (x : Nat) (v : List Nat) (hx : p (0x3000 + 4 * x)) (h : Within p s t) :
    Within p s (t.xProduce x v) := State.produceAt_within x x v hx h

theorem State.report3_within (e : Option EvRec) (hp : ∀ o, evReg o → p o) (h : Within p s t) : Within p s (t.report3 e) := by
  have h3 : p (0x3000 + 4 * 3) := hp _ (.inr (.inr (.inr (.inr rfl))))
  unfold State.report3
  split
  · split
    · exact .same h rfl rfl rfl rfl rfl rfl rfl
    · exact State.overrun_within 3 h3 hp (h.count (R.XDC_STAT_LOST 3) 1 h3)
  · split
    · exact h.emit hp _
    · exact h

theorem State.post3_within (c i a b d : Nat) (hp : ∀ o, evReg o → p o) (h : Within p s t) : Within p s (t.post3 c i a b d) :=
  State.report3_within _ hp h

/-! ### Outcomes -/

/-- The outcome of a BAR0 write writes `HST_WRES` alone. -/
theorem State.wres_within (off : Nat) (st : Status) (hp : p 0x11000) (h : Within p s t) : Within p s (t.wres off st) := by
  unfold State.wres
  dsimp only
  have k := (h.setF R.HST_WRES_STATUS st.code hp).setF R.HST_WRES_OFS off hp
  exact k.ite (k.count R.HST_WRES_CNT 1 hp)

/-- What a BAR0 write's outcome shows. -/
theorem State.wres_recorded (off : Nat) (st : Status) (h : off < 2 ^ R.HST_WRES_OFS.w) : Recorded off st s (s.wres off st) := by
  have hc : st.code < 2 ^ R.HST_WRES_STATUS.w := by cases st <;> decide
  unfold State.wres
  dsimp only
  constructor
  · split
    · rw [State.f_setF_ne _ _ (by decide) (by decide), State.f_setF_self _ (by decide), Nat.mod_eq_of_lt hc]
    · rw [State.count, State.f_setF_ne _ _ (by decide) (by decide), State.f_setF_ne _ _ (by decide) (by decide),
        State.f_setF_self _ (by decide), Nat.mod_eq_of_lt hc]
  · split
    · rw [State.f_setF_self _ (by decide), Nat.mod_eq_of_lt h]
    · rw [State.count, State.f_setF_ne _ _ (by decide) (by decide), State.f_setF_self _ (by decide), Nat.mod_eq_of_lt h]
  · split
    · rw [State.f_setF_ne _ _ (by decide) (by decide), State.f_setF_ne _ _ (by decide) (by decide)]
    · rw [State.f_count_self _ (by decide), State.f_setF_ne _ _ (by decide) (by decide), State.f_setF_ne _ _ (by decide) (by decide)]
      rfl

/-- A change of the Cairn image shows `PEND` and makes a write due. -/
theorem State.cairnTouch_within (hp : p 0x10060) (h : Within p s t) : Within p s t.cairnTouch := by
  unfold State.cairnTouch
  have k := h.setF R.BVQ_CAIRN_PEND 1 hp
  dsimp only
  refine .ite (.same k rfl rfl rfl rfl rfl rfl rfl) (.ite k (.same k rfl rfl rfl rfl rfl rfl rfl))

end Sys2Proof.Machine
end

