-- ==== Sys2Proof/Tests/Slice0.lean ====
section
/-! SUPPORT. Tests: ill-formed terms that `WellFormed` refuses, and for each statement with hypotheses named theorems that
show, clause by clause, a concrete state and operands that meet them all, with what one step does there. -/

namespace Sys2Proof.Tests
open Sys2Proof.Machine
set_option Elab.async false

/-! ### Helpers -/

/-- A command answers a next state that a check accepts. -/
def runs (c : Instr) (s : State) (p : State → Bool) : Bool :=
  match exec c s with
  | .next t => p t
  | _ => false

/-- The hypotheses hold, and the command answers a next state that a check accepts. -/
def ck (h : Bool) (c : Instr) (s : State) (p : State → Bool) : Bool := h && runs c s p

/-- Memories, queue and part stay. -/
def mem (s t : State) : Bool := t.mem = s.mem && t.hst.mem = s.hst.mem && t.pending = s.pending && t.part = s.part

/-- No register outside `p` changes, nor anything of `mem`. -/
def out (p : Nat → Bool) (s t : State) : Bool := ((s.regs ++ t.regs).all fun e => p e.1 || t.reg e.1 = s.reg e.1) && mem s t

/-- Nothing of a register changes but the listed fields, nor anything of `mem`. -/
def but (l : List Fld) (s t : State) : Bool :=
  ((s.regs ++ t.regs).all fun e => t.reg e.1 &&& ~~~ fieldsMask l e.1 = s.reg e.1 &&& ~~~ fieldsMask l e.1) && mem s t

/-- The outcome of a BAR0 write. -/
def rec (off : Nat) (st : Status) (s t : State) : Bool :=
  t.f R.HST_WRES_STATUS = st.code && t.f R.HST_WRES_OFS = off &&
    t.f R.HST_WRES_CNT = if st = .done then s.f R.HST_WRES_CNT else min 255 (s.f R.HST_WRES_CNT + 1)

def ev (o : Nat) : Bool := o = 0x1130C || o = 0x11310 || (0x11400 ≤ o && o < 0x11500) || (0xD028 ≤ o && o < 0xD034) || o = 0x300C
def pg (p o : Nat) : Bool := o / 0x1000 = p
def stp (o : Nat) : Bool := pg 0 o || pg 5 o || pg 7 o || o = 0xB0E0 || o = 0x11000 || ev o

/-- A state with fields set. -/
def set (s : State) (l : List (Fld × Nat)) : State := l.foldl (fun s e => s.setF e.1 e.2) s

/-- The module in a device state. -/
def inState (n : Nat) (l : List (Fld × Nat) := []) : State := set State.reset ((R.SYS_STATE_ST, n) :: l)

/-! ### Ill-formed terms: one for each check -/

theorem test_wf_registerWrite : (Instr.registerWrite 0x102 0).wf = false := by decide
theorem test_wf_unsupportedRequest : (Instr.unsupportedRequest false 0x100 4).wf = false := by decide
theorem test_wf_shadowWrite : (Instr.shadowWrite 0x100000 0).wf = false := by decide
theorem test_wf_trainingSequence : (Instr.trainingSequenceComplete 0 0 ⟨false, 0, true⟩).wf = false := by decide
theorem test_wf_downFrame : (Instr.downFrame { f := { hdr := { body := [0, 0, 0, 0, 0, 0, 0, 0] } } }).wf = false := by decide
theorem test_wf_upFrame : (Instr.upFrame { f := { cyc := [{ body := List.replicate 258 0 }] } }).wf = false := by decide +kernel
theorem test_wf_packets : ([Instr.rd, .wr, .wrr, .parw, .bopen, .bdata, .back, .alarmPacket, .logPacket, .tracePacket, .tripRep,
    .packetRelay].all fun c => !(c { ty := 0x10, len := 8, body := [0] }).wf) = true := by decide
theorem test_wf_rdr : (Instr.rdr { ty := 256 } false).wf = false := by decide
theorem test_wf_belay : (Instr.belayStageWrite .host 0x1002 0).wf = false := by decide
theorem test_wf_descriptor : (Instr.descriptorFetch 0 { opc := 256 } false).wf = false := by decide
theorem test_wf_frame : (Instr.ethFrameReceive 5 true [0] false).wf = false := by decide
theorem test_wf_good : (Instr.ethFrameReceive 5 true [0, 0] false).wf = true := by decide

/-! ### Queue, reset, requests -/

theorem test_front : step { State.reset with pending := [.safCntClr] } = exec .safCntClr State.reset := rfl
def idles (s : State) (p : State → Bool) : Bool :=
  match step s with
  | .next t => p t
  | _ => false
theorem test_idle : idles (set State.reset [(R.CLK_STAT_COARSE, 0)]) (fun t => t.tbp = 1 && out (fun _ => false) (set State.reset [(R.CLK_STAT_COARSE, 0)]) t) = true := by decide +kernel
theorem test_idle_coarse : idles State.reset (fun t => t.tbp = 16) = true := by decide +kernel
theorem test_idle_keepalive : idles { State.reset with power := .keepalive } (fun t => t.tbp = 0 && t.bvq.tbk = 1) = true := by
  decide +kernel
theorem test_idle_off : idles { State.reset with power := .off } (fun t => t = { State.reset with power := .off }) = true := by
  decide +kernel
theorem witness_unpowered : { State.reset with power := .off }.power ≠ .main ∧ exec .trip { State.reset with power := .off } =
    .next { State.reset with power := .off } := ⟨by decide, rfl⟩
theorem witness_canon : Memory.wf State.reset.mem = true ∧ regsWf State.reset.regs = true := by decide
theorem test_reset_registers : State.reset.f R.SYS_PACE_EXT_MINPS = 0xFFF ∧ State.reset.st = 0 ∧
    State.reset.f (R.HST_RING_CFG_LOG2SZ 3) = 4 := by decide +kernel

/-! ### Clears -/

def full : State := set (inState 1) [(R.SAF_CNT_DEM, 5), (R.SAF_CNT_DACC, 7), (R.SAF_CNT_BAD, 9), (R.CE_STAT_SUSP, 1), (R.CE_CHK_PARF, 3),
  (R.ATC_MISS_ATC, 0xFF), (R.HST_ERR_DBOVF, 1), (R.HST_ERR_DMAERR, 1), (R.XDC_STAT_LOST 3, 5), (R.XDC_STAT_LOST 4, 6),
  (R.XDC_STAT_OVR 17, 1), (R.HST_WRES_CNT, 4), (R.PLT_DROP0_TRIP, 2), (⟨0xD030, 0, 32⟩, 77), (R.BVQ_BST_UNDER, 1), (R.BVQ_BST_CUT, 3)]
theorem witness_clears_saf : ck full.live .safCntClr full (fun t => t.f R.SAF_CNT_DEM = 0 && t.f R.SAF_CNT_DACC = 0 &&
  t.f R.SAF_CNT_BAD = 0 && rec 0xE090 .done full t && but ([R.SAF_CNT_DEM, R.SAF_CNT_DACC, R.SAF_CNT_BAD] ++ wresFlds) full t) = true := by
  decide +kernel
theorem test_clears_chk : ck full.live .ceChkClr full (fun t => t.f R.CE_CHK_PARF = 0 && t.f R.CE_STAT_SUSP = 0 &&
  rec 0xA014 .done full t && out (fun o => o = 0xA014 || o = 0xA008 || o = 0x11000) full t) = true := by decide +kernel
theorem test_clears_drops : ck full.live .pltDrop1Clr full (fun t => t.f R.PLT_DROP0_TRIP = 0 && t.reg 0xD030 = 0 &&
  rec 0xD02C .done full t) = true := by decide +kernel
theorem test_clears_ovr : ck full.live (.xdcOvrClear 17) full (fun t => t.f (R.XDC_STAT_OVR 17) = 0 && t.f (R.XDC_STAT_LOST 3) = 5) = true := by
  decide +kernel
theorem test_clears_under : ck full.live .bvqUnderClear full (fun t => t.f R.BVQ_BST_UNDER = 0 && t.f R.BVQ_BST_CUT = 3) = true := by
  decide +kernel
theorem witness_mask : ck full.live (.atcMissClear 0x800F) full (fun t => t.f R.ATC_MISS_ATC = 0xF0 && rec 0x5080 .done full t &&
  but (R.ATC_MISS_ATC :: wresFlds) full t) = true := by decide +kernel
theorem witness_mask_err : ck full.live (.hstErrClear 2) full (fun t => t.f R.HST_ERR_DBOVF = 1 && t.f R.HST_ERR_DMAERR = 0) = true := by
  decide +kernel
theorem witness_mask_xdc : ck full.live (.xdcClr 8) full (fun t => t.f (R.XDC_STAT_LOST 3) = 0 && t.f (R.XDC_STAT_LOST 4) = 6 &&
  rec 0x3080 .done full t) = true := by decide +kernel

/-! ### Device states -/

def armed : State := inState 2 [(R.GRD_SP_SRC, 0), (R.GRD_STAT_CONNOK, 1), (R.SAF_STAT_TESTOK, 1), (R.CE_STAT_LOADED, 1)]
theorem witness_connect : ck (armed.live && armed.sys.arm = none && armed.mayConnect) .connect armed (fun t => t.st = 3 &&
  t.f R.SYS_STATE_PREV = 2 && rec 0x104 .done armed t && out stp armed t) = true := by decide +kernel
def connected : State := inState 3 [(R.CE_STAT_LOADED, 1), (R.SAF_STAT_TESTOK, 1)]
theorem witness_stop : ck (connected.inSt [2, 3, 4]) .stop connected (fun t => t.st = 1 && t.f R.SYS_STATE_PREV = 3 &&
  rec 0x104 .done connected t && out stp connected t) = true := by decide +kernel
theorem witness_trip : ck (connected.inSt [1, 2, 3, 4] && !connected.heldStandby) .trip connected (fun t => t.st = 5 &&
  t.f R.SYS_STATE_PREV = 3 && t.sys.causes = [(0x20, 1)] && rec 0x104 .done connected t && out stp connected t) = true := by
  decide +kernel
theorem witness_trip_boot : ck (State.reset.st = 0) .trip State.reset (fun t => t.st = 0 && t.sys.bootTrip && t.sys.causes = [(0x20, 1)] &&
  rec 0x104 .done State.reset t && out stp State.reset t) = true := by decide +kernel
def tripped : State := { inState 5 [(R.SYS_TCAUSE_FIRST, 0x20), (R.CE_STAT_LOADED, 1)] with sys := { causes := [(0x20, 1)] } }
theorem witness_clear : ck (tripped.st = 5 && tripped.sys.causes.all fun c => tripped.causeCleared c) .clear tripped (fun t =>
  t.st = 1 && t.sys.causes = [] && t.f R.SYS_TCAUSE_FIRST = 0 && rec 0x104 .done tripped t && out stp tripped t) = true := by
  decide +kernel
def safeSt : State := { inState 6 [(R.SAF_STAT_SAFE, 0)] with sys := { causes := [(0x03, 0)] } }
theorem witness_clear_safe : ck (safeSt.st = 6 && safeSt.f R.SAF_STAT_SAFE = 0) .clear safeSt (fun t => t.st = 5 &&
  rec 0x104 .done safeSt t && out stp safeSt t) = true := by decide +kernel
theorem witness_refused : (!(inState 1).mayConnect && !(inState 1).inSt [2, 3, 4] && !(inState 1).mayArm && !connected.quiet) = true ∧
    ([Instr.connect, .stop, .arm].all fun c => runs c (inState 1) fun t => rec 0x104 .state (inState 1) t && but wresFlds (inState 1) t) = true ∧
    runs .reset connected (fun t => rec 0x104 .state connected t && but wresFlds connected t) = true := by decide +kernel
def trippedHeld : State := set { tripped with sys := { causes := [(0x01, 3)] } } [(R.TRP_GRP_STAT_LATCH 3, 1)]
theorem witness_refused_clear : ck (trippedHeld.st = 5 && !(trippedHeld.sys.causes.all fun c => trippedHeld.causeCleared c)) .clear
  trippedHeld (fun t => rec 0x104 .state trippedHeld t && but wresFlds trippedHeld t) = true := by decide +kernel
def standby : State := inState 1 [(R.CE_STAT_LOADED, 1), (R.SAF_STAT_CONF, 1), (R.SYS_CTL_AUTO, 1)]
theorem witness_arm : ck (standby.mayArm && standby.saf.test = 0) .arm standby (fun t => t.saf.test = 1 && t.sys.arm = some { who := .host } &&
  t.st = 1 && t.reg 0x11000 = standby.reg 0x11000 && mem standby t) = true := by decide +kernel
theorem witness_auto_arm : ck (standby.f R.SYS_CTL_AUTO = 1 && standby.mayArm) .automaticRequest standby (fun t =>
  t.saf.test = 1 && t.sys.arm = some { who := .auto } && mem standby t) = true := by decide +kernel
def autoArmed : State := set armed [(R.SYS_CTL_AUTO, 1)]
theorem witness_auto_connect : ck (autoArmed.mayConnect) .automaticRequest autoArmed (fun t => t.st = 3 && out stp autoArmed t) = true := by
  decide +kernel
def gridTripped : State :=
  { inState 5 [(R.SYS_CTL_GRIDRST, 1), (R.SYS_CTL_RDLY, 1), (R.SYS_CTL_RETRY, 2)] with
    tbp := 2 * perSec, sys := { causes := [(0x14, 0)], contSince := some perSec, autoClears := [0] } }
theorem witness_auto_clear : ck (perSec + gridTripped.f R.SYS_CTL_RDLY * perSec ≤ gridTripped.tbp) .automaticClear gridTripped (fun t =>
  t.st = 1 && t.sys.causes = [] && t.sys.autoClears.contains (2 * perSec) && out stp gridTripped t) = true := by decide +kernel
def onePair : State := (set (inState 3) [(R.PWM_PAIR_CFG_MODE 0, 1)]).setPair 0 { up := true }
def closing : State := { onePair with sys := { closeAt := some 5 }, tbp := 5 }
theorem witness_tclose : ck (closing.pairOn 0) .tcloseExpiry closing (fun t => t.sys.closeAt = none && (t.pair 0).blocked &&
  out (fun _ => false) closing t) = true := by decide +kernel

def isReset (s t : State) : Bool := (t.regs.all fun e => bivouacReg e.1 || e.1 = 0x110 || t.reg e.1 = RegMap.resetWord e.1) && t.mem = [] &&
  t.tbp = 0 && t.hst.rings = [] && t.pending = s.pending && t.part = s.part && t.hst.mem = s.hst.mem
theorem witness_reset : ck (tripped.quiet && !tripped.heldStandby) .reset tripped (fun t => t.live && t.st = 0 && t.f R.SYS_RSTC_CAUSE = 3 &&
  isReset tripped t) = true := by decide +kernel
theorem witness_nrst : ck connected.live (.nrstAssert 10000) connected (fun t => !t.live && !t.sys.nrst && t.f R.SYS_RSTC_CAUSE = 1 &&
  isReset connected t) = true ∧ runs (.nrstAssert 999) connected (fun t => t = connected) = true := by decide +kernel
def down : State := { State.reset with power := .keepalive, sys := { nrst := false } }
theorem witness_nrst_release : ck (!down.live && down.sys.railsOk && !down.bvq.held) .nrstRelease down (fun t => t.live && t.tbp = 0 &&
  t.sys.nrst && t.f R.BVQ_STAT_SRC = 0 && out (· = 0x10000) down t) = true := by decide +kernel
theorem witness_rail : ck onePair.live (.railOutOfRange false) onePair (fun t => !t.sys.railsOk && !(t.pair 0).up && t.st = 3 &&
  mem onePair t) = true := by decide +kernel
def railDown : State := { State.reset with power := .keepalive, sys := { railsOk := false } }
theorem witness_rail_back : ck (!railDown.live && railDown.sys.nrst) (.railOutOfRange true) railDown (fun t => t.live && t.sys.railsOk &&
  t.tbp = 0 && out (· = 0x10000) railDown t) = true := by decide +kernel
def booted : State := set { State.reset with sys := { restored := true } } [(R.SYS_STATE_WAIT, 0)]
theorem witness_boot : ck (booted.st = 0 && booted.causeFree && booted.f R.SYS_STATE_WAIT = 0) .bootComplete booted (fun t => t.st = 1 &&
  mem booted t) = true ∧ runs .bootComplete { booted with sys := { restored := true, bootTrip := true } } (fun t => t.st = 5) = true := by
  decide +kernel
def bootFault : State := { booted with saf := { a := { dem := 1 } } }
theorem witness_boot_safe : ck (!bootFault.causeFree) .bootComplete bootFault (fun t => t.st = 6 && mem bootFault t) = true := by
  decide +kernel

/-! ### Clocks, plant time, crossings -/

theorem witness_pace : State.reset.live = true ∧ State.reset.sys.arm = none := by decide
theorem witness_refWindow : ck (inTolerance true (2 ^ 32) && !inTolerance true 7) (.refMonitorWindow true (2 ^ 32)) { connected with clk := { good := 9 } } (fun t => t.clk.good = 10 &&
  t.regs = connected.regs && mem connected t) = true ∧
  runs (.refMonitorWindow false 7) { connected with clk := { good := 9 } } (fun t => t.clk.good = 0) = true := by decide +kernel
def locked : State := set { inState 3 with sys := { restored := true } } [(R.CLK_STAT_REFOK, 1), (R.CLK_STAT_ONOSC, 0), (R.CLK_STAT_LOCK, 7), (R.CLK_STAT_STABLE, 7),
  (R.CLK_STAT_COARSE, 0), (R.PLT_TSTAT_OSC, 0), (R.CLK_REF_OSCACT, 0)]
theorem witness_refLost : ck (locked.f R.CLK_STAT_REFOK = 1) .refLost locked (fun t => t.f R.CLK_STAT_REFOK = 0 && t.f R.CLK_STAT_ONOSC = 1 &&
  t.f R.CLK_STAT_COARSE = 1 && t.f R.CLK_STAT_LOCK = 0 && t.f R.CLK_STAT_STABLE = 0 && t.clk.bypass = 7 && t.f R.PLT_TSTAT_OSC = 1 &&
  t.f R.PLT_TSTAT_UNSYNC = 1 && t.st = 5 && mem locked t) = true := by decide +kernel
theorem test_window_lost : runs (.refMonitorWindow true 7) locked (fun t => t.f R.CLK_STAT_REFOK = 0 && t.st = 5 && t.f R.CLK_STAT_COARSE = 1) = true := by
  decide +kernel
theorem test_refLost_oscact : ck true .refLost (set locked [(R.CLK_REF_OSCACT, 1)]) (fun t => t.st = 3) = true := by decide +kernel
def refBack : State := { set locked [(R.CLK_STAT_REFOK, 0), (R.CLK_STAT_ONOSC, 1), (R.PLT_TSTAT_OSC, 1)] with clk := { good := 10 }, sys := { restored := true } }
theorem witness_refOk : ck (refBack.f R.CLK_STAT_REFOK = 0 && refBack.clk.good = 10) .refOk refBack (fun t => t.f R.CLK_STAT_REFOK = 1 &&
  t.f R.CLK_STAT_ONOSC = 0 && t.f R.PLT_TSTAT_OSC = 0 && out (fun o => pg 1 o || pg 0xD o || ev o) refBack t) = true := by decide +kernel
def pllOff : State := { set locked [(R.CLK_STAT_LOCK, 5), (R.CLK_STAT_STABLE, 4)] with tbp := perMs, sys := { restored := true } }
theorem witness_pllLock : ck (pllOff.sys.restored && pllOff.f R.CLK_STAT_REFOK = 1 && !pllOff.bitAt R.CLK_STAT_LOCK 1) (.pllLock 1) pllOff (fun t =>
  t.f R.CLK_STAT_LOCK = 7 && Tab.get (fun _ => 0) t.clk.lockAt 1 = perMs && but [R.CLK_STAT_LOCK] pllOff t) = true := by decide +kernel
theorem witness_pllStable : ck (pllOff.bitAt R.CLK_STAT_LOCK 0 && !pllOff.bitAt R.CLK_STAT_STABLE 0 && (0 + perMs ≤ pllOff.tbp : Bool))
  (.pllStableLock 0) pllOff (fun t => t.f R.CLK_STAT_STABLE = 5 && out (fun o => pg 1 o || pg 0xC o) pllOff t) = true := by decide +kernel
def portsUp : State := set locked [(R.LNK_PORT_ST 0, 3), (R.LNK_PORT_ST 5, 3), (R.CLK_LOSS_PLLB, 255)]
theorem witness_pllUnlock : ck (portsUp.bitAt R.CLK_STAT_LOCK 1) (.pllUnlock 1) portsUp (fun t => t.f R.CLK_STAT_LOCK = 5 &&
  t.f R.CLK_STAT_STABLE = 5 && t.f R.CLK_LOSS_PLLB = 255 && t.clk.bypass.testBit 1 && t.f (R.LNK_PORT_ST 0) = 1 &&
  t.f (R.LNK_PORT_ST 5) = 3 && mem portsUp t) = true := by decide +kernel
theorem test_pllUnlock_coarse : runs (.pllUnlock 0) portsUp (fun t => t.f R.CLK_STAT_COARSE = 1 && t.f (R.LNK_PORT_ST 0) = 3) = true := by
  decide +kernel
def coarseSt : State := { set locked [(R.CLK_STAT_COARSE, 1)] with clk := { bypass := 7 } }
theorem witness_coarseExit : ck (coarseSt.returnDue && coarseSt.bitAt R.CLK_STAT_STABLE 0) .coarseExit coarseSt (fun t =>
  t.f R.CLK_STAT_COARSE = 0 && t.clk.bypass = 6 && t.part = coarseSt.part) = true := by decide +kernel
theorem test_ckoChange : runs (.ckoChange 2) (set connected [(R.CLK_CKO_DIV 2, 9)]) (fun t => Tab.get (fun _ => 0) t.clk.cko 2 =
  ((set connected [(R.CLK_CKO_DIV 2, 9)]).reg 0x1018).toNat) = true := by decide +kernel

def servoOn : State := { set (inState 1) [(R.TIM_SRVSRC_P0, 3), (R.PLT_TSTAT_SRC, 3), (R.CLK_STAT_COARSE, 0), (R.PLT_TSTAT_LOCKED, 1)] with
  tbp := 400000000, tim := { fresh := false, src := [(3, { last := some 5, valid := true })] }, sys := { restored := true } }
theorem witness_hostOffset : ck (servoOn.f R.TIM_SRVSRC_P0 = 3 && servoOn.f R.PLT_TSTAT_SRC = 3 && (servoOn.srcMeas 3).last ≠ none &&
  (servoOn.f R.TIM_SRV2_STEPTH * 1000 * 2 ^ 16 < (2000000000 * 2 ^ 16 : Nat) : Bool)) (.hostOffsetSubmit 2) servoOn (fun t =>
  t.srcMeas 3 = { last := some 400000000, valid := true } && rec 0x2034 .done servoOn t && t.tim.ptb = 3 * second &&
  t.f R.PLT_TSTAT_LOCKED = 0 && t.f R.TIM_LASTOFS_VAL = 0x7FFFFFFF && out (fun o => pg 2 o || pg 0xD o || o = 0x11000 || ev o) servoOn t) = true := by
  decide +kernel
theorem witness_pps : ck ((set servoOn [(R.PLT_TSTAT_LOCKED, 0)]).f R.PLT_TSTAT_LOCKED = 0) .ppsEdge (set servoOn [(R.PLT_TSTAT_LOCKED, 0)])
  (fun t => t.srcMeas 4 = { last := some 400000000, valid := true }) = true := by decide +kernel
theorem witness_timeout : ck ((5 : Nat) + servoOn.validFor 3 ≤ 100000000000) (.servoSourceTimeout 3) { servoOn with tbp := 100000000000 } (fun t =>
  !(t.srcMeas 3).valid && t.f R.PLT_TSTAT_SRC = 0 && t.f R.PLT_TSTAT_LOCKED = 0) = true := by decide +kernel
def locking : State := { set servoOn [(R.PLT_TSTAT_LOCKED, 0), (R.PLT_TSTAT_OSC, 0)] with tim := { inLock := 16 } }
theorem witness_servoLock : ck (locking.f R.PLT_TSTAT_SRC ≠ 0) .servoLock locking (fun t => t.f R.PLT_TSTAT_LOCKED = 1 &&
  t.f R.PLT_TSTAT_UNSYNC = 0 && but [R.PLT_TSTAT_LOCKED, R.PLT_TSTAT_UNSYNC] locking t) = true := by decide +kernel
theorem witness_servoLoss : ck (servoOn.f R.PLT_TSTAT_LOCKED = 1) .servoLockLoss { servoOn with tim := { outLock := 4 } } (fun t =>
  t.f R.PLT_TSTAT_LOCKED = 0 && t.f R.PLT_TSTAT_UNSYNC = 1) = true := by decide +kernel
def ptcOne : State := { set connected [(R.TIM_PTC_CFG_MODE 4, 1)] with tim := { ptc := [(4, { next := some 0 })] }, sys := { own := [(0x1004, 0xA204)] } }
theorem witness_match_once : ck (ptcOne.ptcDue 4) (.ptcMatch 4) ptcOne (fun t => t.f (R.TIM_PTC_CFG_MODE 4) = 0 && t.owner 0x1004 = 0 &&
  but [R.TIM_PTC_CFG_MODE 4, R.BVQ_CAIRN_PEND] ptcOne t) = true := by decide +kernel
def ptcTwo : State := { set connected [(R.TIM_PTC_CFG_MODE 4, 2), (R.TIM_PTC_IVL_VAL 4, 5000)] with tbp := 10000, tim := { ptc := [(4, { next := some 0 })] } }
theorem witness_match_periodic : ck (ptcTwo.ptcDue 4) (.ptcMatch 4) ptcTwo (fun t => (t.ptc 4).next = some (30000 * 2 ^ 41) &&
  out (fun _ => false) ptcTwo t) = true := by decide +kernel
def ptcThree : State := { set connected [(R.TIM_PTC_CFG_MODE 4, 3)] with tim := { ptc := [(4, { placed := [0, 9] })] } }
theorem witness_match_placed : ck (ptcThree.ptcDue 4) (.ptcMatch 4) ptcThree (fun t => (t.ptc 4).placed = [9]) = true := by decide +kernel

def fifoSt (n : Nat) (r : Bool) : State :=
  { connected with xdc := { fifo := [(fifoKey 5 3, List.replicate n 7), (fifoKey 13 0, List.replicate n 7)], x := if r then [(5, { inReset := true })] else [] } }
theorem witness_fifo_room : ck (isFifo 5 && !(fifoSt 31 false).fifoFull 5 3) (.fifoWordTransfer 5 3 (.enter 9)) (fifoSt 31 false) (fun t =>
  t.fifo 5 3 = List.replicate 31 7 ++ [9] && t.regs = connected.regs && mem connected t) = true := by decide +kernel
theorem witness_fifo_clocked : ck ((fifoSt 32 false).fifoFull 5 3 && clockedFifo 5 3) (.fifoWordTransfer 5 3 (.enter 9)) (fifoSt 32 false) (fun t =>
  t.fifo 5 3 = List.replicate 32 7 && t.f (R.XDC_STAT_LOST 5) = 1 && t.f (R.XDC_STAT_OVR 5) = 1 && mem connected t) = true := by decide +kernel
theorem witness_fifo_self : ck ((fifoSt 64 false).fifoFull 13 0 && !clockedFifo 13 0 && isFifo 13) (.fifoWordTransfer 13 0 (.enter 9)) (fifoSt 64 false)
  (fun t => t = fifoSt 64 false) = true := by decide +kernel
theorem witness_fifo_reset : ck ((fifoSt 0 true).xing 5).inReset (.fifoWordTransfer 5 3 (.enter 9)) (fifoSt 0 true) (fun t =>
  t.f (R.XDC_STAT_DISC 5) = 1 && but [R.XDC_STAT_DISC 5] (fifoSt 0 true) t) = true := by decide +kernel
theorem witness_fifo_take : ck ((fifoSt 2 false).fifo 5 3 = [7, 7]) (.fifoWordTransfer 5 3 .take) (fifoSt 2 false) (fun t => t.fifo 5 3 = [7] &&
  Tab.get (fun _ => 0) t.xdc.took (fifoKey 5 3) = 7 && mem connected t) = true := by decide +kernel
def mbox (x : Nat) : State := { connected with xdc := { x := [(x, { flight := some [1], pend := some [2] })] } }
theorem witness_mailbox : ck (isMailbox 15) (.mailboxTransfer 15) (mbox 15) (fun t => (t.xing 15).dst = [1] && (t.xing 15).flight = some [2] &&
  (t.xing 15).pend = none && t.regs = connected.regs && mem connected t) = true := by decide +kernel
theorem witness_mailbox0 : ck (isMailbox 0) (.mailboxTransfer 0) (mbox 0) (fun t => (t.xing 0).dst = [1] && (t.xing 0).flight = some [1]) = true := by
  decide +kernel
def evts : State := { connected with xdc := { x := [(2, { cnt := 3 }), (118, { cnt := 2 })], rep3 := [none] } }
theorem witness_event2 : ck (!(evts.xing 2).inReset && (evts.xing 2).got = 0) (.eventHandshake 2) evts (fun t => (t.xing 2).got = 3 && (t.xing 2).cnt = 0 &&
  t.regs = evts.regs && mem evts t) = true := by decide +kernel
theorem witness_event3 : ck (evts.f R.HST_EVR_CFG_EN = 0) (.eventHandshake 3) evts (fun t => t.xdc.rep3 = [] && out ev evts t) = true := by
  decide +kernel
theorem witness_event4 : ck (!(evts.xing 4).inReset && (List.range 19).all fun ch => (evts.xing (100 + ch)).got = 0) (.eventHandshake 4) evts (fun t => (t.xing 118).got = 2 && (t.xing 118).cnt = 0 &&
  t.regs = evts.regs) = true := by decide +kernel
def resync : State := { connected with xdc := { x := [(5, { inReset := true, resync := true })], fifo := [(fifoKey 5 31, [1, 2])] } }
theorem witness_resync : ck ((resync.xing 5).resync && resync.inFlight 5 = 2) (.xdcResync 5) resync (fun t => !(t.xing 5).inReset &&
  !(t.xing 5).resync && t.f (R.XDC_STAT_DISC 5) = 2 && t.f (R.XDC_STAT_RSYNC 5) = 1 && t.fifo 5 31 = [] &&
  out (fun o => o = 0x3014 || ev o) resync t) = true := by decide +kernel

/-! ### Auxiliary timers, gate drives, trips and comparators -/

def atcSt (a : AtcSt) : State := { connected with tbp := 1000, atc := [(15, a)] }
theorem witness_atc_open : ck true (.atcWindowOpen 15) (atcSt { pend := some 1000, pFn := 1, pTgt := 3, pClose := 1600 }) (fun t =>
  (t.atcOf 15).pend = none && (t.atcOf 15).opened = some 1000 && (t.atcOf 15).close = some 1600 && (t.atcOf 15).fn = 1 &&
  out (fun o => o = 0x3010 || ev o) (atcSt {}) t) = true := by decide +kernel
theorem witness_atc_trigger : ck true (.atcWindowOpen 15) (atcSt { pend := some 7, pFn := 2, pTgt := 18 }) (fun t =>
  (t.atcOf 15).opened = some 1000 && (t.xing 118).cnt = 1 && out (fun o => o = 0x3010 || ev o) (atcSt {}) t) = true := by decide +kernel
theorem test_atc_lost : runs (.atcWindowOpen 15) { atcSt { pend := some 7, pFn := 2, pTgt := 18 } with xdc := { x := [(118, { cnt := 15 })] } } (fun t =>
  (t.xing 118).cnt = 15 && t.f (R.XDC_STAT_LOST 4) = 1 && t.f (R.XDC_STAT_OVR 4) = 1) = true := by decide +kernel
theorem witness_atc_close : ck true (.atcWindowClose 15) (atcSt { opened := some 1, close := some 1000, fn := 1, tgt := 3 }) (fun t =>
  (t.atcOf 15).opened = none && mem (atcSt {}) t) = true := by decide +kernel
theorem witness_atc_max : ck true (.blankingMaxExpiry 15) (set (atcSt { opened := some 1000, fn := 1, tgt := 3 }) [(R.TRP_GRP_BLK_MAX 3, 0)]) (fun t =>
  (t.atcOf 15).spent && mem (atcSt {}) t) = true := by decide +kernel

def gdiSt (mode : Nat) (g : GdfSt) (flt : Nat) : State :=
  { set onePair [(R.GDI_LEG_CFG_GDFM 0, mode), (R.GDI_GDFL_FLT, flt)] with tbp := 2000, trp := { gdf := [(0, g)] } }
theorem witness_gdf_plain : ck (!(gdiSt 1 {} 0).gdfFault 0) (.gdfLandChange 0 false) (gdiSt 1 {} 0) (fun t => (t.gdf 0).low &&
  (t.gdf 0).since = 2000 && t.gdfFault 0 && (t.tsrc 40).raw && mem (gdiSt 1 {} 0) t) = true := by decide +kernel
theorem witness_gdf_report : let s := gdiSt 2 { low := true, since := 1832 } 0
    (s.gdf 0).low = true ∧ s.gdfMode 0 = 2 ∧ s.gdfFault 0 = false ∧ 168 ≤ s.tbp - (s.gdf 0).since ∧ s.tbp - (s.gdf 0).since ≤ 840 := by
  decide +kernel
theorem witness_gdf_short : let s := gdiSt 2 { low := true, since := 1849 } 0
    (s.gdf 0).low = true ∧ s.gdfMode 0 = 2 ∧ s.gdfFault 0 = false ∧ s.tbp - (s.gdf 0).since < 152 := by decide +kernel
theorem witness_gdf_release : ck ((gdiSt 2 {} 1).gdfFault 0) (.gdfLandChange 0 true) (gdiSt 2 { low := true } 1) (fun t => !t.gdfFault 0) = true := by
  decide +kernel
theorem witness_gdf_assert : ck ((gdiSt 2 {} 0).gdfMode 0 = 2) (.gdfFaultAssert 0) (gdiSt 2 { low := true, since := 1240 } 0) (fun t =>
  t.gdfFault 0 && mem (gdiSt 2 {} 0) t) = true := by decide +kernel
def softSt : State := { set ((onePair.setPair 0 { up := true, soft := some 1000 }).setPair 1 { lo := true, soft := some 9 })
  [(R.PWM_PAIR_CFG_MODE 1, 1), (R.GDI_STAGE0_STG, 3)] with tbp := 1000 }
theorem witness_soft : ck (softSt.stage 0 = 3 && softSt.pairOn 0 && softSt.stage 1 = 0) (.softOffStage 0 3) softSt (fun t => !(t.pair 0).up &&
  (t.pair 0).soft = none && t.pair 1 = softSt.pair 1 && out (· = 0x5080) softSt t) = true := by decide +kernel

def groupSt (l : List (Fld × Nat)) (src : Tab TsrcSt := []) : State :=
  { set onePair ([(R.TRP_SRC_CFG_EN 87, 1), (R.TRP_SRC_GRP_MASK 87, 0x8001), (R.TRP_GRP_CFG_EN 15, 1), (R.TRP_GRP_CFG_MODE 15, 1),
    (R.TRP_GRP_CFG_LEGS 15, 1), (R.TRP_GRP_CFG_BLK 15, 0), (R.GDI_GDFH_FLT, 0x8000)] ++ l) with tbp := 5000, trp := { src := src } }
theorem witness_source : ck ((groupSt []).gdfFault 47 && (groupSt []).groupPairs 15 = [0]) (.tripSourceAssert 87) (groupSt []) (fun t =>
  (t.tsrc 87).raw && t.srcOn 87 && t.f (R.TRP_GRP_STAT_LATCH 15) = 1 && t.f (R.TRP_GRP_STAT_FIRST 15) = 87 &&
  !(t.pair 0).up && !(t.pair 0).lo && t.st = 3 && mem (groupSt []) t) = true := by decide +kernel
theorem test_source_block : runs (.tripSourceAssert 87) (groupSt [(R.TRP_GRP_CFG_BLK 15, 1)]) (fun t => t.st = 5 &&
  t.f R.SYS_TCAUSE_FIRST = 1 && t.f R.SYS_TCAUSE_DET = 15) = true := by decide +kernel
theorem witness_source_filter : ck true (.tripSourceAssert 87) (groupSt [(R.TRP_SRC_CFG_FLT 87, 9)]) (fun t => (t.tsrc 87).raw &&
  !t.srcOn 87 && t.f (R.TRP_GRP_STAT_LATCH 15) = 0) = true := by decide +kernel
theorem witness_release : ck true (.tripSourceRelease 15) (set onePair [(R.TRP_SRC_CFG_ACT 15, 1)]) (fun t => !t.srcOn 15 &&
  out (pg 7) (set onePair [(R.TRP_SRC_CFG_ACT 15, 1)]) t) = true := by decide +kernel
def filterSt : State := groupSt [(R.TRP_SRC_CFG_FLT 87, 500)] [(87, { raw := true, since := 4500 })]
theorem witness_filter : ck ((filterSt.tsrc 87).since + filterSt.dur 500 ≤ 5000 || filterSt.coarse) (.tripFilterExpiry 87)
  (set filterSt [(R.CLK_STAT_COARSE, 0)]) (fun t => t.srcOn 87 && t.f (R.TRP_GRP_STAT_LATCH 15) = 1 && mem filterSt t) = true := by
  decide +kernel
def latchedSt (act : Nat) : State := groupSt [(R.TRP_SRC_CFG_ACT 87, act), (R.TRP_GRP_STAT_LATCH 15, 1), (R.TRP_GRP_STAT_FIRST 15, 87),
  (R.TRP_GRP_STAT_MULTI 15, 1)]
theorem witness_latch_clear : ck (!(latchedSt 0).groupAsserted 15) (.latchClear 15) (latchedSt 0) (fun t => t.reg (0x7308 + 240) = 0 &&
  rec (0x7308 + 240) .done (latchedSt 0) t) = true := by decide +kernel
theorem witness_latch_keep : ck ((latchedSt 1).groupAsserted 15) (.latchClear 15) (latchedSt 1) (fun t =>
  t.f (R.TRP_GRP_STAT_LATCH 15) = 1 && rec (0x7308 + 240) .state (latchedSt 1) t && but wresFlds (latchedSt 1) t) = true := by
  decide +kernel

def cmpSt (rdy : Nat) : State := set connected [(R.CMP_CFG_EN 23, 1), (R.CMP_THR_HI 23, 600), (R.CMP_THR_LO 23, 100),
  (R.CMP_CFG_HYS 23, 3), (R.CMP_RDY_RDY, rdy)]
/-- How far an input lies above (`true`) or below the threshold of an output, beyond its error. -/
def beyond (up hi : Bool) (x : Int) : Int :=
  let s := cmpSt 0
  let l := codeSpan (s.dacCodes 23 hi)
  if up then x - (s.cmpTh 23 l.2 + s.cmpErr 23) else s.cmpTh 23 l.1 - s.cmpErr 23 - x
theorem witness_cmp : (cmpSt 0x800000).bitAt R.CMP_RDY_RDY 23 = true ∧ (cmpSt 0).bitAt R.CMP_RDY_RDY 23 = false ∧
    hysBounds ((cmpSt 0x800000).cmpHys 23).toNat = (76800000, 115200000) ∧ (cmpSt 0).cmpInput 23 5900000000 7 = 5900000000 ∧
    0 < beyond true true 5900000000 ∧ 0 < beyond false true (5700000000 + 115200000) ∧
    0 < beyond true true (5820000000 + 76800000) ∧ 0 < beyond false true 5820000000 ∧
    0 < beyond false false 900000000 ∧ 0 < beyond true false (1130000000 - 115200000) ∧
    0 < beyond false false (1010000000 - 76800000) ∧ 0 < beyond true false 1010000000 := by decide +kernel

/-! ### PWM -/

def fine : State := set onePair [(R.CLK_STAT_COARSE, 0), (R.PWM_PAIR_CFG_CAR 0, 15), (R.PWM_PAIR_CFG_RPT 0, 0)]
def carSt (c : CarSt) (l : List (Fld × Nat)) : State := { (set fine l).setCar 15 c with tbp := 1000 }
def carDone (s t : State) (idx : Nat) : Bool := t.f (R.PWM_CAR_EFF_RUN 15) = 1 && t.f (R.PWM_CAR_EFF_PER 15) = s.period 15 s.coarse &&
  t.f (R.PWM_CAR_EFF_DIDX 15) = idx && (t.car 15).start = 1000 && (t.car 15).next = 1000 + s.period 15 s.coarse * s.unit
theorem witness_car_first : ck (!(carSt { starting := true, next := 1000 } []).carOn 15) (.carrierPeriodStart 15)
  (carSt { starting := true, next := 1000 } []) (fun t => carDone fine t 0 && !(t.car 15).starting) = true := by decide +kernel
def carRun (l : List (Fld × Nat)) (st : Nat) : State := carSt { next := 1000 } ([(R.PWM_CAR_EFF_RUN 15, 1), (R.PWM_CAR_EFF_PER 15, 800),
  (R.PWM_CAR_EFF_DIDX 15, 15), (R.SYS_STATE_ST, st)] ++ l)
theorem witness_car_next : ck ((carRun [] 3).carOn 15) (.carrierPeriodStart 15) (carRun [] 3) (fun t => carDone fine t 0 && t.part = fine.part) = true := by
  decide +kernel
theorem witness_car_coarse : ck ((carRun [(R.CLK_STAT_COARSE, 1), (R.PWM_CAR_EFF_COARSE 15, 1)] 3).coarse) (.carrierPeriodStart 15)
  (carRun [(R.CLK_STAT_COARSE, 1), (R.PWM_CAR_EFF_COARSE 15, 1)] 3) (fun t => carDone (set fine [(R.CLK_STAT_COARSE, 1)]) t 15) = true := by
  decide +kernel
theorem witness_car_off : ck (!(carRun [] 1).stateAllows 0) (.carrierPeriodStart 15) (carRun [] 1) (fun t => carDone fine t 0 &&
  !(t.pair 0).up && !(t.pair 0).lo) = true := by decide +kernel
def carStop : State := carSt { next := 1000, stopPend := true } [(R.PWM_CAR_EFF_RUN 15, 1), (R.PWM_CAR_EFF_PER 15, 800)]
theorem witness_car_stop : ck (carStop.carOn 15) (.carrierPeriodStart 15) carStop (fun t => t.f (R.PWM_CAR_EFF_RUN 15) = 0 &&
  t.f (R.PWM_CAR_EFF_PER 15) = 0 && t.car 15 = {} && !(t.pair 0).up && !(t.pair 0).lo) = true := by decide +kernel
def peakSt : State := carSt { start := 0, next := 2000 } [(R.PWM_CAR_EFF_RUN 15, 1), (R.PWM_CAR_EFF_PER 15, 2000), (R.TIM_PTC_CFG_MODE 3, 3),
  (R.TIM_PTC_CFG_CAR 3, 15), (R.TIM_PTC_CFG_CEVT 3, 2), (R.ATC_CFG_FN 7, 1), (R.ATC_CFG_SRC 7, 63), (R.ATC_CFG_EDGE 7, 2), (R.ATC_TIME_DLY 7, 9)]
theorem witness_peak : ck (peakSt.peakAt 15 ≤ 1000) (.carrierPeak 15) peakSt (fun t => (t.car 15).peaked &&
  (t.ptc 3).placed.length = 1 && (t.atcOf 7).pend = some 1009 && out (· = 0x5080) peakSt t) = true := by decide +kernel
def slotSt (next : Nat) (sh : Bool) : State := carSt { next := next, slot := { regs := [(0x4004, 5)], shadow := sh } } [(R.PWM_CAR_EFF_RUN 15, 1)]
theorem witness_latch : ck ((slotSt 1002 true).carUnit 15 = 1) (.latchPoint 15) (slotSt 1002 true) (fun t =>
  t.car 15 = { next := 1002, taken := some { regs := [(0x4004, 5)], shadow := true } } && t.regs = (slotSt 1002 true).regs) = true := by
  decide +kernel
theorem witness_latch_wait : ck true (.latchPoint 15) (slotSt 1003 true) (fun t => t = slotSt 1003 true) = true := by decide +kernel
def midSt : State := carSt { next := 2000, taken := some { regs := [(0x4104 + 16 * 23, 77)] } } [(R.PWM_CAR_EFF_RUN 15, 1),
  (R.PWM_CAR_EFF_PER 15, 2000), (R.PWM_CAR_CFG_MODE 15, 3), (R.PWM_CAR_CFG_UPD 15, 3)]
theorem witness_mid : ck (midSt.peakAt 15 ≤ 1000) (.carrierMidBoundary 15) midSt (fun t => t.reg (0x4104 + 16 * 23) = 77 &&
  (t.car 15).taken = none && out (fun o => o = 0x4104 + 16 * 23 || o = 0x4108 + 16 * 23 || o = 0x5080) midSt t) = true := by decide +kernel

def edgeSt (p : PairSt) : State := { (set fine [(R.PWM_PAIR_DT_DTR 0, 40), (R.PWM_PAIR_DT_DTF 0, 30), (R.PWM_CAR_EFF_RUN 15, 1)]).setPair 0 p with tbp := 1000 }
theorem witness_rise : ck ((edgeSt {}).dtr 0 = 40) (.pwmEdge 0 true) (edgeSt { rise := some 1000, lo := true }) (fun t => (t.pair 0).w &&
  (t.pair 0).rise = none && !(t.pair 0).up && !(t.pair 0).lo && (t.pair 0).wait = some (true, 1040) && out (· = 0x5080) (edgeSt {}) t) = true := by
  decide +kernel
theorem test_rise_off : runs (.pwmEdge 0 true) (edgeSt { rise := some 1000, offLo := some 1000 }) (fun t => (t.pair 0).wait = some (true, 1040)) = true := by
  decide +kernel
theorem witness_fall : ck ((edgeSt {}).dtf 0 = 30) (.pwmEdge 0 false) (edgeSt { fall := some 1000, up := true, w := true }) (fun t => !(t.pair 0).w &&
  !(t.pair 0).up && !(t.pair 0).lo && (t.pair 0).wait = some (false, 1030) && out (· = 0x5080) (edgeSt {}) t) = true := by decide +kernel
theorem witness_dead : ck ((edgeSt {}).mayOn 0 true) (.deadTimeExpiry 0) (edgeSt { wait := some (true, 1000) }) (fun t => (t.pair 0).wait = none &&
  (t.pair 0).up && !(t.pair 0).lo && out (· = 0x5080) (edgeSt {}) t) = true := by decide +kernel
theorem witness_dead_blocked : ck (!(edgeSt { blocked := true }).mayOn 0 true) (.deadTimeExpiry 0)
  (edgeSt { wait := some (true, 1000), blocked := true }) (fun t => (t.pair 0).wait = none && !(t.pair 0).up) = true := by decide +kernel
def shortSt : State := set (edgeSt { wait := some (true, 1000), fall := some 1049 }) [(R.PWM_PAIR_MINP_MINP 0, 50)]
theorem witness_dead_short : ck (shortSt.minPulse 0 = 50 && shortSt.mayOn 0 true) (.deadTimeExpiry 0) shortSt (fun t => !(t.pair 0).up &&
  (t.pair 0).wait = none) = true := by decide +kernel
theorem witness_notch : ck ((edgeSt {}).mayOn 0 false) (.notchEdge 0) (edgeSt { up := true, notch := some (990, 1030, 1100) }) (fun t => !(t.pair 0).up &&
  (t.pair 0).nph = 1 && (t.pair 0).notched && (t.pair 0).wait = some (false, 1040) && t.f R.GDI_BSCNT_REFR = 1 &&
  out (fun o => o = 0x621C || o = 0x5080) (edgeSt {}) t) = true := by decide +kernel
theorem witness_notch_end : ck true (.notchEdge 0) (edgeSt { lo := true, nph := 1, notch := some (900, 940, 1000) }) (fun t => (t.pair 0).notch = none &&
  (t.pair 0).nph = 2 && out (· = 0x5080) (edgeSt {}) t) = true := by decide +kernel

theorem witness_shadow : ck (isPwmReg 0x4274 && (RegMap.find 0x4274).any fun r => r.mask Acc.cfg ≠ 0) (.shadowWrite 0x4274 0x3000005) fine (fun t =>
  Tab.look t.pwm.shadow 0x4274 = (RegMap.find 0x4274).map (fun r => wordClamp 0x4274 (r.write Acc.cfg 0 0x3000005)) &&
  t.f R.PWM_SH_STAT_PEND = 1 && rec 0x4274 .done fine t && but (R.PWM_SH_STAT_PEND :: wresFlds) fine t) = true := by decide +kernel
def shadowSt (l : List (Fld × Nat)) : State := { set fine ((R.PWM_SH_STAT_PEND, 1) :: (R.PWM_CAR_EFF_RUN 15, 1) :: l) with
  pwm := { shadow := [(0x40F0, 1)], shCount := 64 } }
theorem witness_commit : ck true .pwmCommitGo (shadowSt []) (fun t => t.pwm.shadow = [] && t.f R.PWM_SH_STAT_PEND = 0) = true := by decide +kernel
def conflictSt : State := { fine with pwm := { shadow := [(0x4100, 1)] }, sys := { own := [(0x0400, 0x2777)] } }
theorem witness_conflict : ck (match conflictSt.pwmCommit.1 with | .error c => c.res = 0x400 && c.holder = 0x2777 | _ => false) .pwmCommitGo conflictSt
  (fun t => t.f R.PWM_SH_STAT_RES = 2 && t.sys.own = conflictSt.sys.own && t.pwm.cairn = [] && rec 0x4304 .conflict conflictSt t) = true := by
  decide +kernel
theorem witness_abort : ck true .pwmCommitAbort (shadowSt []) (fun t => t.pwm.shadow = [] && rec 0x4304 .done (shadowSt []) t &&
  but (R.PWM_SH_STAT_PEND :: wresFlds) (shadowSt []) t) = true := by decide +kernel
theorem witness_drop : ck ((shadowSt []).shadowCars.head? = some 15) .pwmShadowDrop (shadowSt []) (fun t => t.pwm.shadow = [] &&
  t.f R.PWM_SH_STAT_PEND = 0 && t.f R.PWM_SH_STAT_DROP = 1 && out (fun o => o = 0x4300 || ev o) (shadowSt []) t) = true := by decide +kernel

/-! ### Conversions and reads -/

def adcSt (a : AdcSt) (l : List (Fld × Nat)) : State := { set fine ([(R.ADC_STAT_CALOK, 1), (R.CMP_CHK_EN, 0)] ++ l) with tbp := 2000000, part := .c0, adc := a }
theorem witness_cal : ck (fine.f R.ADC_STAT_CALOK = 0) (.adcCalibrationComplete 0x10001) fine (fun t => t.f R.ADC_STAT_CALOK = 1 &&
  t.f R.ADC_SLFAIL_FAIL = 0x10001 && out (fun o => o = 0x9090 || o = R.ADC_SLFAIL_FAIL.off || ev o) fine t) = true := by decide +kernel
def rotSt : State := adcSt { rotAt := 229000, rot := 16 } [(R.ADC_CTL_ROT, 1)]
theorem witness_rotation : ck (rotSt.nextSlice 16 = some 0 && (rotSt.lane 0).slice = 0 && rotSt.f R.ADC_STAT_NOSPARE = 0) .rotationStep rotSt (fun t =>
  t.adc.hand = some 0 && (t.lane 0).overlap = some 1000000 && t.adc.rot = 1 && t.adc.rotAt = 1000000 && t.regs = rotSt.regs && mem rotSt t) = true := by
  decide +kernel
def handSt : State := adcSt { hand := some 15, lanes := [(15, { slice := 15, overlap := some 999960 })] } []
theorem witness_handover : ck (!handSt.bitAt R.ADC_SLFAIL_FAIL 15) .sliceHandover handSt (fun t => (t.lane 15).slice = 16 &&
  (t.lane 15).overlap = none && t.adc.hand = none && t.adc.spare = some 15 && t.f R.ADC_STAT_CALSL = 15 &&
  but [R.ADC_STAT_CALSL] handSt t) = true := by decide +kernel
def calSt : State := adcSt {} [(R.ADC_STAT_CALSL, 16)]
theorem witness_slice_cal : ck (calSt.f R.ADC_STAT_CALSL < 17) (.sliceCalibrationComplete true) calSt (fun t => t.f R.ADC_STAT_CALSL = 31 &&
  but [R.ADC_STAT_CALSL] calSt t) && runs (.sliceCalibrationComplete false) calSt (fun t => t.f R.ADC_STAT_CALSL = 31 &&
  t.bitAt R.ADC_SLFAIL_FAIL 16 && t.f R.ADC_STAT_NOSPARE = 1) = true := by decide +kernel

def seqFlds : List (Fld × Nat) := [(R.ADC_REG_CFG_EN, 1), (R.ADC_INJ_CFG_EN, 1), (R.ADC_MON_CFG_MODE, 2), (R.ADC_LANECL_MON, 0x8000),
  (R.ADC_REG_CH 0, 5), (R.ADC_REG_LANE 0, 3), (R.ADC_INJ_CH 0, 6), (R.ADC_INJ_LANE 0, 4), (⟨0x9400, 0, 32⟩, 0x0F07)]
def early : State := adcSt {} ((R.ADC_STAT_CALOK, 0) :: (R.ADC_DROP_EARLY, 126) :: seqFlds)
theorem witness_early : ck (early.seqOn 2) (.converterTrigger 2) early (fun t => t.f R.ADC_DROP_EARLY = 127 && but [R.ADC_DROP_EARLY] early t) = true ∧
    ck (early.seqOn 0 && early.seqOn 1) (.adcSwtrig 7) early (fun t => t.f R.ADC_DROP_EARLY = 127 && rec 0x908C .done early t &&
      but (R.ADC_DROP_EARLY :: wresFlds) early t) = true := by decide +kernel
def ready : State := adcSt {} seqFlds
theorem witness_trigger : ([0, 1, 2].all fun (q : Fin 3) => ck (ready.seqOn q && (ready.adcSeq q).last ≠ some ready.tba && !(ready.adcSeq q).running)
  (.converterTrigger q) ready (fun t => (t.adcSeq q).runs = 1 && (t.adcSeq q).edge = ready.tba && (t.adcSeq q).last = some ready.tba)) = true := by
  decide +kernel
def running (b : Bool) : State := adcSt { reg := { running := true, queued := b }, inj := { running := true, queued := b }, mon := { running := true, queued := b } } seqFlds
theorem witness_queue : ([0, 1, 2].all fun (q : Fin 3) => ck (!((running false).adcSeq q).queued) (.converterTrigger q) (running false) (fun t =>
  (t.adcSeq q).queued && (t.adcSeq q).runs = 0 && but [R.ADC_STAT_RUN] (running false) t)) = true := by decide +kernel
theorem witness_dropped : ([0, 1, 2].all fun (q : Fin 3) => ck ((running true).adcSeq q).queued (.converterTrigger q) (running true) (fun t =>
  t.f (dropFld q) = 1 && out (fun o => o = 0x90A0 || ev o) (running true) t)) = true := by decide +kernel
def queued : State := adcSt { reg := { queued := true }, inj := { queued := true }, mon := { queued := true }, lanes := [(3, { slice := 3, mux := 5 }), (4, { slice := 4, mux := 6 }), (15, { slice := 15, mux := 7 })] } seqFlds
theorem witness_queued : ([0, 1, 2].all fun (q : Fin 3) => ck ((q.val = 2 || (firsts (queued.entries q)).all fun c => queued.laneReady c.lane c.ch) && queued.laneReady 15 7 &&
    queued.monTable.map (·.1) = [0x0F07] && !(queued.adcSeq q).running && lanes16.all fun k => !queued.laneDead k)
  (.queuedRunStart q) queued (fun t => !(t.adcSeq q).queued && (t.adcSeq q).runs = 1 && (t.adcSeq q).edge = queued.tba)) = true := by
  decide +kernel

def one : Conv := { seq := 1, ent := 0, ch := 6, lane := 4, left := false }
def sampling : State := adcSt { inj := { running := true, todo := [one], edge := 1000 }, lanes := [(4, { slice := 4, mux := 6 })] } seqFlds
theorem witness_sample : ck (sampling.nextConv 4 = some one && sampling.laneReady 4 6 && decide (sampling.adc.inj.edge + sampling.acq ≤ sampling.tba) &&
  !sampling.laneDead 4) (.samplingInstant 4) sampling (fun t => ((t.lane 4).conv.map fun c => (c.seq, c.ent, c.ch, c.at_, c.pt, c.flt)) =
    some (1, 0, 6, sampling.tba, sampling.ptAt (2 * sampling.tba), sampling.chDead 6) &&
  t.regs = sampling.regs && mem sampling t) = true := by decide +kernel
def walking : State := adcSt { mon := { running := true, ents := [(0x10F07, 9)] }, rep := 1, prev := 1000000, lanes := [(15, { slice := 15, mux := 7 })] } seqFlds
theorem witness_issue : ck (monLane 0x10F07 = 15 && monCh 0x10F07 = 7 && monRep 0x10F07 = 2 && walking.laneReady 15 7 && !walking.testLane 15)
  .monitorIssue walking (fun t => t.adc.prev = walking.tba && t.adc.dly = 9 && t.adc.rep = 0 &&
    ((t.lane 15).conv.map fun c => (c.seq, c.ent, c.ch, c.at_)) = some (2, 0, 7, walking.tba) && t.regs = walking.regs && mem walking t) = true := by
  decide +kernel
def mon1 : Conv := { seq := 2, ent := 511, ch := 7, lane := 15, left := true, tag := 5, at_ := 999800, pt := 3 * second + 5 * 2 ^ 41 }
def ending : State := adcSt { lanes := [(15, { slice := 15, mux := 7, conv := some mon1 })] } [(R.ADC_MON_CFG_BUF, 0)]
theorem witness_end : ck (mon1.code 5000000000 9 = (2048, false) && !nearFull mon1.diff 2048 && ending.f R.CMP_CHK_EN = 0 && ending.arrives 15 mon1)
  (.conversionEnd 15 ⟨5000000000, 9⟩) ending
  (fun t => (t.lane 15).conv = none && (t.word (ending.slotAddr 2 511)).toNat % 2 ^ 16 = 0x8000 &&
    (t.word (ending.slotAddr 2 511)).toNat / 2 ^ 20 % 16 = 15 && (t.word (ending.slotAddr 2 511)).toNat / 2 ^ 29 = 5 &&
    t.word (ending.slotAddr 2 511 + 4) = ptWord mon1.pt && t.mem.all fun c => ending.slotAddr 2 511 ≤ c.1 && c.1 < ending.slotAddr 2 511 + 8) = true := by
  decide +kernel
/-- R258: 25 °C is 1,024, and 8.192 codes a degree: 125 °C is 1,843. -/
theorem test_temperature : ({ mon1 with ch := 112 } : Conv).code 25000 0 = (1024, false) ∧ ({ mon1 with ch := 113 } : Conv).code 125000 0 = (1843, false) := by
  decide +kernel
theorem witness_conv_timeout : ck (mon1.at_ + 200 ≤ ending.tba) (.conversionTimeout 15) ending (fun t => (t.lane 15).conv = none &&
  t.bitAt R.ADC_SLFAIL_FAIL 15) = true := by decide +kernel

def late : State := { fine with tbp := 0x300000004 }
theorem witness_low : ck (late.pairAt (lowOff .tbp) = some 0x300000004) (.lowWordRead (.ring 15) .tbp) late (fun t => t.rdata = 4 &&
  t.readVal 16 0x2004 = 3 && t.regs = late.regs && mem late t) = true := by decide +kernel
theorem witness_low_all : ([LowReg.tbp, .serial, .rt, .cairnSeq, .acc 39, .pulse 7].all fun r => (late.pairAt (lowOff r)).isSome) = true := by
  decide +kernel
theorem witness_block : ck true (.readWindowAdvance .link) (set fine [(R.HST_CAPRW_BLK, 2 ^ R.HST_CAPRW_BLK.w - 1)]) (fun t => t.f R.HST_CAPRW_BLK = 0 &&
  but [R.HST_CAPRW_BLK] fine t) = true := by decide +kernel
theorem test_unsupported : runs (.unsupportedRequest true 2 2) fine (fun t => t = fine) = true := by decide +kernel
def timed : State := { fine with tim := { ptb := 5 * second + 7 * 2 ^ 41 + 2 ^ 40 } }
theorem witness_pt : ck timed.live (.plantTimeRead .bar0) timed (fun t => t.rdata = 7 && ({ t with tbp := 999999 } : State).readVal 0 0x2014 = 5 &&
  ({ t with tbp := 999999 } : State).readVal 0 0x2018 = 0x80000000 && but [] timed t) = true := by decide +kernel
theorem test_capmem : R.SYS_ID_CAPMEM.get (fine.readVal 3 0) = 1 ∧ R.SYS_ID_CAPMEM.get ((adcSt {} []).readVal 3 0) = 0 := by decide +kernel

/-! ### The control engine -/

def regsOf (vs : List Word) : Tab VReg := (vs.zip (List.range 5)).filterMap fun e => if e.1 = 0 then none else some (e.2 + 1, ⟨e.1, residue e.1.toInt⟩)
def img0 : Image := { id := 1, ver := 1, plen := 32768, clen := 0, caddr := 0, slen := 0, saddr := 0, cycle := [], bkg := [], init := [], key := 0, krom := 0 }
/-- The program memory with one instruction, its low half first. -/
def progAt (pc : Nat) (w : BitVec 64) : List Word := List.replicate (2 * pc) 0 ++ [w.extractLsb' 0 32, w.extractLsb' 32 32]
/-- Lane 7 in its cycle part at instruction 5, opcode `op` with the fields of `x`, with v1 to v5 given. -/
def ceSt (op : Nat) (x : CeInstr) (vs : List Word) (c : Ctx := { run := true, pc := 5 }) (ce : CeSt := { part := .cycle }) : State :=
  { set connected [(R.CE_CTL_EN, 1), (R.CE_STAT_RUN, 1), (R.CLK_STAT_COARSE, 0)] with
    ce := { ce with lanes := [(7, { cyc := { v := regsOf vs }, fore := c })], img := some img0, prog := progAt c.pc (ceEncode op x) } }
def x0 : CeInstr := { lane := 7, d := 31, a := 1, b := 2 }
/-- The conditions of `runsClean`, and the word at the lane's place is this instruction. -/
def clean (op : Nat) (x : CeInstr) (s : State) : Bool := s.laneRuns x.lane && s.stands op x && !x.par && s.ce.badProg = [] && x.dpar.isNone &&
  s.upsets = [] && x.mis = 0 && ((List.range 32).all fun r => (s.vreg x.lane r).res = residue (s.vi x.lane r)) &&
  [false, true].all fun b => (s.accReg x.lane b).res = residue (s.acc x.lane b)
def steps (l : Nat) (s t : State) : Bool := ((t.ceLane l).ctx.pc, (t.ceLane l).ctx.loops) = nextPlace (s.ceLane l).ctx.pc (s.ceLane l).ctx.loops &&
  ((List.range 8).all fun k => k = l || t.ceLane k = s.ceLane k) && t.regs = s.regs && t.pending = s.pending
def writes (x : CeInstr) (w : Word) (fl : Nat) (s t : State) : Bool := steps x.lane s t && (x.d.val = 0 || t.v x.lane x.d = w) &&
  ((List.range 40).all fun r => r = x.d.val || t.v x.lane r = s.v x.lane r) && t.accReg x.lane false = s.accReg x.lane false &&
  t.accReg x.lane true = s.accReg x.lane true && (t.ceLane x.lane).flags = (s.ceLane x.lane).flags ||| fl && t.mem = s.mem
def ckW (op : Nat) (c : CeInstr → Instr) (x : CeInstr) (vs : List Word) (w : Word) (fl : Nat := 0) : Bool :=
  clean op x (ceSt op x vs) && runs (c x) (ceSt op x vs) (writes x w fl (ceSt op x vs))

theorem witness_ce_int : ckW 0x10 .add x0 [0xFFFFFFFF, 2] 1 && ckW 0x11 .sub x0 [1, 2] 0xFFFFFFFF && ckW 0x12 .and x0 [12, 10] 8 && ckW 0x13 .or x0 [12, 10] 14 &&
    ckW 0x14 .xor x0 [12, 10] 6 && ckW 0x15 .shl x0 [3, 31] 0x80000000 && ckW 0x16 .shr x0 [0x80000000, 31] 1 && ckW 0x17 .sar x0 [0x80000000, 31] 0xFFFFFFFF &&
    ckW 0x18 .min x0 [0x80000000, 1] 0x80000000 && ckW 0x19 .max x0 [0x80000000, 1] 1 && ckW 0x1A .abs x0 [0x80000001] 0x7FFFFFFF &&
    ckW 0x1B .sat { x0 with mod := 7 } [200] 127 && ckW 0x1B .sat { x0 with mod := 7 } [0xFFFFFF00] 0xFFFFFF80 &&
    ckW 0x1B .sat { x0 with mod := 15 } [0xFFFF7000] 0xFFFF8000 && ckW 0x1C .movi { x0 with imm := 9 } [] 9 && ckW 0x04 .lid x0 [] 7 &&
    ckW 0x10 .add { x0 with d := 0, mod := 8, imm := 5 } [1] 0 = true := by decide +kernel
theorem witness_ce_open : ([0x15, 0x16, 0x17].all fun op => clean op x0 (ceSt op x0 [1, 32]) && decide (32 ≤ ((ceSt op x0 [1, 32]).wb x0).toNat)) &&
    clean 0x1A x0 (ceSt 0x1A x0 [0x80000000]) && decide ((ceSt 0x1A x0 [0x80000000]).wa x0 = 0x80000000#32) = true := by decide +kernel
def ckA (op : Nat) (c : CeInstr → Instr) (x : CeInstr) (vs : List Word) (v : Int) (fl : Nat) : Bool :=
  clean op x (ceSt op x vs) && runs (c x) (ceSt op x vs) (fun t => t.acc x.lane x.acc = v && (t.ceLane x.lane).flags = fl && steps x.lane (ceSt op x vs) t && t.mem = [])
theorem witness_ce_fixed : ckW 0x20 .qmul x0 [0x80000000, 0x80000000] 0x7FFFFFFF 8 && ckW 0x20 .qmul x0 [0x40000000, 3] 2 &&
    ckW 0x21 .qadd x0 [0x7FFFFFFF, 1] 0x7FFFFFFF 8 && ckW 0x22 .qsub x0 [0x80000000, 1] 0x80000000 8 && ckW 0x23 .qneg x0 [0x80000000] 0x7FFFFFFF 8 &&
    ckW 0x26 .accrd { x0 with mod := 3 } [] 0 && ckA 0x24 .qmac { x0 with acc := true } [0x40000000, 3] 2 0 && ckA 0x25 .qmsu x0 [0x40000000, 3] (-2) 0 &&
    ckA 0x28 .imac x0 [0x7FFFFFFF, 0x7FFFFFFF] 1 0 = false && ckA 0x28 .imac x0 [0xFFFFFFFF, 5] (-5) 0 && ckA 0x27 .accld x0 [0x80000000] (-(2 ^ 31)) 0 = true := by
  decide +kernel
theorem witness_ce_float : ckW 0x30 .fadd x0 [0x3F800000, 0x3F800000] 0x40000000 && ckW 0x31 .fsub x0 [0x3F800000, 0x40000000] 0xBF800000 &&
    ckW 0x32 .fmul x0 [0x40400000, 0xC0000000] 0xC0C00000 && ckW 0x33 .fma { x0 with c := 3 } [0x40000000, 0x40000000, 0x3F800000] 0x40A00000 &&
    ckW 0x36 .fdiv x0 [0x3F800000, 0] 0x7F800000 4 && ckW 0x36 .fdiv x0 [0x3F800000, 0x40400000] 0x3EAAAAAB && ckW 0x37 .fsqrt x0 [0x40800000] 0x40000000 &&
    ckW 0x34 .fcmp x0 [0xBF800000, 0x3F800000] 0xFFFFFFFF && ckW 0x38 .fcvtq x0 [0x80000000] 0xBF800000 && ckW 0x3A .fcvti x0 [0xFFFFFFFF] 0xBF800000 &&
    ckW 0x39 .fcvtf x0 [0x3F800000] 0x7FFFFFFF 8 && ckW 0x39 .fcvtf x0 [0x3F000000] 0x40000000 && ckW 0x3B .fcvtfi x0 [0x40200000] 2 &&
    ckW 0x3B .fcvtfi x0 [0xCF000000] 0x80000000 && ckW 0x39 .fcvtf x0 [0x7FC00000] 0 1 && ckW 0x3B .fcvtfi x0 [0x7FC00000] 0 1 = true := by decide +kernel
theorem test_fp_overflow : ckW 0x32 .fmul x0 [0x7F7FFFFF, 0x40000000] 0x7F800000 2 && ckW 0x37 .fsqrt x0 [0xBF800000] 0x7FC00000 1 &&
    ckW 0x30 .fadd x0 [0x7F800000, 0xFF800000] 0x7FC00000 1 && ckW 0x30 .fadd x0 [0x00000001, 0x3F800000] 0x3F800000 = true := by decide +kernel
theorem witness_ce_trig : ([0, 30].all fun d => clean 0x3C { x0 with d := d } (ceSt 0x3C { x0 with d := d } [1])) && clean 0x3D x0 (ceSt 0x3D x0 [1, 0]) &&
    runs (.sincos x0) (ceSt 0x3C x0 [1]) (fun t => t.f R.CE_STAT_HOLD = 1 && t.f R.CE_FAULT_KIND = 2) && decide ((ceSt 0x3D x0 [1, 0]).wa x0 ≠ 0) = true := by
  decide +kernel
def xk (id : Nat) : CeInstr := { x0 with imm := BitVec.ofNat 32 id }
/-- The block of a kernel at 0x100 in a loaded program without constants. -/
def blockSt (id : Nat) (vs block : List Word) : State := (ceSt 0x0C (xk id) vs).setWords 0x100 block
theorem witness_kernels : ([1, 2, 3, 4, 6, 7, 8, 9, 10, 11, 12, 13, 14, 15].all fun k => clean 0x0C (xk k) (blockSt k [0x100] [5])) &&
    (blockSt 4 [0x100] [5]).inFore 7 && ((blockSt 4 [0x100] [5]).v 7 1).toNat = 0x100 &&
    ((List.range 12).all fun i => !(blockSt 4 [0x100] [5]).inConst (0x100 + 4 * i)) && (blockSt 4 [0x100] [5]).word 0x100 = 5 &&
    ((List.range 4).all fun i => (blockSt 8 [0x100, 0, 0] []).vi 7 (2 + i) = 0) &&
    decide (((blockSt 10 [0x100, 1, 63] [1, 2, 0x200, 4]).word 0x108).toNat = 0x200) = true := by decide +kernel
theorem test_kernel_ramp : runs (.ramp (xk 15)) (blockSt 15 [0x100, 50] [10, 20]) (fun t => t.word 0x100 = 10 && t.word 0x104 = 30) = true := by decide +kernel
theorem test_block_outside : runs (.piStep (xk 4)) (ceSt 0x0C (xk 4) [0x104]) (fun t => t.f R.CE_STAT_HOLD = 1 && t.f R.CE_FAULT_OP = 0x0C &&
    t.f R.CE_FADDR_ADDR = 0x104) = true := by decide +kernel
/-- R337: opcode 0x06 and kernel 0x05 are undefined: a program fault, whatever the sender takes the word for. -/
theorem test_undefined_opcode : runs (.add x0) (ceSt 0x06 x0 []) (fun t => t.f R.CE_STAT_HOLD = 1 && t.f R.CE_FAULT_KIND = 2 && t.f R.CE_FAULT_OP = 6) &&
    runs (.piStep (xk 5)) (ceSt 0x0C (xk 5) []) (fun t => t.f R.CE_FAULT_KIND = 2 && t.f R.CE_FAULT_OP = 0x0C) = true := by decide +kernel
/-- R330, R331: a stored residue that disagrees with its value mismatches in all three attempts: a datapath fault. -/
def badRes : State := (ceSt 0x10 x0 []).setCe 7 { (ceSt 0x10 x0 []).ceLane 7 with cyc := { v := [(1, ⟨3, 4⟩)] } }
theorem test_residue : runs (.add x0) badRes (fun t => t.f R.CE_STAT_HOLD = 1 && t.f R.CE_FAULT_KIND = 1) = true := by decide +kernel

def ckS (op : Nat) (c : CeInstr → Instr) (x : CeInstr) (s : State) (p : State → State → Bool) : Bool := clean op x s && runs (c x) s (p s)
def ckC (op : Nat) (c : CeInstr → Instr) (x : CeInstr) (vs : List Word) (p : State → State → Bool) (k : Ctx := { run := true, pc := 5 }) : Bool :=
  ckS op c x (ceSt op x vs k) p
def stored (x : CeInstr) (s t : State) : Bool := steps x.lane s t && ((List.range 40).all fun r => t.v x.lane r = s.v x.lane r)
def held (kind op : Nat) (t : State) : Bool := t.f R.CE_STAT_HOLD = 1 && t.f R.CE_FAULT_KIND = kind && t.f R.CE_FAULT_OP = op
def ldx (d : Fin 32) (m : Fin 16) (i : Word) : CeInstr := { x0 with d := d, mod := m, imm := i }
def ldSt (op : Nat) (x : CeInstr) : State := (ceSt op x [0x1000]).setWord 0x1004 0x11223344
theorem witness_ld : ckW 0x40 .ld (ldx 31 2 0x1FFFC) [] 0 && ckS 0x40 .ld (ldx 31 2 4) (ldSt 0x40 (ldx 31 2 4)) (writes (ldx 31 2 4) 0x11223344 0) &&
    (let s := ldSt 0x40 (ldx 31 0 4)
     clean 0x40 (ldx 31 0 4) s && s.ceMayLoad 0x1004 1 && s.ceNat 7 0x1004 1 = 0x44 && s.ceMayLoad 0x1004 2 && s.ceNat 7 0x1004 2 = 0x3344) &&
    ckS 0x42 .ld2 (ldx 30 0 0) (ldSt 0x42 (ldx 30 0 0)) (fun s t => t.v 7 30 = 0 && t.v 7 31 = 0x11223344 && steps 7 s t && t.mem = s.mem) &&
    ckS 0x42 .ld2 (ldx 0 0 0) (ldSt 0x42 (ldx 0 0 0)) (fun s t => t.v 7 0 = 0 && t.v 7 1 = 0x11223344 && steps 7 s t) &&
    ckS 0x44 .ldq (ldx 28 0 0) (ldSt 0x44 (ldx 28 0 0)) (fun s t => t.v 7 28 = 0 && t.v 7 29 = 0x11223344 && t.v 7 31 = 0 && steps 7 s t && t.mem = s.mem) = true := by
  decide +kernel
def stVs : List Word := [0xFFF8, 0x11223344, 0x55667788]
theorem witness_st : ckC 0x41 .st (ldx 2 2 4) stVs (fun s t => t.word 0xFFFC = 0x11223344 && t.mem.length = 4 && stored x0 s t) &&
    ckC 0x41 .st (ldx 2 0 7) stVs (fun s t => t.mem = [(0xFFFF, 0x44)] && stored x0 s t) &&
    ckC 0x41 .st (ldx 2 1 6) stVs (fun s t => t.mem = [(0xFFFE, 0x44), (0xFFFF, 0x33)] && stored x0 s t) &&
    ckC 0x43 .st2 (ldx 2 0 0) stVs (fun s t => t.word 0xFFF8 = 0x11223344 && t.word 0xFFFC = 0x55667788 && t.mem.length = 8 && stored x0 s t) = true := by
  decide +kernel
theorem witness_load_fault : ckC 0x40 .ld (ldx 31 2 0) [2] (fun s t => !s.ceMayLoad 2 4 && held 2 0x40 t && t.f R.CE_FAULT_LANE = 7 &&
    t.f R.CE_STAT_RUN = 0 && t.v 7 1 = 2 && t.st = 5) = true := by decide +kernel
theorem test_store_reserved : ckC 0x41 .st (ldx 31 2 0) [0x1C000] (fun _ t => held 2 0x41 t && t.f R.CE_FADDR_ADDR = 0x1C000) = true := by decide +kernel

def at5 (n : Nat) (_ t : State) : Bool := (t.ceLane 7).ctx.pc = n
def brx (m : Fin 16) (i : Word) : CeInstr := { x0 with mod := m, imm := i }
theorem witness_branches : ckC 0x08 .br (brx 0 32767) [] (at5 32767) && ckC 0x08 .br (brx 1 9) [3, 3] (at5 9) &&
    ckC 0x08 .br (brx 1 9) [3, 4] (fun s t => at5 6 s t && steps 7 s t) && ckC 0x08 .br (brx 2 9) [3, 4] (at5 9) &&
    ckC 0x08 .br (brx 3 9) [0x80000000, 4] (at5 9) && ckC 0x08 .br (brx 4 9) [4, 4] (at5 9) && ckC 0x08 .br (brx 5 9) [4, 4] (at5 9) &&
    ckC 0x08 .br (brx 6 9) [4, 4] (at5 6) && ckC 0x08 .br (brx 0 32768) [] (fun s t => s.badTarget 32768 && held 2 8 t) = true := by decide +kernel
theorem witness_calls : ckC 0x09 .call (brx 0 100) [] (fun s t => at5 100 s t && (t.ceLane 7).ctx.calls = 6 :: List.replicate 15 1)
      { run := true, pc := 5, calls := List.replicate 15 1 } &&
    ckC 0x0A .ret x0 [] (fun s t => at5 6 s t && (t.ceLane 7).ctx.calls = [1]) { run := true, pc := 100, calls := [6, 1] } &&
    ckC 0x09 .call x0 [] (fun _ t => held 2 9 t) { run := true, calls := List.replicate 16 1 } = true := by decide +kernel
theorem witness_loops : ckC 0x0B .loop (brx 0 9) [3] (fun s t => at5 6 s t && (t.ceLane 7).ctx.loops = [(6, 9, 3), (1, 20, 2)])
      { run := true, pc := 5, loops := [(1, 20, 2)] } &&
    ckC 0x0B .loop (brx 0 9) [] (at5 10) && ckC 0x00 .nop x0 [] (fun s t => at5 6 s t && (t.ceLane 7).ctx.loops = [(6, 9, 2)])
      { run := true, pc := 9, loops := [(6, 9, 3)] } &&
    ckC 0x00 .nop x0 [] (fun s t => at5 2 s t && (t.ceLane 7).ctx.loops = [(2, 9, 1)]) { run := true, pc := 9, loops := [(6, 9, 1), (2, 9, 2)] } = true := by
  decide +kernel
def flagged : State := (ceSt 5 x0 []).setCe 7 { (ceSt 5 x0 []).ceLane 7 with flags := 9 }
theorem witness_flg : ckS 5 .flg x0 flagged (fun s t => t.v 7 31 = 9 && (t.ceLane 7).flags = 0 && steps 7 s t) = true := by decide +kernel
theorem witness_end_last : ckC 1 .endLane x0 [] (fun s t => ((List.range 7).all fun k => !s.inFore k) && t.f R.CE_STAT_RUN = 0 &&
    t.ce.part = .idle && t.ce.sent && t.ce.parm = []) = true := by decide +kernel
def twoLanes : State := (ceSt 1 x0 []).setCe 0 { fore := { run := true } }
theorem witness_end_lane : ckS 1 .endLane x0 twoLanes (fun s t => s.inFore 0 && (t.ceLane 7).fore = {} && t.regs = s.regs && mem s t) = true := by
  decide +kernel
/-- Lane 7 in its background at instruction 5, opcode `op` with the fields of `x`. -/
def backSt (op : Nat) (x : CeInstr) : State := (set (ceSt op x [] {} {}) [(R.CE_CTL_BKG, 1), (R.CE_STAT_RUN, 0)]).setCe 7 { back := { run := true } }
theorem witness_end_back : ckS 1 .endLane x0 (backSt 1 x0) (fun s t => !s.inFore 7 && (t.ceLane 7).back = {} && mem s t) = true := by
  decide +kernel
/-- R321: a lane that has ended its background pass stands idle until the next one. -/
theorem test_background_idle : runs (.nop x0) ((backSt 0 x0).setCe 7 {}) (fun t => t = (backSt 0 x0).setCe 7 {}) = true := by decide +kernel

theorem witness_bar : ckC 2 .bar (brx 0 0x181) [] (fun s t => (t.ceLane 7).ctx.wait = .bar 0x81 && t.regs = s.regs) = true := by decide +kernel
def barSt : State := (ceSt 2 (brx 0 0x81) [] { run := true, pc := 5, wait := .bar 0x81 }).setCe 0 { fore := { run := true, pc := 8, wait := .bar 0x81 } }
theorem witness_bar_release : ck barSt.ceFree (.barRelease 0x81) barSt (fun t => (t.ceLane 7).ctx = { run := true, pc := 6 } &&
    (t.ceLane 0).ctx = { run := true, pc := 9 } && t.regs = barSt.regs) && runs (.barRelease 0x83) barSt (fun t => t = barSt) = true := by decide +kernel
/-- R311: a lane outside the mask that waits at its barrier goes on too. -/
theorem test_bar_outside : runs (.barRelease 0x81) (barSt.setCe 3 { fore := { run := true, pc := 8, wait := .bar 0x81 } })
    (fun t => (t.ceLane 3).ctx = { run := true, pc := 9 }) = true := by decide +kernel
theorem witness_wne : ckC 3 .wne x0 [0x40, 0] (fun s t => s.ceMayLoad 0x40 4 && (t.ceLane 7).ctx.wait = .wne 0x40 0) &&
    ckC 3 .wne x0 [0x40, 1] (fun s t => steps 7 s t) &&
    (let s := ceSt 3 x0 [] { run := true, pc := 5, wait := .wne 0x40 1 }
     ck (s.ceFree && s.laneUp 7 && s.upsets = []) (.wneWake 7) s fun t => (t.ceLane 7).ctx = { run := true, pc := 6 }) = true := by decide +kernel
def fetching (prog : Bool) (a : Nat) : State :=
  { ceSt 0 x0 [] { run := true, pc := 5, wait := .fetch prog a } { part := .cycle, badProg := [10, 99] } with upsets := [0x41, 0x80] }
theorem witness_refetch : runs (.parityRefetchComplete 7) (fetching true 5) (fun t => (t.ceLane 7).ctx = { run := true, pc := 5 } &&
      t.ce.badProg = [99] && t.upsets = [0x41, 0x80]) &&
    runs (.parityRefetchComplete 7) (fetching false 0x40) (fun t => (t.ceLane 7).ctx = { run := true, pc := 5 } && t.upsets = [0x80]) = true := by
  decide +kernel

theorem witness_ups : (let s := (ceSt 0x48 (brx 1 0) [0x40, 2]).setWord 0x44 7
    ckS 0x48 .ups (brx 1 0) s (fun s t => s.inFore 7 && t.ce.ups = [(7, [0, 7], true)] && (t.ceLane 7).ctx.wait = .ups && mem s t)) &&
    ckS 0x48 .ups x0 (backSt 0x48 x0) (fun _ t => t.f R.CE_STAT_HOLD = 1 && t.f R.CE_FAULT_KIND = 2) = true := by decide +kernel
def setSt (car pairCar : Nat) (ws : List Word) : State :=
  { set (ceSt 0x48 x0 [] { run := true, pc := 5, wait := .ups } { part := .cycle, ups := [(7, ws, true)] }) [(R.PWM_PAIR_CFG_MODE 3, 1), (R.PWM_PAIR_CFG_CAR 3, pairCar)] with
    pwm := { cairn := [(0x4000 + 16 * car, 1)] } }
theorem witness_ack : ck (match (setSt 9 9 [0x809, 0x55]).checkSet [0x809, 0x55] with | .ok _ => true | _ => false) .updateSetAcknowledge
    (setSt 9 9 [0x809, 0x55]) (fun t => t.ce.ups = [] && t.ce.held = [[0x809, 0x55]] && t.ce.sent && t.regs = (setSt 9 9 []).regs) = true := by
  decide +kernel
theorem witness_ack_refused : ck (match (setSt 9 9 [0x809]).checkSet [0x809] with | .error 3 => true | _ => false) .updateSetAcknowledge
    (setSt 9 9 [0x809]) (fun t => t.ce.held = [] && t.f R.PWM_STAT_REFUSED = 1) && ((setSt 9 8 []).checkSet [0x809, 0] matches .error 2) &&
    ((setSt 8 9 []).checkSet [0x809, 0] matches .error 1) && ((setSt 9 9 []).checkSet [0x849, 0] matches .error 4) = true := by decide +kernel
def evrSt (i : Word) : State := set (ceSt 0x49 (brx 0 i) [6]) [(R.HST_EVR_CFG_EN, 1), (R.HST_EVR_CFG_LINK, 0)]
theorem witness_evt : ckS 0x49 .evt (brx 0 0x12345) (evrSt 0x12345) (fun s t => ((List.range 16).all fun w => s.f (R.HST_CAP_STAT_ST w) = 0) &&
    t.hst.held = [{ s.evNow 0x0A05 7 0x2345 6 0 with seq := 0 }] && steps 7 s t) = true := by decide +kernel
theorem witness_trq : ckC 0x4A .trq (brx 0 0x1FF) [] (fun s t => s.inSt [1, 2, 3, 4] && s.sys.arm.isNone && t.st = 5 && t.sys.causes = [(0x0B, 255)]) = true := by
  decide +kernel
theorem witness_swr : ckC 0x4B .swr x0 [] (writes x0 1 0) && ckS 0x4B .swr (brx 0 0x2020) (backSt 0x4B (brx 0 0x2020)) (fun s t =>
    !s.inFore 7 && t.ce.swr = [(0x2020, 0)] && (t.ceLane 7).ctx.wait = .swr 31 0 && steps 7 s t) = true := by decide +kernel
def swrSt : State := (backSt 0x4B x0).setCe 7 { back := { run := true, pc := 6, wait := .swr 31 3 } }
theorem witness_swr_done : ck (!swrSt.inFore 7) (.swrCompletion 7) swrSt (fun t => t.v 7 31 = 3 && (t.ceLane 7).ctx = { run := true, pc := 6 } &&
    t.regs = swrSt.regs) = true := by decide +kernel

/-! ### Cycles and images -/

def noEnt : List Nat := List.replicate 8 0xFFFF
def img1 : Image := ⟨1, 2, 100, 0, 0, 0, 0, 0xFFFF :: 40 :: noEnt.drop 2, noEnt, noEnt, 0, 0⟩
def cycSt (ce : CeSt) (l : List (Fld × Nat) := []) : State := { set connected ([(R.CE_CTL_EN, 1), (R.CLK_STAT_COARSE, 0), (R.CE_DL_MISSMAX, 3)] ++ l) with tbp := 9000, ce := ce }
def startSt : State := cycSt { img := some img1, matchAt := some ⟨8990, 77, 13990⟩ } [(R.CE_CYC_CNT, 0xFFFFFFFF), (R.CE_DL_DL, 5000)]
theorem witness_cycle : ck (startSt.f R.CE_STAT_LOADED = 1 && (startSt.xing 2).got ≤ 1 && startSt.upsets = [] && (entryOf img1.cycle 1).isSome) .ceCycleStart startSt (fun t =>
  t.f R.CE_CYC_CNT = 0 && t.f R.CE_STAT_RUN = 1 && t.ce.part = .cycle && t.ce.start = 8990 && t.ce.startPt = 77 && t.ce.deadline = 13990 && t.ce.dlPending && !t.ce.arrived &&
  t.word 0x1E800 = 0 && (t.ceLane 1).fore = { run := true, pc := 40 } && t.mem.all fun c => 0x1E800 ≤ c.1 && c.1 < 0x1E820) = true := by decide +kernel
def sentSt (dl : Nat) (pend : Bool) : State := cycSt { sent := true, dlPending := pend, deadline := dl, start := 5000, consec := 2, held := [[1]] }
  [(R.CE_STAT_CONSEC, 2), (R.CE_STAT_MTRIP, 1)]
theorem witness_commit_in_time : ck ((sentSt 9000 true).tbp ≤ 9000) .commitArrival (sentSt 9000 true) (fun t => t.ce.arrived && !t.ce.dlPending &&
  t.ce.held = [] && t.ce.consec = 0 && t.f R.CE_STAT_CONSEC = 0 && t.f R.CE_STAT_MTRIP = 0 && t.f R.CE_DUR_LAST = 4000 && t.grd.waiting &&
  mem (sentSt 9000 true) t) = true := by decide +kernel
theorem witness_commit_late : ck true .commitArrival (sentSt 8000 false) (fun t => t.ce.arrived && t.ce.held = [] && t.f R.CE_MISS_LATE = 1 &&
  t.pwm = (sentSt 8000 false).pwm && mem (sentSt 8000 false) t) = true := by decide +kernel
def missSt : State := cycSt { dlPending := true, deadline := 9000, consec := 65535 } [(R.CE_STAT_MTRIP, 1)]
theorem witness_deadline : ck (missSt.ce.deadline ≤ missSt.tbp) .deadlineExpiry missSt (fun t => !t.ce.dlPending && t.ce.prevMiss && t.ce.consec = 65535 &&
  t.f R.CE_MISS_MISS = 1 && mem missSt t) = true := by decide +kernel
def missedSt : State := cycSt { consec := 3 }
theorem witness_miss : ck (missedSt.f R.CE_DL_MISSMAX ≤ 3) .ceMiss missedSt (fun t => t.f R.CE_STAT_MTRIP = 1 && t.sys.causes = [(8, 0)] && t.st = 5 &&
  mem missedSt t) = true := by decide +kernel
def initSt : State := { cycSt { part := .init 9000 false, held := [[1]] } with tbp := 4009000 }
theorem witness_init_timeout : ck (9000 + 10 * perMs ≤ initSt.tbp) .initTimeout initSt (fun t => t.f R.CE_STAT_HOLD = 1 && t.f R.CE_FAULT_KIND = 3 &&
  t.ce.part = .idle && t.ce.held = []) = true := by decide +kernel

def image : List Word := [0x7216ce01, 0x55, 7, 1, 0, 0, 8, 0x100, 0xffff0000, 0xffffffff, 0xffffffff, 0xffffffff, 0xffffffff, 0xffffffff, 0xffffffff, 0xffffffff,
  0xffffffff, 0xffffffff, 0xffffffff, 0xffffffff, 1, 0, 0, 0, 0xbace3189, 0xa6a1790e, 0xd2152914,
  0x1851fb46, 0x7a085ad1, 0x206a98a1, 0x6402b059, 0x14f3998d, 0xc3b2919b, 0x4e376f52, 0x824ff7c4, 0xc3b62055, 0x20637c40, 0x518b75e1, 0xcdd12c31, 0x64daba1c, 0, 0, 0x11, 0x22]
def key : List Word := [0x753e1c47, 0x2804498c, 0x537eba5b, 0xf5d08e11, 0x7ebad24, 0xd25bd257, 0xd7b0e7f8, 0x4c71fa6d, 0x7a0f52dd,
  0x918b8aca, 0xf537cc7a, 0xc9f0e81d, 0x85ade3bb, 0x2e78283, 0x2da125dc, 0x58a8f709]
/-- STANDBY with the image in slot 1 and its key installed. -/
def imgSt (ce : CeSt := {}) (l : List (Fld × Nat) := []) : State := { inState 1 l with ce := { ce with slots := [(1, image)], keys := [(1, key)] } }
theorem witness_verify : imgSt.verifySlot 1 = 0 ∧ imgSt.verifySlot 0 = 2 ∧ ({ imgSt with ce := { slots := [(1, image)] } } : State).verifySlot 1 = 3 := by
  decide +kernel
theorem witness_ce_reset : ck (!connected.quiet) .ceReset connected (fun t => rec 0xA000 .state connected t && but wresFlds connected t) &&
  ck (imgSt.quiet && imgSt.ce.img = none) .ceReset (imgSt {} [(R.CE_STAT_HOLD, 1)]) (fun t => t.f R.CE_STAT_HOLD = 0 && t.ce.part = .idle &&
    rec 0xA000 .done imgSt t) = true := by decide +kernel
theorem witness_activate : ck (imgSt.quiet && imgSt.f R.CE_STAT_ACTBUSY = 0) (.ceActivate 1) imgSt (fun t => t.f R.CE_STAT_ACTBUSY = 1 && t.ce.act = 1 &&
  t.ce.actSlot = 1 && rec 0xA000 .done imgSt t && but (R.CE_STAT_ACTBUSY :: wresFlds) imgSt t) &&
  ck (!connected.quiet) (.ceActivate 1) connected (fun t => t.f R.CE_STAT_ACTRES = 1 && t.ce.act = 0 && rec 0xA000 .state connected t) = true := by
  decide +kernel
theorem witness_verified : runs .imageVerificationComplete (imgSt { act := 1, actSlot := 1 }) (fun t => t.ce.act = 2 && t.regs = imgSt.regs) &&
  runs .imageVerificationComplete (imgSt { act := 1, actSlot := 0 } [(R.CE_STAT_ACTBUSY, 1)]) (fun t => t.ce.act = 0 && t.f R.CE_STAT_ACTBUSY = 0 &&
    t.f R.CE_STAT_ACTRES = 2 && t.ce.img = none) = true := by decide +kernel
theorem witness_loaded : runs .imageLoadComplete (imgSt { act := 2, actSlot := 1 }) (fun t => t.ce.img = some (readHeader image) && t.f R.CE_STAT_LOADED = 1 &&
  t.f R.CE_STAT_ACTIVE = 1 && t.f R.CE_IMG_ID = 0x55 && t.f R.CE_IMGV_VER = 7 && t.word 0x104 = 0x22) = true := by decide +kernel
def bootSt (ce : CeSt := {}) : State := { imgSt with regs := [], ce := ce }
theorem witness_boot_image : ck ((bootSt { slots := [(1, image)], keys := [(1, key)], lastSlot := 1 }).verifySlot 1 = 0) .bootImageLoad
  (bootSt { slots := [(1, image)], keys := [(1, key)], lastSlot := 1 }) (fun t => t.ce.img = some (readHeader image) && t.f R.CE_STAT_LOADED = 1 &&
  t.f R.CE_STAT_ACTIVE = 1) && ck ((bootSt).verifySlot 0 ≠ 0 && (bootSt).verifySlot 1 ≠ 0) .bootImageLoad (bootSt) (fun t => t.f R.CE_STAT_LOADED = 0 &&
  !t.bitAt R.SYS_STATE_WAIT 2 && but [R.SYS_STATE_WAIT] bootSt t) = true := by decide +kernel

/-! ### The grid supervisor -/

/-- A copy with voltages, frequency, freshness and the flags of enter service. -/
def copyOf (v f : Word) : List Word := [v, v, v, 0, f, 0, 0, 0, 0, 0, 0, 3, 1, 0, 0, 0]
def gridSt (st : Nat) (g : GrdSt) (l : List (Fld × Nat) := []) : State :=
  { set (inState st [(R.GRD_CFG_EN, 1), (R.CLK_STAT_COARSE, 0)]) l with tbp := 400000000000, grd := g }
def evalSt (st crv : Nat) : State := gridSt st { waiting := true, copy := copyOf 0 50000, copyAt := 5, seq := some 0 }
  [(⟨0xB020 + 4 * (crv / 4), 8 * (crv % 4), 5⟩, 1), (⟨0xB804 + 128 * crv, 0, 17⟩, 16384)]
theorem witness_grid_idle : ck true .gridEvaluation (gridSt 3 {}) (fun t => t = gridSt 3 {}) = true := by decide +kernel
theorem witness_grid_none : ck ((gridSt 3 {}).inSt [3, 4]) .gridEvaluation (gridSt 3 { waiting := true, copy := copyOf 0x40000000 50000, copyAt := 5 }
  [(⟨0xB020, 0, 32⟩, 0), (⟨0xB024, 0, 32⟩, 0), (⟨0xB028, 0, 32⟩, 0), (⟨0xB02C, 0, 32⟩, 0)]) (fun t => !t.grd.waiting &&
  t.grd.evalAt = 5 && t.f R.GRD_STAT_ZONE = 0 && t.st = 3 && t.f R.GRD_STAT_HOLD = 0 && mem (gridSt 3 {}) t) = true := by decide +kernel
theorem witness_grid_cease : ck (zoneOf [128] = (3, some 128)) .gridEvaluation (evalSt 3 8) (fun t => t.f R.GRD_STAT_ZONE = 3 && t.st = 4 && t.f R.GRD_STAT_HOLD = 1) &&
  runs .gridEvaluation (evalSt 3 4) (fun t => t.f R.GRD_STAT_ZONE = 2 && t.st = 4 && t.f R.GRD_STAT_HOLD = 0) &&
  runs .gridEvaluation (evalSt 3 12) (fun t => t.f R.GRD_STAT_ZONE = 4 && t.st = 5 && t.f R.SYS_TCAUSE_FIRST = 0x10) &&
  runs .gridEvaluation (evalSt 2 8) (fun t => t.f R.GRD_STAT_ZONE = 3 && t.st = 2 && t.f R.GRD_STAT_HOLD = 0) = true := by decide +kernel
theorem witness_grid_stale : ck ((gridSt 4 {}).grd.evalAt + (gridSt 4 {}).f R.GRD_CFG_STALE * ptMs < (gridSt 4 {}).pt) .gridStale (gridSt 4 {}) (fun t =>
  t.st = 5 && t.sys.causes = [(0x17, 0)] && t.f R.GRD_STAT_CAUSE = 0x17 && mem (gridSt 4 {}) t) &&
  runs .gridStale (gridSt 2 {}) (fun t => t = gridSt 2 {}) = true := by decide +kernel
def curveSt : State := gridSt 3 { timers := [(255, 8)], evalAt := 7 + 4 * ptMs } [(⟨0xBFF8, 0, 32⟩, 4)]
theorem witness_curve : ck (7 + curveSt.crvT 15 15 * ptMs ≤ curveSt.grd.evalAt) (.curvePointTimerExpiry 15 15) curveSt (fun t =>
  t.grd.active = [255] && t.regs = curveSt.regs && mem curveSt t) = true := by decide +kernel
def rideSt : State := gridSt 4 { exitFrom := some 0, evalAt := 10000 * ptMs }
theorem witness_ride_exit : ck (rideSt.exitDue rideSt.grd.evalAt && rideSt.f R.GRD_STAT_ZONE = 0) .rideExit rideSt (fun t => t.st = 3 &&
  t.f R.SYS_STATE_PREV = 4 && t.grd.exitFrom = none && decide (rideSt.grd.evalAt < t.grd.suspTo) && mem rideSt t) = true := by decide +kernel
def rocSt : State := gridSt 3 { rocFrom := some 0, evalAt := 10000 * ptMs } [(R.GRD_ROC_EN, 1)]
theorem witness_rocof : ck (rocSt.rocDue rocSt.grd.evalAt) .islRocof rocSt (fun t => t.st = 5 && t.sys.causes = [(0x14, 0)] &&
  t.f R.GRD_STAT_CAUSE = 0x14) = true := by decide +kernel
def activeSt : State := gridSt 3 { code := some (R.GRD_CODE_ON.put 0 1) } [(R.GRD_AIL_EN, 1), (R.GRD_AIL_ACNT, 2), (R.GRD_STAT_HITS, 2), (R.PLT_TSTAT_UNSYNC, 0)]
theorem witness_active : ck (!activeSt.suspended 3 0) .islActive activeSt (fun t => t.st = 5 && t.sys.causes = [(0x16, 0)] &&
  t.f R.GRD_STAT_CAUSE = 0x16) = true := by decide +kernel
def codeSt : State := gridSt 3 { codeAt := some 0 } [(R.GRD_CODE_ROW, 0)]
theorem witness_code : ck (0 / codePeriod codeSt.codeWord < codeSt.pt / codePeriod codeSt.codeWord) .codePeriodBoundary codeSt (fun t =>
  t.codeWord = codeSt.reg 0xB050 && t.grd.codeAt = none && t.regs = codeSt.regs) = true := by decide +kernel
def enterSt : State := gridSt 1 { okFrom := some 0, evalAt := 10000000 * ptMs }
theorem witness_enter : ck (enterSt.f R.GRD_ENTD_DELAY * 1000 * ptMs ≤ enterSt.grd.evalAt) .enterServiceTimer enterSt (fun t =>
  t.f R.GRD_STAT_CONNOK = 1 && but [R.GRD_STAT_CONNOK] enterSt t) = true := by decide +kernel

/-! ### Cewlink -/

def linkSt (role n : Nat) (l : List (Fld × Nat)) (q : PortSt := {}) : State :=
  { set connected ([(R.LNK_CFG_ROLE, role), (R.CLK_STAT_STABLE, 7), (R.CLK_STAT_COARSE, 0)] ++ l) with tbp := 500000000, lnk := { ports := [(n, q)] } }
theorem witness_los : ck (portKind 1 4 ≠ 0 && (linkSt 1 4 []).portClocked 4) (.losDeasserted 4) (linkSt 1 4 [(R.LNK_PORT_LOS 4, 1)]) (fun t =>
  t.f (R.LNK_PORT_ST 4) = 2 && t.f (R.LNK_PORT_LOS 4) = 0 && (t.port 4).at_ = 500000000 && but [R.LNK_PORT_ST 4, R.LNK_PORT_LOS 4] (linkSt 1 4 []) t) = true := by
  decide +kernel
def train (ph : Nat) (q : Nat) : State := linkSt 1 4 [(R.LNK_PORT_ST 4, q)] { phase := ph, at_ := 100000000 }
theorem witness_lock : ck true (.symbolLock 4) (train 0 2) (fun t => (t.port 4).phase = 1 && t.regs = (train 0 2).regs) = true := by decide +kernel
theorem witness_train : ck (legalPair (portKind 1 4) 1) (.trainingSequenceComplete 4 1 ⟨true, 0xABCD, true⟩) (train 1 2) (fun t => t.f (R.LNK_PORT_FAR 4) = 1 &&
  (t.port 4).farSer = 0xABCD && t.f (R.LNK_PORT_ST 4) = 2 && (t.port 4).phase = 2 && (t.port 4).at_ = 500000000 &&
  out (fun o => o = 0xC020 || ev o) (train 1 2) t) &&
  runs (.trainingSequenceComplete 4 1 ⟨false, 0, true⟩) (train 1 2) (fun t => t.f (R.LNK_PORT_ST 4) = 4) &&
  runs (.trainingSequenceComplete 4 2 ⟨true, 0, true⟩) (train 1 2) (fun t => t.f (R.LNK_PORT_ST 4) = 4) &&
  runs (.trainingSequenceComplete 4 1 ⟨true, 7, false⟩) (train 1 2) (fun t => t = train 1 2) = true := by decide +kernel
theorem witness_retry : ck true (.miswireRetry 4) (train 1 4) (fun t => t.f (R.LNK_PORT_ST 4) = 2 && (t.port 4).phase = 0 &&
  but [R.LNK_PORT_ST 4] (train 1 4) t) = true := by decide +kernel
theorem witness_up : ck (((train 2 2).port 4).at_ + perMs ≤ (train 2 2).tbp) (.lnkUp 4) (train 2 2) (fun t => t.f (R.LNK_PORT_ST 4) = 3 && (t.port 4).seen = some 500000000 && (t.xing (timeKey 4)).dst = (train 2 2).relation 4 &&
  out (fun o => o = 0xC020 || ev o) (train 2 2) t) = true := by decide +kernel
theorem witness_down : ck true (.lnkDown 4 true) { train 0 3 with xdc := { fifo := [(fifoKey 9 0, [1])] } } (fun t => t.f (R.LNK_PORT_ST 4) = 1 &&
  t.f (R.LNK_PORT_LOS 4) = 1 && t.f (R.LNK_PORT_FAR 4) = 0 && (t.xing (linkKey 4)).inReset && (t.xing (timeKey 4)).inReset && mem (train 0 3) t) = true := by
  decide +kernel
/-- R391: 250 counts after the first symbol, 156 symbols have left; the header takes 36, and the segment of the cell is cut after
29 of its 63 words and ends stomped. -/
def longSeg : Seg := segOf true (List.replicate 63 7)
def cutSt : State := { linkSt 1 4 [(R.LNK_PORT_ST 4, 3), (R.LNK_PORT_ST 5, 3)] with
  lnk := { ports := [(5, { outAt := some 499999750 })], out := [(5, { hdr := segOf true (List.replicate 7 1), cells := [some longSeg] })] } }
theorem witness_cut_frame : ck (otherPort 1 4 = some 5 && (cutSt.port 5).outAt = some 499999750) (.lnkDown 4 false) cutSt (fun t =>
  t.sent 5 = (cutSt.sent 5).cut 156 && (t.sent 5).hdr.good &&
    (t.sent 5).cells.map (·.map fun g => (g.body.length, g.stomped)) = [some (29, true)]) = true := by decide +kernel
theorem witness_retrain : ck true (.retrainStart 4) (train 0 1) (fun t => t.f (R.LNK_PORT_ST 4) = 2 && t.f (R.LNK_ERR_RETR 4) = 1 && mem (train 0 1) t) = true := by
  decide +kernel
def quietPort : State := linkSt 1 4 [(R.LNK_PORT_ST 4, 3)] { seen := some 0 }
theorem witness_nofrm : ck (4 * quietPort.lnk.per * perUs ≤ 500000000) (.nofrm 4) quietPort (fun t => t.f (R.LNK_PORT_NOFRM 4) = 1 &&
  but [R.LNK_PORT_NOFRM 4] quietPort t) = true := by decide +kernel

/-- A worker with partner number 5, and a packet to it from its manager or from another device. -/
def worker : State := { linkSt 1 0 [(R.PLT_ASG_PART, 5), (R.PLT_ASG_ADM, 1)] with lnk := { num := 5 } }
def mgrPkt : Packet := { ty := 0x10, src := 2 ^ 21, dst := 5, tag := 77 }
def kept (q : Packet) (ty st : Nat) (body : List Word) (t : State) : Bool :=
  t.lnk.kept.any fun k => k.src = q.src && k.tag = q.tag && k.resp.ty = ty && k.resp.status = st && k.resp.body = body
theorem witness_rd : (let q := { mgrPkt with len := 4, ofs := 0xC000, body := [64] }
  ck (worker.mine q) (.rd q) worker (fun t => kept q 0x11 0 (State.readRegs 64 worker 17 0xC000).1 t && mem worker t)) = true := by decide +kernel
theorem witness_wr : runs (.wr mgrPkt) worker (fun t => kept mgrPkt 0x13 4 [] t && t.regs = worker.regs) &&
  (let q := { mgrPkt with src := 7, len := 4, ofs := 0xB050, body := [1] }
   ck (!fromManager q) (.wr q) worker (fun t => kept q 0x13 3 [] t && t.regs = worker.regs)) &&
  (let q := { mgrPkt with len := 4, ofs := 0xB050, body := [1] }
   runs (.wr q) worker (fun t => kept q 0x13 0 [] t && t.reg 0xB050 = 0x515401)) &&
  (let q := { mgrPkt with len := 4, ofs := 0x1100C, body := [0xFFFFFFFF] }
   ck (worker.mine q && accMask Acc.cfg q.ofs ≠ 0 && accMask Acc.cmd q.ofs = 0) (.wr q) worker (fun t => kept q 0x13 0 [] t &&
     t.reg q.ofs &&& accMask Acc.cfg q.ofs = worker.written Acc.cfg q.ofs 0xFFFFFFFF &&& accMask Acc.cfg q.ofs)) = true := by decide +kernel
theorem witness_parw : (let q := { mgrPkt with len := 8, ofs := 0xFF8, body := [1, 0x20000] }
  ck (fromManager q) (.parw q) worker (fun t => kept q 0x13 0 [] t && t.words 0x1CFF8 2 = q.body && t.mem.length = 2 && t.regs = worker.regs) &&
  runs (.parw { q with src := 7 }) worker (fun t => kept { q with src := 7 } 0x13 3 [] t && t.mem = [])) = true := by decide +kernel
def bulkPkt (body : List Word) : Packet := { mgrPkt with ty := 0x20, tgt := 1, len := 8, body := body }
/-- Slot 1 is the active one. -/
def noImage : State := set worker [(R.CE_STAT_LOADED, 0), (R.CE_STAT_ACTIVE, 1)]
def owned (n : Nat) : State := { noImage with sys := { own := (List.range n).map fun b => (0x1C10 + b, 0xAC00) } }
theorem witness_bopen : ck (owned 8).live (.bopen (bulkPkt [393216, 0])) (owned 8) (fun t => kept (bulkPkt []) 0x22 2 [0] t && t.lnk.bulk = []) &&
  ck ((owned 7).owner 0x1C17 = 0) (.bopen (bulkPkt [393216, 0])) (owned 7) (fun t => kept (bulkPkt []) 0x22 0 [0] t && t.owner 0x1C17 = 0xAC07 &&
    (Tab.look t.lnk.bulk 7).map (·.src) = some (2 ^ 21)) &&
  runs (.bopen (bulkPkt [393216, 1])) (owned 0) (fun t => kept (bulkPkt []) 0x22 1 [0] t && t.lnk.bulk = []) = true := by decide +kernel
def openSt : State := { noImage with lnk := { num := 5, bulk := [(7, ⟨2 ^ 21, 0, 8, 1, [5], 0⟩)] }, sys := { own := [(0x1C17, 0xAC07)] } }
theorem witness_bdata : (let q := { bulkPkt [6] with ty := 0x21, ofs := 1, last := true }
  ck (openSt.mine q) (.bdata q) openSt (fun t => kept q 0x22 0 [2] t && Tab.look t.ce.slots 0 = some [5, 6] && t.owner 0x1C17 = 0 && t.regs = openSt.regs) &&
  runs (.bdata { q with ofs := 0 }) openSt (fun t => kept q 0x22 0 [1] t && t.ce = openSt.ce)) = true := by decide +kernel
theorem witness_bulk_timeout : ck true (.bulkTimeout 7) openSt (fun t => Tab.look t.lnk.bulk 7 = none && t.owner 0x1C17 = 0 && t.regs = openSt.regs) = true := by
  decide +kernel
def txn1 (ty : Nat) (who : TxnFor) : Txn := { p := { ty := ty, dst := 2 ^ 21, tag := 9 }, frames := 400, sent := true, who := who }
def asking (ty : Nat) (who : TxnFor) (l : List (Fld × Nat) := []) : State :=
  { set worker l with lnk := { num := 5, txns := [txn1 ty who] }, hst := { rings := [(15, { infl := [{ d := { opc := 5, tag := 0x1234 }, idx := 3, started := true }] })] } }
def reply (ty : Nat) : Packet := { ty := ty, src := 2 ^ 21, dst := 5, tag := 9 }
theorem witness_replies : ck ((asking 0x10 (.ring 15 3)).txnFor (reply 0x11) = some (txn1 0x10 (.ring 15 3)) && worker.mine (reply 0x11)) (.rdr (reply 0x11) false)
    (asking 0x10 (.ring 15 3)) (fun t => t.lnk.txns = [] && t.flightOf 15 3 = none) &&
  ck ((asking 0x12 .nobody).txnFor (reply 0x13) = some (txn1 0x12 .nobody)) (.wrr (reply 0x13)) (asking 0x12 .nobody) (fun t => t.lnk.txns = [] &&
    t.regs = worker.regs) && runs (.wrr (reply 0x13)) (asking 0x12 (.ring 15 3)) (fun t => t.lnk.txns = [] && t.flightOf 15 3 = none) &&
  runs (.back (reply 0x22)) (asking 0x20 .nobody) (fun t => t.lnk.txns = []) = true := by decide +kernel
theorem witness_resend : ck ((asking 0x10 .nobody).f R.LNK_TXN_TO ≤ 400 && 0 < (asking 0x10 .nobody).f R.LNK_TXN_RETRY) (.txnResend 9) (asking 0x10 .nobody)
  (fun t => t.lnk.txns = [{ txn1 0x10 .nobody with p := { ty := 0x10, dst := 2 ^ 21, tag := 9, att := 1 }, sent := false, frames := 0 }] &&
    t.f R.LNK_TXCNT_RTRY = 1 && but [R.LNK_TXCNT_RTRY] (asking 0x10 .nobody) t) = true := by decide +kernel
def lastTry (who : TxnFor) : State := asking 0x10 who [(R.LNK_TXN_RETRY, 0), (R.HST_EVR_CFG_EN, 1), (R.HST_RING_CBL_VAL 15, 0x1000)]
theorem witness_txn_timeout : ck ((lastTry .nobody).f R.LNK_TXN_TO ≤ 400) (.lnkTxnTimeout 9) (lastTry .nobody) (fun t => t.lnk.txns = [] &&
    t.f R.LNK_TXCNT_TMO = 1 && t.hst.held.any (·.code = 0x0C04)) &&
  runs (.lnkTxnTimeout 9) (lastTry (.ring 15 3)) (fun t => t.lnk.txns = [] && (t.ring 15).infl = [] && (t.hostWord 0x1000).toNat % 2 ^ 16 = 0x1234 &&
    (t.hostWord 0x1000).toNat / 2 ^ 24 % 8 = 1 && (t.hostWord 0x1000).toNat / 2 ^ 27 = 1) = true := by decide +kernel

def eight : List Word := [1, 2, 3, 4, 5, 6, 7, 8]
def upWorker : State := set worker [(R.LNK_PORT_ST 4, 3), (R.PLT_ASG_PART, 992)]
/-- Position 224, the first of the eighth group of a frame. -/
def last8 : List Seg := List.replicate 7 ({} : Seg) ++ [segOf true (1 :: eight)]
def hdr9 (hop acc loop : Nat) : List Word := hdrWords 9 0 0 0 hop 3 0 1 0 acc loop 200 1
def down9 (good : Bool) (acc loop : Nat) : DownFrame := { woad := true, f := { hdr := segOf good (hdr9 224 acc loop), cyc := last8 } }
theorem witness_down_frame : ck (upWorker.portUp (upPort 1 (netNo true)) && (down9 true 0 0).f.hdr.good && slotIn 8 last8 224 = some eight &&
    upWorker.delivered 1024 = []) (.downFrame (down9 true 0 0)) upWorker (fun t => t.lnk.num = 992 && t.f (R.LNK_PORT_POS 4) = 224 &&
    t.lnk.curFrm = some 9 && t.words 0x1AC00 8 = eight && t.f (R.LNK_PORT_END 5) = 1 && (t.sent 4).hdr.good && (t.sent 4).frame = 9) &&
  ck (!(down9 false 0 0).f.hdr.good) (.downFrame (down9 false 0 0)) upWorker (fun t => t.lnk.num = 5 && (t.port 4).bad = 1 &&
    t.f (R.LNK_ERR_STOMP 4) = 1 && t.f (R.LNK_ERR_CRC 4) = 0 && mem upWorker t) = true := by decide +kernel
/-- R403, R405 with the section's numbers: TURN is 77,218.85 ns and `LOOP` 0x012E6B40, so d is 100.2 ns (25,651 × 2^-8 ns); with a residence of
96.4 ns `ACC` = 0x0001B040 goes on as 0x000274DA, and the offset at an arrival 529.25 ns after TS0 is +3.2 ns. -/
def delaySt : State := { upWorker with lnk := { upWorker.lnk with ports := [(4, { arr := some (8, 224, 0), turn := some 5060614554 })] } }
theorem witness_delay : ck ((delaySt.port 4).turn = some 5060614554 && (8 + 1) % 2 ^ 32 = (down9 true 0x1B040 0x12E6B40).f.frame) (.downFrame (down9 true 0x1B040 0x12E6B40)) delaySt
    (fun t => t.f (R.LNK_DLY_D 4) = 25651 && (t.port 4).dly = some 6566707) = true := by decide +kernel
theorem test_forward : nearDiv (((0x1B040 * 256 : Int) + 6566707 + nearDiv (964 * 2 ^ 16) 10)) 256 = 0x274DA := by decide +kernel
def ts0Frame : LinkFrame := { hdr := { body := hdrWords 9 999900000 999 0 2 0 0 0 0 0x1B040 0x12E6B40 200 200 } }
theorem test_offset : nearDiv (frameOffset ts0Frame 6566707 ((999 * 1000000000 + 999900529) * 2 ^ 16 + 0x4000) * 10) (2 ^ 16) = 32 := by decide +kernel
def manager (l : List (Fld × Nat) := []) : State := linkSt 3 0 ([(R.LNK_PORT_ST 7, 3)] ++ l)
def up4 : UpFrame := { port := 7, f := { hdr := segOf true (hdrWords 4 0 0 0 0 3 1 1 1 0 0 200 256), cyc := last8 } }
theorem witness_up_frame : ck (portKind 3 7 = 1 && (manager).portUp 7 && up4.f.hdr.good && slotIn 8 last8 224 = some eight && up4.f.ndev = 256 &&
    (manager).delivered 992 = []) (.upFrame up4) (manager) (fun t => t.f (R.LNK_LINE_NDEV 3) = 1 && t.words (0x10000 + 32 * 992) 8 = eight) = true := by
  decide +kernel
def loopSt : State := { (manager) with lnk := { ports := [(7, { dep := some (4, 0) })] } }
theorem witness_loop : ck ((loopSt.port 7).dep = some (up4.f.frame, 0)) (.upFrame { up4 with arr := 1000 }) loopSt (fun t =>
    (t.port 7).loop = BitVec.ofNat 32 (nearDiv ((loopSt.relate 7).stamp 7 1000 - 0) 256).toNat) = true := by decide +kernel
/-- R390: the CRC-32 of a segment, its bytes in the order of the words, lowest first ("1234" and "5678" here). -/
theorem test_segment_crc : (segOf true [0x34333231, 0x38373635]).good ∧ (segOf true [0x34333231, 0x38373635]).crc = 0x9AE0DAAF ∧
    (segOf false [0x34333231]).stomped ∧ !(segOf false [0x34333231]).good := by decide +kernel

/-! ### Managers and the plant -/

def tabSt (tab : Tab Partner) (l : List (Fld × Nat) := []) : State := { manager l with plt := { tab := tab } }
def lostSt : State := (tabSt [(1023, { st := 2, serial := 6 })] [(R.PLT_MCFG_LOSTF, 8)]).setSlotStat 1023 (8 * 2 ^ 11)
theorem witness_lost : ck (lostSt.f R.PLT_MCFG_LOSTF ≤ lostSt.slotAge 1023) (.partnerLost 1023) lostSt (fun t => t.partner 1023 = { st := 3, serial := 6 } &&
  out ev lostSt t) = true := by decide +kernel
def forgetSt : State := tabSt [(5, { st := 3 }), (9, { st := 2 })] [(R.PLT_PQRY_PART, 5)]
theorem witness_forget : ck true .partnerForget forgetSt (fun t => t.plt.tab = [(9, { st := 2 })] && rec 0xD074 .done forgetSt t && but wresFlds forgetSt t) = true := by
  decide +kernel
def newSt : State := tabSt [(700, { st := 1 })] [(R.PLT_MCFG_ADMIT, 1)]
theorem witness_admit : ck (newSt.admitting = []) .admissionStart newSt (fun t => (match t.lnk.txns with
  | [k] => k.who = .admission 700 1 && k.p.ty = 0x10 && k.p.dst = 700 && k.p.ofs = 0xD004 && k.p.body = [2]
  | _ => false) && t.plt = newSt.plt && t.regs = newSt.regs) = true := by decide +kernel
def sameSlot : State := (tabSt [(2, { st := 2, slot := 0 }), (3, { st := 2, slot := 0 })] [(R.PLT_PHM_M, 4)]).setWords 0x10040 [3, 0, 0, 0, 0, 0, 0, 0, 3]
theorem witness_rebalance : ck (Tab.wf (fun _ => {}) sameSlot.plt.tab && sameSlot.switching 3 && sameSlot.switching 2) .phaseRebalance sameSlot (fun t =>
  (t.partner 3).slot = 1 && (t.partner 2).slot = 2 && (t.partner 3).st = 2 && rec 0xD060 .done sameSlot t && but wresFlds sameSlot t) = true := by decide +kernel
def phaseSt : State := { tabSt [] [(R.PLT_PHC_CARS, 0x8000), (R.PWM_CAR_PH_PHASE 15, 0xFFFFFF)] with plt := { dOfs := 2 } }
theorem witness_phase : ck (phaseSt.plt.dOfs ≠ 0) .phaseOffsetChange phaseSt (fun t => t.plt.dOfs = 0 && t.regs = phaseSt.regs &&
  (t.car 15).slot.regs.map (fun e => (e.1, (R.PWM_CAR_PH_PHASE 15).get e.2)) = [(0x40F8, 1)] && t.car 0 = phaseSt.car 0) = true := by decide +kernel
def codeChg (n : Nat) : State := { tabSt [] with plt := { tab := [(5, { st := 2 }), (9, { st := 2, row := 3 })], code := n } }
theorem witness_code_off : ck ((codeChg 1).admitted = [5, 9]) .plantCodeChange (codeChg 1) (fun t => t.plt.code = 2 &&
  (t.lnk.txns.map fun k => (k.who, k.p.dst, k.p.ofs, k.p.body.map R.GRD_CODE_ON.get)) = [(.codeOff, 5, 0xB050, [0]), (.codeOff, 9, 0xB050, [0])] &&
  t.regs = (codeChg 1).regs) && runs .plantCodeChange (codeChg 3) (fun t => t.plt.code = 0 &&
  (t.lnk.txns.map fun k => (k.who, k.p.dst, k.p.ofs, k.p.body)) = [(.nobody, 5, 0xB050, [(codeChg 3).partnerCode 5]), (.nobody, 9, 0xB050, [(codeChg 3).partnerCode 9])]) = true := by
  decide +kernel

def report (code : Word) : Packet := { ty := 0x30, cls := 2, src := 5, dst := 2 ^ 21, body := [code + 0x10000, 7, 8, 7, 8, 5, 0, 0] }
def ent (code : Nat) : AlarmEnt := { code := code, fns := 0, fs := 0, lns := 0, ls := 0 }
def queSt (n m : Nat) : State :=
  { manager with que := { alarm := (List.range n).map fun i => ent (0x200 + i), trip := (List.range m).map fun i => ent (0x300 + i) } }
theorem witness_alarm : ck (((queSt 31 0).que.alarm.all fun e => e.code ≠ 0x901)) (.alarmPacket (report 0x901)) (queSt 31 0) (fun t => t.que.alarm.length = 32 &&
  (t.que.alarm.getLast?.map fun e => (e.code, e.hold)) = some (0x901, (queSt 31 0).f R.PLT_CRD1_HOLD + 1) && t.regs = (manager).regs) &&
  runs (.alarmPacket (report 0x901)) (queSt 32 0) (fun t => t.que.alarm = (queSt 32 0).que.alarm && t.f R.PLT_DROP0_ALARM = 1 &&
    but [R.PLT_DROP0_ALARM] (manager) t) = true := by decide +kernel
theorem witness_trip_report : runs (.tripRep (report 0x701)) (queSt 0 7) (fun t => t.que.trip.length = 8 && (t.partner 5).cause = 1 && t.que.alarm = [] &&
  t.regs = (manager).regs) = true := by decide +kernel
theorem witness_log : runs (.logPacket (report 1)) (manager) (fun t => t.que.log = [report 1] && t.regs = (manager).regs) &&
  runs (.tracePacket (report 1)) (manager [(R.PLT_CRD1_TRLINK, 1)]) (fun t => t.que.trace = [report 1]) = true := by decide +kernel
def toTop : Packet := { report 1 with dst := 2 ^ 22 }
theorem witness_relay : ck (aTop toTop.dst && !aBcast toTop.dst) (.packetRelay { toTop with cls := 0 }) (linkSt 2 0 []) (fun t =>
    t.lnk.upq = [{ toTop with cls := 0 }] && t.regs = (linkSt 2 0 []).regs) &&
  runs (.packetRelay toTop) (linkSt 2 0 []) (fun t => t.lnk.upq = [] && t.que.alarm.map (·.code) = [1] && t.regs = (linkSt 2 0 []).regs) = true := by
  decide +kernel
theorem witness_hold : runs .relayHoldExpiry { manager with que := { alarm := [{ ent 1 with hold := 1 }, { ent 2 with hold := 2 }] } } (fun t =>
  t.que.alarm.map (·.hold) = [0, 2] && t.regs = (manager).regs) = true := by decide +kernel

/-! ### Safety -/

def sp (o : Nat) : Bool := pg 0xE o || stp o
/-- Connected, confirmed and tested, every input pair off; the two channels hold `a` and `b`. -/
def safSt (a b : ChanSt) (l : List (Fld × Nat) := []) : State :=
  { set connected ([(R.SAF_STAT_CONF, 1), (R.SAF_STAT_TESTOK, 1)] ++ l) with tbp := 1000000000, saf := { a := a, b := b } }
def calm : ChanSt := { safe := false }
def pairIn (n m : Nat) : List (Fld × Nat) := [(R.SAF_IN_MODE 3, n), (R.SAF_IN_ACKM 3, m)]
theorem witness_cycle_demand : ck ((safSt calm calm (pairIn 1 0)).inPair true 3 ≠ 1) (.safetyCycle true true true 0) (safSt calm calm (pairIn 1 0)) (fun t =>
  (t.chan true).dem.testBit 3 && mem (safSt calm calm) t) = true := by decide +kernel
theorem witness_cycle_told : runs (.safetyCycle false true true 0) (safSt { calm with told := true } {}) (fun t => (t.chan false).safe &&
  !(t.chan false).told && mem (safSt calm calm) t) = true := by decide +kernel
theorem witness_cycle_beat : runs (.safetyCycle true false true 0) (safSt calm { calm with noBeat := 1 }) (fun t => (t.chan true).flt.testBit 13) &&
  runs (.safetyCycle true false true 0) (safSt calm calm) (fun t => (t.chan true).flt = 0 && (t.chan true).noBeat = 1) &&
  runs (.safetyCycle true true false 0) (safSt calm calm) (fun t => (t.chan true).flt.testBit 13 && t.st = 6) = true := by decide +kernel
def awake : State := safSt { calm with sw := 1 } { calm with sw := 1, ins := 0xC0 } (pairIn 1 0)
theorem witness_cycle_calm : ck (!awake.trp.isoReq && awake.inPair true 3 = 1 && awake.mayEnergise 0 && awake.mayEnergise 1 &&
    awake.saf.a.decision = awake.saf.b.decision) (.safetyCycle true true true 3) awake (fun t => (t.chan true).sw = 3 && t.chan false = awake.chan false &&
  (t.chan true).flt = 0 && out (fun o => pg 0xE o || o = 0x303C || o = 0x3040) awake t) = true := by decide +kernel
theorem witness_cycle_off : (let s := { awake with saf := { awake.saf with test := 1 } }
  ck (!s.mayEnergise 0) (.safetyCycle true true true 3) s (fun t => (t.chan true).sw = 0)) = true := by decide +kernel

def waitSt (w : Nat) : State := set State.reset [(R.SYS_STATE_WAIT, w)]
theorem witness_self_test : ck ((waitSt 3).bitAt R.SYS_STATE_WAIT 0) (.selfTestComplete true) (waitSt 3) (fun t => t.f R.SYS_STATE_WAIT = 2 && t.saf.selfOk &&
    but [R.SYS_STATE_WAIT] (waitSt 3) t) &&
  runs (.selfTestComplete false) (waitSt 1) (fun t => t.f R.SYS_STATE_WAIT = 0 && !t.saf.selfOk && t.saf.a.flt.testBit 14 && t.saf.b.flt.testBit 14 &&
    t.st = 0 && mem (waitSt 1) t) = true := by decide +kernel
def recSt : State := safSt { dem := 9, flt := 0x100, disc := 2 } { tp := 4 } [(R.SAF_IN_ACKM 3, 1), (R.SAF_IN_ACKM 0, 0), (R.SAF_STAT_CAUSE, 4)]
theorem witness_record : runs .safetyRecordWrite recSt (fun t => t.saf.record.map (fun r => (r.demA, r.fltA, r.discA, r.tpB, r.cause)) = some (8, 0x100, 2, 4, 4) &&
  t.regs = recSt.regs && mem recSt t) = true := by decide +kernel
def ageSt : State := { safSt calm calm [(R.SAF_TSTAT_AGE, 65535)] with tbp := 60 * perSec }
theorem witness_age : ck (ageSt.saf.ageAt + 60 * perSec ≤ ageSt.tbp) .safetyRecordAgeUpdate ageSt (fun t => t.f R.SAF_TSTAT_AGE = 65535 &&
  t.saf.ageAt = ageSt.tbp && t.saf.record.map (·.age) = some 65535 && but [R.SAF_TSTAT_AGE] ageSt t) = true := by decide +kernel

theorem witness_input_off : ck ((safSt calm calm [(R.SAF_IN_MODE 3, 0)]).f (R.SAF_IN_MODE 3) = 0) (.filteredInputChange true 7 true) (safSt calm calm [(R.SAF_IN_MODE 3, 0)])
  (fun t => (t.chan true).ins = 0x80 && t.regs = (safSt calm calm [(R.SAF_IN_MODE 3, 0)]).regs) = true := by decide +kernel
def activeIn (m : Nat) (c : ChanSt) : State := safSt calm c [(R.SAF_IN_MODE 3, m), (R.SAF_IN_ACKM 3, 0), (R.SAF_CNT_DEM, 254)]
theorem witness_input_demand : ck ((activeIn 2 { calm with ins := 0x40 }).inPair true 3 = 1) (.filteredInputChange true 7 true) (activeIn 2 { calm with ins := 0x40 })
  (fun t => (t.chan true).ins = 0xC0 && (t.chan true).dem = 8 && (t.chan true).safe && t.f R.SAF_CNT_DEM = 255 && t.st = 6 &&
    out sp (activeIn 2 calm) t) = true := by decide +kernel
theorem witness_input_clear : (let s := activeIn 1 { calm with ins := 0x40, dem := 8, safe := true }
  runs (.filteredInputChange true 7 true) s (fun t => (t.chan true).ins = 0xC0 && t.inPair true 3 = 1 && (t.chan true).dem = 0 && !(t.chan true).safe && mem s t)) = true := by
  decide +kernel
def disSt (k : Nat) : State :=
  { safSt calm { calm with disAt := [(3, 101)], prog := [(3, 2)] } [(R.SAF_IN_MODE 3, 1), (R.SAF_IN_DISC 3, 2)] with tbp := 584100 + k }
theorem witness_disc : ck (Tab.get (fun _ => 0) ((disSt 1).chan true).disAt 3 = 100 + 1 && (disSt 1).f (R.SAF_IN_DISC 3) * 392000 - 200000 < (disSt 1).tbp - 100)
    (.disc true 3) (disSt 1) (fun t => (t.chan true).disc = 8 && out sp (disSt 1) t) && runs (.disc true 3) (disSt 0) (fun t => t = disSt 0) = true := by decide +kernel
def tpSt : State := safSt calm calm [(R.SAF_IN_MODE 0, 1), (R.SAF_IN_TP 0, 1), (R.SAF_IN_MODE 3, 1), (R.SAF_IN_TP 3, 1), (R.SAF_IN_MODE 2, 1), (R.SAF_IN_TP 2, 0)]
theorem witness_test_pulse : runs (.testPulse false 5 8) tpSt (fun t => (t.chan false).tp = 9 && out sp tpSt t) = true := by decide +kernel

def acked (s t : State) : Bool := [false, true].all fun b =>
  ((List.range 17).all fun i => (t.chan b).flt.testBit i = ((s.chan b).flt.testBit i && s.persists b i)) &&
  ((List.range 4).all fun k => (t.chan b).dem.testBit k = ((s.chan b).dem.testBit k && s.inPair b k ≠ 1) &&
    (t.chan b).disc.testBit k = ((s.chan b).disc.testBit k && Tab.get (fun _ => 0) (s.chan b).prog k ≠ 2) &&
    (t.chan b).tp.testBit k = ((s.chan b).tp.testBit k && Tab.get (fun _ => 0) (s.chan b).prog k ≠ 2))
def ackSt (rack : Nat) (c : ChanSt) (l : List (Fld × Nat) := []) : State := safSt c { flt := 0x100, dem := 8 } ([(R.SAF_CFG_RACK, rack), (R.SAF_IN_MODE 3, 0)] ++ l)
theorem witness_ack_times : runs (.acknowledge 49) (ackSt 0 {}) (fun t => t = ackSt 0 {}) && runs (.acknowledge 50) (ackSt 0 {}) (fun t => acked (ackSt 0 {}) t &&
    t.causeFree && !(t.chan true).safe && t.st = 3 && out (fun o => pg 0xE o || ev o) (ackSt 0 {}) t) &&
  runs (.acknowledge 4999) (ackSt 0 { flt := 0x2000, disc := 9, prog := [(0, 2)] } [(R.SAF_STAT_ACKSTUCK, 1)]) (fun t => acked (ackSt 0 { flt := 0x2000, disc := 9, prog := [(0, 2)] }) t &&
    (t.chan false).flt = 0x2000 && (t.chan false).disc = 8 && (t.chan true).safe && t.f R.SAF_STAT_ACKSTUCK = 0) &&
  runs (.acknowledge 5000) (ackSt 0 {} [(R.SAF_STAT_ACKSTUCK, 1)]) (fun t => t.f R.SAF_STAT_ACKSTUCK = 0 && t.saf = (ackSt 0 {}).saf &&
    but [R.SAF_STAT_ACKSTUCK] (ackSt 0 {}) t) = true := by decide +kernel
theorem witness_ack_stuck : ck ((ackSt 0 {}).f R.SAF_STAT_ACKSTUCK = 0) .safAckStuck (ackSt 0 {}) (fun t => t.f R.SAF_STAT_ACKSTUCK = 1 && t.saf = (ackSt 0 {}).saf &&
  out (fun o => o = 0xE080 || ev o) (ackSt 0 {}) t) = true := by decide +kernel
theorem witness_ack_command : ck ((ackSt 1 {}).f R.SAF_CFG_RACK = 1) (.safCmdAck .host) (ackSt 1 {}) (fun t => acked (ackSt 1 {}) t && rec 0xE0A0 .done (ackSt 1 {}) t &&
    out (fun o => pg 0xE o || ev o || o = 0x11000) (ackSt 1 {}) t) &&
  ck ((ackSt 0 {}).f R.SAF_CFG_RACK = 0) (.safCmdAck .host) (ackSt 0 {}) (fun t => t.saf = (ackSt 0 {}).saf && rec 0xE0A0 .state (ackSt 0 {}) t && but wresFlds (ackSt 0 {}) t) &&
  runs (.safCmdAck .link) (ackSt 1 {}) (fun t => t = ackSt 1 {}) = true := by decide +kernel

theorem witness_switch_off : (let s := safSt calm { sw := 3, offAt := some 1000000000 } []
  runs (.outputSwitchOff true) s (fun t => (t.chan true).sw = 0 && (t.chan true).offAt = none && t.chan false = s.chan false && out (pg 0xE) s t)) = true := by decide +kernel
def pulses (a b : ChanSt) (l : List (Fld × Nat)) : State := safSt { a with safe := false, sw := 3 } { b with safe := false, sw := 3 } l
theorem witness_pulse_sb : (let s := { pulses {} { pulseAt := [(1, 100)] } [(R.SAF_CFG_OUTM, 0)] with tbp := 980 * perMs + 99 }
  ck (s.energised 1) (.outputOffPulse true 1) s (fun t => (t.chan true).pulse = 2 && Tab.get (fun _ => 0) (t.chan true).pulseAt 1 = s.tbp + 1 &&
    t.chan false = s.chan false && t.regs = s.regs)) = true := by decide +kernel
theorem witness_pulse_sa : (let s := { pulses {} { pulseAt := [(1, 100)] } [(R.SAF_CFG_OUTM, 0)] with tbp := 550 * perMs + 99 }
  ck (s.energised 1) (.outputOffPulse false 1) s (fun t => (t.chan false).pulse = 2 && Tab.get (fun _ => 0) (t.chan false).pulseAt 1 = s.tbp + 1 &&
    t.chan true = s.chan true) && runs (.outputOffPulse false 1) { s with tbp := 450 * perMs + 99 } (fun t => (t.chan false).pulse = 2)) = true := by decide +kernel
theorem witness_pulse_mode : (let s := pulses {} {} [(R.SAF_CFG_OUTM, 1)]
  runs (.outputOffPulse true 0) s (fun t => t = s)) = true := by decide +kernel
def inPulse : State := { pulses {} { pulse := 2, pulseAt := [(1, 100)] } [(R.SAF_OUT_OPW, 500)] with tbp := 500 * perUs + 99 }
theorem witness_pulse_end : runs (.offPulseEnd true 1 true) inPulse (fun t => (t.chan true).pulse = 0 && (t.chan true).flt = 0 && t.regs = inPulse.regs) &&
  runs (.offPulseEnd true 1 false) inPulse (fun t => (t.chan true).pulse = 0 && (t.chan true).flt = 2 && out sp inPulse t) = true := by decide +kernel
theorem witness_out_oc : (let s := pulses {} {} []
  ck (s.energised 1) (.outOc false 1) s (fun t => t.saf.a.sw = 1 && t.saf.b.sw = 1 && (t.chan false).flt = 8 && out sp s t)) = true := by decide +kernel
theorem witness_out_open : (let s := { pulses {} {} [] with tbp := 10 * perMs }
  ck (s.energised 1) (.outOpen true 1) s (fun t => (t.chan true).flt = 0x20 && out sp s t)) = true := by decide +kernel
theorem witness_feedback : (let s := { pulses {} { cond := 0x80 } [(R.SAF_CFG_OUTM, 1), (R.SAF_CFG_TOPEN, 7)] with tbp := 7 * perMs }
  runs (.fb true 1 false) s (fun t => (t.chan true).cond = 0x80 && (t.chan true).flt = 0x80 && out sp s t) &&
  runs (.fb true 1 true) s (fun t => (t.chan true).cond = 0 && (t.chan true).flt = 0)) = true := by decide +kernel

/-! ### The isolation test -/

theorem witness_test : ck (standby.quiet && standby.saf.test = 0) .safCmdTest standby (fun t => t.saf.test = 1 && t.saf.testAt = 0 && t.saf.a.sw = 0 &&
    rec 0xE0A0 .done standby t && out (fun o => pg 0xE o || o = 0x11000) standby t) &&
  ck (!connected.quiet) .safCmdTest connected (fun t => t.saf = connected.saf && rec 0xE0A0 .state connected t && but wresFlds connected t) = true := by decide +kernel
def vchk (k : Nat) : List (Fld × Nat) := [(R.SAF_VCHK_EN 5, 1), (R.SAF_VCHK_THR 5, k), (R.SAF_TST_LANEA, 3), (R.SAF_TST_LANEB, 8), (R.SAF_CFG_TOPEN, 20), (R.SAF_CFG_TWIN, 50)]
def testSt (n : Nat) (c : ChanSt) (l : List (Fld × Nat) := []) : State :=
  { set standby (vchk 100 ++ l) with tbp := 50 * perMs, saf := { a := c, b := c, test := n, testAt := if n = 1 then 30 * perMs else 0 } }
theorem witness_test_open : runs (.isolationTestOpenTime 2032 16 2064 17) (testSt 1 {}) (fun t => t.saf.test = 2 && t.saf.testAt = t.tbp && (t.lane 3).mux = 117 &&
  (t.lane 8).mux = 117 && !(t.chan false).refBad && (t.chan true).refBad && t.regs = (testSt 1 {}).regs) = true := by decide +kernel
theorem witness_test_sample : runs (.isolationTestSample true [(0, 0), (0, 0), (0, 0), (0, 0), (0, 0), (-2048, 7)] false) (testSt 2 { maxCh := [(5, 9)], maxRef := [(5, 9)] }) (fun t =>
  (t.chan true).maxCh = [(5, 2048)] && (t.chan true).maxRef = [(5, 9)] && t.regs = (testSt 2 {}).regs) = true := by decide +kernel
def seen (a b : Nat) : ChanSt := { safe := false, maxCh := [(5, a)], maxRef := [(5, b)] }
theorem witness_test_pass : (let s := testSt 2 (seen 100 100)
  ck (s.saf.testAt + s.f R.SAF_CFG_TWIN * perMs ≤ s.tbp) (.isolationTestEnd 2032 16 2064 0) s (fun t => t.f R.SAF_TSTAT_RES = 1 && t.f R.SAF_TSTAT_POLES = 0 &&
    t.f R.SAF_STAT_TESTOK = 1 && t.saf.test = 0 && t.st = 1 && mem s t) &&
  ck (s.f R.CE_STAT_LOADED = 1 && s.f R.SAF_STAT_CONF = 1 && s.f R.SYS_STATE_HOLDSB = 0) (.isolationTestEnd 2032 16 2064 0) { s with sys := { arm := some { who := .host } } } (fun t =>
    t.st = 2 && t.sys.arm = none && rec 0x104 .done s t)) = true := by decide +kernel
theorem witness_test_fail : (let s := testSt 2 (seen 99 100)
  runs (.isolationTestEnd 2032 16 2031 0) s (fun t => t.f R.SAF_TSTAT_RES = 2 && t.f R.SAF_TSTAT_POLES = 32 && t.f R.SAF_STAT_TESTOK = 0 && t.saf.a.flt = 0x100 && t.saf.a.safe && t.saf.test = 0 && mem s t)) = true := by
  decide +kernel
theorem witness_test_neither : (let s := testSt 2 (seen 99 100) [(R.SAF_STAT_TESTOK, 1)]
  runs (.isolationTestEnd 2031 16 2064 17) s (fun t => t.f R.SAF_TSTAT_RES = 3 && t.f R.SAF_STAT_TESTOK = 1 && t.saf.a.flt = 0 && t.saf.test = 0 &&
    out (fun o => o = 0xE088 || ev o) s t)) = true := by decide +kernel
theorem witness_test_due : (let s := safSt calm calm [(R.SAF_CFG_WARN, 4), (R.SAF_TSTAT_AGE, 1200)]
  ck (s.f R.SAF_STAT_TESTOK = 1 && (24 - s.f R.SAF_CFG_WARN) * 60 ≤ s.f R.SAF_TSTAT_AGE) .safTestDue s (fun t => t.saf.due && out ev s t)) = true := by decide +kernel
theorem witness_overdue : (let s := safSt calm calm [(R.SAF_TSTAT_AGE, 1440)]
  ck (s.causeFree) .testOverdue s (fun t => t.f R.SAF_STAT_TESTOK = 0 && t.st = 6 && t.saf.a.flt = 0x200 && t.saf.b.flt = 0x200 && out sp s t)) &&
  (let s := set standby [(R.SAF_TSTAT_AGE, 1440), (R.SAF_STAT_TESTOK, 1)]
   runs .testOverdue s (fun t => t.f R.SAF_STAT_TESTOK = 0 && t.saf = s.saf && but [R.SAF_STAT_TESTOK] s t)) = true := by decide +kernel

/-! ### Safe data and the Belay procedure -/

def netSt (n : NetCh) (l : List (Fld × Nat) := []) : State :=
  safSt calm { calm with net := n } ([(R.SAF_NET_EN, 1), (R.SAF_NET_FOLLOW, 1), (R.LNK_CFG_PER, 10), (R.SAF_NET_SINGLE, 2)] ++ l)
theorem witness_net_mismatch : runs (.netMismatch true) (netSt { badRun := 4 }) (fun t => (t.chan true).flt = 0x1000 && out sp (netSt {}) t) &&
  runs (.netMismatch true) (netSt { badRun := 3 }) (fun t => t = netSt { badRun := 3 }) = true := by decide +kernel
theorem witness_net_loss : ck ((netSt {}).role = 1) (.netLoss true) (netSt { goodAt := 999982000 }) (fun t => (t.chan true).flt = 0x800 && out sp (netSt {}) t) &&
  runs (.netLoss true) (netSt { goodAt := 999982001 }) (fun t => t = netSt { goodAt := 999982001 }) = true := by decide +kernel
theorem witness_net_single : (let s := netSt { mad := 200000000, woad := 200000001 }
  ck (s.f R.SAF_STAT_SINGLE = 0) (.safSingle true) s (fun t => t.f R.SAF_STAT_SINGLE = 1 && t.saf = s.saf && out (fun o => o = 0xE080 || ev o) s t)) = true := by decide +kernel

def bly (st party : Nat) (b : BelaySt := {}) (l : List (Fld × Nat) := []) : State :=
  { set standby ([(R.SAF_BLY_STAT_ST, st), (R.SAF_BLY_STAT_PARTY, party)] ++ l) with tbp := 1000, saf := { belay := b } }
def blyFlds : List Fld := wresFlds ++ [R.SAF_BLY_STAT_ST, R.SAF_BLY_STAT_PARTY]
theorem witness_stage : ck ((RegMap.find 0xE014).isSome && hasBelay 0xE014 && !(bly 0 0).changesCfg 0xE014 1) (.belayStageWrite .host 0xE014 1) (bly 0 0) (fun t =>
  t.f R.SAF_BLY_STAT_ST = 1 && t.f R.SAF_BLY_STAT_PARTY = 1 && t.saf.belay.at_ = 1000 && t.stagedWord 0xE014 ≠ (bly 0 0).reg 0xE014 && rec 0xE014 .done (bly 0 0) t &&
  t.reg 0xE014 = (bly 0 0).reg 0xE014 && but blyFlds (bly 0 0) t) = true := by decide +kernel
theorem witness_stage_other : ck (10 * (bly 1 2).belayAge < 591 * perSec) (.belayStageWrite .host 0xE014 1) (bly 1 2) (fun t => t.saf = (bly 1 2).saf &&
    rec 0xE014 .state (bly 1 2) t && but wresFlds (bly 1 2) t) &&
  runs (.belayStageWrite .host 0xE014 1) (bly 2 1) (fun t => rec 0xE014 .state (bly 2 1) t) && runs (.belayStageWrite .ce 0xE014 1) (bly 0 0) (fun t => t = bly 0 0) = true := by
  decide +kernel
theorem witness_key_load : runs (.keyLoadWrite .host 15 7) (bly 0 0) (fun t => t.saf.belay.load = [(15, 7)] && t.f R.SAF_BLY_STAT_ST = 1 &&
  rec 0xA0BC .done (bly 0 0) t && t.ce = (bly 0 0).ce && but blyFlds (bly 0 0) t) = true := by decide +kernel
def goodLoad : Tab Word := (List.range 16).map fun i => (i, key.getD i 0)
theorem witness_key_install : ck (!keyOk (bly 1 1).loadedKey) (.keyInstall .host 3) (bly 1 1) (fun t => t.saf = (bly 1 1).saf && rec 0xA0C0 .format (bly 1 1) t) &&
  ck (keyOk (bly 1 1 { load := goodLoad }).loadedKey) (.keyInstall .host 3) (bly 1 1 { load := goodLoad }) (fun t => t.saf.belay.keys = [(3, some key)] &&
    t.ce = (bly 1 1).ce && rec 0xA0C0 .done (bly 1 1) t && but wresFlds (bly 1 1) t) &&
  runs (.keyErase .host 3) (bly 0 0) (fun t => t.saf.belay.keys = [(3, none)] && t.f R.SAF_BLY_STAT_ST = 1 && rec 0xA0C0 .done (bly 0 0) t && but blyFlds (bly 0 0) t) = true := by
  decide +kernel

def staged : BelaySt := { regs := [(0xE014, 3)] }
def cvOf : Word := 0x2f9bab55
def gone (n : Nat) (s t : State) : Bool := t.f R.SAF_BLY_STAT_ST = 0 && t.f R.SAF_BLY_STAT_PARTY = 0 && t.f R.SAF_BLY_STAT_LAST = n && t.f R.SAF_BLY_CV_CV = 0 &&
  t.saf = { s.saf with belay := {} } && t.ce.keys = s.ce.keys && out (fun o => o = 0xE0C0 || o = 0xE0C4 || o = 0x11000 || ev o) s t
set_option maxRecDepth 100000 in
theorem witness_propose : runs (.safBlyProp .host cvOf) (bly 1 1 staged) (fun t => t.f R.SAF_BLY_STAT_ST = 2 && t.f R.SAF_BLY_CV_CV = cvOf.toNat &&
    t.saf.belay = { staged with at_ := 1000 } && rec 0xE0C8 .done (bly 1 1) t && out (fun o => o = 0xE0C0 || o = 0xE0C4 || o = 0x11000 || ev o) (bly 1 1) t) &&
  runs (.safBlyProp .host (cvOf + 1)) (bly 1 1 staged) (fun t => gone 3 (bly 1 1 staged) t && rec 0xE0C8 .auth (bly 1 1) t) = true := by decide +kernel
def pend : State := bly 2 1 staged [(R.SAF_BLY_CV_CV, cvOf.toNat)]
theorem witness_confirm_own : runs (.safBlyConf .host cvOf) pend (fun t => t.saf = pend.saf && rec 0xE0CC .auth pend t && but wresFlds pend t) &&
  runs (.safBlyConf .manager (cvOf + 1)) pend (fun t => gone 3 pend t) = true := by decide +kernel
theorem witness_confirm : ck (pend.quiet && !pend.stateBad pend.belayTarget pend.belayOffs && (match commitMap pend pend.belayTarget with
    | .ok _ => true
    | .error _ => false)) (.safBlyConf .manager cvOf) pend (fun t => t.f R.SAF_BLY_STAT_ST = 3 && t.saf.belay.party = 2 && t.saf.belay.regs = staged.regs &&
    t.bvq.cairnWr.isSome && but [R.SAF_BLY_STAT_ST, R.BVQ_CAIRN_PEND] pend t) &&
  ([1000, 5000].all fun ms => runs (.comkeyRelease ms) pend fun t => t.f R.SAF_BLY_STAT_ST = 3 && t.saf.belay.party = 3 && but [R.SAF_BLY_STAT_ST, R.BVQ_CAIRN_PEND] pend t) &&
  ([999, 5001].all fun ms => runs (.comkeyRelease ms) pend fun t => t = pend) = true := by decide +kernel
theorem witness_belay_times : (let old (st : Nat) := { bly st 1 staged with tbp := 591 * 40000000 }
  ck (591 * perSec ≤ 10 * (old 1).belayAge) .belayStageTimeout (old 1) (fun t => gone 2 (old 1) t) && runs .belayPendingTimeout (old 2) (fun t => gone 2 (old 2) t) &&
  runs (.belayAbort .host) (bly 2 2 staged) (fun t => gone 4 (bly 2 2 staged) t && rec 0xE0D0 .done (bly 2 2) t) &&
  runs (.belayAbort .host) (bly 3 2 staged) (fun t => t.saf = (bly 3 2 staged).saf && rec 0xE0D0 .state (bly 3 2) t && but wresFlds (bly 3 2) t)) = true := by decide +kernel
def applied : State := bly 3 1 { staged with party := 2, wr := 3 }
set_option maxRecDepth 100000 in
theorem witness_effective : runs .belayEffective applied (fun t => t.reg 0xE014 &&& accMask Acc.belay 0xE014 = 3 &&& accMask Acc.belay 0xE014 && t.f R.SAF_BLY_STAT_ST = 0 &&
  t.f R.SAF_BLY_STAT_LAST = 1 && t.f R.SAF_STAT_CONF = 1 && t.f R.SAF_CV_CV = cvOf.toNat && t.saf.belay = {}) = true := by decide +kernel

/-! ### Energy metering -/

def mtrSt (m : MtrSt) (l : List (Fld × Nat) := []) : State :=
  { set connected ([(R.MTR_CFG_EN, 1), (R.ADC_REG_CFG_EN, 1), (R.MTR_CFG_WIRE, 0)] ++ l) with tbp := 8000000, mtr := { m with run := true } }
theorem witness_no_wrap : ck ((mtrSt { thAt := 1 }).mtrOn && (mtrSt { thAt := 1 }).mtrTheta (mtrSt {}).pt < turn) .cycleWindowEnd (mtrSt { thAt := 1 }) (fun t =>
  t = mtrSt { thAt := 1 }) = true := by decide +kernel
theorem witness_first_wrap : ck (turn ≤ (mtrSt {}).mtrTheta (mtrSt {}).pt) .cycleWindowEnd (mtrSt {}) (fun t => t.mtr.wrapped && t.mtr.winAt = second / 50 &&
  t.mtr.th = -turn && !t.mtr.bad && t.mtr.acc = [] && t.regs = (mtrSt {}).regs) = true := by decide +kernel
def fillSt (p : Option (List Int)) (l : List (Fld × Nat) := []) : State := mtrSt { wrapped := true, bad := true, pow := p, acc := [(35, 7), (36, 9)] } l
theorem witness_fill : ck (turn ≤ (fillSt none).mtrTheta (fillSt none).pt) .cycleWindowEnd (fillSt none [(R.MTR_CNT_FILL, 4095)]) (fun t => t.f R.MTR_CNT_FILL = 4095 &&
    t.mtr.acc = [(35, 7), (36, 9)] && out (pg 0xF) (fillSt none) t) &&
  runs .cycleWindowEnd (fillSt (some (List.replicate 21 0 ++ [-500]))) (fun t => t.f R.MTR_CNT_FILL = 1 && t.mtr.acc = [(35, 17), (36, 9)]) = true := by decide +kernel
theorem test_filled : (let m : MtrSt := { wrapped := true, before := [(0, second / 50 - gapMax)] }
  runs .cycleWindowEnd (mtrSt m) (fun t => t.f R.MTR_CNT_FILL = 1) &&
  !(mtrSt { m with before := [(0, second / 50 - gapMax + 1)] }).mtrFilled (second / 50) &&
  runs .cycleWindowEnd (mtrSt { m with badNext := true }) (fun t => t.mtr.bad && !t.mtr.badNext)) = true := by decide +kernel
theorem test_mtr_stat : ((mtrSt {}).readVal 0 0xF034 = 3 && (connected.readVal 0 0xF034).toNat % 4 ≤ 2) = true := by decide +kernel
theorem witness_window : (!(mtrSt { wrapped := true }).mtrFilled (second / 50) && (mtrSt { wrapped := true }).mtrOn && turn ≤ (mtrSt { wrapped := true }).mtrTheta (mtrSt {}).pt) = true := by decide +kernel
def pulseSt (p : PlsSt) : State := mtrSt { pls := [(6, { tot := 5 }), (7, p)] } [(R.MTR_PIN_EN 7, 1), (R.MTR_PIN_DB 7, 20), (R.MTR_PWT_W 7, 3)]
theorem witness_pulse : (let p : PlsSt := { cnt := 2 ^ 32 - 1, tot := 2 ^ 64 - 1 }
  ck ((pulseSt p).mtrOn) (.pulseCount 7 true 20) (pulseSt p) (fun t => t.pls 7 = { act := true, cnt := 0, tot := 2 } && t.pls 6 = { tot := 5 } &&
    t.regs = (pulseSt p).regs) &&
  runs (.pulseCount 7 true 19) (pulseSt p) (fun t => t.f R.MTR_CNT_BNC = 1 && t.mtr = (pulseSt p).mtr && but [R.MTR_CNT_BNC] (pulseSt p) t) &&
  runs (.pulseCount 7 false 20) (pulseSt { act := true, cnt := 4 }) (fun t => t.pls 7 = { cnt := 4 }) &&
  runs (.pulseCount 6 true 60) (pulseSt p) (fun t => t = pulseSt p)) = true := by decide +kernel
theorem witness_tally_commit : (let s := { mtrSt {} [(R.MTR_TSEQ_SEQ, 2 ^ 32 - 1)] with tbp := perSec }
  ck (s.mtrOn && s.mtr.writing.isNone) .tallyCommit s (fun t => t.mtr.commitAt = perSec && (t.mtr.writing.map fun w => (w.1, w.2.1.take 1, w.2.2)) = some (0, [0], false) &&
    t.regs = s.regs)) = true := by decide +kernel
theorem witness_written : (let s := mtrSt { writing := some (1, [7, 8], false) }
  runs .tallyWriteComplete s (fun t => Tab.look t.mtr.tally 1 = some [7, 8] && t.mtr.writing = none && t.reg 0xF03C = 7 && out (· = 0xF03C) s t)) &&
  runs .tallyWriteComplete (mtrSt {}) (fun t => t = mtrSt {}) = true := by decide +kernel
theorem witness_snap : (let s := mtrSt { acc := [(39, 5 * 2 ^ 32 + 1)], pls := [(7, { tot := 6, cnt := 2 })] }
  runs .mtrCtlSnap s (fun t => t.mtr.snap = [(39, 5), (47, 6), (55, 2)] && t.mtr.acc = s.mtr.acc && rec 0xF030 .done s t && but wresFlds s t)) = true := by decide +kernel
theorem witness_clear_tally : (let s := { standby with mtr := { acc := [(0, 1)], pls := [(6, { tot := 1 }), (7, { tot := 6, cnt := 2 })] } }
  ck (Tab.wf (fun _ => {}) s.mtr.pls) .mtrCtlClr s (fun t => t.mtr.acc = [] && t.mtr.pls = [(7, { cnt := 2 })] && (t.mtr.writing.map fun w => (w.1, w.2.2)) = some (0, false) &&
    rec 0xF030 .done s t && out (fun o => o = 0x11000 || ev o) s t)) &&
  runs .mtrCtlClr (mtrSt {}) (fun t => t.mtr = (mtrSt {}).mtr && rec 0xF030 .state (mtrSt {}) t && but wresFlds (mtrSt {}) t) = true := by decide +kernel

/-! ### The Bivouac domain -/

def bivRec : BvqRec := { rt := 2 ^ 32 + 5, rtv := true, bst := 0xFFFFFFFF, cellt := 9, irr := 0 }
def offSt : State := { State.reset with power := .off, bvq := { recs := [(1, bivRec)], recSlot := 1 } }
/-- The thresholds are within 2 % (R532): the values below lie clear of them. -/
theorem witness_power_on : offSt.power = .off ∧ Tab.look offSt.bvq.recs offSt.bvq.recSlot = some bivRec ∧ runs (.bivouacPowerOn 2155 1959) connected (fun t => t = connected) = true := by
  decide +kernel
def keepSt (b : BvqSt) (l : List (Fld × Nat) := []) : State := { set State.reset ((R.BVQ_STAT_SRC, 1) :: l) with power := .keepalive, bvq := b }
theorem witness_power_off : (let s := keepSt { tbk := 9, recs := [(1, bivRec)] } [(R.BVQ_STAT_SRC, 1), (R.BVQ_WAKE_EN, 1), (R.SYS_RSTC_CAUSE, 2)]
  runs .bivouacPowerOff s (fun t => t.power = .off && t.reg 0x10000 = RegMap.resetWord 0x10000 && t.bvq.tbk = 0 && t.bvq.recs = [(1, bivRec)] && t.saf = s.saf && t.f R.SYS_RSTC_CAUSE = 0 && out (fun o => pg 0x10 o || o = 0x110) s t)) &&
  runs .bivouacPowerOff connected (fun t => t = connected) = true := by decide +kernel
theorem witness_cut : (let s := keepSt {} [(R.BVQ_BST_CUT, 127)]
  runs .burstCutOff s (fun t => t.f R.BVQ_STAT_CUT = 1 && t.f R.BVQ_BST_CUT = 127 && t.bvq.due = 2 && but [R.BVQ_STAT_CUT, R.BVQ_BST_CUT] s t) &&
  runs .burstReconnect (keepSt {} [(R.BVQ_STAT_CUT, 1)]) (fun t => t.f R.BVQ_STAT_CUT = 0 && t.bvq = {} && but [R.BVQ_STAT_CUT] (keepSt {}) t)) = true := by decide +kernel
theorem witness_cell : (let s := keepSt { tbk := 65536 } [(R.BVQ_ST_CELLEN, 1), (R.BVQ_STAT_SRC, 1)]
  runs .cellSwitch s (fun t => t.f R.BVQ_STAT_SRC = 2 && t.bvq.cellFrom = some 2 && but [R.BVQ_STAT_SRC] s t)) &&
  (let s := keepSt { tbk := 62 * 32768, cellFrom := some 2, cellPart := 59 } [(R.BVQ_STAT_SRC, 2)]
   runs .storeReturn s (fun t => t.f R.BVQ_STAT_SRC = 1 && t.bvq.cellFrom = none && t.f R.BVQ_CELLT_MIN = 1 && but [R.BVQ_STAT_SRC, R.BVQ_CELLT_MIN] s t)) = true := by decide +kernel
def storeSt : State := keepSt {} [(R.BVQ_ST_CELLEN, 1), (R.BVQ_STAT_SRC, 1), (R.BVQ_STAT_CUT, 1)]
theorem witness_supervisor : storeSt.power = .keepalive ∧ storeSt.f R.BVQ_STAT_SRC = 1 ∧ storeSt.f R.BVQ_ST_CELLEN = 1 ∧
    (keepSt { cellFrom := some 0 } [(R.BVQ_STAT_SRC, 2)]).f R.BVQ_STAT_SRC = 2 := by decide +kernel
theorem witness_burst_end : runs (.burstEnd 1999) (keepSt { burst := some 1, stored := true }) (fun t => t.bvq.burst = none && t.f R.BVQ_BST_UNDER = 1 && t.f R.BVQ_STAT_CUT = 1 &&
    out (pg 0x10) (keepSt {}) t) &&
  runs (.burstEnd 2000) (keepSt { burst := some 1, stored := true }) (fun t => t.bvq.burst = none && t.regs = (keepSt {}).regs) = true := by decide +kernel
def recDue (cut : Nat) : State := keepSt { tbk := 3600 * 32768 } [(R.BVQ_ST_LOGH, 1), (R.BVQ_ST_C, 100), (R.BVQ_RES_RES, 0), (R.BVQ_STAT_CUT, cut), (R.BVQ_ST_CELLEN, 0)]
theorem witness_record_commit : ck ((recDue 0).storeCovers 1 2600 && 3600 ≤ (recDue 0).tbkSec) (.bivouacRecordCommit 2600 0) (recDue 0) (fun t =>
    (Tab.look t.bvq.recs 0).map (fun r => (r.rt, r.bst)) = some (3600, (recDue 0).reg 0x10040) && t.bvq.recSlot = 0 && t.bvq.burst = some 1 && t.regs = (recDue 0).regs) &&
  ck (!(recDue 1).storeCovers 1 2600) (.bivouacRecordCommit 2600 0) (recDue 1) (fun t => t.bvq.recs = [] && t.bvq.burst = none && t.bvq.due = 2 && t.f R.BVQ_BST_REF = 1 &&
    but [R.BVQ_BST_REF] (recDue 1) t) = true := by decide +kernel
theorem witness_irradiance : (let s := { set connected [(R.BVQ_IRRCFG_P, 10)] with bvq := { tbk := 327680 } }
  runs (.irradianceMeasurement 0 0) s (fun t => t.bvq.irr = some 327680 && t.bvq.burst = some 2 && t.bvq.irrAt = 10 && t.regs = s.regs)) = true := by decide +kernel
theorem witness_irradiance_end : (let s := keepSt { irr := some 5, tbk := 70, hits := 2 } [(R.BVQ_IRRCFG_K, 4096), (R.BVQ_WAKE_EN, 1), (R.BVQ_WAKE_TH, 65520), (R.BVQ_WAKE_N, 3)]
  runs (.irradianceMeasurementEnd 4095) s (fun t => t.bvq.irr = none && t.f R.BVQ_IRR_ISC = 4095 && t.f R.BVQ_IRR_G = 65520 && t.bvq.due = 1 &&
    but [R.BVQ_IRR_ISC, R.BVQ_IRR_G] s t)) = true := by decide +kernel
theorem witness_voc : (let s := keepSt { tbk := 20 * 32768 } [(R.BVQ_HARV_VOCP, 19)]
  runs .vocSample s (fun t => t.bvq.voc = some (20 * 32768) && t.bvq.vocAt = 20 && t.regs = s.regs)) &&
  runs (.vocSampleEnd 299) (keepSt { voc := some 5, tbk := 168, idle := false }) (fun t => t.bvq.voc = none && t.bvq.idle && t.f R.BVQ_VST_VOC = 29 &&
    but [R.BVQ_VST_VOC] (keepSt {}) t) &&
  runs (.vocSampleEnd 300) (keepSt { voc := some 5, tbk := 168 }) (fun t => !t.bvq.idle) = true := by decide +kernel
def bvqSt (b : BvqSt) (l : List (Fld × Nat) := []) : State := { set connected l with bvq := b }
theorem witness_wake_release : runs .wakeRelease (bvqSt { wake := true }) (fun t => !t.bvq.wake && !t.bvq.again && rec 0x10020 .done (bvqSt {}) t &&
  but wresFlds (bvqSt {}) t) = true := by decide +kernel
theorem witness_real_time : runs (.realTimeSet 0x1FFFF) (bvqSt { rtsl := 7, tbk := 32767, rtb := 3 }) (fun t => t.bvq.load = some (0xFFFF00000007, 1) && t.realTime = 3 &&
    rec 0x10034 .done (bvqSt {}) t && but wresFlds (bvqSt {}) t) &&
  runs .realTimeLoad (bvqSt { load := some (2 ^ 48 - 1, 5), tbk := 6 * 32768 }) (fun t => t.realTime = 0 && t.bvq.load = none && t.f R.BVQ_STAT_RTV = 1 &&
    but [R.BVQ_STAT_RTV] (bvqSt {}) t) &&
  (let s := bvqSt { tbk := 64 * 32768 } [(R.BVQ_ST_SYNC, 1), (R.PLT_TSTAT_LOCKED, 1)]
   runs .realTimeSync s (fun t => t.bvq.load = some (1, 65) && t.bvq.syncAt = 64 && t.regs = s.regs)) = true := by decide +kernel

/-! ### Cairn and the main supply -/

def cairnOf (n : Nat) : Cairn := { seq := n, regs := [(0xB000, 0x123)], keys := [], own := [], conf := none }
theorem witness_cairn_start : (let s := bvqSt { cairnAt := some 0, cairn := [(0, cairnOf 5), (1, cairnOf 4)] }
  ck (s.cairnNewest = some (0, cairnOf 5)) .cairnWriteStart s (fun t => (t.bvq.cairnWr.map fun w => (w.1, w.2.1.seq)) = some (1, 6) && (Tab.look t.bvq.cairn 1).map (·.bad) = some true &&
    t.bvq.cairnAt = none && t.regs = s.regs)) = true := by decide +kernel
theorem witness_cairn_complete : (let s := bvqSt { cairnWr := some (1, cairnOf (2 ^ 32 + 6), 3), cairnAt := some 9 }
  runs .cairnWriteComplete s (fun t => Tab.look t.bvq.cairn 1 = some (cairnOf (2 ^ 32 + 6)) && t.bvq.cairnWr = none && t.f R.BVQ_CSEQL_SEQ = 6 && t.f R.BVQ_CAIRN_PEND = 1 &&
    but [R.BVQ_CSEQL_SEQ, R.BVQ_CAIRN_PEND] s t) &&
  runs .cairnWriteComplete { s with saf := { belay := { party := 2, wr := 2 } } } (fun t => Tab.look t.bvq.cairn 1 = some (cairnOf (2 ^ 32 + 6)) && t.saf.belay.wr = 3)) = true := by decide +kernel
def sameKept (t : State) (v : Nat → Word) : Bool := [0xB000, 0xB020, 0xB044, 0xBFFC].all fun o => t.reg o &&& accMask Acc.kept o = v o &&& accMask Acc.kept o
theorem witness_cairn_none : State.reset.live = true ∧ State.reset.st = stBoot ∧ State.reset.sys.restored = false ∧ State.reset.bvq.cairn = [] := by decide
set_option maxRecDepth 100000 in
theorem witness_cairn_copy : (let c := { cairnOf (2 ^ 32 + 9) with keys := [(3, key)] }
  runs (.cairnRestore false false) { State.reset with bvq := { cairn := [(1, c)] } } (fun t => t.f R.BVQ_CAIRN_SRC = 1 && t.f R.BVQ_CSEQL_SEQ = 9 && t.sys.restored &&
    t.ce.keys = [(3, key)] && sameKept t fun o => if o = 0xB000 then 0x123 else RegMap.resetWord o)) = true := by decide +kernel
theorem witness_factory_reset : (let s := { standby with bvq := { cairn := [(0, cairnOf 1)] } }
  runs .cairnFactoryReset s (fun t => t.bvq.cairn = [] && t.live && t.st = 0 && t.f R.SYS_RSTC_CAUSE = 4 && isReset s t)) &&
  runs .cairnFactoryReset connected (fun t => t.bvq = connected.bvq && rec 0x10060 .state connected t && but wresFlds connected t) = true := by decide +kernel
def huSt (n : Nat) (l : List (Fld × Nat) := []) : State :=
  { set (inState n) ([(R.BVQ_HUCFG_C, 1000), (R.BVQ_HUCFG_MRG, 0), (R.BVQ_HUV_VFAIL, 2000), (R.BVQ_HUV_VMIN, 1000)] ++ l) with sys := { restored := true } }
theorem witness_holdup : ck ((huSt 0 [(R.SYS_STATE_WAIT, 9)]).huEnough) (.holdupCheck 2100) (huSt 0 [(R.SYS_STATE_WAIT, 9)]) (fun t => t.f R.BVQ_HUSTAT_V = 2100 &&
    t.f R.BVQ_HUSTAT_E = (huSt 0).huEnergy && t.f R.BVQ_STAT_HUOK = 1 && t.f R.SYS_STATE_WAIT = 1 &&
    but [R.BVQ_HUSTAT_V, R.BVQ_HUSTAT_E, R.BVQ_STAT_HUOK, R.SYS_STATE_WAIT] (huSt 0 [(R.SYS_STATE_WAIT, 9)]) t) &&
  runs (.holdupCheck 2099) (huSt 0 [(R.SYS_STATE_WAIT, 9)]) (fun t => t.f R.BVQ_STAT_HUOK = 0 && t.f R.SYS_STATE_WAIT = 9 && t.bvq.huLow &&
    out (fun o => o = 0x10058 || ev o) (huSt 0 [(R.SYS_STATE_WAIT, 9)]) t) = true := by decide +kernel
theorem witness_recheck : runs (.holdupRecheck 2100) (huSt 1) (fun t => t.f R.BVQ_HUSTAT_V = 2100 && but [R.BVQ_HUSTAT_V, R.BVQ_HUSTAT_E] (huSt 1) t) &&
  ck (!(huSt 1 [(R.BVQ_HUCFG_MRG, 255), (R.BVQ_HUCFG_C, 1)]).huEnough) (.holdupRecheck 65536) (huSt 1 [(R.BVQ_HUCFG_MRG, 255), (R.BVQ_HUCFG_C, 1)]) (fun t =>
    t.f R.BVQ_HUSTAT_V = 65535 && t.f R.BVQ_STAT_HUWEAK = 1 && t.st = 1 && out (fun o => o = 0x10000 || o = 0x10058 || ev o) (huSt 1 [(R.BVQ_HUCFG_MRG, 255), (R.BVQ_HUCFG_C, 1)]) t) = true := by
  decide +kernel
theorem witness_supply_failure : (let s := { set onePair [(R.LNK_CFG_ROLE, 2)] with mem := [(0x1C000, 7)], bvq := { wake := true, cairnWr := some (0, cairnOf 1, 0) } }
  ck (s.pairOn 0 && s.stage 0 = 0) .supplyFailure s (fun t => t.bvq.failing && !t.bvq.wake && t.bvq.cairnWr = none && (t.mtr.writing.map (·.2.2)) = some true && !(t.pair 0).up &&
    t.mem = [] && t.f R.LNK_CFG_ROLE = 1 && ((s.regs ++ t.regs).all fun e => if [9, 0xA, 0xC, 0x11].contains (e.1 / 0x1000) then t.reg e.1 = RegMap.resetWord e.1 else
      pg 5 e.1 || t.reg e.1 = s.reg e.1) && t.hst.mem = s.hst.mem)) = true := by decide +kernel
def failing : State := { connected with mtr := { writing := some (1, [3], true) }, bvq := { failing := true } }
/-- Which supply takes over depends on a threshold within 2 % (R532). -/
theorem witness_final : (failing.live && failing.bvq.failing && failing.mtr.writing = some (1, [3], true) &&
  isReset failing (failing.tallyWritten.mainLost .keepalive 2) && Tab.look (failing.tallyWritten.mainLost .keepalive 2).mtr.tally 1 = some [3]) &&
  runs .finalCommitComplete connected (fun t => t = connected) = true := by decide +kernel
theorem witness_recovery : (let s := keepSt { held := true }
  ck (!s.live && s.sys.railsOk && s.sys.nrst) .supplyRecovery s (fun t => t.live && t.tbp = 0 && !t.bvq.held && out (· = 0x10000) s t)) &&
  runs .supplyRecovery (keepSt {}) (fun t => t = keepSt {}) = true := by decide +kernel

/-! ### Register writes and doorbells -/

def hsetup : State := { set standby ((List.range 16).flatMap (fun r => [(R.HST_RING_CFG_EN r, 1), (R.HST_RING_CFG_LOG2SZ r, 4)]) ++ [(R.HST_EVR_CFG_EN, 1),
  (R.HST_EVR_CFG_LOG2SZ, 4), (R.HST_CPR_CFG_EN, 1), (R.HST_CPR_CFG_LOG2SZ, 4), (R.HST_EVR_BL_VAL, 0x4000), (R.HST_CPR_BL_VAL, 0x8000)]) with tbp := 800 }
theorem witness_write_format : runs (.registerWrite 0x11002 7) hsetup (fun t => rec 0x11002 .format hsetup t && t.sys = hsetup.sys && but wresFlds hsetup t) &&
  ck (RegMap.find 0xFFFFC = none) (.registerWrite 0xFFFFC 7) hsetup (fun t => rec 0xFFFFC .format hsetup t && but wresFlds hsetup t) = true := by decide +kernel
theorem witness_write_done : ck ((match commitMap hsetup (hsetup.writeCfg [(0, 0x11300, 0x123456)]) with
    | .ok _ => true
    | .error _ => false) && accMask Acc.cfg 0x11300 ≠ 0 && accMask Acc.cmd 0x11300 = 0 && !hsetup.stateBad (hsetup.writeCfg [(0, 0x11300, 0x123456)]) [0x11300])
  (.registerWrite 0x11300 0x123456) hsetup (fun t => t.reg 0x11300 &&& accMask Acc.cfg 0x11300 = hsetup.written Acc.cfg 0x11300 0x123456 &&& accMask Acc.cfg 0x11300 &&
    rec 0x11300 .done hsetup t && out (fun o => pg 0x11 o || pg 0 o || pg 0x10 o) hsetup t) = true := by decide +kernel
/-- The example of R45: ATC5 times the blanking of leg 2 and does not become trigger input 9, which starts the monitor. -/
def atc5 : State := { set standby [(R.ATC_CFG_FN 5, 1), (R.ATC_CFG_TGT 5, 2), (R.ADC_TRIG_SEQ 9, 3)] with sys := { own := [(0x0C05, 0x4702)] } }
theorem test_atc_conflict : runs (.registerWrite (R.ATC_CFG_FN 5).off ((R.ATC_CFG_TGT 5).put ((R.ATC_CFG_FN 5).put (atc5.reg (R.ATC_CFG_FN 5).off) 2) 9)) atc5
    (fun t => rec (R.ATC_CFG_FN 5).off .conflict atc5 t && t.reg R.SYS_OWN_LAST_RESID.off = 0x47020C05 && t.f R.SYS_OWN_LASTC_CLAIM = 0x8909 &&
      t.sys.own = atc5.sys.own && t.reg (R.ATC_CFG_FN 5).off = atc5.reg (R.ATC_CFG_FN 5).off) = true := by decide +kernel
/-- The example of R104: 100,002.05 ns read as 0x0CCD in `FRAC`. -/
theorem test_frac : ptFrac (100002 * 2 ^ 41 + 2 ^ 41 / 20) = 0x0CCD ∧ ptNs (100002 * 2 ^ 41 + 2 ^ 41 / 20) = 100002 := by decide +kernel
theorem witness_event_ring : (let s := { hsetup with hst := { held := [⟨0x902, 0, 0, 0, 0, 0, 0, 0, 0, 0⟩] } }
  runs (.eventRingEnable false) s (fun t => t.f R.HST_EVR_CFG_EN = 0 && t.hst.held = [] && t.f R.HST_EVR_OFF_CNT = 1 && rec 0x11308 .done s t && mem s t)) = true := by decide +kernel
theorem witness_ring_disable : runs (.ringDisable 15) hsetup (fun t => t.f (R.HST_RING_CFG_EN 15) = 0 && (t.ring 15).infl = [] && t.f (R.HST_RING_STAT_IDLE 15) = 1 &&
  rec (0x11110 + 480) .done hsetup t && mem hsetup t) = true := by decide +kernel
def bells : State := { set hsetup [(R.HST_RING_STAT_CI 15, 0xFFF8), (R.HST_EVR_STAT_PI, 4), (R.HST_CPR_STAT_PI, 4)] with hst := { rings := [(15, { cprod := 5 })] } }
theorem witness_bells : runs (.commandDoorbell 15 8) bells (fun t => t.ring 15 = { cprod := 5, prod := 8 } && t.regs = bells.regs) &&
  runs (.commandDoorbell 15 9) bells (fun t => t.ring 15 = bells.ring 15 && t.f R.HST_ERR_DBOVF = 1 && t.f R.HST_ERR_RING = 15 && but [R.HST_ERR_DBOVF, R.HST_ERR_RING] bells t) &&
  runs (.completionDoorbell 15 0xFFF5) bells (fun t => t.ring 15 = { cprod := 5, cons := 0xFFF5 } && t.regs = bells.regs) &&
  runs (.completionDoorbell 15 6) bells (fun t => t.ring 15 = bells.ring 15 && t.f R.HST_ERR_DBOVF = 1) &&
  runs (.commandDoorbell 0 1) { State.reset with power := .main } (fun t => t.ring 0 = {} && t.regs = []) = true := by decide +kernel
theorem witness_record_bells : runs (.eventRingDoorbell 0xFFF4) bells (fun t => t.hst.evCons = 0xFFF4 && t.regs = bells.regs) &&
  runs (.eventRingDoorbell 5) bells (fun t => t.hst.evCons = 0 && t.f R.HST_ERR_DBOVF = 1 && but [R.HST_ERR_DBOVF] bells t) &&
  runs (.captureRingDoorbell 4) bells (fun t => t.hst.capCons = 4 && t.regs = bells.regs) &&
  runs (.captureRingDoorbell 0xFFF3) bells (fun t => t.hst.capCons = 0 && t.f R.HST_ERR_DBOVF = 1 && but [R.HST_ERR_DBOVF] bells t) &&
  runs (.eventRingDoorbell 5) standby (fun t => t.hst.evCons = 0 && t.regs = standby.regs) && runs (.captureRingDoorbell 5) standby (fun t => t.hst.capCons = 0) = true := by decide +kernel

/-! ### Descriptors -/

/-- Ring 15 with one descriptor, its last completion entry of an odd round next. -/
def ringWith (d : Desc) (started : Bool := false) (l : List (Fld × Nat) := []) : State :=
  { set hsetup ([(R.HST_RING_CBL_VAL 15, 0x1000), (R.HST_RING_STAT_INFL 15, 1), (R.HST_ERR_INFL, 1), (R.HST_RING_STAT_CI 15, 3)] ++ l) with hst := { rings := [(15, { cprod := 31, infl := [⟨d, 2, started, none⟩] })] } }
def waits (s : State) (d : Desc) : Bool := s.live && (s.ring 15).infl = [⟨d, 2, false, none⟩] && d.addr % 4 = 0 && !(s.xing 11).inReset && s.serves 15 d.opc
def runsD (s : State) (d : Desc) : Bool := s.live && (s.ring 15).infl = [⟨d, 2, true, none⟩] && !(s.xing 11).inReset
def completed (d : Desc) (c : Comp) (s t : State) : Bool := ((List.range 4).all fun i => t.hostWord (0x10F0 + 4 * i) = (compWords d c 2 0).getD i 0) && (t.ring 15).infl = [] &&
  (t.ring 15).cprod = 32 && t.f (R.HST_RING_STAT_INFL 15) = 0 && t.pending = s.pending && t.part = s.part
def only (p : Nat → Bool) (d : Desc) (c : Comp) (s t : State) : Bool := completed d c s t && t.mem = s.mem &&
  (t.hst.mem.all fun e => (0x10F0 ≤ e.1 && e.1 < 0x1100) || s.hostWord e.1 = e.2) && (s.regs ++ t.regs).all fun e => p e.1 || e.1 = 0x11004 || e.1 = 0x112F4 || t.reg e.1 = s.reg e.1
def none_ (_ : Nat) : Bool := false
def dsc (opc len a0 a1 : Nat) : Desc := { opc := opc, tag := 0xABCD, len := len, addr := 0x7000, arg0 := a0, arg1 := a1 }
/-- A waiting descriptor meets its hypotheses, and its command answers a next state that a check accepts. -/
def dk (d : Desc) (c : Instr) (p : State → State → Bool) (l : List (Fld × Nat) := []) : Bool :=
  waits (ringWith d false l) d && runs c (ringWith d false l) (p (ringWith d false l))
theorem witness_nop : dk (dsc 0 0 0 0) (.nopDescriptor 15) (only none_ (dsc 0 0 0 0) compDone) && dk (dsc 0 1 0 0) (.nopDescriptor 15) (only none_ (dsc 0 1 0 0) compFormat) = true := by
  decide +kernel
theorem witness_setw : dk (dsc 1 1 0 0) (.setw 15 [0x1100D, 5] false) (only none_ (dsc 1 1 0 0) compFormat) &&
  dk (dsc 1 1 0 0) (.setw 15 [0x1100C, 0xFFFFFFFF] false) (fun s t => t.f R.HST_IMOD_US = 0xFFFF && only (fun o => o = 0x1100C || pg 0 o || pg 0x10 o) (dsc 1 1 0 0) compDone s t) = true := by
  decide +kernel
theorem witness_setr : dk (dsc 2 4097 0 0) (.setr 15 false) (only none_ (dsc 2 4097 0 0) compFormat) &&
  dk (dsc 2 2 0x1FF8 0) (.setr 15 false) (fun s t => completed (dsc 2 2 0x1FF8 0) compDone s t) &&
  dk (dsc 2 4 0x1004 0) (.setr 15 false) (fun s t => completed (dsc 2 4 0x1004 0) compDone s t && (List.range 4).all fun i => t.hostWord (0x7000 + 4 * i) = s.reg (0x1004 + 4 * i)) = true := by
  decide +kernel
theorem witness_pwmset : dk (dsc 3 27 0 0) (.pwmset 15 [0xFFFFFFFF] false) (fun s t => (match s.checkSet ((List.range 27).map ([0xFFFFFFFF].getD · 0)) with
  | .error _ => true
  | .ok _ => false) && t.pwm.cars = s.pwm.cars && only (fun o => pg 4 o || ev o) (dsc 3 27 0 0) compFormat s t) = true := by decide +kernel
theorem witness_imgw : dk (dsc 4 8 0 0) (.imgw 15 [5, 6] false) (fun s t => t.hst.imgw = [{ r := 15, idx := 2, slot := 1, ws := [5, 6] }] && Tab.look t.ce.slots 1 = none &&
    (t.ring 15).infl = [⟨dsc 4 8 0 0, 2, true, none⟩] && t.regs = s.regs && mem s t) &&
  dk (dsc 4 8 0 0) (.imgw 15 [5, 6] false) (only none_ (dsc 4 8 0 0) compState) [(R.CE_STAT_ACTBUSY, 1)] = true := by decide +kernel
theorem witness_image_complete : (let s := { ringWith (dsc 4 8 0 0) true with hst := { (ringWith (dsc 4 8 0 0) true).hst with imgw := [{ r := 15, idx := 2, slot := 1, ws := [5, 6] }] } }
  ck (runsD s (dsc 4 8 0 0)) .imageWriteComplete s (fun t => Tab.look t.ce.slots 1 = some [5, 6] && t.hst.imgw = [] && only none_ (dsc 4 8 0 0) { status := 0, det0 := 1 } s t)) = true := by
  decide +kernel
def wrDsc : Desc := dsc 5 64 (2 ^ 21) (0xC0000000 + 0xFFFFC)
theorem witness_nolink : dk wrDsc (.lnktxWr 15 [7] false) (only none_ wrDsc { status := 1, reason := 2 }) = true := by decide +kernel
theorem witness_lnktx : dk wrDsc (.lnktxWr 15 [7] false) (fun s t => (s.portsTo (2 ^ 21)).any s.portUp && (match t.lnk.txns with
    | [k] => k.who = .ring 15 2 && k.p.ty = 0x12 && k.p.dst = 2 ^ 21 && k.p.ofs = 0xFFFFC && k.p.body = 7 :: List.replicate 63 0
    | _ => false) && (t.ring 15).infl = [⟨wrDsc, 2, true, none⟩] && t.regs = s.regs) [(R.LNK_PORT_ST 4, 3)] &&
  dk (dsc 5 64 (2 ^ 21) 8) (.lnktxRd 15) (fun s t => (match t.lnk.txns with
    | [k] => k.who = .ring 15 2 && k.p.ty = 0x10 && k.p.body = [64]
    | _ => false) && t.regs = s.regs) [(R.LNK_PORT_ST 4, 3)] = true := by decide +kernel
theorem witness_parmw : dk (dsc 10 8 0xFF8 0) (.parmw 15 [7, 9] false) (fun s t => completed (dsc 10 8 0xFF8 0) compDone s t && t.words 0x1CFF8 2 = [7, 9] && t.mem.length = 2 &&
  (s.regs ++ t.regs).all fun e => e.1 = 0x11004 || e.1 = 0x112F4 || t.reg e.1 = s.reg e.1) = true := by decide +kernel

def fetchSt : State := { hsetup with hst := { rings := [(15, { prod := 1 })] } }
theorem witness_fetch : ck (fetchSt.nextRing = some 15 && fetchSt.inFlightAll < 256) (.descriptorFetch 15 (dsc 10 8 0 0) false) fetchSt (fun t =>
    (t.ring 15).infl = [⟨dsc 10 8 0 0, 0, false, none⟩] && t.f (R.HST_RING_STAT_CI 15) = 1 &&
    but [R.HST_RING_STAT_CI 15, R.HST_RING_STAT_INFL 15, R.HST_RING_STAT_IDLE 15, R.HST_ERR_INFL] fetchSt t) &&
  runs (.descriptorFetch 15 (dsc 11 0 0 0) false) fetchSt (fun t => (t.ring 15).infl = [] && t.hostWord 0 = (compWords (dsc 11 0 0 0) compFormat 0 1).getD 0 0) &&
  runs (.descriptorFetch 14 (dsc 10 8 0 0) false) fetchSt (fun t => t = fetchSt) = true := by decide +kernel
theorem witness_moderation : (let s := { set hsetup [(R.HST_IMOD_US, 2)] with hst := { vecs := [(31, { held := true, last := some 0, sent := 6 })] } }
  runs (.interruptModerationExpiry 31) s (fun t => t.hst.vecs = [(31, { last := some 800, sent := 7 })] && t.regs = s.regs)) = true := by decide +kernel
theorem witness_ring_idle : runs (.ringIdle 15) (ringWith (dsc 0 0 0 0) false [(R.HST_RING_STAT_INFL 15, 0)]) (fun t => t.f (R.HST_RING_STAT_INFL 15) = 1 && t.f (R.HST_RING_STAT_IDLE 15) = 0) &&
  runs (.ringIdle 0) standby (fun t => t.f (R.HST_RING_STAT_IDLE 0) = 1 && but [R.HST_RING_STAT_IDLE 0] standby t) = true := by decide +kernel
theorem witness_pcie_reset : (let s := ringWith (dsc 7 4 0 0) true
  runs .pcieReset s (fun t => ((List.range 16).all fun r => t.f (R.HST_RING_CFG_EN r) = 0 && (t.ring r).infl = [] && t.f (R.HST_RING_STAT_CI r) = s.f (R.HST_RING_STAT_CI r)) &&
    (t.xing 11).inReset && t.f R.HST_EVR_CFG_EN = 0 && t.f R.HST_CPR_CFG_EN = 0 && t.hst.vecs = [] && t.f (R.XDC_STAT_DISC 11) = 1 && out (fun o => pg 0x11 o || o = 0x302C) s t)) = true := by decide +kernel

/-! ### Capture -/

def capD (action : Nat) : Desc := dsc 6 0 (15 + 256 * action) 0
def c8 (d : Desc) (started : Bool) (l : List (Fld × Nat)) : State := { ringWith d started l with part := .c8 }
theorem witness_c0_arm : (let s := { ringWith (capD 1) with part := .c0 }
  ck (waits s (capD 1)) (.capctlArm 15) s (only none_ (capD 1) compState s)) = true := by decide +kernel
theorem witness_arm_window : (let s := c8 (capD 1) false [(R.HST_CAP_CFG_EN 15, 1), (R.HST_CAP_STAT_ST 15, 3), (R.HST_CAP_STAT_LOST 15, 5)]
  ck (waits s (capD 1) && !s.capReading 15) (.capctlArm 15) s (fun t => t.f (R.HST_CAP_STAT_ST 15) = 1 && t.f (R.HST_CAP_STAT_LOST 15) = 0 && t.win 15 = {} &&
    only (· = 0x114FC) (capD 1) compDone s t)) &&
  (let s := c8 (capD 1) false [(R.HST_CAP_CFG_EN 15, 1), (R.HST_CAP_STAT_ST 15, 2)]
   ck (waits s (capD 1)) (.capctlArm 15) s (only none_ (capD 1) compState s)) = true := by decide +kernel
theorem witness_trigger_window : (let s := c8 (capD 2) false [(R.HST_CAP_TRG_MASK 15, 2), (R.HST_CAP_STAT_ST 15, 1)]
  ck (waits s (capD 2)) (.capctlTrigger 15) s (fun t => t.f (R.HST_CAP_STAT_ST 15) = 2 && (t.win 15).trg = 2 && only ev (capD 2) compDone s t)) &&
  (let s := c8 (capD 2) false [(R.HST_CAP_TRG_MASK 15, 1), (R.HST_CAP_STAT_ST 15, 1)]
   ck (waits s (capD 2)) (.capctlTrigger 15) s (only none_ (capD 2) compDone s)) = true := by decide +kernel
theorem witness_disarm_window : (let s := { c8 (capD 3) false [(R.HST_CAP_STAT_ST 15, 2)] with hst := { (c8 (capD 3) false []).hst with wins := [(15, { trg := 2, left := 9 })] } }
  ck (waits s (capD 3)) (.capctlDisarm 15) s (fun t => t.f (R.HST_CAP_STAT_ST 15) = 3 && t.hst.capWait.length = 1 && only (· = 0x114FC) (capD 3) compDone s t)) = true := by decide +kernel
def rdD : Desc := dsc 7 (2 ^ 22) 15 4
theorem witness_caprd : (let s := c8 rdD false [(R.HST_CAP_STAT_ST 15, 3)]
  ck (waits s rdD) (.caprd 15) s (fun t => (t.ring 15).infl = [⟨rdD, 2, true, none⟩] && t.regs = s.regs)) &&
  (let s := c8 rdD false [(R.HST_CAP_STAT_ST 15, 2)]
   ck (waits s rdD) (.caprd 15) s (only none_ rdD compState s)) = true := by decide +kernel
theorem witness_caprd_complete : (let s := { c8 rdD true [(R.HST_CAP_STAT_ST 15, 3)] with hst := { (c8 rdD true []).hst with wins := [(15, { recs := [[1, 2], [3]] })] } }
  ck (runsD s rdD) (.caprdComplete 15 false) s (fun t => completed rdD { status := 0, det0 := 8 } s t && t.hostWord 0x7000 = 2 && t.hostWord 0x7004 = 3 && t.hostWord 0x7008 = 0)) = true := by
  decide +kernel
theorem witness_freeze : (let s := { set hsetup [(R.HST_CAP_STAT_ST 15, 2), (R.HST_CAP_STAT_LOST 15, 6)] with hst := { wins := [(15, { trg := 2, trgNs := 77, recs := [[1, 2]] })] } }
  runs (.captureFreeze 15) s (fun t => t.f (R.HST_CAP_STAT_ST 15) = 3 && (t.hst.capWait.map fun x => (x.getD 1 0, x.getD 3 0, x.getD 7 0)) = [(77, 8, 6)] && but [R.HST_CAP_STAT_ST 15] s t)) &&
  runs (.captureFreeze 15) standby (fun t => t = standby) = true := by decide +kernel

/-! ### Record rings and the Ethernet port -/

def evSt (cons : Nat) : State := { set hsetup [(R.HST_EVR_STAT_PI, 31)] with hst := { held := [⟨0x902, 9, 1, 2, 3, 4, 5, 6, 7, 8⟩, ⟨0x903, 0, 0, 0, 0, 0, 0, 0, 0, 0⟩], evCons := cons } }
theorem witness_event_write : ck (!((evSt 16).xing 11).inReset) .eventRecordWrite (evSt 16) (fun t => t.hst.held.length = 1 && t.f R.HST_EVR_STAT_PI = 32 &&
    ((List.range 8).all fun i => t.hostWord (0x4000 + 32 * 15 + 4 * i) = ((evSt 16).hst.held.head?.map fun e => (e.words 0).getD i 0).getD 99) && out (· = 0x1130C) { evSt 16 with hst := t.hst } t) &&
  runs .eventRecordWrite (evSt 15) (fun t => t = evSt 15) && runs .eventRecordWrite hsetup (fun t => t = hsetup) = true := by decide +kernel
def cwSt (cons : Nat) : State := { set hsetup [(R.HST_CPR_STAT_PI, 31)] with hst := { capWait := [[1, 2, 3, 4, 5, 6, 7, 8]], capCons := cons } }
theorem witness_capture_write : runs .captureRingWrite (cwSt 16) (fun t => t.hst.capWait = [] && t.f R.HST_CPR_STAT_PI = 32 &&
    ((List.range 7).all fun i => t.hostWord (0x8000 + 32 * 15 + 4 * i) = BitVec.ofNat 32 (i + 1)) && t.hostWord (0x8000 + 32 * 15 + 28) = 8 && out (· = 0x1132C) { cwSt 16 with hst := t.hst } t) &&
  runs .captureRingWrite (cwSt 15) (fun t => t = cwSt 15) = true := by decide +kernel
theorem witness_txfrm : dk (dsc 8 61 0 0) (.txfrm 15 [7] false) (fun s t => t.hst.ethTx = [(61, 7 :: List.replicate 15 0)] && (t.ring 15).infl = [⟨dsc 8 61 0 0, 2, true, none⟩] &&
    t.regs = s.regs) [(R.HST_ETH_EN, 1)] &&
  dk (dsc 8 2044 0 0) (.txfrm 15 [7] false) (only none_ (dsc 8 2044 0 0) compState) = true := by decide +kernel
theorem witness_rxbuf : dk (dsc 9 2048 0 0) (.rxbuf 15) (fun s t => (t.ring 15).infl = [⟨dsc 9 2048 0 0, 2, true, none⟩] && t.regs = s.regs) [(R.HST_ETH_EN, 1)] = true := by decide +kernel
theorem witness_egress : ck (runsD (ringWith (dsc 8 60 0 0) true) (dsc 8 60 0 0)) .frameEgress (ringWith (dsc 8 60 0 0) true) (only none_ (dsc 8 60 0 0) compDone (ringWith (dsc 8 60 0 0) true)) = true := by
  decide +kernel
def ethSt (l : List (Fld × Nat) := []) : State := ringWith (dsc 9 2048 0 0) true ((R.HST_ETH_EN, 1) :: l)
theorem witness_receive : runs (.ethFrameReceive 60 true [] false) hsetup (fun t => t = hsetup) &&
  runs (.ethFrameReceive 60 false [] false) (ethSt [(R.HST_ETHCNT_FCS, 32767)]) (fun t => t.f R.HST_ETHCNT_FCS = 32767 && (t.ring 15).infl.length = 1 && but [R.HST_ETHCNT_FCS] (ethSt) t) &&
  runs (.ethFrameReceive 2045 true [] false) ethSt (fun t => t.f R.HST_ETHCNT_RXDROP = 1 && (t.ring 15).infl.length = 1 && but [R.HST_ETHCNT_RXDROP] (ethSt) t) &&
  runsD ethSt (dsc 9 2048 0 0) && runs (.ethLinkChange true) hsetup (fun t => t.f R.HST_ETH_LINK = 1 && but [R.HST_ETH_LINK] hsetup t) = true := by decide +kernel
def stageSt : State := { ringWith (dsc 3 2 0 0) with pwm := { cairn := [(0x40F0, 1)] } }
theorem witness_pwmset_staged : ck (waits stageSt (dsc 3 2 0 0) && stageSt.carEnabled 15) (.pwmset 15 [0x1F, 2000] false) stageSt (fun t => completed (dsc 3 2 0 0) compDone stageSt t && t.mem = [] &&
  (t.car 15).slot.regs = [(0x40F4, 2000)]) = true := by decide +kernel
def heldPtc : State := { hsetup with sys := { own := [(0x100F, 0xAC01)] } }
theorem witness_write_conflict : ck ((match commitMap heldPtc (heldPtc.writeCfg [(0, 0x21FC, 1)]) with
    | .error c => c.res = 0x100F && c.holder = 0xAC01
    | .ok _ => false) && !heldPtc.stateBad (heldPtc.writeCfg [(0, 0x21FC, 1)]) [0x21FC]) (.registerWrite 0x21FC 1) heldPtc (fun t => rec 0x21FC .conflict heldPtc t && t.sys = heldPtc.sys &&
  t.f R.SYS_OWN_LAST_RESID = 0x100F && t.f R.SYS_OWN_LAST_OWNER = 0xAC01 && t.f R.SYS_OWN_LASTC_CLAIM % 2 ^ 8 = 15 && t.f R.SYS_OWN_LASTC_RESTORE = 0 &&
  but (wresFlds ++ [R.SYS_OWN_LAST_RESID, R.SYS_OWN_LAST_OWNER, R.SYS_OWN_LASTC_CLAIM, R.SYS_OWN_LASTC_RESTORE, R.SYS_OWN_LASTC_COUNT]) heldPtc t) = true := by decide +kernel

end Sys2Proof.Tests
end

section
/-! PROOFS. What no command of the table changes (O3), and the register reads of O23 and O25.

`KeepsQueue s t` says that `t` has the queue and the ordering code of `s`. Each operation of the model has one lemma that it is
kept, in the order of the model's files; `exec_completes` puts them together, one group of commands for each way a command
reaches the state.

The lemmas are equations of two fields, so that `simp` takes an operation off a state as soon as its lemma is known. The rules
`KeepsQueue.setF`, `KeepsQueue.sys` and the like do the same by application: they serve where a value written is so large that
the kernel must not compare it. -/

namespace Sys2Proof.Machine

variable {s t u : State}

/-! ### The relation and its rules -/

/-- The queue of commands and the ordering code are the same in both states. -/
@[simp] abbrev KeepsQueue (s t : State) : Prop := t.pending = s.pending ∧ t.part = s.part

theorem KeepsQueue.refl (s : State) : KeepsQueue s s := ⟨rfl, rfl⟩

theorem KeepsQueue.trans (h : KeepsQueue s t) (k : KeepsQueue t u) : KeepsQueue s u := ⟨k.1.trans h.1, k.2.trans h.2⟩

theorem Posted.keepsQueue (h : Posted s t) : KeepsQueue s t := ⟨h.pending, h.part⟩

/-- The state of a pair that an operation answers. -/
theorem KeepsQueue.of_snd {α : Type} {p : α × State} {a : α} (h : KeepsQueue s p.2) (e : p = (a, t)) : KeepsQueue s t := by
  rwa [e] at h

theorem KeepsQueue.ite {c : Prop} [Decidable c] (ht : KeepsQueue s t) (hu : KeepsQueue s u) :
    KeepsQueue s (if c then t else u) := by
  split <;> assumption

theorem KeepsQueue.each {l : List Nat} {g : Nat → State → State} (h : KeepsQueue s t) (hg : ∀ i u, KeepsQueue u (g i u)) :
    KeepsQueue s (t.each l g) := State.each_ind h fun i _ u hu => hu.trans (hg i u)

theorem KeepsQueue.foldl {α : Type} {l : List α} {g : State → α → State} (h : KeepsQueue s t)
    (hg : ∀ u a, KeepsQueue u (g u a)) : KeepsQueue s (l.foldl g t) := by
  induction l generalizing t with
  | nil => exact h
  | cons a l ih => exact ih (h.trans (hg t a))

/-- A fold that carries a value beside the state. -/
theorem KeepsQueue.foldl_snd {α β : Type} {l : List α} {g : β × State → α → β × State}
    (hg : ∀ b u a, KeepsQueue u (g (b, u) a).2) (b : β) (s : State) : KeepsQueue s (l.foldl g (b, s)).2 := by
  induction l generalizing b s with
  | nil => exact .refl s
  | cons a l ih => exact (hg b s a).trans (ih _ _)

theorem KeepsQueue.setReg (h : KeepsQueue s t) (o : Nat) (v : Word) : KeepsQueue s (t.setReg o v) := h
theorem KeepsQueue.setF (h : KeepsQueue s t) (x : Fld) (n : Nat) : KeepsQueue s (t.setF x n) := h
theorem KeepsQueue.count (h : KeepsQueue s t) (x : Fld) (n : Nat) : KeepsQueue s (t.count x n) := h
theorem KeepsQueue.setXing (h : KeepsQueue s t) (x : Nat) (c : Crossing) : KeepsQueue s (t.setXing x c) := h
theorem KeepsQueue.post (h : KeepsQueue s t) (c i a b d : Nat) : KeepsQueue s (t.post c i a b d) :=
  h.trans (State.post_posted c i a b d).keepsQueue

/-! An update of the internal state of one block, whatever it becomes. -/

theorem KeepsQueue.sys (h : KeepsQueue s t) (x : SysSt) : KeepsQueue s { t with sys := x } := h
theorem KeepsQueue.pwm (h : KeepsQueue s t) (x : PwmSt) : KeepsQueue s { t with pwm := x } := h
theorem KeepsQueue.ce (h : KeepsQueue s t) (x : CeSt) : KeepsQueue s { t with ce := x } := h
theorem KeepsQueue.mtr (h : KeepsQueue s t) (x : MtrSt) : KeepsQueue s { t with mtr := x } := h
theorem KeepsQueue.plt (h : KeepsQueue s t) (x : PltSt) : KeepsQueue s { t with plt := x } := h
theorem KeepsQueue.saf (h : KeepsQueue s t) (x : SafSt) : KeepsQueue s { t with saf := x } := h
theorem KeepsQueue.bvq (h : KeepsQueue s t) (x : BvqSt) : KeepsQueue s { t with bvq := x } := h
theorem KeepsQueue.ce_saf (h : KeepsQueue s t) (x : CeSt) (y : SafSt) : KeepsQueue s { t with ce := x, saf := y } := h

/-! The rules in the form that `simp` uses. -/

variable (s)

@[simp] theorem State.ite_pending (c : Prop) [Decidable c] (t u : State) :
    (if c then t else u).pending = if c then t.pending else u.pending := apply_ite ..

@[simp] theorem State.ite_part (c : Prop) [Decidable c] (t u : State) :
    (if c then t else u).part = if c then t.part else u.part := apply_ite ..

@[simp] theorem State.each_keepsQueue (l : List Nat) (g : Nat → State → State) (hg : ∀ i u, KeepsQueue u (g i u)) :
    KeepsQueue s (s.each l g) := (KeepsQueue.refl s).each hg

@[simp] theorem State.foldl_keepsQueue {α : Type} (l : List α) (g : State → α → State) (hg : ∀ u a, KeepsQueue u (g u a)) :
    KeepsQueue s (l.foldl g s) := (KeepsQueue.refl s).foldl hg

@[simp] theorem State.setF_keepsQueue (x : Fld) (n : Nat) : KeepsQueue s (s.setF x n) := (KeepsQueue.refl s).setF x n

/-! ### Shared operations -/

@[simp] theorem State.onMain_keepsQueue (h : KeepsQueue s t) : KeepsQueue s (s.onMain t) := by
  unfold State.onMain
  split
  · exact h
  · exact .refl s
@[simp] theorem State.setWords_keepsQueue (a : Nat) (ws : List Word) : KeepsQueue s (s.setWords a ws) := by
  induction ws generalizing s a with
  | nil => exact .refl s
  | cons w ws ih => simp [State.setWords, ih]
@[simp] theorem State.hostWrite_keepsQueue (a : Nat) (ws : List Word) : KeepsQueue s (s.hostWrite a ws) := by
  induction ws generalizing s a with
  | nil => exact .refl s
  | cons w ws ih => simp [State.hostWrite, ih]
@[simp] theorem State.winPut_keepsQueue (w : Nat) (r : List Word) : KeepsQueue s (s.winPut w r) := by simp [State.winPut]
@[simp] theorem State.capture_keepsQueue (ty flg n : Nat) (t : Word) (body : List Word) :
    KeepsQueue s (s.capture ty flg n t body) := (State.capture_posted ..).keepsQueue
@[simp] theorem State.winTrigger_keepsQueue (w src : Nat) : KeepsQueue s (s.winTrigger w src) := by simp [State.winTrigger]
@[simp] theorem State.queueLog_keepsQueue (p : Packet) : KeepsQueue s (s.queueLog p) := (State.queueLog_posted p).keepsQueue
@[simp] theorem State.emit_keepsQueue (e : EvRec) : KeepsQueue s (s.emit e) := (State.emit_posted e).keepsQueue
@[simp] theorem State.overrun_keepsQueue (x : Nat) : KeepsQueue s (s.overrun x) := by simp [State.overrun]
@[simp] theorem State.xEvent_keepsQueue (x : Nat) : KeepsQueue s (s.xEvent x).2 := by
  unfold State.xEvent
  dsimp only
  (repeat' split) <;> simp
@[simp] theorem State.produceAt_keepsQueue (x key : Nat) (v : List Nat) : KeepsQueue s (s.produceAt x key v) := by
  unfold State.produceAt
  dsimp only
  (repeat' split) <;> simp
@[simp] theorem State.xProduce_keepsQueue (x : Nat) (v : List Nat) : KeepsQueue s (s.xProduce x v) := by simp [State.xProduce]
@[simp] theorem State.produceStatus_keepsQueue (t : State) : KeepsQueue t (s.produceStatus t) := by
  simp [State.produceStatus]
@[simp] theorem State.onStatus_keepsQueue (h : KeepsQueue s t) : KeepsQueue s (s.onStatus t) :=
  State.onMain_keepsQueue s (h.trans (State.produceStatus_keepsQueue s t))
@[simp] theorem State.carry_keepsQueue (key : Nat) (v : List Nat) : KeepsQueue s (s.carry key v) := by simp [State.carry]
@[simp] theorem State.carryWrite_keepsQueue (off : Nat) (v : Word) : KeepsQueue s (s.carryWrite off v) := by
  unfold State.carryWrite
  split <;> simp
@[simp] theorem State.carryRead_keepsQueue (off : Nat) (v : Word) : KeepsQueue s (s.carryRead off v) := by
  unfold State.carryRead
  split <;> simp
@[simp] theorem State.report3_keepsQueue (e : Option EvRec) : KeepsQueue s (s.report3 e) := by
  unfold State.report3
  dsimp only
  (repeat' split) <;> simp
@[simp] theorem State.post3_keepsQueue (code inst : Nat) (d0 d1 d2 : Nat := 0) : KeepsQueue s (s.post3 code inst d0 d1 d2) := by
  simp [State.post3]
@[simp] theorem State.linkReset_keepsQueue (n : Nat) : KeepsQueue s (s.linkReset n) := by simp [State.linkReset]
@[simp] theorem State.linkBack_keepsQueue (n : Nat) : KeepsQueue s (s.linkBack n) := by simp [State.linkBack]
@[simp] theorem State.portIdle_keepsQueue (n : Nat) (down : Bool) : KeepsQueue s (s.portIdle n down) := by simp [State.portIdle]
@[simp] theorem State.trainStart_keepsQueue (n : Nat) : KeepsQueue s (s.trainStart n) := by simp [State.trainStart]
@[simp] theorem State.relate_keepsQueue (n : Nat) : KeepsQueue s (s.relate n) := by simp [State.relate]
@[simp] theorem State.aiShow_keepsQueue : KeepsQueue s s.aiShow := by simp [State.aiShow]
@[simp] theorem State.setLane_keepsQueue (k : Nat) (l : LaneSt) : KeepsQueue s (s.setLane k l) := by simp [State.setLane]
@[simp] theorem State.setSeq_keepsQueue (q : Nat) (x : SeqSt) : KeepsQueue s (s.setSeq q x) := by
  unfold State.setSeq
  split <;> simp

/-! ### The ownership map -/

@[simp] theorem State.setOwner_keepsQueue (res o : Nat) : KeepsQueue s (s.setOwner res o) := by simp [State.setOwner]
@[simp] theorem State.refuse_keepsQueue (c : Conflict) (restore : Bool) : KeepsQueue s (s.refuse c restore) := by
  simp [State.refuse]

/-! ### Outcomes and completions -/

@[simp] theorem State.setDnQueue_keepsQueue (line : Nat) (l : List Packet) : KeepsQueue s (s.setDnQueue line l) := by
  simp [State.setDnQueue]
@[simp] theorem State.sendUp_keepsQueue (p : Packet) : KeepsQueue s (s.sendUp p) := by simp [State.sendUp]
@[simp] theorem State.sendDown_keepsQueue (line : Nat) (p : Packet) : KeepsQueue s (s.sendDown line p) := by simp [State.sendDown]
@[simp] theorem State.route_keepsQueue (p : Packet) : KeepsQueue s (s.route p) := by
  unfold State.route
  split <;> simp
@[simp] theorem State.answer_keepsQueue (q p : Packet) : KeepsQueue s (s.answer q p) := by simp [State.answer]
@[simp] theorem State.wres_keepsQueue (off : Nat) (st : Status) : KeepsQueue s (s.wres off st) := by simp [State.wres]
@[simp] theorem State.showRing_keepsQueue (r : Nat) : KeepsQueue s (s.showRing r) := by simp [State.showRing]
@[simp] theorem State.writeComp_keepsQueue (r : Nat) (f : Flight) (c : Comp) : KeepsQueue s (s.writeComp r f c) := by
  simp [State.writeComp]
@[simp] theorem State.flush_keepsQueue (n r : Nat) : KeepsQueue s (State.flush n r s) := by
  induction n generalizing s with
  | zero => simp [State.flush]
  | succ n ih =>
    unfold State.flush
    split
    · simp
    · split
      · simp
      · simp [ih]
@[simp] theorem State.complete_keepsQueue (r idx : Nat) (c : Comp) : KeepsQueue s (s.complete r idx c) := by simp [State.complete]
@[simp] theorem State.cairnTouch_keepsQueue : KeepsQueue s s.cairnTouch := by
  unfold State.cairnTouch
  dsimp only
  (repeat' split) <;> simp
@[simp] theorem State.armEnd_keepsQueue (st : Status) : KeepsQueue s (s.armEnd st) := by
  unfold State.armEnd
  dsimp only
  (repeat' split) <;> simp

/-! ### The power stage -/

@[simp] theorem State.atcSchedule_keepsQueue (n : Nat) : KeepsQueue s (s.atcSchedule n) := by
  unfold State.atcSchedule
  dsimp only
  (repeat' split) <;> simp
@[simp] theorem State.atcEvent_keepsQueue (src edge : Nat) : KeepsQueue s (s.atcEvent src edge) := by simp [State.atcEvent]
@[simp] theorem State.landOff_keepsQueue (m : Nat) (upper : Bool) : KeepsQueue s (s.landOff m upper) := by simp [State.landOff]
@[simp] theorem State.landOn_keepsQueue (m : Nat) (upper : Bool) : KeepsQueue s (s.landOn m upper) := by simp [State.landOn]
@[simp] theorem State.pairLow_keepsQueue (m : Nat) : KeepsQueue s (s.pairLow m) := by simp [State.pairLow]
@[simp] theorem State.tripOff_keepsQueue (m : Nat) : KeepsQueue s (s.tripOff m) := by
  unfold State.tripOff
  dsimp only
  (repeat' split) <;> simp
@[simp] theorem State.allOff_keepsQueue : KeepsQueue s s.allOff := by simp [State.allOff]
@[simp] theorem State.tripPair_keepsQueue (i m : Nat) : KeepsQueue s (s.tripPair i m) := by simp [State.tripPair]
@[simp] theorem State.tripAll_keepsQueue : KeepsQueue s s.tripAll := by simp [State.tripAll]
@[simp] theorem State.enter_keepsQueue (new : Nat) : KeepsQueue s (s.enter new) := by simp [State.enter]
@[simp] theorem State.blockTrip_keepsQueue (code det : Nat) : KeepsQueue s (s.blockTrip code det) := by simp [State.blockTrip]
@[simp] theorem State.setTsrc_keepsQueue (i : Nat) (c : TsrcSt) : KeepsQueue s (s.setTsrc i c) := by simp [State.setTsrc]
@[simp] theorem State.showAct_keepsQueue : KeepsQueue s s.showAct := by simp [State.showAct]
@[simp] theorem State.countCut_keepsQueue (g m : Nat) : KeepsQueue s (s.countCut g m) := by simp [State.countCut]
@[simp] theorem State.setCut_keepsQueue (g m : Nat) (on : Bool) : KeepsQueue s (s.setCut g m on) := by simp [State.setCut]
@[simp] theorem State.cutGroup_keepsQueue (g i : Nat) : KeepsQueue s (s.cutGroup g i) := by simp [State.cutGroup]
@[simp] theorem State.latchGroup_keepsQueue (g i : Nat) (scb : Bool) : KeepsQueue s (s.latchGroup g i scb) := by
  unfold State.latchGroup
  dsimp only
  (repeat' split) <;> simp
@[simp] theorem State.blockShort_keepsQueue (a b : Nat) : KeepsQueue s (s.blockShort a b) := by simp [State.blockShort]
@[simp] theorem State.shortEvent_keepsQueue (leg : Nat) : KeepsQueue s (s.shortEvent leg) := by
  unfold State.shortEvent
  dsimp only
  (repeat' split) <;> simp
@[simp] theorem State.hitGroup_keepsQueue (i g : Nat) (scb : Bool) : KeepsQueue s (s.hitGroup i g scb) := by simp [State.hitGroup]
@[simp] theorem State.srcActOn_keepsQueue (i g : Nat) : KeepsQueue s (s.srcActOn i g) := by simp [State.srcActOn]
@[simp] theorem State.srcAct_keepsQueue (i : Nat) : KeepsQueue s (s.srcAct i) := by simp [State.srcAct]
@[simp] theorem State.srcAssert_keepsQueue (i : Nat) : KeepsQueue s (s.srcAssert i) := by simp [State.srcAssert]
@[simp] theorem State.srcRelease_keepsQueue (i : Nat) : KeepsQueue s (s.srcRelease i) := by simp [State.srcRelease]
@[simp] theorem State.srcRaw_keepsQueue (i : Nat) (on : Bool) : KeepsQueue s (s.srcRaw i on) := by simp [State.srcRaw]
@[simp] theorem State.blankEnd_keepsQueue (g : Nat) : KeepsQueue s (s.blankEnd g) := by simp [State.blankEnd]
@[simp] theorem State.enforceHold_keepsQueue : KeepsQueue s s.enforceHold := by simp [State.enforceHold]
@[simp] theorem State.srcActAll_keepsQueue : KeepsQueue s s.srcActAll := by simp [State.srcActAll]

/-! ### The PWM engine -/

@[simp] theorem State.turnOn_keepsQueue (m : Nat) (upper : Bool) : KeepsQueue s (s.turnOn m upper) := by simp [State.turnOn]
@[simp] theorem State.target_keepsQueue (m : Nat) (tgt : Option Bool) (edge : Bool) : KeepsQueue s (s.target m tgt edge) := by
  unfold State.target
  split <;> simp
@[simp] theorem State.followW_keepsQueue (m : Nat) (edge : Bool) : KeepsQueue s (s.followW m edge) := by simp [State.followW]
@[simp] theorem State.setNotch_keepsQueue (m : Nat) : KeepsQueue s (s.setNotch m) := by simp [State.setNotch]
@[simp] theorem State.planRefresh_keepsQueue (m ton len reg : Nat) : KeepsQueue s (s.planRefresh m ton len reg) := by
  simp [State.planRefresh]
@[simp] theorem State.report_keepsQueue (m : Nat) : KeepsQueue s (s.report m) := by simp [State.report]
@[simp] theorem State.endPair_keepsQueue (m : Nat) : KeepsQueue s (s.endPair m) := by simp [State.endPair]
@[simp] theorem State.resume_keepsQueue (m : Nat) : KeepsQueue s (s.resume m) := by simp [State.resume]
@[simp] theorem State.planPair_keepsQueue (m : Nat) : KeepsQueue s (s.planPair m) := by simp [State.planPair]
@[simp] theorem State.applyRegs_keepsQueue (l : List (Nat × Word)) : KeepsQueue s (s.applyRegs l) := by simp [State.applyRegs]
@[simp] theorem State.applySlot_keepsQueue (sl : Slot) : KeepsQueue s (s.applySlot sl) := by simp [State.applySlot]
@[simp] theorem State.pairIdle_keepsQueue (m : Nat) : KeepsQueue s (s.pairIdle m) := by simp [State.pairIdle]
@[simp] theorem State.idleLoose_keepsQueue : KeepsQueue s s.idleLoose := by simp [State.idleLoose]
@[simp] theorem State.carrierEvent_keepsQueue (k edge : Nat) : KeepsQueue s (s.carrierEvent k edge) := by
  simp [State.carrierEvent]
@[simp] theorem State.shadowTick_keepsQueue (k : Nat) : KeepsQueue s (s.shadowTick k) := by simp [State.shadowTick]
@[simp] theorem State.shadowSpan_keepsQueue : KeepsQueue s s.shadowSpan := by
  unfold State.shadowSpan
  split <;> simp
@[simp] theorem State.openPeriod_keepsQueue (k : Nat) (first again : Bool) (oldPhase : Nat) :
    KeepsQueue s (s.openPeriod k first again oldPhase) := by simp [State.openPeriod]
@[simp] theorem State.beginPeriod_keepsQueue (k : Nat) (first : Bool) : KeepsQueue s (s.beginPeriod k first) := by
  simp [State.beginPeriod]
@[simp] theorem State.restartFine_keepsQueue (k : Nat) : KeepsQueue s (s.restartFine k) := by simp [State.restartFine]
@[simp] theorem State.endHold_keepsQueue (m : Nat) : KeepsQueue s (s.endHold m) := by simp [State.endHold]
@[simp] theorem State.stopCarrier_keepsQueue (k : Nat) : KeepsQueue s (s.stopCarrier k) := by simp [State.stopCarrier]
@[simp] theorem State.carrierPeriodStart_keepsQueue (k : Nat) : KeepsQueue s (s.carrierPeriodStart k) := by
  simp [State.carrierPeriodStart]
@[simp] theorem State.carrierPeak_keepsQueue (k : Nat) : KeepsQueue s (s.carrierPeak k) := by simp [State.carrierPeak]
@[simp] theorem State.midPair_keepsQueue (m : Nat) : KeepsQueue s (s.midPair m) := by simp [State.midPair]
@[simp] theorem State.carrierMid_keepsQueue (k : Nat) : KeepsQueue s (s.carrierMid k) := by
  unfold State.carrierMid
  dsimp only
  (repeat' split) <;> simp
@[simp] theorem State.latchPoint_keepsQueue (k : Nat) : KeepsQueue s (s.latchPoint k) := by simp [State.latchPoint]
@[simp] theorem State.pwmEdge_keepsQueue (m : Nat) (rise : Bool) : KeepsQueue s (s.pwmEdge m rise) := by simp [State.pwmEdge]
@[simp] theorem State.deadTime_keepsQueue (m : Nat) : KeepsQueue s (s.deadTime m) := by
  unfold State.deadTime
  split <;> simp
@[simp] theorem State.notchEdge_keepsQueue (m : Nat) : KeepsQueue s (s.notchEdge m) := by
  unfold State.notchEdge
  dsimp only
  (repeat' split) <;> simp
@[simp] theorem State.deadTimeExpiry_keepsQueue (m : Nat) : KeepsQueue s (s.deadTimeExpiry m) := by
  unfold State.deadTimeExpiry
  split <;> simp
@[simp] theorem State.merge_keepsQueue (k : Nat) (regs : List (Nat × Word)) (shadow : Bool) :
    KeepsQueue s (s.merge k regs shadow) := by simp [State.merge]
@[simp] theorem State.setRefused_keepsQueue (cause : Nat) (w0 : Word) (from_ : Nat) :
    KeepsQueue s (s.setRefused cause w0 from_) := by simp [State.setRefused]
@[simp] theorem State.shadowPut_keepsQueue (off : Nat) (v : Word) : KeepsQueue s (s.shadowPut off v) := by simp [State.shadowPut]
@[simp] theorem State.shadowClear_keepsQueue : KeepsQueue s s.shadowClear := by simp [State.shadowClear]
@[simp] theorem State.shadowDrop_keepsQueue : KeepsQueue s s.shadowDrop := by
  unfold State.shadowDrop
  split <;> simp
@[simp] theorem State.groupSync_keepsQueue (g : Nat) : KeepsQueue s (s.groupSync g) := by simp [State.groupSync]

/-! ### Auxiliary timers, gate drive, trips and comparators -/

@[simp] theorem State.trigEvent_keepsQueue (ch : Nat) : KeepsQueue s (s.trigEvent ch) := by simp [State.trigEvent]
@[simp] theorem State.refreshOpen_keepsQueue (j close : Nat) : KeepsQueue s (s.refreshOpen j close) := by simp [State.refreshOpen]
@[simp] theorem State.atcClose_keepsQueue (n : Nat) : KeepsQueue s (s.atcClose n) := by
  unfold State.atcClose
  dsimp only
  (repeat' split) <;> simp
@[simp] theorem State.atcOpen_keepsQueue (n : Nat) : KeepsQueue s (s.atcOpen n) := by
  unfold State.atcOpen
  dsimp only
  (repeat' split) <;> simp
@[simp] theorem State.blankMax_keepsQueue (n : Nat) : KeepsQueue s (s.blankMax n) := by
  unfold State.blankMax
  dsimp only
  (repeat' split) <;> simp
@[simp] theorem State.setGdf_keepsQueue (n : Nat) (g : GdfSt) : KeepsQueue s (s.setGdf n g) := by simp [State.setGdf]
@[simp] theorem State.bsHold_keepsQueue (m : Nat) : KeepsQueue s (s.bsHold m) := by
  unfold State.bsHold
  dsimp only
  (repeat' split) <;> simp
@[simp] theorem State.gdfSet_keepsQueue (n : Nat) (on : Bool) : KeepsQueue s (s.gdfSet n on) := by simp [State.gdfSet]
@[simp] theorem State.bsReport_keepsQueue (n : Nat) : KeepsQueue s (s.bsReport n) := by simp [State.bsReport]
@[simp] theorem State.gdfChange_keepsQueue (n : Nat) (high : Bool) : KeepsQueue s (s.gdfChange n high) := by
  unfold State.gdfChange
  dsimp only
  (repeat' split) <;> simp
@[simp] theorem State.gdfAssert_keepsQueue (n : Nat) : KeepsQueue s (s.gdfAssert n) := by simp [State.gdfAssert]
@[simp] theorem State.gdfRecode_keepsQueue (n : Nat) : KeepsQueue s (s.gdfRecode n) := by simp [State.gdfRecode]
@[simp] theorem State.gdfModeChange_keepsQueue (j : Nat) : KeepsQueue s (s.gdfModeChange j) := by simp [State.gdfModeChange]
@[simp] theorem State.gdfFollow_keepsQueue (t : State) : KeepsQueue t (s.gdfFollow t) := by
  simp [State.gdfFollow]
@[simp] theorem State.softStage_keepsQueue (leg stage : Nat) : KeepsQueue s (s.softStage leg stage) := by
  refine s.each_keepsQueue _ _ fun m u => ?_
  split <;> simp
@[simp] theorem State.tripAssert_keepsQueue (i : Nat) : KeepsQueue s (s.tripAssert i) := by simp [State.tripAssert]
@[simp] theorem State.tripRelease_keepsQueue (i : Nat) : KeepsQueue s (s.tripRelease i) := by simp [State.tripRelease]
@[simp] theorem State.filterExpiry_keepsQueue (i : Nat) : KeepsQueue s (s.filterExpiry i) := by simp [State.filterExpiry]
@[simp] theorem State.latchClear_keepsQueue (g : Nat) : KeepsQueue s (s.latchClear g).2 := by
  unfold State.latchClear
  split <;> simp
@[simp] theorem State.thrMove_keepsQueue (n : Nat) (w : Word) : KeepsQueue s (s.thrMove n w) := by simp [State.thrMove]
@[simp] theorem State.showCmpo_keepsQueue : KeepsQueue s s.showCmpo := by simp [State.showCmpo]
@[simp] theorem State.cmpSet_keepsQueue (n : Nat) (hi lo : Bool) : KeepsQueue s (s.cmpSet n hi lo) := by simp [State.cmpSet]
@[simp] theorem State.cmpChange_keepsQueue (n : Nat) (p q : Int) : KeepsQueue s (s.cmpChange n p q) := by simp [State.cmpChange]
@[simp] theorem State.cmpHold_keepsQueue (n : Nat) : KeepsQueue s (s.cmpHold n) := by simp [State.cmpHold]
@[simp] theorem State.cmpOff_keepsQueue (n : Nat) : KeepsQueue s (s.cmpOff n) := by simp [State.cmpOff]
@[simp] theorem State.cmpDecide_keepsQueue (n : Nat) (p q : Int) : KeepsQueue s (s.cmpDecide n p q) := by simp [State.cmpDecide]
@[simp] theorem State.clearBscnt_keepsQueue : KeepsQueue s s.clearBscnt := by simp [State.clearBscnt]
@[simp] theorem State.clearGrpCnt_keepsQueue (g : Nat) : KeepsQueue s (s.clearGrpCnt g) := by simp [State.clearGrpCnt]
@[simp] theorem State.clearPwmStat_keepsQueue : KeepsQueue s s.clearPwmStat := by simp [State.clearPwmStat]

/-! ### Plant time and crossings -/

@[simp] theorem State.setSrcMeas_keepsQueue (i : Nat) (m : SrcMeas) : KeepsQueue s (s.setSrcMeas i m) := by
  simp [State.setSrcMeas]
@[simp] theorem State.showSync_keepsQueue : KeepsQueue s s.showSync := by simp [State.showSync]
@[simp] theorem State.showOsc_keepsQueue : KeepsQueue s s.showOsc := by simp [State.showOsc]
@[simp] theorem State.unlockServo_keepsQueue : KeepsQueue s s.unlockServo := by simp [State.unlockServo]
@[simp] theorem State.setRate_keepsQueue (i p : Int) : KeepsQueue s (s.setRate i p) := by simp [State.setRate]
@[simp] theorem State.reselect_keepsQueue : KeepsQueue s s.reselect := by simp [State.reselect]
@[simp] theorem State.ptStep_keepsQueue (e : Int) : KeepsQueue s (s.ptStep e) := by simp [State.ptStep]
@[simp] theorem State.measure_keepsQueue (i : Nat) (e : Int) : KeepsQueue s (s.measure i e) := by
  unfold State.measure
  dsimp only
  (repeat' split) <;> simp
@[simp] theorem State.ppsEdge_keepsQueue : KeepsQueue s s.ppsEdge := by simp [State.ppsEdge]
@[simp] theorem State.hostOffset_keepsQueue (sec : Word) : KeepsQueue s (s.hostOffset sec) := by simp [State.hostOffset]
@[simp] theorem State.sourceTimeout_keepsQueue (i : Nat) : KeepsQueue s (s.sourceTimeout i) := by
  unfold State.sourceTimeout
  dsimp only
  (repeat' split) <;> simp
@[simp] theorem State.sourceDown_keepsQueue (i : Nat) : KeepsQueue s (s.sourceDown i) := by simp [State.sourceDown]
@[simp] theorem State.upLost_keepsQueue (n : Nat) : KeepsQueue s (s.upLost n) := by simp [State.upLost]
@[simp] theorem State.servoLock_keepsQueue : KeepsQueue s s.servoLock := by simp [State.servoLock]
@[simp] theorem State.servoLoss_keepsQueue : KeepsQueue s s.servoLoss := by simp [State.servoLoss]
@[simp] theorem State.setPtc_keepsQueue (n : Nat) (q : PtcSt) : KeepsQueue s (s.setPtc n q) := by simp [State.setPtc]
@[simp] theorem State.ptcArm_keepsQueue (n : Nat) : KeepsQueue s (s.ptcArm n) := by
  unfold State.ptcArm
  split <;> simp
@[simp] theorem State.winArm_keepsQueue (w : Nat) : KeepsQueue s (s.winArm w) := by simp [State.winArm]
@[simp] theorem State.ptcAdvance_keepsQueue (n : Nat) : KeepsQueue s (s.ptcAdvance n) := by
  unfold State.ptcAdvance
  dsimp only
  (repeat' split) <;> simp
@[simp] theorem State.ptcTargets_keepsQueue (n tgt grp : Nat) : KeepsQueue s (s.ptcTargets n tgt grp) := by
  simp [State.ptcTargets]
@[simp] theorem State.deliverKey_keepsQueue (key : Nat) : KeepsQueue s (s.deliverKey key) := by
  unfold State.deliverKey
  dsimp only
  (repeat' split) <;> simp
@[simp] theorem State.mailbox_keepsQueue (x : Nat) : KeepsQueue s (s.mailbox x) := by
  unfold State.mailbox
  dsimp only
  (repeat' split) <;> simp
@[simp] theorem State.mailboxes_keepsQueue (x : Nat) : KeepsQueue s (s.mailboxes x) := by simp [State.mailboxes]
@[simp] theorem State.handshake_keepsQueue (x : Nat) : KeepsQueue s (s.handshake x) := by
  unfold State.handshake
  dsimp only
  split
  · simp
  split
  · split
    · simp
    · refine KeepsQueue.trans ⟨rfl, rfl⟩ (State.foldl_keepsQueue _ _ _ fun u e => ?_)
      split <;> simp
  · split <;> simp
@[simp] theorem State.fifoLoss_keepsQueue (x ch : Nat) : KeepsQueue s (s.fifoLoss x ch) := by
  unfold State.fifoLoss
  dsimp only
  (repeat' split) <;> simp
@[simp] theorem State.captureResume_keepsQueue : KeepsQueue s s.captureResume := by simp [State.captureResume]
@[simp] theorem State.fifoMove_keepsQueue (x ch : Nat) (act : FifoAct) : KeepsQueue s (s.fifoMove x ch act) := by
  unfold State.fifoMove
  dsimp only
  (repeat' split) <;> simp
@[simp] theorem State.resyncCount_keepsQueue (x n : Nat) : KeepsQueue s (s.resyncCount x n) := by simp [State.resyncCount]
@[simp] theorem State.linkResync_keepsQueue (n : Nat) : KeepsQueue s (s.linkResync n) := by simp [State.linkResync]
@[simp] theorem State.timeResync_keepsQueue (n : Nat) : KeepsQueue s (s.timeResync n) := by simp [State.timeResync]
@[simp] theorem State.resendSet_keepsQueue : KeepsQueue s s.resendSet := by simp [State.resendSet]
@[simp] theorem State.resync_keepsQueue (x : Nat) : KeepsQueue s (s.resync x) := by simp [State.resync]
@[simp] theorem State.resyncAll_keepsQueue (x : Nat) : KeepsQueue s (s.resyncAll x) := by simp [State.resyncAll]
@[simp] theorem State.xdcClear_keepsQueue (mask : Nat) : KeepsQueue s (s.xdcClear mask) := by simp [State.xdcClear]

/-! ### Clocks and monitors -/

@[simp] theorem State.paceWindow_keepsQueue (cycles : Nat) : KeepsQueue s (s.paceWindow cycles) := by simp [State.paceWindow]
@[simp] theorem State.paceExtClear_keepsQueue : KeepsQueue s s.paceExtClear := by simp [State.paceExtClear]
@[simp] theorem State.ckoLose_keepsQueue (tap : Nat) : KeepsQueue s (s.ckoLose tap) := by simp [State.ckoLose]
@[simp] theorem State.ckoReturn_keepsQueue (tap : Nat) : KeepsQueue s (s.ckoReturn tap) := by simp [State.ckoReturn]
@[simp] theorem State.coarseEnter_keepsQueue : KeepsQueue s s.coarseEnter := by simp [State.coarseEnter]
@[simp] theorem State.networkIdle_keepsQueue (p : Nat) : KeepsQueue s (s.networkIdle p) := by simp [State.networkIdle]
@[simp] theorem State.networkTrain_keepsQueue (p : Nat) : KeepsQueue s (s.networkTrain p) := by simp [State.networkTrain]
@[simp] theorem State.lockRestart_keepsQueue (l : List Nat) : KeepsQueue s (s.lockRestart l) := by simp [State.lockRestart]
@[simp] theorem State.pllUnlock_keepsQueue (p : Nat) : KeepsQueue s (s.pllUnlock p) := by simp [State.pllUnlock]
@[simp] theorem State.pllLock_keepsQueue (p : Nat) : KeepsQueue s (s.pllLock p) := by simp [State.pllLock]
@[simp] theorem State.pllStable_keepsQueue (p : Nat) : KeepsQueue s (s.pllStable p) := by simp [State.pllStable]
@[simp] theorem State.refLost_keepsQueue : KeepsQueue s s.refLost := by simp [State.refLost]
@[simp] theorem State.refOk_keepsQueue : KeepsQueue s s.refOk := by simp [State.refOk]
@[simp] theorem State.refWindow_keepsQueue (ok : Bool) (ratio : Nat) : KeepsQueue s (s.refWindow ok ratio) := by
  simp [State.refWindow]
@[simp] theorem State.coarseExit_keepsQueue : KeepsQueue s s.coarseExit := by simp [State.coarseExit]
@[simp] theorem State.ckoChange_keepsQueue (n : Nat) : KeepsQueue s (s.ckoChange n) := by simp [State.ckoChange]
@[simp] theorem State.clkLossClear_keepsQueue : KeepsQueue s s.clkLossClear := by simp [State.clkLossClear]

/-! ### Metering -/

@[simp] theorem State.mtrRebase_keepsQueue : KeepsQueue s s.mtrRebase := by simp [State.mtrRebase]
@[simp] theorem State.mtrFollow_keepsQueue : KeepsQueue s s.mtrFollow := by simp [State.mtrFollow]
@[simp] theorem State.mtrMark_keepsQueue (th : Int) : KeepsQueue s (s.mtrMark th) := by simp [State.mtrMark]
@[simp] theorem State.mtrTake_keepsQueue (i : Nat) (w0 w1 : Word) : KeepsQueue s (s.mtrTake i w0 w1) := by simp [State.mtrTake]
@[simp] theorem State.meterSample_keepsQueue : KeepsQueue s s.meterSample := by simp [State.meterSample]
@[simp] theorem State.takeFrees_keepsQueue (n : Nat) : KeepsQueue s (s.takeFrees n).2 := by simp [State.takeFrees]
@[simp] theorem State.windowPowers_keepsQueue (t : Nat) (mHz : Nat) : KeepsQueue s (s.windowPowers t mHz).2 := by
  simp [State.windowPowers]
@[simp] theorem State.accAdd_keepsQueue (i e : Nat) : KeepsQueue s (s.accAdd i e) := by simp [State.accAdd]
@[simp] theorem State.addEnergies_keepsQueue (pow : List Int) (t : Nat) : KeepsQueue s (s.addEnergies pow t) := by
  simp [State.addEnergies]
@[simp] theorem State.showLast_keepsQueue (pow : List Int) (mHz : Nat) : KeepsQueue s (s.showLast pow mHz) :=
  ((((((KeepsQueue.refl s).setReg ..).setReg ..).setReg ..).setReg ..).setReg ..).setReg ..
@[simp] theorem State.windowEnd_keepsQueue : KeepsQueue s s.windowEnd := by
  have h0 := s.mtrFollow_keepsQueue
  unfold State.windowEnd
  refine h0.ite ?_
  generalize s.mtrFollow.mtrFreq = p
  obtain ⟨f, b⟩ := p
  refine .mtr (h0.ite (.ite ?_ ?_)) _
  · have h1 := h0.count R.MTR_CNT_FILL 1
    split
    · exact (h1.trans (State.addEnergies_keepsQueue ..)).trans (State.showLast_keepsQueue ..)
    · exact h1.trans (State.showLast_keepsQueue ..)
  · split
    next p v e =>
      have h1 := h0.trans ((State.windowPowers_keepsQueue ..).of_snd e)
      exact ((h1.trans (v.addEnergies_keepsQueue ..)).mtr _).trans (State.showLast_keepsQueue ..)
@[simp] theorem State.pulseCount_keepsQueue (k : Nat) (active : Bool) (ms : Nat) : KeepsQueue s (s.pulseCount k active ms) := by
  simp [State.pulseCount]
@[simp] theorem State.tallyStart_keepsQueue (final : Bool) : KeepsQueue s (s.tallyStart final) := by simp [State.tallyStart]
@[simp] theorem State.tallyCommit_keepsQueue : KeepsQueue s s.tallyCommit := by simp [State.tallyCommit]
@[simp] theorem State.tallyWritten_keepsQueue : KeepsQueue s s.tallyWritten := by
  unfold State.tallyWritten
  split <;> simp
@[simp] theorem State.tallyComplete_keepsQueue : KeepsQueue s s.tallyComplete := by
  unfold State.tallyComplete
  split <;> simp
@[simp] theorem State.finalCommit_keepsQueue : KeepsQueue s s.finalCommit := by
  unfold State.finalCommit
  split <;> simp
@[simp] theorem State.tallyRestore_keepsQueue : KeepsQueue s s.tallyRestore := by
  unfold State.tallyRestore
  split <;> simp
@[simp] theorem State.mtrSnap_keepsQueue : KeepsQueue s s.mtrSnap := by simp [State.mtrSnap]
@[simp] theorem State.mtrClear_keepsQueue : KeepsQueue s s.mtrClear.2 := by
  unfold State.mtrClear
  split <;> simp
@[simp] theorem State.mtrCntClear_keepsQueue : KeepsQueue s s.mtrCntClear := by simp [State.mtrCntClear]

/-! ### Conversion -/

@[simp] theorem State.park_keepsQueue : KeepsQueue s s.park := by
  refine s.each_keepsQueue _ _ fun k u => ?_
  dsimp only
  split <;> simp
@[simp] theorem State.showRun_keepsQueue : KeepsQueue s s.showRun := by simp [State.showRun]
@[simp] theorem State.packRun_keepsQueue (q : Nat) : KeepsQueue s (s.packRun q) := by simp [State.packRun]
@[simp] theorem State.endRun_keepsQueue (q : Nat) : KeepsQueue s (s.endRun q) := by simp [State.endRun]
@[simp] theorem State.result_keepsQueue (k : Nat) (c : Conv) (val : Nat) (ovr flt : Bool) :
    KeepsQueue s (s.result k c val ovr flt) := by simp [State.result]
@[simp] theorem State.dacCheck_keepsQueue (ch : Nat) (code : Int) : KeepsQueue s (s.dacCheck ch code) := by simp [State.dacCheck]
@[simp] theorem State.finish_keepsQueue (k : Nat) (c : Conv) (val : Nat) (ovr flt : Bool) :
    KeepsQueue s (s.finish k c val ovr flt) := by simp [State.finish]
@[simp] theorem State.sample_keepsQueue (k : Nat) (c : Conv) : KeepsQueue s (s.sample k c) := by simp [State.sample]
@[simp] theorem State.unplan_keepsQueue (c : Conv) : KeepsQueue s (s.unplan c) := by simp [State.unplan]
@[simp] theorem State.samplingInstant_keepsQueue (k : Nat) : KeepsQueue s (s.samplingInstant k) := by
  unfold State.samplingInstant
  split <;> simp
@[simp] theorem State.startRegular_keepsQueue (queued : Bool) : KeepsQueue s (s.startRegular queued) := by
  simp [State.startRegular]
@[simp] theorem State.startInjected_keepsQueue (queued : Bool) : KeepsQueue s (s.startInjected queued) := by
  unfold State.startInjected
  dsimp only
  refine KeepsQueue.trans ?_ (State.park_keepsQueue _)
  refine KeepsQueue.trans ?_ (State.showRun_keepsQueue _)
  refine KeepsQueue.trans ?_ (State.each_keepsQueue _ _ _ fun k u => ?_)
  · simp
  · split
    · split <;> simp
    · exact .refl u
@[simp] theorem State.startWalk_keepsQueue (queued : Bool) : KeepsQueue s (s.startWalk queued) := by simp [State.startWalk]
@[simp] theorem State.startRun_keepsQueue (q : Nat) (queued : Bool) : KeepsQueue s (s.startRun q queued) := by
  match q with
  | 0 => exact s.startRegular_keepsQueue queued
  | 1 => exact s.startInjected_keepsQueue queued
  | _ + 2 => exact s.startWalk_keepsQueue queued
@[simp] theorem State.trigger_keepsQueue (q : Nat) : KeepsQueue s (s.trigger q) := by simp [State.trigger]
@[simp] theorem State.takeTrig_keepsQueue (q : Nat) : KeepsQueue s (s.takeTrig q) := by simp [State.takeTrig]
@[simp] theorem State.queuedStart_keepsQueue (q : Nat) : KeepsQueue s (s.queuedStart q) := by simp [State.queuedStart]
@[simp] theorem State.monitorIssue_keepsQueue : KeepsQueue s s.monitorIssue := by
  unfold State.monitorIssue
  dsimp only
  (repeat' split) <;> simp
@[simp] theorem State.monModeChange_keepsQueue : KeepsQueue s s.monModeChange := by simp [State.monModeChange]
@[simp] theorem State.conversionEnd_keepsQueue (k : Nat) (p q : Int) : KeepsQueue s (s.conversionEnd k p q) := by
  unfold State.conversionEnd
  dsimp only
  (repeat' split) <;> simp
@[simp] theorem State.takeFailed_keepsQueue : KeepsQueue s s.takeFailed := by
  unfold State.takeFailed
  split <;> simp
@[simp] theorem State.sliceFail_keepsQueue (sl : Nat) : KeepsQueue s (s.sliceFail sl) := by
  unfold State.sliceFail
  dsimp only
  (repeat' split) <;> simp
@[simp] theorem State.calibrated_keepsQueue (failed : Nat) : KeepsQueue s (s.calibrated failed) := by simp [State.calibrated]
@[simp] theorem State.rotate_keepsQueue : KeepsQueue s s.rotate := by
  unfold State.rotate
  dsimp only
  (repeat' split) <;> simp
@[simp] theorem State.handover_keepsQueue : KeepsQueue s s.handover := by
  unfold State.handover
  dsimp only
  (repeat' split) <;> simp
@[simp] theorem State.sliceCalibrated_keepsQueue (ok : Bool) : KeepsQueue s (s.sliceCalibrated ok) := by
  simp [State.sliceCalibrated]
@[simp] theorem State.conversionTimeout_keepsQueue (k : Nat) : KeepsQueue s (s.conversionTimeout k) := by
  unfold State.conversionTimeout
  split <;> simp
@[simp] theorem State.adcDropClear_keepsQueue : KeepsQueue s s.adcDropClear := by simp [State.adcDropClear]
@[simp] theorem State.swTrig_keepsQueue (mask : Nat) : KeepsQueue s (s.swTrig mask) := by simp [State.swTrig]

/-! ### Operands of the control engine -/

@[simp] theorem State.setCe_keepsQueue (l : Nat) (c : LaneCe) : KeepsQueue s (s.setCe l c) := by simp [State.setCe]
@[simp] theorem State.setV_keepsQueue (l r : Nat) (w : Word) : KeepsQueue s (s.setV l r w) := by simp [State.setV]
@[simp] theorem State.moveAcc_keepsQueue (l : Nat) (which : Bool) (r : VReg) : KeepsQueue s (s.moveAcc l which r) := by
  simp [State.moveAcc]
@[simp] theorem State.setVi_keepsQueue (l r : Nat) (x : Int) : KeepsQueue s (s.setVi l r x) := by simp [State.setVi]
@[simp] theorem State.setAcc_keepsQueue (l : Nat) (which : Bool) (x : Int) : KeepsQueue s (s.setAcc l which x) := by
  simp [State.setAcc]
@[simp] theorem State.parmWrite_keepsQueue (a : Nat) (ws : List Word) : KeepsQueue s (s.parmWrite a ws) := by
  simp [State.parmWrite]
@[simp] theorem State.parmFlush_keepsQueue : KeepsQueue s s.parmFlush := by simp [State.parmFlush]

/-! ### Sticky flags -/

@[simp] theorem State.sticky_keepsQueue (l mask : Nat) : KeepsQueue s (s.sticky l mask) := by simp [State.sticky]
@[simp] theorem State.setQ_keepsQueue (l r : Nat) (x : Int) : KeepsQueue s (s.setQ l r x) := by simp [State.setQ]
@[simp] theorem State.setAccSat_keepsQueue (l : Nat) (which : Bool) (x : Int) : KeepsQueue s (s.setAccSat l which x) := by
  simp [State.setAccSat]
@[simp] theorem State.setF32_keepsQueue (l r : Nat) (x : FpRes) : KeepsQueue s (s.setF32 l r x) := by simp [State.setF32]
@[simp] theorem State.setWithin_keepsQueue (l r : Nat) (lo hi : Int) : KeepsQueue s (s.setWithin l r lo hi) := by
  simp [State.setWithin]

/-! ### Cycles and images of the control engine -/

@[simp] theorem State.ceFault_keepsQueue (kind l op : Nat) (addr : Option Nat) : KeepsQueue s (s.ceFault kind l op addr) := by
  unfold State.ceFault
  split <;> simp
@[simp] theorem State.restoreConst_keepsQueue (a : Nat) : KeepsQueue s (s.restoreConst a) := by simp [State.restoreConst]
@[simp] theorem State.lostWord_keepsQueue (l a : Nat) : KeepsQueue s (s.lostWord l a) := by simp [State.lostWord]
@[simp] theorem State.scrub_keepsQueue (a n : Nat) : KeepsQueue s (s.scrub a n) := by simp [State.scrub]
@[simp] theorem State.missCheck_keepsQueue : KeepsQueue s s.missCheck := by simp [State.missCheck]
@[simp] theorem State.miss_keepsQueue : KeepsQueue s s.miss := by simp [State.miss]
@[simp] theorem State.cycleRecord_keepsQueue : KeepsQueue s s.cycleRecord := by simp [State.cycleRecord]
@[simp] theorem State.missCycle_keepsQueue : KeepsQueue s s.missCycle := by simp [State.missCycle]
@[simp] theorem State.mergeSet_keepsQueue (u : UpdateSet) : KeepsQueue s (s.mergeSet u) := by simp [State.mergeSet]
@[simp] theorem State.mergeHeld_keepsQueue : KeepsQueue s s.mergeHeld := by
  refine KeepsQueue.trans ⟨rfl, rfl⟩ (State.foldl_keepsQueue _ _ _ fun u ws => ?_)
  split <;> simp
@[simp] theorem State.commitArrival_keepsQueue : KeepsQueue s s.commitArrival := by simp [State.commitArrival]
@[simp] theorem State.deadlineExpiry_keepsQueue : KeepsQueue s s.deadlineExpiry := by simp [State.deadlineExpiry]
@[simp] theorem State.startFore_keepsQueue (entries : List Nat) : KeepsQueue s (s.startFore entries) := by
  refine s.each_keepsQueue _ _ fun l u => ?_
  split <;> simp
@[simp] theorem State.startBack_keepsQueue : KeepsQueue s s.startBack := by
  unfold State.startBack
  split
  · exact .refl s
  · split
    · exact .refl s
    · refine s.each_keepsQueue _ _ fun l u => ?_
      dsimp only
      split <;> simp
@[simp] theorem State.actEnd_keepsQueue (res : Nat) : KeepsQueue s (s.actEnd res) := by simp [State.actEnd]
@[simp] theorem State.ceLoadDone_keepsQueue : KeepsQueue s s.ceLoadDone := by simp [State.ceLoadDone]
@[simp] theorem State.initEnd_keepsQueue : KeepsQueue s s.initEnd := by simp [State.initEnd]
@[simp] theorem State.startInit_keepsQueue : KeepsQueue s s.startInit := by
  unfold State.startInit
  split <;> simp
@[simp] theorem State.cycleEnd_keepsQueue : KeepsQueue s s.cycleEnd := by simp [State.cycleEnd]
@[simp] theorem State.laneEnd_keepsQueue (l : Nat) : KeepsQueue s (s.laneEnd l) := by
  unfold State.laneEnd
  dsimp only
  (repeat' split) <;> simp
@[simp] theorem State.cycleInfo_keepsQueue : KeepsQueue s s.cycleInfo := by simp [State.cycleInfo]
@[simp] theorem State.skip_keepsQueue : KeepsQueue s s.skip := by simp [State.skip]
@[simp] theorem State.skipN_keepsQueue (n : Nat) : KeepsQueue s (State.skipN n s) := by
  induction n generalizing s with
  | zero => exact .refl s
  | succ n ih => simp [State.skipN, ih]
@[simp] theorem State.cycleStart_keepsQueue : KeepsQueue s s.cycleStart := by
  unfold State.cycleStart
  dsimp only
  (repeat' split) <;> simp
@[simp] theorem State.sendSet_keepsQueue (l : Nat) (ws : List Word) (last : Bool) : KeepsQueue s (s.sendSet l ws last) := by
  simp [State.sendSet]
@[simp] theorem State.loadSections_keepsQueue : KeepsQueue s s.loadSections := by
  unfold State.loadSections
  split <;> simp
@[simp] theorem State.loadSlot_keepsQueue (slot : Nat) : KeepsQueue s (s.loadSlot slot) := by
  unfold State.loadSlot
  split <;> simp
@[simp] theorem State.ceReset_keepsQueue : KeepsQueue s s.ceReset.2 := by
  unfold State.ceReset
  split <;> simp
@[simp] theorem State.ceActivate_keepsQueue (slot : Nat) : KeepsQueue s (s.ceActivate slot).2 := by
  unfold State.ceActivate
  dsimp only
  (repeat' split) <;> simp
@[simp] theorem State.imageVerified_keepsQueue : KeepsQueue s s.imageVerified := by
  unfold State.imageVerified
  dsimp only
  (repeat' split) <;> simp
@[simp] theorem State.imageLoaded_keepsQueue : KeepsQueue s s.imageLoaded := by simp [State.imageLoaded]
@[simp] theorem State.bootImage_keepsQueue : KeepsQueue s s.bootImage := by
  unfold State.bootImage
  dsimp only
  (repeat' split) <;> simp
@[simp] theorem State.initTimeout_keepsQueue : KeepsQueue s s.initTimeout := by
  unfold State.initTimeout
  split <;> simp
@[simp] theorem State.refetchWords_keepsQueue (w : LaneWait) : KeepsQueue s (s.refetchWords w) := by
  unfold State.refetchWords
  split <;> simp
@[simp] theorem State.refetched_keepsQueue (l : Nat) : KeepsQueue s (s.refetched l) := by simp [State.refetched]
@[simp] theorem State.ceMissClear_keepsQueue : KeepsQueue s s.ceMissClear := by simp [State.ceMissClear]
@[simp] theorem State.ceChkClear_keepsQueue : KeepsQueue s s.ceChkClear := by simp [State.ceChkClear]
@[simp] theorem State.ceDurmaxClear_keepsQueue : KeepsQueue s s.ceDurmaxClear := by simp [State.ceDurmaxClear]

/-! ### Instructions of the control engine -/

@[simp] theorem State.adv_keepsQueue (l : Nat) : KeepsQueue s (s.adv l) := by simp [State.adv]
@[simp] theorem State.goto_keepsQueue (l pc : Nat) : KeepsQueue s (s.goto l pc) := by simp [State.goto]
@[simp] theorem State.stall_keepsQueue (l : Nat) (prog : Bool) (at_ : Nat) : KeepsQueue s (s.stall l prog at_) := by
  simp [State.stall]
@[simp] theorem State.ceRun_keepsQueue (x : CeInstr) (op : Nat) (g : State → State) (hg : ∀ u, KeepsQueue u (g u)) :
    KeepsQueue s (s.ceRun x op g) := by
  unfold State.ceRun
  dsimp only
  (repeat' split) <;> simp [hg]
@[simp] theorem State.ceChecked_keepsQueue (x : CeInstr) (op : Nat) (srcs : List Nat) (off : Bool) (g : State → State)
    (hg : ∀ u, KeepsQueue u (g u)) : KeepsQueue s (s.ceChecked x op srcs off g) := by
  refine State.ceRun_keepsQueue s x op _ fun u => ?_
  dsimp only
  split <;> simp [hg]
@[simp] theorem State.alu_keepsQueue (x : CeInstr) (op : Nat) (off : VReg → VReg → Bool) (g : Word → Word → Word) :
    KeepsQueue s (s.alu x op off g) := by simp [State.alu]
@[simp] theorem State.aluFree_keepsQueue (x : CeInstr) (op : Nat) (g : Word → Word → Word) : KeepsQueue s (s.aluFree x op g) := by
  simp [State.aluFree]
@[simp] theorem State.shift_keepsQueue (x : CeInstr) (op : Nat) (g : Word → Nat → Word) : KeepsQueue s (s.shift x op g) := by
  simp [State.shift]
@[simp] theorem State.qOp_keepsQueue (x : CeInstr) (op : Nat) (off : VReg → VReg → Bool) (g : Int → Int → Int) :
    KeepsQueue s (s.qOp x op off g) := by simp [State.qOp]
@[simp] theorem State.macOp_keepsQueue (x : CeInstr) (op : Nat) (g : Int → Int → Int → Int) : KeepsQueue s (s.macOp x op g) := by
  simp [State.macOp]
@[simp] theorem State.fOp_keepsQueue (x : CeInstr) (op : Nat) (g : Word → Word → FpRes) : KeepsQueue s (s.fOp x op g) := by
  simp [State.fOp]
@[simp] theorem State.br_keepsQueue (x : CeInstr) : KeepsQueue s (s.br x) := by
  unfold State.br
  split <;> simp
@[simp] theorem State.call_keepsQueue (x : CeInstr) : KeepsQueue s (s.call x) := by simp [State.call]
@[simp] theorem State.ret_keepsQueue (x : CeInstr) : KeepsQueue s (s.ret x) := by
  refine s.ceRun_keepsQueue _ _ _ fun u => ?_
  dsimp only
  split <;> simp
@[simp] theorem State.loop_keepsQueue (x : CeInstr) : KeepsQueue s (s.loop x) := by simp [State.loop]
@[simp] theorem State.bar_keepsQueue (x : CeInstr) : KeepsQueue s (s.bar x) := by simp [State.bar]
@[simp] theorem State.wake_keepsQueue (l : Nat) : KeepsQueue s (s.wake l) := by simp [State.wake]
@[simp] theorem State.barRelease_keepsQueue (mask : Nat) : KeepsQueue s (s.barRelease mask) := by simp [State.barRelease]
@[simp] theorem State.dataParity_keepsQueue (l a : Nat) : KeepsQueue s (s.dataParity l a) := by
  unfold State.dataParity
  dsimp only
  (repeat' split) <;> simp
@[simp] theorem State.checkedRead_keepsQueue (x : CeInstr) (a n : Nat) (g : State → State) (hg : ∀ u, KeepsQueue u (g u)) :
    KeepsQueue s (s.checkedRead x a n g) := by
  unfold State.checkedRead
  dsimp only
  (repeat' split) <;> simp [hg]
@[simp] theorem State.load_keepsQueue (x : CeInstr) (op n : Nat) (g : State → Nat → State) (hg : ∀ u a, KeepsQueue u (g u a)) :
    KeepsQueue s (s.load x op n g) := by simp [State.load, hg]
@[simp] theorem State.store_keepsQueue (x : CeInstr) (op n : Nat) (g : State → Nat → State) (hg : ∀ u a, KeepsQueue u (g u a)) :
    KeepsQueue s (s.store x op n g) := by simp [State.store, hg]
@[simp] theorem State.sizeOf_keepsQueue (x : CeInstr) : KeepsQueue s (s.sizeOf x).2 := by
  unfold State.sizeOf
  split <;> simp
@[simp] theorem State.ld_keepsQueue (x : CeInstr) : KeepsQueue s (s.ld x) := by simp [State.ld]
@[simp] theorem State.setBytes_keepsQueue (a n : Nat) (w : Word) : KeepsQueue s (s.setBytes a n w) := by simp [State.setBytes]
@[simp] theorem State.st'_keepsQueue (x : CeInstr) : KeepsQueue s (s.st' x) := by simp [State.st']
@[simp] theorem State.loadN_keepsQueue (x : CeInstr) (op n : Nat) : KeepsQueue s (s.loadN x op n) := by simp [State.loadN]
@[simp] theorem State.store2_keepsQueue (x : CeInstr) : KeepsQueue s (s.store2 x) := by simp [State.store2]
@[simp] theorem State.wne_keepsQueue (x : CeInstr) : KeepsQueue s (s.wne x) := by simp [State.wne]
@[simp] theorem State.wneWake_keepsQueue (l : Nat) : KeepsQueue s (s.wneWake l) := by
  unfold State.wneWake
  split
  · split
    · exact .refl s
    · split <;> simp
  · exact .refl s
@[simp] theorem State.upsOp_keepsQueue (x : CeInstr) : KeepsQueue s (s.upsOp x) := by simp [State.upsOp]
@[simp] theorem State.upsAck_keepsQueue : KeepsQueue s s.upsAck := by
  unfold State.upsAck
  split
  · exact .refl s
  next l ws last rest _ =>
    extract_lets +onlyGivenNames _ s1 c s2 s3 _ s4 _ s5
    have h2 : KeepsQueue s s2 := ((KeepsQueue.refl s).ce _).setXing _ _
    have h3 : KeepsQueue s s3 := by
      dsimp only [s3]
      split
      · exact h2.trans (s2.xProduce_keepsQueue ..)
      · exact h2
    have h4 : KeepsQueue s s4 := by
      refine .ite h3 (.ite (h3.trans (s3.setRefused_keepsQueue ..)) ?_)
      split
      · exact h3.trans (s3.setRefused_keepsQueue ..)
      · exact h3.ce _
    have h5 : KeepsQueue s s5 := .ite (h4.ce _) h4
    exact .ite (h5.trans (s5.wake_keepsQueue l)) h5
@[simp] theorem State.flg_keepsQueue (x : CeInstr) : KeepsQueue s (s.flg x) := by simp [State.flg]
@[simp] theorem State.absOp_keepsQueue (x : CeInstr) : KeepsQueue s (s.absOp x) := by simp [State.absOp]
@[simp] theorem State.satOp_keepsQueue (x : CeInstr) : KeepsQueue s (s.satOp x) := by simp [State.satOp]
@[simp] theorem State.qnegOp_keepsQueue (x : CeInstr) : KeepsQueue s (s.qnegOp x) := by simp [State.qnegOp]
@[simp] theorem State.accrd_keepsQueue (x : CeInstr) : KeepsQueue s (s.accrd x) := by simp [State.accrd]
@[simp] theorem State.fmaOp_keepsQueue (x : CeInstr) : KeepsQueue s (s.fmaOp x) := by simp [State.fmaOp]
@[simp] theorem State.fcmpOp_keepsQueue (x : CeInstr) : KeepsQueue s (s.fcmpOp x) := by simp [State.fcmpOp]
@[simp] theorem State.fUnary_keepsQueue (x : CeInstr) (op : Nat) (g : Word → FpRes) : KeepsQueue s (s.fUnary x op g) := by
  simp [State.fUnary]
@[simp] theorem State.fcvtfOp_keepsQueue (x : CeInstr) : KeepsQueue s (s.fcvtfOp x) := by
  refine s.ceChecked_keepsQueue _ _ _ _ _ fun u => ?_
  split <;> simp
@[simp] theorem State.fcvtfiOp_keepsQueue (x : CeInstr) : KeepsQueue s (s.fcvtfiOp x) := by
  refine s.ceChecked_keepsQueue _ _ _ _ _ fun u => ?_
  dsimp only
  split <;> simp
@[simp] theorem State.sincosOp_keepsQueue (x : CeInstr) : KeepsQueue s (s.sincosOp x) := by simp [State.sincosOp]
@[simp] theorem State.atan2Op_keepsQueue (x : CeInstr) : KeepsQueue s (s.atan2Op x) := by simp [State.atan2Op]

/-! ### Kernels -/

@[simp] theorem State.fuzz_keepsQueue (x : Int) : KeepsQueue s (s.fuzz x).2 := by simp [State.fuzz]
@[simp] theorem State.clobber_keepsQueue (l : Nat) : KeepsQueue s (s.clobber l) := by simp [State.clobber]
@[simp] theorem State.outputs_keepsQueue (l : Nat) (out : List Word) : KeepsQueue s (s.outputs l out) := by simp [State.outputs]
@[simp] theorem State.kcall_keepsQueue (x : CeInstr) (id : Nat) (rs : List Nat) (g : State → State)
    (hg : ∀ u, KeepsQueue u (g u)) : KeepsQueue s (s.kcall x id rs g) := by simp [State.kcall, hg]
@[simp] theorem State.kernel0_keepsQueue (x : CeInstr) (id n : Nat) (g : (Nat → Int) → State → List Word × State)
    (hg : ∀ v u, KeepsQueue u (g v u).2) : KeepsQueue s (s.kernel0 x id n g) := by simp [State.kernel0, hg]
@[simp] theorem State.kernelN_keepsQueue (x : CeInstr) (id ins n : Nat)
    (g : (Nat → Int) → (Nat → Int) → State → List Word × List Word × State) (hg : ∀ v m u, KeepsQueue u (g v m u).2.2) :
    KeepsQueue s (s.kernelN x id ins n g) := by simp [State.kernelN, hg]
@[simp] theorem State.kClarke_keepsQueue (x : CeInstr) : KeepsQueue s (s.kClarke x) := by simp [State.kClarke]
@[simp] theorem State.kRotate_keepsQueue (x : CeInstr) (inverse : Bool) : KeepsQueue s (s.kRotate x inverse) := by
  simp [State.kRotate]
@[simp] theorem State.kPi_keepsQueue (x : CeInstr) : KeepsQueue s (s.kPi x) := by simp [State.kPi]
@[simp] theorem State.kSogi_keepsQueue (x : CeInstr) : KeepsQueue s (s.kSogi x) := by
  refine s.kernelN_keepsQueue _ _ _ _ _ fun v m u => ?_
  dsimp only [-Nat.reducePow, -Int.reducePow]
  (repeat' split) <;> simp_all
@[simp] theorem State.kSeqsep_keepsQueue (x : CeInstr) : KeepsQueue s (s.kSeqsep x) := by simp [State.kSeqsep]
@[simp] theorem State.kSvm_keepsQueue (x : CeInstr) : KeepsQueue s (s.kSvm x) := by simp [State.kSvm]
@[simp] theorem State.kBiquad_keepsQueue (x : CeInstr) : KeepsQueue s (s.kBiquad x) := by simp [State.kBiquad]
@[simp] theorem State.kCorr_keepsQueue (x : CeInstr) : KeepsQueue s (s.kCorr x) := by
  unfold State.kCorr
  dsimp only
  (repeat' split) <;> simp
@[simp] theorem State.kMpptPo_keepsQueue (x : CeInstr) : KeepsQueue s (s.kMpptPo x) := by simp [State.kMpptPo]
@[simp] theorem State.kMpptIc_keepsQueue (x : CeInstr) : KeepsQueue s (s.kMpptIc x) := by simp [State.kMpptIc]
@[simp] theorem State.kPq_keepsQueue (x : CeInstr) : KeepsQueue s (s.kPq x) := by simp [State.kPq]
@[simp] theorem State.kMsq_keepsQueue (x : CeInstr) : KeepsQueue s (s.kMsq x) := by simp [State.kMsq]
@[simp] theorem State.kRamp_keepsQueue (x : CeInstr) : KeepsQueue s (s.kRamp x) := by simp [State.kRamp]

/-! ### The grid supervisor -/

@[simp] theorem State.pointStep_keepsQueue (c k t : Nat) : KeepsQueue s (s.pointStep c k t) := by simp [State.pointStep]
@[simp] theorem State.pointsStep_keepsQueue (t : Nat) : KeepsQueue s (s.pointsStep t) := by simp [State.pointsStep]
@[simp] theorem State.gridTrip_keepsQueue (cause crv pt : Nat) : KeepsQueue s (s.gridTrip cause crv pt) := by
  simp [State.gridTrip]
@[simp] theorem State.rideReturn_keepsQueue (t : Nat) : KeepsQueue s (s.rideReturn t) := by simp [State.rideReturn]
@[simp] theorem State.rideEnter_keepsQueue : KeepsQueue s s.rideEnter := by simp [State.rideEnter]
@[simp] theorem State.holdOn_keepsQueue : KeepsQueue s s.holdOn := by simp [State.holdOn]
@[simp] theorem State.showZone_keepsQueue : KeepsQueue s s.showZone := by
  unfold State.showZone
  dsimp only
  (repeat' split) <;> simp
@[simp] theorem State.zoneAct_keepsQueue (st t : Nat) : KeepsQueue s (s.zoneAct st t) := by
  unfold State.zoneAct
  dsimp only
  (repeat' split) <;> simp
@[simp] theorem State.freshStep_keepsQueue (st t : Nat) : KeepsQueue s (s.freshStep st t) := by simp [State.freshStep]
@[simp] theorem State.serviceStep_keepsQueue (fresh : Bool) (t : Nat) : KeepsQueue s (s.serviceStep fresh t) := by
  simp [State.serviceStep]
@[simp] theorem State.passiveStep_keepsQueue (st t : Nat) : KeepsQueue s (s.passiveStep st t) := by simp [State.passiveStep]
@[simp] theorem State.activeStep_keepsQueue (st t : Nat) : KeepsQueue s (s.activeStep st t) := by
  unfold State.activeStep
  dsimp only
  (repeat' split) <;> simp
@[simp] theorem State.gridEval_keepsQueue : KeepsQueue s s.gridEval := by simp [State.gridEval]
@[simp] theorem State.gridStale_keepsQueue : KeepsQueue s s.gridStale := by simp [State.gridStale]
@[simp] theorem State.pointExpiry_keepsQueue (c k : Nat) : KeepsQueue s (s.pointExpiry c k) := by simp [State.pointExpiry]
@[simp] theorem State.rideExit_keepsQueue : KeepsQueue s s.rideExit := by simp [State.rideExit]
@[simp] theorem State.islRocof_keepsQueue : KeepsQueue s s.islRocof := by simp [State.islRocof]
@[simp] theorem State.islActive_keepsQueue : KeepsQueue s s.islActive := by simp [State.islActive]
@[simp] theorem State.codeBoundary_keepsQueue : KeepsQueue s s.codeBoundary := by
  unfold State.codeBoundary
  split <;> simp
@[simp] theorem State.codeChange_keepsQueue : KeepsQueue s s.codeChange := by simp [State.codeChange]
@[simp] theorem State.serviceTimer_keepsQueue : KeepsQueue s s.serviceTimer := by
  unfold State.serviceTimer
  split <;> simp
@[simp] theorem State.grdCntClear_keepsQueue : KeepsQueue s s.grdCntClear := by simp [State.grdCntClear]

/-! ### Cewlink -/

@[simp] theorem State.losEnd_keepsQueue (n : Nat) : KeepsQueue s (s.losEnd n) := by simp [State.losEnd]
@[simp] theorem State.symLock_keepsQueue (n : Nat) : KeepsQueue s (s.symLock n) := by simp [State.symLock]
@[simp] theorem State.trained_keepsQueue (n far : Nat) (ts : TrainSeq) : KeepsQueue s (s.trained n far ts) := by
  simp [State.trained]
@[simp] theorem State.miswireRetry_keepsQueue (n : Nat) : KeepsQueue s (s.miswireRetry n) := by simp [State.miswireRetry]
@[simp] theorem State.linkUp_keepsQueue (n : Nat) : KeepsQueue s (s.linkUp n) := by simp [State.linkUp]
@[simp] theorem State.setOut_keepsQueue (n : Nat) (f : LinkFrame) : KeepsQueue s (s.setOut n f) := by simp [State.setOut]
@[simp] theorem State.cutForward_keepsQueue (n : Nat) : KeepsQueue s (s.cutForward n) := by
  unfold State.cutForward
  dsimp only
  (repeat' split) <;> simp
@[simp] theorem State.linkDown_keepsQueue (n : Nat) (los : Bool) : KeepsQueue s (s.linkDown n los) := by simp [State.linkDown]
@[simp] theorem State.retrain_keepsQueue (n : Nat) : KeepsQueue s (s.retrain n) := by simp [State.retrain]
@[simp] theorem State.noFrame_keepsQueue (n : Nat) : KeepsQueue s (s.noFrame n) := by
  unfold State.noFrame
  split <;> simp
@[simp] theorem State.countSegs_keepsQueue (n : Nat) (f : LinkFrame) : KeepsQueue s (s.countSegs n f) := by simp [State.countSegs]
@[simp] theorem State.setSlotStat_keepsQueue (key v : Nat) : KeepsQueue s (s.setSlotStat key v) := by simp [State.setSlotStat]
@[simp] theorem State.deliver_keepsQueue (key frame : Nat) (woad : Bool) (ws : List Word) :
    KeepsQueue s (s.deliver key frame woad ws).2 := by
  unfold State.deliver
  dsimp only
  (repeat' split) <;> simp
@[simp] theorem State.ageSlot_keepsQueue (key : Nat) : KeepsQueue s (s.ageSlot key) := by simp [State.ageSlot]
@[simp] theorem State.refill_keepsQueue : KeepsQueue s s.refill := by simp [State.refill]
@[simp] theorem State.spend_keepsQueue (c : Nat) : KeepsQueue s (s.spend c) := by simp [State.spend]
theorem State.nextOf_keepsQueue {woad : Bool} {c : Nat} {p : Packet} (h : s.nextOf woad c = some (p, t)) : KeepsQueue s t := by
  unfold State.nextOf at h
  split at h
  · split at h <;> cases h
    exact .refl s
  split at h
  · cases h
  split at h
  · obtain ⟨a, -, e⟩ := Option.map_eq_some_iff.mp h
    cases e
    simp
  · obtain ⟨a, -, e⟩ := Option.map_eq_some_iff.mp h
    cases e
    simp
  · split at h <;> cases h
    simp
  · split at h
    · split at h <;> cases h
      simp
    · cases h
@[simp] theorem State.markSent_keepsQueue (p : Packet) : KeepsQueue s (s.markSent p) := by simp [State.markSent]
@[simp] theorem State.takeUp_keepsQueue (woad : Bool) (n : Nat) : KeepsQueue s (State.takeUp woad n s).2 := by
  induction n generalizing s with
  | zero => exact .refl s
  | succ n ih =>
    unfold State.takeUp
    split
    · exact .refl s
    next p u h =>
      obtain ⟨c, -, hc⟩ := List.exists_of_findSome?_eq_some h
      have hu := (s.nextOf_keepsQueue hc).trans (u.markSent_keepsQueue p)
      exact hu.trans (ih _)
@[simp] theorem State.takeDown_keepsQueue (line cells : Nat) : KeepsQueue s (s.takeDown line cells).2 := by simp [State.takeDown]
@[simp] theorem State.request_keepsQueue (p : Packet) (who : TxnFor) : KeepsQueue s (s.request p who) := by simp [State.request]
@[simp] theorem State.dropTxn_keepsQueue (t : Txn) : KeepsQueue s (s.dropTxn t) := by simp [State.dropTxn]
@[simp] theorem State.txnFrame_keepsQueue : KeepsQueue s s.txnFrame := by simp [State.txnFrame]
@[simp] theorem State.resend_keepsQueue (tag : Nat) : KeepsQueue s (s.resend tag) := by
  unfold State.resend
  split <;> simp
@[simp] theorem State.serve_keepsQueue (q : Packet) (act : State → State) (ha : ∀ u, KeepsQueue u (act u)) :
    KeepsQueue s (s.serve q act) := by
  unfold State.serve
  split
  · exact .refl s
  · split
    · simp
    · exact ha s
@[simp] theorem State.bulkOpen_keepsQueue (q : Packet) : KeepsQueue s (s.bulkOpen q) := by
  refine s.serve_keepsQueue _ _ fun u => ?_
  dsimp only
  (repeat' split) <;> simp
@[simp] theorem State.bulkClose_keepsQueue (b : Nat) : KeepsQueue s (s.bulkClose b) := by simp [State.bulkClose]
@[simp] theorem State.bulkData_keepsQueue (q : Packet) : KeepsQueue s (s.bulkData q) := by
  refine s.serve_keepsQueue _ _ fun u => ?_
  dsimp only
  (repeat' split) <;> simp
@[simp] theorem State.bulkTimeout_keepsQueue (b : Nat) : KeepsQueue s (s.bulkTimeout b) := by
  unfold State.bulkTimeout
  split <;> simp
@[simp] theorem State.parWrite_keepsQueue (q : Packet) : KeepsQueue s (s.parWrite q) := by simp [State.parWrite]
@[simp] theorem State.lnkErrClear_keepsQueue (n : Nat) : KeepsQueue s (s.lnkErrClear n) := by simp [State.lnkErrClear]
@[simp] theorem State.lnkTxClear_keepsQueue : KeepsQueue s s.lnkTxClear := by simp [State.lnkTxClear]

/-! ### The plant -/

@[simp] theorem State.setPartner_keepsQueue (p : Nat) (x : Partner) : KeepsQueue s (s.setPartner p x) := by
  simp [State.setPartner]
@[simp] theorem State.partnerSeen_keepsQueue (p : Nat) : KeepsQueue s (s.partnerSeen p) := by
  unfold State.partnerSeen
  dsimp only
  (repeat' split) <;> simp
@[simp] theorem State.partnerLost_keepsQueue (p : Nat) : KeepsQueue s (s.partnerLost p) := by simp [State.partnerLost]
@[simp] theorem State.refusedStop_keepsQueue (p : Nat) : KeepsQueue s (s.refusedStop p) := by simp [State.refusedStop]
@[simp] theorem State.partnerForget_keepsQueue : KeepsQueue s s.partnerForget := by simp [State.partnerForget]
@[simp] theorem State.zoneSlot_keepsQueue : KeepsQueue s s.zoneSlot.2 := by
  unfold State.zoneSlot
  dsimp only
  (repeat' split) <;> simp
@[simp] theorem State.phaseOffset_keepsQueue (slot : Nat) : KeepsQueue s (s.phaseOffset slot).2 := by simp [State.phaseOffset]
@[simp] theorem State.writePhase_keepsQueue (p : Nat) (who : TxnFor) : KeepsQueue s (s.writePhase p who) := by
  unfold State.writePhase
  split
  next o u h => exact ((s.phaseOffset_keepsQueue _).of_snd h).trans (u.request_keepsQueue ..)
@[simp] theorem State.rebalance_keepsQueue (n : Nat) : KeepsQueue s (State.rebalance n s) := by
  induction n generalizing s with
  | zero => exact .refl s
  | succ n ih =>
    unfold State.rebalance
    dsimp only
    (repeat' split) <;> simp [ih]
@[simp] theorem State.phaseChange_keepsQueue : KeepsQueue s s.phaseChange := by simp [State.phaseChange]
@[simp] theorem State.giveCode_keepsQueue (p : Nat) (on : Option Nat) (who : TxnFor) : KeepsQueue s (s.giveCode p on who) := by
  simp [State.giveCode]
@[simp] theorem State.sendCodes_keepsQueue : KeepsQueue s s.sendCodes := by simp [State.sendCodes]
@[simp] theorem State.codeStep_keepsQueue : KeepsQueue s s.codeStep := by simp [State.codeStep]
@[simp] theorem State.codeChangePlant_keepsQueue : KeepsQueue s s.codeChangePlant := by
  unfold State.codeChangePlant
  split <;> simp
@[simp] theorem State.admissionStart_keepsQueue : KeepsQueue s s.admissionStart := by
  unfold State.admissionStart
  dsimp only
  (repeat' split) <;> simp
@[simp] theorem State.assign_keepsQueue (p role : Nat) : KeepsQueue s (s.assign p role) := by
  unfold State.assign
  dsimp only
  (repeat' split) <;> simp
@[simp] theorem State.admitRead_keepsQueue (p step : Nat) (ws : List Word) : KeepsQueue s (s.admitRead p step ws) := by
  unfold State.admitRead
  dsimp only
  (repeat' split) <;> simp
@[simp] theorem State.admitWrote_keepsQueue (p step : Nat) : KeepsQueue s (s.admitWrote p step) := by
  unfold State.admitWrote
  split <;> simp
@[simp] theorem State.zoneSum_keepsQueue : KeepsQueue s s.zoneSum := by simp [State.zoneSum]
@[simp] theorem State.relaySetpoints_keepsQueue : KeepsQueue s s.relaySetpoints := by simp [State.relaySetpoints]
@[simp] theorem State.relayReport_keepsQueue (q : Packet) (trip : Bool) : KeepsQueue s (s.relayReport q trip) := by
  simp [State.relayReport]
@[simp] theorem State.queueTrace_keepsQueue (p : Packet) : KeepsQueue s (s.queueTrace p) := by simp [State.queueTrace]
@[simp] theorem State.holdFrame_keepsQueue : KeepsQueue s s.holdFrame := by simp [State.holdFrame]
@[simp] theorem State.holdExpiry_keepsQueue : KeepsQueue s s.holdExpiry := by simp [State.holdExpiry]
@[simp] theorem State.packetRelay_keepsQueue (p : Packet) : KeepsQueue s (s.packetRelay p) := by
  unfold State.packetRelay
  split
  · exact .refl s
  · split <;> simp
@[simp] theorem State.dropClear_keepsQueue : KeepsQueue s s.dropClear := by simp [State.dropClear]

/-! ### The safety channels -/

@[simp] theorem State.setChan_keepsQueue (b : Bool) (c : ChanSt) : KeepsQueue s (s.setChan b c) := by simp [State.setChan]
@[simp] theorem State.showSaf_keepsQueue : KeepsQueue s s.showSaf := by simp [State.showSaf]
@[simp] theorem State.testStop_keepsQueue : KeepsQueue s s.testStop := by simp [State.testStop]
@[simp] theorem State.react_keepsQueue (b : Bool) (cause : Nat) (first : Bool) : KeepsQueue s (s.react b cause first) := by
  simp [State.react]
@[simp] theorem State.safFault_keepsQueue (b : Bool) (i cause : Nat) : KeepsQueue s (s.safFault b i cause) := by
  simp [State.safFault]
@[simp] theorem State.safFaultBoth_keepsQueue (i cause : Nat) : KeepsQueue s (s.safFaultBoth i cause) := by
  simp [State.safFaultBoth]
@[simp] theorem State.setCond_keepsQueue (b : Bool) (i : Nat) (on : Bool) : KeepsQueue s (s.setCond b i on) := by
  simp [State.setCond]
@[simp] theorem State.demand_keepsQueue (b : Bool) (k : Nat) : KeepsQueue s (s.demand b k) := by simp [State.demand]
@[simp] theorem State.latchDisc_keepsQueue (b : Bool) (k : Nat) : KeepsQueue s (s.latchDisc b k) := by simp [State.latchDisc]
@[simp] theorem State.latchTp_keepsQueue (b : Bool) (k : Nat) : KeepsQueue s (s.latchTp b k) := by simp [State.latchTp]
@[simp] theorem State.discTime_keepsQueue (b : Bool) (k : Nat) : KeepsQueue s (s.discTime b k) := by
  unfold State.discTime
  split <;> simp
@[simp] theorem State.discExpire_keepsQueue (b : Bool) (k : Nat) : KeepsQueue s (s.discExpire b k) := by
  unfold State.discExpire
  split <;> simp
@[simp] theorem State.safRelease_keepsQueue : KeepsQueue s s.safRelease := by simp [State.safRelease]
@[simp] theorem State.selfRelease_keepsQueue (b : Bool) (k : Nat) : KeepsQueue s (s.selfRelease b k) := by
  simp [State.selfRelease]
@[simp] theorem State.inputChange_keepsQueue (b : Bool) (x : Nat) (high : Bool) : KeepsQueue s (s.inputChange b x high) := by
  simp [State.inputChange]
@[simp] theorem State.testPulse_keepsQueue (b : Bool) (stay fell : Nat) : KeepsQueue s (s.testPulse b stay fell) := by
  simp [State.testPulse]
@[simp] theorem State.switch_keepsQueue (b : Bool) (n : Nat) (on : Bool) : KeepsQueue s (s.switch b n on) := by
  simp [State.switch]
@[simp] theorem State.energise_keepsQueue (b : Bool) : KeepsQueue s (s.energise b) := by simp [State.energise]
@[simp] theorem State.switchOff_keepsQueue (b : Bool) : KeepsQueue s (s.switchOff b) := by
  unfold State.switchOff
  dsimp only
  (repeat' split) <;> simp
@[simp] theorem State.nodeCheck_keepsQueue (b : Bool) (nodes : Nat) : KeepsQueue s (s.nodeCheck b nodes) := by
  simp [State.nodeCheck]
@[simp] theorem State.pulseStart_keepsQueue (b : Bool) (n : Nat) : KeepsQueue s (s.pulseStart b n) := by simp [State.pulseStart]
@[simp] theorem State.pulseEnd_keepsQueue (b : Bool) (n : Nat) (followed : Bool) : KeepsQueue s (s.pulseEnd b n followed) := by
  simp [State.pulseEnd]
@[simp] theorem State.outOc_keepsQueue (b : Bool) (n : Nat) : KeepsQueue s (s.outOc b n) := by simp [State.outOc]
@[simp] theorem State.outOpen_keepsQueue (b : Bool) (n : Nat) : KeepsQueue s (s.outOpen b n) := by simp [State.outOpen]
@[simp] theorem State.feedback_keepsQueue (b : Bool) (n : Nat) (low : Bool) : KeepsQueue s (s.feedback b n low) := by
  simp [State.feedback]
@[simp] theorem State.safetyCycle_keepsQueue (b : Bool) (beat lenOk : Bool) (nodes : Nat) :
    KeepsQueue s (s.safetyCycle b beat lenOk nodes) := by simp [State.safetyCycle]
@[simp] theorem State.selfTest_keepsQueue (ok : Bool) : KeepsQueue s (s.selfTest ok) := by simp [State.selfTest]
@[simp] theorem State.testStart_keepsQueue : KeepsQueue s s.testStart := by simp [State.testStart]
@[simp] theorem State.testCommand_keepsQueue : KeepsQueue s s.testCommand.2 := by
  unfold State.testCommand
  split <;> simp
@[simp] theorem State.testRefs_keepsQueue (b : Bool) (c117 c118 : Nat) : KeepsQueue s (s.testRefs b c117 c118) := by
  simp [State.testRefs]
@[simp] theorem State.testOpen_keepsQueue (a117 a118 b117 b118 : Nat) : KeepsQueue s (s.testOpen a117 a118 b117 b118) := by
  simp [State.testOpen]
@[simp] theorem State.testSample_keepsQueue (b : Bool) (codes : List (Int × Int)) (fb : Bool) :
    KeepsQueue s (s.testSample b codes fb) := by simp [State.testSample]
@[simp] theorem State.testEnd_keepsQueue (a117 a118 b117 b118 : Nat) : KeepsQueue s (s.testEnd a117 a118 b117 b118) := by
  unfold State.testEnd
  dsimp only
  (repeat' split) <;> simp
@[simp] theorem State.testDue_keepsQueue : KeepsQueue s s.testDue := by simp [State.testDue]
@[simp] theorem State.testOverdue_keepsQueue : KeepsQueue s s.testOverdue := by simp [State.testOverdue]
@[simp] theorem State.acknowledge_keepsQueue : KeepsQueue s s.acknowledge := by simp [State.acknowledge]
@[simp] theorem State.ackRelease_keepsQueue (ms : Nat) : KeepsQueue s (s.ackRelease ms) := by simp [State.ackRelease]
@[simp] theorem State.ackStuck_keepsQueue : KeepsQueue s s.ackStuck := by simp [State.ackStuck]
@[simp] theorem State.ackCommand_keepsQueue (who : Writer) : KeepsQueue s (s.ackCommand who).2 := by
  unfold State.ackCommand
  (repeat' split) <;> simp
@[simp] theorem State.netStop_keepsQueue (b : Bool) (key : Nat) (w0 : Word) : KeepsQueue s (s.netStop b key w0) := by
  simp [State.netStop]
@[simp] theorem State.judge_keepsQueue (b : Bool) (frame : Nat) (copies : List Word) : KeepsQueue s (s.judge b frame copies) := by
  simp [State.judge]
@[simp] theorem State.judgeOld_keepsQueue (b : Bool) (k : Nat) : KeepsQueue s (s.judgeOld b k) := by simp [State.judgeOld]
@[simp] theorem State.netCopy_keepsQueue (b : Bool) (frame : Nat) (woad other : Bool) (w0 : Word) :
    KeepsQueue s (s.netCopy b frame woad other w0) := by
  unfold State.netCopy
  dsimp only
  (repeat' split) <;> simp
@[simp] theorem State.netMismatch_keepsQueue (b : Bool) : KeepsQueue s (s.netMismatch b) := by simp [State.netMismatch]
@[simp] theorem State.netLoss_keepsQueue (b : Bool) : KeepsQueue s (s.netLoss b) := by simp [State.netLoss]
@[simp] theorem State.netSingle_keepsQueue (b : Bool) : KeepsQueue s (s.netSingle b) := by simp [State.netSingle]
@[simp] theorem State.recordWrite_keepsQueue : KeepsQueue s s.recordWrite := by simp [State.recordWrite]
@[simp] theorem State.ageUpdate_keepsQueue : KeepsQueue s s.ageUpdate := by
  unfold State.ageUpdate
  dsimp only
  (repeat' split) <;> simp
@[simp] theorem State.safCntClear_keepsQueue : KeepsQueue s s.safCntClear := by simp [State.safCntClear]

/-! ### Plant frames -/

@[simp] theorem State.setSafTx_keepsQueue (key : Nat) (ws : List Word) : KeepsQueue s (s.setSafTx key ws) := by
  simp [State.setSafTx]
@[simp] theorem State.emitLine_keepsQueue (l : Nat) (ts : Nat) : KeepsQueue s (s.emitLine l ts) := by simp [State.emitLine]
@[simp] theorem State.frameStart_keepsQueue : KeepsQueue s s.frameStart := by simp [State.frameStart]
@[simp] theorem State.ptcMatch_keepsQueue (n : Nat) : KeepsQueue s (s.ptcMatch n) := by simp [State.ptcMatch]
@[simp] theorem State.badHeader_keepsQueue (n : Nat) : KeepsQueue s (s.badHeader n) := by simp [State.badHeader]
@[simp] theorem State.newFrame_keepsQueue (frame per : Nat) : KeepsQueue s (s.newFrame frame per) := by simp [State.newFrame]
@[simp] theorem State.upSend_keepsQueue (n : Nat) (woad : Bool) (pos : Nat) (f : LinkFrame) :
    KeepsQueue s (s.upSend n woad pos f) := by simp [State.upSend]
@[simp] theorem State.linkDelay_keepsQueue (n : Nat) (f : LinkFrame) : KeepsQueue s (s.linkDelay n f) := by
  unfold State.linkDelay
  dsimp only
  (repeat' split) <;> simp
@[simp] theorem State.downForward_keepsQueue (dn : Nat) (g : DownFrame) (ta dly : Int) :
    KeepsQueue s (s.downForward dn g ta dly) := by simp [State.downForward]
@[simp] theorem State.upForm_keepsQueue (n dn : Nat) (g : DownFrame) (ta : Int) : KeepsQueue s (s.upForm n dn g ta) := by
  simp [State.upForm]
@[simp] theorem State.downTake_keepsQueue (woad : Bool) (f : LinkFrame) : KeepsQueue s (s.downTake woad f) := by
  unfold State.downTake
  extract_lets +onlyGivenNames u
  have h : KeepsQueue s u := by
    dsimp only [u]
    split
    · exact .ite (s.deliver_keepsQueue ..) (.refl s)
    · exact .refl s
  split
  · refine h.foldl fun v b => ?_
    split <;> simp
  · exact h
@[simp] theorem State.downFrame_keepsQueue (g : DownFrame) : KeepsQueue s (s.downFrame g) := by
  unfold State.downFrame
  dsimp only
  (repeat' split) <;> simp
@[simp] theorem State.upDeliver_keepsQueue (line : Nat) (woad : Bool) (f : LinkFrame) (pos : Nat) :
    KeepsQueue s (s.upDeliver line woad f pos) := by
  unfold State.upDeliver
  extract_lets +onlyGivenNames p u
  have h : KeepsQueue s u := by
    dsimp only [u]
    split
    · simp
    · exact .refl s
  split
  · refine h.foldl fun v b => ?_
    split <;> simp
  · exact h
@[simp] theorem State.loopTime_keepsQueue (n : Nat) (g : UpFrame) : KeepsQueue s (s.loopTime n g) := by
  unfold State.loopTime
  split <;> simp
@[simp] theorem State.turnTime_keepsQueue (n : Nat) (g : UpFrame) : KeepsQueue s (s.turnTime n g) := by
  unfold State.turnTime
  split <;> simp
@[simp] theorem State.upFrame_keepsQueue (g : UpFrame) : KeepsQueue s (s.upFrame g) := by
  unfold State.upFrame
  dsimp only
  (repeat' split) <;> simp

/-! ### Commits of setup fields -/

@[simp] theorem State.legClamp_keepsQueue (j : Nat) : KeepsQueue s (s.legClamp j) := by simp [State.legClamp]
@[simp] theorem State.atcClamp_keepsQueue : KeepsQueue s s.atcClamp := by simp [State.atcClamp]
@[simp] theorem State.entryClamp_keepsQueue (off : Nat) : KeepsQueue s (s.entryClamp off) := by simp [State.entryClamp]
@[simp] theorem State.crossClamp_keepsQueue (ws : List Nat) : KeepsQueue s (s.crossClamp ws) := by
  unfold State.crossClamp
  extract_lets hit s1 s2 s3
  have h1 : KeepsQueue s s1 := by
    refine .ite (.each (.refl s) fun n u => ?_) (.refl s)
    split <;> simp
  have h2 : KeepsQueue s s2 := .ite (h1.each fun j u => by simp) h1
  have h3 : KeepsQueue s s3 := .ite (h2.trans s2.atcClamp_keepsQueue) h2
  exact .ite (h3.each fun o u => u.entryClamp_keepsQueue o) (h3.each fun o u => u.entryClamp_keepsQueue o)
@[simp] theorem State.huWeak_keepsQueue : KeepsQueue s s.huWeak := by simp [State.huWeak]
@[simp] theorem State.evrOff_keepsQueue : KeepsQueue s s.evrOff := by simp [State.evrOff]
@[simp] theorem State.capCommit_keepsQueue (t : State) (w : Nat) : KeepsQueue t (s.capCommit t w) := by
  unfold State.capCommit
  split <;> simp
@[simp] theorem State.tripCommit_keepsQueue (t : State) : KeepsQueue t (s.tripCommit t) := by
  simp [State.tripCommit]
@[simp] theorem State.cmpCommit_keepsQueue (t : State) (n : Nat) : KeepsQueue t (s.cmpCommit t n) := by
  unfold State.cmpCommit
  dsimp only
  (repeat' split) <;> simp
@[simp] theorem State.roleCommit_keepsQueue (t : State) : KeepsQueue t (s.roleCommit t) := by
  simp [State.roleCommit, -State.setF_pending, -State.setF_part]
@[simp] theorem State.plantCommit_keepsQueue (t : State) : KeepsQueue t (s.plantCommit t) := by
  unfold State.plantCommit
  extract_lets +onlyGivenNames u
  have h : KeepsQueue t u := .ite (.refl t) ((KeepsQueue.refl t).setF _ _)
  exact .ite ((h.plt _).plt _) (h.plt _)
@[simp] theorem State.gridCommit_keepsQueue (t : State) (ws : List Nat) : KeepsQueue t (s.gridCommit t ws) := by
  unfold State.gridCommit
  dsimp only
  (repeat' split) <;> simp
@[simp] theorem State.releaseHold_keepsQueue : KeepsQueue s s.releaseHold := by simp [State.releaseHold]
@[simp] theorem State.netCommit_keepsQueue (t : State) : KeepsQueue t (s.netCommit t) := by
  unfold State.netCommit
  dsimp only
  (repeat' split) <;> simp
@[simp] theorem State.settle_keepsQueue (t : State) (ws : List Nat) : KeepsQueue t (s.settle t ws) := by
  unfold State.settle
  simp
theorem State.commitTo_keepsQueue {ws : List Nat} (h : s.commitTo t ws = .ok u) : KeepsQueue t u := by
  unfold State.commitTo at h
  split at h
  · cases h
  · cases h
    simp
@[simp] theorem State.carCommit_keepsQueue (k : Nat) (regs : List (Nat × Word)) : KeepsQueue s (s.carCommit k regs) := by
  simp [State.carCommit]
@[simp] theorem State.pwmCommit_keepsQueue : KeepsQueue s s.pwmCommit.2 := by
  unfold State.pwmCommit
  extract_lets +onlyGivenNames sh _ t0 t1
  have h1 : KeepsQueue s t1 := ((KeepsQueue.refl s).pwm _).trans (t0.crossClamp_keepsQueue _)
  clear_value t1
  split
  next c _ => exact (s.shadowClear_keepsQueue.trans (State.refuse_keepsQueue ..)).setF _ _
  next own _ =>
    extract_lets +onlyGivenNames _ t2 carOf t3 t4 t5
    have h2 : KeepsQueue s t2 := h1.sys _
    have h3 : KeepsQueue s t3 := h2.each fun k u => .ite (.refl u) (u.carCommit_keepsQueue ..)
    have h4 : KeepsQueue s t4 := h3.trans (by simp [t4])
    have h5 : KeepsQueue s t5 := h4.ite (h4.trans t4.cairnTouch_keepsQueue)
    exact (h5.trans t5.shadowClear_keepsQueue).setF _ _

/-! ### Device states -/

@[simp] theorem State.mainLost_keepsQueue (p : Power) (cause : Nat) : KeepsQueue s (s.mainLost p cause) := by
  simp [State.mainLost]
@[simp] theorem State.mainReset_keepsQueue (cause : Nat) : KeepsQueue s (s.mainReset cause) := by simp [State.mainReset]
@[simp] theorem State.vanaServes_keepsQueue : KeepsQueue s s.vanaServes := by simp [State.vanaServes]
@[simp] theorem State.countsBack_keepsQueue : KeepsQueue s s.countsBack := by
  unfold State.countsBack
  split <;> simp
@[simp] theorem State.tryBoot_keepsQueue : KeepsQueue s s.tryBoot := by simp [State.tryBoot]
@[simp] theorem State.nrstAssert_keepsQueue (ns : Nat) : KeepsQueue s (s.nrstAssert ns) := by
  unfold State.nrstAssert
  dsimp only
  (repeat' split) <;> simp
@[simp] theorem State.nrstRelease_keepsQueue : KeepsQueue s s.nrstRelease := by simp [State.nrstRelease]
@[simp] theorem State.railChange_keepsQueue (inRange : Bool) : KeepsQueue s (s.railChange inRange) := by simp [State.railChange]
@[simp] theorem State.clearCauses_keepsQueue : KeepsQueue s s.clearCauses := by simp [State.clearCauses]
@[simp] theorem State.clearRequest_keepsQueue : KeepsQueue s s.clearRequest.2 := by
  unfold State.clearRequest
  dsimp only
  (repeat' split) <;> simp
@[simp] theorem State.armRequest_keepsQueue (who : ArmFor) : KeepsQueue s (s.armRequest who).2 := by
  unfold State.armRequest
  split <;> simp
@[simp] theorem State.connectRequest_keepsQueue : KeepsQueue s s.connectRequest.2 := by
  unfold State.connectRequest
  split <;> simp
@[simp] theorem State.stopRequest_keepsQueue : KeepsQueue s s.stopRequest.2 := by
  unfold State.stopRequest
  split <;> simp
@[simp] theorem State.tripRequest_keepsQueue (who : ArmFor) : KeepsQueue s (s.tripRequest who).2 := by
  unfold State.tripRequest
  split <;> simp
@[simp] theorem State.resetRequest_keepsQueue : KeepsQueue s s.resetRequest.2 := by
  unfold State.resetRequest
  split <;> simp
@[simp] theorem State.sysCmd_keepsQueue (who : ArmFor) (req : Nat) : KeepsQueue s (s.sysCmd who req).2 := by
  unfold State.sysCmd
  split <;> simp
@[simp] theorem State.autoRequest_keepsQueue : KeepsQueue s s.autoRequest := by simp [State.autoRequest]
@[simp] theorem State.autoClear_keepsQueue : KeepsQueue s s.autoClear := by simp [State.autoClear]
@[simp] theorem State.tcloseExpiry_keepsQueue : KeepsQueue s s.tcloseExpiry := by
  unfold State.tcloseExpiry
  split <;> simp
@[simp] theorem State.startCarriers_keepsQueue : KeepsQueue s s.startCarriers := by simp [State.startCarriers]
@[simp] theorem State.bootEnd_keepsQueue (new : Nat) : KeepsQueue s (s.bootEnd new) := by simp [State.bootEnd]
@[simp] theorem State.bootComplete_keepsQueue : KeepsQueue s s.bootComplete := by simp [State.bootComplete]
@[simp] theorem State.hostRequest_keepsQueue (req : Nat) : KeepsQueue s (s.hostRequest req) := by simp [State.hostRequest]

/-! ### The Bivouac domain and Cairn -/

@[simp] theorem State.showStore_keepsQueue (hvst cell : Nat) : KeepsQueue s (s.showStore hvst cell) := by simp [State.showStore]
@[simp] theorem State.cellCount_keepsQueue : KeepsQueue s s.cellCount := by
  unfold State.cellCount
  split <;> simp
@[simp] theorem State.cellSwitch_keepsQueue : KeepsQueue s s.cellSwitch := by simp [State.cellSwitch]
@[simp] theorem State.storeReturn_keepsQueue : KeepsQueue s s.storeReturn := by simp [State.storeReturn]
@[simp] theorem State.cutOff_keepsQueue : KeepsQueue s s.cutOff := by simp [State.cutOff]
@[simp] theorem State.reconnect_keepsQueue : KeepsQueue s s.reconnect := by simp [State.reconnect]
@[simp] theorem State.bivouacOff_keepsQueue : KeepsQueue s s.bivouacOff := by simp [State.bivouacOff]
@[simp] theorem State.bivouacOn_keepsQueue (hvst cell : Nat) : KeepsQueue s (s.bivouacOn hvst cell) := by simp [State.bivouacOn]
@[simp] theorem State.recordCommit_keepsQueue : KeepsQueue s s.recordCommit := by simp [State.recordCommit]
@[simp] theorem State.burstStart_keepsQueue (kind : Nat) (stored : Bool) : KeepsQueue s (s.burstStart kind stored) := by
  unfold State.burstStart
  split <;> simp
@[simp] theorem State.tryBurst_keepsQueue (hvst cell kind : Nat) : KeepsQueue s (s.tryBurst hvst cell kind) := by
  simp [State.tryBurst]
@[simp] theorem State.tryBursts_keepsQueue (hvst cell : Nat) : KeepsQueue s (s.tryBursts hvst cell) := by simp [State.tryBursts]
@[simp] theorem State.burstEnd_keepsQueue (hvst : Nat) : KeepsQueue s (s.burstEnd hvst) := by simp [State.burstEnd]
@[simp] theorem State.supervisor_keepsQueue (hvst cell : Nat) : KeepsQueue s (s.supervisor hvst cell) := by
  simp [State.supervisor]
@[simp] theorem State.vocStart_keepsQueue : KeepsQueue s s.vocStart := by simp [State.vocStart]
@[simp] theorem State.vocEnd_keepsQueue (mv : Nat) : KeepsQueue s (s.vocEnd mv) := by
  unfold State.vocEnd
  split <;> simp
@[simp] theorem State.irradianceDue_keepsQueue (hvst cell : Nat) : KeepsQueue s (s.irradianceDue hvst cell) := by
  simp [State.irradianceDue]
@[simp] theorem State.wakeJudge_keepsQueue (g : Nat) : KeepsQueue s (s.wakeJudge g) := by simp [State.wakeJudge]
@[simp] theorem State.irradianceEnd_keepsQueue (isc : Nat) : KeepsQueue s (s.irradianceEnd isc) := by
  unfold State.irradianceEnd
  split <;> simp
@[simp] theorem State.wakeRelease_keepsQueue : KeepsQueue s s.wakeRelease := by simp [State.wakeRelease]
@[simp] theorem State.recordDue_keepsQueue (hvst cell : Nat) : KeepsQueue s (s.recordDue hvst cell) := by simp [State.recordDue]
@[simp] theorem State.timeLoad_keepsQueue (v : Nat) : KeepsQueue s (s.timeLoad v) := by simp [State.timeLoad]
@[simp] theorem State.timeSet_keepsQueue (hi : Word) : KeepsQueue s (s.timeSet hi) := by simp [State.timeSet]
@[simp] theorem State.realTimeLoad_keepsQueue : KeepsQueue s s.realTimeLoad := by
  unfold State.realTimeLoad
  split <;> simp
@[simp] theorem State.realTimeSync_keepsQueue : KeepsQueue s s.realTimeSync := by simp [State.realTimeSync]
@[simp] theorem State.cairnBegin_keepsQueue (c : Cairn) : KeepsQueue s (s.cairnBegin c) := by simp [State.cairnBegin]
@[simp] theorem State.cairnStart_keepsQueue : KeepsQueue s s.cairnStart := by
  unfold State.cairnStart
  split <;> simp
@[simp] theorem State.cairnEnd_keepsQueue : KeepsQueue s s.cairnEnd := by
  unfold State.cairnEnd
  split <;> simp
@[simp] theorem State.cairnAgain_keepsQueue : KeepsQueue s s.cairnAgain := by simp [State.cairnAgain]
@[simp] theorem State.showKeys_keepsQueue : KeepsQueue s s.showKeys := by
  refine s.each_keepsQueue _ _ fun m u => ?_
  split <;> simp [-Nat.reducePow]
@[simp] theorem State.restoreReg_keepsQueue (off : Nat) (v : Word) : KeepsQueue s (s.restoreReg off v) := by
  simp [State.restoreReg]
@[simp] theorem State.replay_keepsQueue (o : Nat) : KeepsQueue s (s.replay o).2 := by
  unfold State.replay
  dsimp only
  (repeat' split) <;> simp
@[simp] theorem State.replayAll_keepsQueue : KeepsQueue s s.replayAll.2 := by
  unfold State.replayAll
  refine KeepsQueue.foldl_snd (fun b u o => ?_) false s
  dsimp only
  exact u.replay_keepsQueue o
@[simp] theorem State.recordRestore_keepsQueue : KeepsQueue s s.recordRestore := by simp [State.recordRestore]
@[simp] theorem State.restoreTime_keepsQueue : KeepsQueue s s.restoreTime := by simp [State.restoreTime]
@[simp] theorem State.mirrorAll_keepsQueue : KeepsQueue s s.mirrorAll := by simp [State.mirrorAll]
@[simp] theorem State.cairnRestore_keepsQueue (badA badB : Bool) : KeepsQueue s (s.cairnRestore badA badB) := by
  unfold State.cairnRestore
  refine .ite (.refl s) ?_
  extract_lets +onlyGivenNames mark s1 invalid s2 src seq newerBad s3 s4 body offs t1 _ _ t2 r t3 cv t4 t _ t5 t6
  have hm : ∀ i b u, KeepsQueue u (mark i b u) := fun i b u => by
    dsimp only [mark]
    split
    · exact .bvq (.refl u) _
    · exact .refl u
  have h2 : KeepsQueue s s2 := (((hm ..).trans (hm ..)).setF _ _).setF _ _
  have h4 : KeepsQueue s s4 := by
    refine .setF ?_ _ _
    clear_value src
    cases src with
    | none => exact (h2.setF _ _).post ..
    | some c => exact .ite ((h2.setF _ _).post ..) (h2.setF _ _)
  clear_value s4
  have h1 : KeepsQueue s t2 := (h4.each fun off u => u.restoreReg_keepsQueue ..).ce_saf _ _
  have h3 : KeepsQueue s t3 := (h1.trans t2.replayAll_keepsQueue).trans (State.settle_keepsQueue ..)
  clear_value t3
  have h5 : KeepsQueue s t5 := (((h3.trans t3.showKeys_keepsQueue).setF _ _).setF _ _ |>.trans t4.restoreTime_keepsQueue).sys _
  clear_value t5
  have h6 : KeepsQueue s t6 := ((KeepsQueue.ite (h5.setF _ _) h5).trans (State.showOsc_keepsQueue _)).trans
    (State.lockRestart_keepsQueue ..)
  exact h6.trans (by simp)
@[simp] theorem State.factoryReset_keepsQueue : KeepsQueue s s.factoryReset.2 := by
  unfold State.factoryReset
  split <;> simp
@[simp] theorem State.huCheck_keepsQueue (v : Nat) : KeepsQueue s (s.huCheck v).2 := by simp [State.huCheck]
@[simp] theorem State.holdupCheck_keepsQueue (v : Nat) : KeepsQueue s (s.holdupCheck v) := by simp [State.holdupCheck]
@[simp] theorem State.holdupRecheck_keepsQueue (v : Nat) : KeepsQueue s (s.holdupRecheck v) := by simp [State.holdupRecheck]
@[simp] theorem State.supplyFailure_keepsQueue : KeepsQueue s s.supplyFailure := by simp [State.supplyFailure]
@[simp] theorem State.finalComplete_keepsQueue : KeepsQueue s s.finalComplete := by simp [State.finalComplete]
@[simp] theorem State.supplyRecovery_keepsQueue : KeepsQueue s s.supplyRecovery := by simp [State.supplyRecovery]
@[simp] theorem State.huWeakClear_keepsQueue : KeepsQueue s s.huWeakClear := by simp [State.huWeakClear]
@[simp] theorem State.underClear_keepsQueue : KeepsQueue s s.underClear := by simp [State.underClear]

/-! ### The Belay procedure -/

@[simp] theorem CmdRes.ofPair_st (r : Status × State) : (CmdRes.ofPair r).st = r.2 := rfl
@[simp] theorem CmdRes.ok_st : (CmdRes.ok s).st = s := rfl
@[simp] theorem CmdRes.pair_snd (r : CmdRes) : r.pair.2 = r.st := rfl
@[simp] theorem CmdRes.ite_st (c : Prop) [Decidable c] (r q : CmdRes) :
    (if c then r else q).st = if c then r.st else q.st := apply_ite ..
@[simp] theorem State.belayDiscard_keepsQueue (outcome : Nat) : KeepsQueue s (s.belayDiscard outcome) := by
  simp [State.belayDiscard]
@[simp] theorem State.belayExpire_keepsQueue : KeepsQueue s s.belayExpire := by simp [State.belayExpire]
@[simp] theorem State.belayTimeout_keepsQueue (st : Nat) : KeepsQueue s (s.belayTimeout st) := by simp [State.belayTimeout]
@[simp] theorem State.stageOpen_keepsQueue (party : Nat) : KeepsQueue s (s.stageOpen party).2 := by
  unfold State.stageOpen
  dsimp only
  (repeat' split) <;> simp
@[simp] theorem State.stagePut_keepsQueue (off : Nat) (v : Word) : KeepsQueue s (s.stagePut off v) := by simp [State.stagePut]
@[simp] theorem State.stageWrites_keepsQueue (who : Writer) (ws : List (Nat × Word)) : KeepsQueue s (s.stageWrites who ws).2 := by
  unfold State.stageWrites
  split
  · exact .refl s
  next p _ =>
    have h := s.stageOpen_keepsQueue p
    split
    next u e => exact (h.of_snd e).foldl fun u e => u.stagePut_keepsQueue ..
    next => exact h
@[simp] theorem State.belayWrite_keepsQueue (who : Writer) (off : Nat) (v : Word) : KeepsQueue s (s.belayWrite who off v).2 := by
  unfold State.belayWrite
  split <;> simp
@[simp] theorem State.keyLoad_keepsQueue (who : Writer) (i : Nat) (v : Word) : KeepsQueue s (s.keyLoad who i v).2 := by
  have h := s.stageWrites_keepsQueue who []
  unfold State.keyLoad
  split
  next u e => exact (h.of_snd e).saf _
  next => exact h
@[simp] theorem State.keyControl_keepsQueue (who : Writer) (slot : Nat) (install : Bool) :
    KeepsQueue s (s.keyControl who slot install).2 := by
  unfold State.keyControl
  split
  · exact .refl s
  next p _ =>
    have h := s.stageOpen_keepsQueue p
    split
    · exact .refl s
    · split
      next u e =>
        split
        · exact h.of_snd e
        · exact (h.of_snd e).saf _
      next => exact h
@[simp] theorem State.belayTarget_keepsQueue : KeepsQueue s s.belayTarget := by simp [State.belayTarget]
@[simp] theorem State.belayPropose_keepsQueue (who : Writer) (cv : Word) : KeepsQueue s (s.belayPropose who cv).2 := by
  unfold State.belayPropose
  dsimp only
  (repeat' split) <;> simp
@[simp] theorem State.belayStore_keepsQueue : KeepsQueue s s.belayStore := by simp [State.belayStore]
@[simp] theorem State.belayAccept_keepsQueue (party : Nat) : KeepsQueue s (s.belayAccept party).st := by
  unfold State.belayAccept
  dsimp only
  split
  · exact .refl s
  · split <;> simp
@[simp] theorem State.belayConfirm_keepsQueue (party : Nat) (cv : Option Word) : KeepsQueue s (s.belayConfirm party cv).st := by
  unfold State.belayConfirm
  dsimp only
  (repeat' split) <;> simp
@[simp] theorem State.belayConf_keepsQueue (who : Writer) (cv : Word) : KeepsQueue s (s.belayConf who cv).st := by
  unfold State.belayConf
  split <;> simp
@[simp] theorem State.comkey_keepsQueue (ms : Nat) : KeepsQueue s (s.comkey ms) := by simp [State.comkey]
@[simp] theorem State.cairnComplete_keepsQueue : KeepsQueue s s.cairnComplete := by simp [State.cairnComplete]
@[simp] theorem State.belayEffective_keepsQueue : KeepsQueue s s.belayEffective := by simp [State.belayEffective]
@[simp] theorem State.belayAbort_keepsQueue (who : Writer) : KeepsQueue s (s.belayAbort who).2 := by
  unfold State.belayAbort
  dsimp only
  (repeat' split) <;> simp
@[simp] theorem hostOnly_keepsQueue (who : Writer) (off : Nat) (r : Status × State) : KeepsQueue r.2 (hostOnly who off r) := by
  simp [hostOnly]

/-! ### Register reads -/

@[simp] theorem State.readCapture_keepsQueue (path off : Nat) : KeepsQueue s (s.readCapture path off) := by
  unfold State.readCapture
  split <;> simp
@[simp] theorem State.readEffect_keepsQueue (path off : Nat) : KeepsQueue s (s.readEffect path off) := by simp [State.readEffect]
@[simp] theorem State.readReg_keepsQueue (path off : Nat) : KeepsQueue s (s.readReg path off).2 := by simp [State.readReg]
@[simp] theorem State.readRegs_keepsQueue (n path off : Nat) : KeepsQueue s (State.readRegs n s path off).2 := by
  induction n generalizing s off with
  | zero => exact .refl s
  | succ n ih => simp [State.readRegs, ih]
@[simp] theorem State.readShow_keepsQueue (path off : Nat) : KeepsQueue s (s.readShow path off) := by simp [State.readShow]

/-! ### Commit units -/

@[simp] theorem CmdRes.andThen_st (r : CmdRes) (g : State → Status × State) : (r.andThen g).st = (g r.st).2 := rfl
@[simp] theorem whenBit_keepsQueue (v : Word) (i : Nat) (g : State → Status × State) (h : KeepsQueue s (g s).2) :
    KeepsQueue s (whenBit v i g s).2 := by
  unfold whenBit
  split
  · exact h
  · exact .refl s
@[simp] theorem plain_keepsQueue (g : State → State) (h : KeepsQueue s (g s)) : KeepsQueue s (plain g s).2 := h
@[simp] theorem State.commitGo_keepsQueue : KeepsQueue s s.commitGo.st := by
  have h := s.pwmCommit_keepsQueue
  unfold State.commitGo
  split
  next t e => exact h.of_snd e
  next c t e => exact h.of_snd e
@[simp] theorem State.command_keepsQueue (who : Writer) (arm : ArmFor) (off : Nat) (v : Word) :
    KeepsQueue s (s.command who arm off v).st := by
  simp [State.command, -State.setF_pending, -State.setF_part]
@[simp] theorem State.belayUnit_keepsQueue (who : Writer) (ps : List (Nat × Nat × Word)) : KeepsQueue s (s.belayUnit who ps).2 := by
  induction ps generalizing s with
  | nil => exact .refl s
  | cons e ps ih =>
    unfold State.belayUnit
    dsimp only
    (repeat' split) <;> simp [ih]
@[simp] theorem State.writeCfg_keepsQueue (ps : List (Nat × Nat × Word)) : KeepsQueue s (s.writeCfg ps) := by
  simp [State.writeCfg]
@[simp] theorem State.commands_keepsQueue (who : Writer) (arm : ArmFor) (l : List (Nat × Nat × Word)) (r : UnitRes) :
    KeepsQueue r.st (State.commands who arm l r).st := by
  induction l generalizing r with
  | nil => exact .refl r.st
  | cons e l ih =>
    unfold State.commands
    split
    · exact ih r
    · refine KeepsQueue.trans ?_ (ih _)
      have h := r.st.command_keepsQueue who arm e.2.1 e.2.2
      dsimp only
      split
      · exact h.sys _
      · exact h
@[simp] theorem State.runUnit_keepsQueue (who : Writer) (arm : ArmFor) (ws : List (Nat × Word)) :
    KeepsQueue s (s.runUnit who arm ws).st := by
  unfold State.runUnit
  extract_lets +onlyGivenNames ps stop belay
  split
  · exact .refl s
  split
  · split
    · dsimp only
      split
      · exact s.belayUnit_keepsQueue who ps
      · exact .refl s
    · exact .refl s
  split
  · exact .refl s
  extract_lets +onlyGivenNames cfg offs t
  split
  · exact .refl s
  split
  · exact s.refuse_keepsQueue ..
  next u e =>
    have hu : KeepsQueue s u := by
      split at e
      · cases e
        exact .refl s
      · exact (s.writeCfg_keepsQueue cfg).trans (s.commitTo_keepsQueue e)
    extract_lets +onlyGivenNames v r
    have hv : KeepsQueue s v := hu.foldl fun u e => by split <;> simp
    have hr : KeepsQueue s r.st := hv.trans (State.commands_keepsQueue ..)
    have shown (q : UnitRes) (hq : KeepsQueue s q.st) :
        KeepsQueue s (if q.gone then q else { q with st := s.produceStatus q.st }).st := by
      split
      · exact hq
      · exact hq.trans (s.produceStatus_keepsQueue q.st)
    clear_value r
    refine shown _ ?_
    split
    · exact hr.sys _
    · exact hr
@[simp] theorem State.barWrite_keepsQueue (off : Nat) (v : Word) : KeepsQueue s (s.barWrite off v) := by
  simp [State.barWrite]
@[simp] theorem State.swrWait_keepsQueue (l d status : Nat) : KeepsQueue s (s.swrWait l d status) := by simp [State.swrWait]
@[simp] theorem State.swr_keepsQueue (x : CeInstr) : KeepsQueue s (s.swr x) := by
  simp [State.swr]
@[simp] theorem State.swrDone_keepsQueue (l : Nat) : KeepsQueue s (s.swrDone l) := by
  unfold State.swrDone
  dsimp only
  (repeat' split) <;> simp

/-! ### The host interface -/

@[simp] theorem State.bell_keepsQueue (off i : Nat) : KeepsQueue s (s.bell off i) := by simp [State.bell]
@[simp] theorem State.bellOver_keepsQueue : KeepsQueue s s.bellOver := by simp [State.bellOver]
@[simp] theorem State.cmdBell_keepsQueue (r i : Nat) : KeepsQueue s (s.cmdBell r i) := by simp [State.cmdBell]
@[simp] theorem State.compBell_keepsQueue (r i : Nat) : KeepsQueue s (s.compBell r i) := by simp [State.compBell]
@[simp] theorem State.evBell_keepsQueue (i : Nat) : KeepsQueue s (s.evBell i) := by simp [State.evBell]
@[simp] theorem State.capBell_keepsQueue (i : Nat) : KeepsQueue s (s.capBell i) := by simp [State.capBell]
@[simp] theorem State.dmaError_keepsQueue (r : Nat) : KeepsQueue s (s.dmaError r) := by simp [State.dmaError]
@[simp] theorem State.fetch_keepsQueue (r : Nat) (d : Desc) (dma : Bool) : KeepsQueue s (s.fetch r d dma) := by simp [State.fetch]
@[simp] theorem State.markStarted_keepsQueue (r idx : Nat) : KeepsQueue s (s.markStarted r idx) := by simp [State.markStarted]
@[simp] theorem State.startDesc_keepsQueue (r : Nat) (p ok : Desc → Bool) (dma : Bool) (go : Flight → State → Option Comp × State)
    (hg : ∀ f u, KeepsQueue u (go f u).2) : KeepsQueue s (s.startDesc r p ok dma go) := by
  unfold State.startDesc
  split
  · exact .refl s
  · split
    · exact .refl s
    next f _ =>
      dsimp only
      have hm := s.markStarted_keepsQueue r f.idx
      split
      · exact hm.trans (State.complete_keepsQueue ..)
      · split
        · simp
        · split
          next c v h => exact hm.trans (((hg f _).of_snd h).trans (v.complete_keepsQueue ..))
          next v h => exact hm.trans ((hg f _).of_snd h)
@[simp] theorem State.descNop_keepsQueue (r : Nat) : KeepsQueue s (s.descNop r) := by simp [State.descNop]
@[simp] theorem State.descSetw_keepsQueue (r : Nat) (buf : List Word) (dma : Bool) : KeepsQueue s (s.descSetw r buf dma) := by
  refine s.startDesc_keepsQueue _ _ _ _ _ fun f u => ?_
  dsimp only
  split <;> simp
@[simp] theorem State.descSetr_keepsQueue (r : Nat) (dma : Bool) : KeepsQueue s (s.descSetr r dma) := by simp [State.descSetr]
@[simp] theorem State.descPwmset_keepsQueue (r : Nat) (buf : List Word) (dma : Bool) : KeepsQueue s (s.descPwmset r buf dma) := by
  refine s.startDesc_keepsQueue _ _ _ _ _ fun f u => ?_
  dsimp only
  split <;> simp
@[simp] theorem State.descImgw_keepsQueue (r : Nat) (buf : List Word) (dma : Bool) : KeepsQueue s (s.descImgw r buf dma) := by
  refine s.startDesc_keepsQueue _ _ _ _ _ fun f u => ?_
  split <;> simp
@[simp] theorem State.imageDone_keepsQueue : KeepsQueue s s.imageDone := by
  unfold State.imageDone
  split <;> simp
@[simp] theorem State.descLnktx_keepsQueue (r : Nat) (wr : Bool) (buf : List Word) (dma : Bool) :
    KeepsQueue s (s.descLnktx r wr buf dma) := by
  refine s.startDesc_keepsQueue _ _ _ _ _ fun f u => ?_
  dsimp only
  split <;> simp
@[simp] theorem State.descParmw_keepsQueue (r : Nat) (buf : List Word) (dma : Bool) : KeepsQueue s (s.descParmw r buf dma) := by
  simp [State.descParmw]
@[simp] theorem State.freeze_keepsQueue (w : Nat) : KeepsQueue s (s.freeze w) := by
  unfold State.freeze
  dsimp only
  (repeat' split) <;> simp
@[simp] theorem State.descCapctl_keepsQueue (r action : Nat) (go : Nat → State → Comp × State) (hg : ∀ w u, KeepsQueue u (go w u).2) :
    KeepsQueue s (s.descCapctl r action go) := by
  refine s.startDesc_keepsQueue _ _ _ _ _ fun f u => ?_
  split
  · exact .refl u
  · exact hg _ u
@[simp] theorem State.capArm_keepsQueue (r : Nat) : KeepsQueue s (s.capArm r) := by
  refine s.descCapctl_keepsQueue _ _ _ fun w u => ?_
  dsimp only
  split <;> simp
@[simp] theorem State.capTrig_keepsQueue (r : Nat) : KeepsQueue s (s.capTrig r) := by simp [State.capTrig]
@[simp] theorem State.capDisarm_keepsQueue (r : Nat) : KeepsQueue s (s.capDisarm r) := by simp [State.capDisarm]
@[simp] theorem State.capFreeze_keepsQueue (w : Nat) : KeepsQueue s (s.capFreeze w) := by simp [State.capFreeze]
@[simp] theorem State.descCaprd_keepsQueue (r : Nat) : KeepsQueue s (s.descCaprd r) := by
  refine s.startDesc_keepsQueue _ _ _ _ _ fun f u => ?_
  split <;> simp
@[simp] theorem State.hostBytes_keepsQueue (a n : Nat) (ws : List Word) : KeepsQueue s (s.hostBytes a n ws) := by
  simp [State.hostBytes]
@[simp] theorem State.caprdDone_keepsQueue (r : Nat) (dma : Bool) : KeepsQueue s (s.caprdDone r dma) := by
  unfold State.caprdDone
  split <;> simp
@[simp] theorem State.eventWrite_keepsQueue : KeepsQueue s s.eventWrite := by
  unfold State.eventWrite
  split <;> simp
@[simp] theorem State.captureWrite_keepsQueue : KeepsQueue s s.captureWrite := by
  unfold State.captureWrite
  split <;> simp
@[simp] theorem State.evRing_keepsQueue (en : Bool) : KeepsQueue s (s.evRing en) := by simp [State.evRing]
@[simp] theorem State.ringOff_keepsQueue (r : Nat) : KeepsQueue s (s.ringOff r) := by simp [State.ringOff]
@[simp] theorem State.imodEnd_keepsQueue (v : Nat) : KeepsQueue s (s.imodEnd v) := by simp [State.imodEnd]
@[simp] theorem State.pcieReset_keepsQueue : KeepsQueue s s.pcieReset := by
  unfold State.pcieReset
  extract_lets +onlyGivenNames run s1 s2 s3 s4 s5
  have h3 : KeepsQueue s s3 := by simp [s3, s2, s1]
  have h4 : KeepsQueue s s4 := h3.each fun o u => by split <;> simp
  have h5 : KeepsQueue s s5 := h4.each fun r u => by simp
  simpa using h5
@[simp] theorem State.frameTime_keepsQueue : KeepsQueue s s.frameTime.2 := by simp [State.frameTime]
@[simp] theorem State.stampCross_keepsQueue (t : Nat) : KeepsQueue s (s.stampCross t) := by simp [State.stampCross]
@[simp] theorem State.descTxfrm_keepsQueue (r : Nat) (buf : List Word) (dma : Bool) : KeepsQueue s (s.descTxfrm r buf dma) := by
  refine s.startDesc_keepsQueue _ _ _ _ _ fun f u => ?_
  split <;> simp
@[simp] theorem State.egress_keepsQueue : KeepsQueue s s.egress := by
  unfold State.egress
  split <;> simp
@[simp] theorem State.descRxbuf_keepsQueue (r : Nat) : KeepsQueue s (s.descRxbuf r) := by simp [State.descRxbuf]
@[simp] theorem State.frameIn_keepsQueue (len : Nat) (fcsOk : Bool) (ws : List Word) (dma : Bool) :
    KeepsQueue s (s.frameIn len fcsOk ws dma) := by
  unfold State.frameIn
  dsimp only
  (repeat' split) <;> simp

/-! ### Register transactions of Cewlink -/

@[simp] theorem State.regRead_keepsQueue (q : Packet) : KeepsQueue s (s.regRead q) := by simp [State.regRead]
theorem State.wrEach_keepsQueue (who : Writer) (q : Packet) (off : Nat) (l : List Word) (r : WrRes) :
    KeepsQueue r.st (State.wrEach who q off l r).st := by
  induction l generalizing off r with
  | nil => exact .refl r.st
  | cons v l ih =>
    have h := r.st.runUnit_keepsQueue who (.link q) [(off, v)]
    unfold State.wrEach
    dsimp only
    split
    · exact h
    · split
      · exact h.trans (ih _ _)
      · exact h
@[simp] theorem State.armPost_keepsQueue (st : Status) : KeepsQueue s (s.armPost st) := by
  unfold State.armPost
  split <;> simp
@[simp] theorem State.regWrite_keepsQueue (q : Packet) : KeepsQueue s (s.regWrite q) := by
  refine s.serve_keepsQueue q _ fun u => ?_
  extract_lets n v w r
  have h : KeepsQueue u r.st := by
    dsimp only [r]
    split
    · exact .refl u
    · split
      · exact u.runUnit_keepsQueue ..
      · split
        · exact (State.wrEach_keepsQueue _ _ _ _ { st := u }).trans (State.armPost_keepsQueue ..)
        · exact State.wrEach_keepsQueue _ _ _ _ { st := u }
  clear_value r
  exact .ite h (h.trans (State.answer_keepsQueue ..))
@[simp] theorem State.admitFail_keepsQueue (p step : Nat) : KeepsQueue s (s.admitFail p step) := by simp [State.admitFail]
@[simp] theorem State.readReply_keepsQueue (p : Packet) (dma : Bool) : KeepsQueue s (s.readReply p dma) := by
  unfold State.readReply
  dsimp only
  (repeat' split) <;> simp
@[simp] theorem State.writeReply_keepsQueue (p : Packet) : KeepsQueue s (s.writeReply p) := by
  unfold State.writeReply
  dsimp only
  (repeat' split) <;> simp
@[simp] theorem State.bulkReply_keepsQueue (p : Packet) : KeepsQueue s (s.bulkReply p) := by
  unfold State.bulkReply
  split
  · exact .refl s
  · split <;> simp
@[simp] theorem State.txnTimeout_keepsQueue (tag : Nat) : KeepsQueue s (s.txnTimeout tag) := by
  unfold State.txnTimeout
  dsimp only
  (repeat' split) <;> simp

/-! ### Every command -/

/-- A command has answered a next state with the queue and the ordering code of the state before. -/
def Completes (s : State) (o : Out) : Prop := ∃ t, o = .next t ∧ KeepsQueue s t

variable {s} in
theorem Completes.next (h : KeepsQueue s t) : Completes s (.next t) := ⟨t, rfl, h⟩

variable {s} in
/-- A command of the main domain. -/
theorem Completes.onMain (h : KeepsQueue s t) : Completes s (.next (s.onMain t)) := .next (s.onMain_keepsQueue h)

variable {s} in
/-- A command that may change the status of the mixed-signal die. -/
theorem Completes.onStatus (h : KeepsQueue s t) : Completes s (.next (s.onStatus t)) := .next (s.onStatus_keepsQueue h)

/-- Every command has one of three forms: it may change the status of the mixed-signal die, it acts without main power, or it
acts on the main domain alone; what it does there is one of the operations above. -/
theorem exec_completes (c : Instr) : Completes s (exec c s) := by
  cases c with
  | paceWindowEnd | refMonitorWindow | refLost | refOk | pllLock | pllUnlock | pllStableLock | coarseExit |
    comparatorOutputChange | comparatorDecision | adcCalibrationComplete | rotationStep | sliceHandover |
    sliceCalibrationComplete | conversionTimeout | converterTrigger | conversionEnd | queuedRunStart | monitorIssue |
    adcSwtrig | belayEffective | cairnRestore | samplingInstant => exact .onStatus (by simp)
  | unsupportedRequest | bivouacPowerOn | bivouacPowerOff | burstCutOff | burstReconnect | cellSwitch | storeReturn |
    supervisorSample | burstEnd | vocSample | vocSampleEnd | irradianceMeasurement | irradianceMeasurementEnd |
    bivouacRecordCommit | realTimeLoad | supplyRecovery | nrstAssert | nrstRelease | railOutOfRange => exact .next (by simp)
  | _ => exact .onMain (by simp)

/-- Settles O3: no arm of `exec` stops the module, and no operation writes the queue or the ordering code. -/
theorem commandsComplete : Obligations.CommandsComplete := fun c s => exec_completes s c

variable {s}

/-! ### Frames of field writes -/

/-- A bit of an accumulated mask: set at the start or by one of the fields. -/
theorem foldl_mask_getLsbD (l : List Fld) (m : Word) (i : Nat) :
    (l.foldl (fun m x => m ||| x.mask) m).getLsbD i = (m.getLsbD i || l.any fun x => x.mask.getLsbD i) := by
  induction l generalizing m with
  | nil => simp
  | cons x l ih => simp [ih, Bool.or_assoc]

/-- The bits of a listed field are covered. -/
theorem fieldsMask_getLsbD_of_mem {l : List Fld} {x : Fld} (hx : x ∈ l) {i : Nat} (hi : x.mask.getLsbD i = true) :
    (fieldsMask l x.off).getLsbD i = true := by
  rw [fieldsMask, foldl_mask_getLsbD, Bool.or_eq_true, List.any_eq_true]
  exact .inr ⟨x, by simp [hx], hi⟩

/-- A write of a field changes no bit outside it. -/
theorem Fld.put_and_not_mask (x : Fld) (h : x.lo + x.w ≤ 32) (v m : Word) (n : Nat)
    (hm : ∀ i, x.mask.getLsbD i = true → m.getLsbD i = true) : x.put v n &&& ~~~m = v &&& ~~~m := by
  refine BitVec.eq_of_getLsbD_eq fun i hi => ?_
  have hc := hm i
  rw [Fld.mask_getLsbD x h, decide_eq_true_eq] at hc
  rw [BitVec.getLsbD_and, BitVec.getLsbD_and, Fld.put_getLsbD x h]
  split
  next hx => simp [hc hx]
  next => rfl

theorem KeepsBut.refl (l : List Fld) (s : State) : KeepsBut l s s where
  mem _ := rfl
  host := rfl
  queue := rfl
  part := rfl
  regs _ := rfl

/-- A write of a listed field keeps all that the list leaves out. -/
theorem KeepsBut.setF {l : List Fld} (h : KeepsBut l s t) (x : Fld) (hx : x ∈ l) (hw : x.lo + x.w ≤ 32) (n : Nat) :
    KeepsBut l s (t.setF x n) where
  mem := h.mem
  host := h.host
  queue := h.queue
  part := h.part
  regs off := by
    by_cases ho : off = x.off
    · subst ho
      rw [State.reg_setF_self, Fld.put_and_not_mask x hw _ _ n fun i hi => fieldsMask_getLsbD_of_mem hx hi]
      exact h.regs x.off
    · rw [State.reg_setF_ne x n ho]
      exact h.regs off

/-! ### Register reads -/

variable (s)

/-- While the main domain is powered, what a command does there comes about. -/
theorem State.onMain_of_live (h : s.live = true) (t : State) : s.onMain t = t := if_pos h

/-- An access through a mailbox moves the mailbox alone (R620). -/
theorem State.carryRead_eq (off : Nat) (v : Word) : ∃ x, s.carryRead off v = { s with xdc := x } := by
  unfold State.carryRead
  split
  · exact ⟨_, rfl⟩
  · exact ⟨s.xdc, rfl⟩

/-- Every low word of R628 has a captured high word. -/
theorem isHigh_lowOff (r : LowReg) : isHigh (lowOff r + 4) = true := by
  cases r with
  | acc i =>
    have h : 0xF100 ≤ 0xF100 + 8 * i.val + 4 ∧ 0xF100 + 8 * i.val + 4 < 0xF240 ∧ (0xF100 + 8 * i.val + 4) % 8 = 4 := by omega
    simp [isHigh, lowOff, h]
  | pulse k =>
    have h : 0xF280 ≤ 0xF280 + 16 * k.val + 4 ∧ 0xF280 + 16 * k.val + 4 < 0xF300 ∧ (0xF280 + 16 * k.val + 4) % 16 = 4 := by omega
    simp [isHigh, lowOff, h]
  | _ => rfl

/-- No 64-bit quantity starts at a captured high word. -/
theorem State.pairAt_of_isHigh {off : Nat} (h : isHigh off = true) : s.pairAt off = none := by
  simp only [isHigh, Bool.or_eq_true, decide_eq_true_eq] at h
  unfold State.pairAt
  dsimp only
  rw [if_neg, if_neg, if_neg, if_neg, if_neg, if_neg] <;> omega

/-- The high word of a pair is read as the path has captured it. -/
theorem State.readVal_high (path : Nat) (r : LowReg) :
    s.readVal path (lowOff r + 4) = Tab.get (fun _ => 0) s.capHi (capKey path (lowOff r + 4)) := by
  simp [State.readVal, s.pairAt_of_isHigh (isHigh_lowOff r), isHigh_lowOff]

/-- The low word of a pair is read as it stands. -/
theorem State.readVal_pair {off v : Nat} (h : s.pairAt off = some v) (path : Nat) :
    s.readVal path off = BitVec.ofNat 32 v := by simp [State.readVal, h]

/-- What the read of a low word does: it shows the word and captures the high word, beside the mailbox that carries it. -/
theorem State.readShow_pair {off v : Nat} (h : s.pairAt off = some v) (path : Nat) :
    ∃ x, s.readShow path off = { s with
      rdata := BitVec.ofNat 32 v, xdc := x
      capHi := Tab.set (fun _ => 0) s.capHi (capKey path (off + 4)) (BitVec.ofNat 32 (v / 2 ^ 32)) } := by
  simp only [State.readShow, State.readReg, State.readEffect, State.readVal_pair s h, State.readCapture, h]
  obtain ⟨x, hx⟩ := State.carryRead_eq { s with
    capHi := Tab.set (fun _ => 0) s.capHi (capKey path (off + 4)) (BitVec.ofNat 32 (v / 2 ^ 32)) } off (BitVec.ofNat 32 v)
  exact ⟨x, by rw [hx]⟩

theorem lowWordRead_answers (p : Path) (r : LowReg) {v : Nat} (hl : s.live = true) (h : s.pairAt (lowOff r) = some v) :
    Answers (.lowWordRead p r) s fun t =>
      t.rdata = BitVec.ofNat 32 v ∧ t.readVal (Machine.Path.key p) (lowOff r + 4) = BitVec.ofNat 32 (v / 2 ^ 32) ∧ t.regs = s.regs ∧
        KeepsMem s t := by
  obtain ⟨x, hx⟩ := s.readShow_pair h (Path.key p)
  refine ⟨_, congrArg Host.Outcome.next ((s.onMain_of_live hl _).trans hx), rfl, ?_, rfl, ⟨fun _ => rfl, rfl, rfl, rfl⟩⟩
  rw [State.readVal_high, Tab.get_set_self]

/-- The read of the last word of the capture window, which no mailbox carries, advances the block. -/
theorem State.readShow_advance (path : Nat) : s.readShow path 0x116FC =
    { s.setF R.HST_CAPRW_BLK (s.f R.HST_CAPRW_BLK + 1) with rdata := s.readVal path 0x116FC } := rfl

theorem readWindowAdvance_answers (p : Path) (hl : s.live = true) : Answers (.readWindowAdvance p) s fun t =>
    t.f R.HST_CAPRW_BLK = (s.f R.HST_CAPRW_BLK + 1) % 2 ^ R.HST_CAPRW_BLK.w ∧ KeepsBut [R.HST_CAPRW_BLK] s t := by
  have hw : R.HST_CAPRW_BLK.lo + R.HST_CAPRW_BLK.w ≤ 32 := by decide
  have h := (KeepsBut.refl [R.HST_CAPRW_BLK] s).setF R.HST_CAPRW_BLK (by simp) hw (s.f R.HST_CAPRW_BLK + 1)
  refine ⟨_, congrArg Host.Outcome.next ((s.onMain_of_live hl _).trans (s.readShow_advance (Path.key p))), ?_, ?_⟩
  · exact State.f_setF_self _ hw _
  · exact ⟨⟨h.mem, h.host, h.queue, h.part⟩, h.regs⟩

/-- Settles O23: the three reads one by one. -/
theorem reads : Obligations.Reads := fun s =>
  ⟨fun p r _ hl h => lowWordRead_answers s p r hl h, fun p hl => readWindowAdvance_answers s p hl, fun _ _ _ => ⟨s, rfl, rfl⟩⟩

/-- Settles O25: `CAPMEM` is computed at the read from the ordering code of the part. -/
theorem capmemBit : Obligations.CapmemBit := by
  intro s path
  have h : s.readVal path 0 = R.SYS_ID_CAPMEM.put (s.reg 0) (bit (s.part = .c8)) := rfl
  rw [h, Fld.get_put_self _ (by decide), bit]
  by_cases hp : s.part = .c8 <;> simp [hp, R.SYS_ID_CAPMEM]

end Sys2Proof.Machine
end

section
/-! PROOFS. Register writes through BAR0 (O54).

A write of one register is no unit of writes, or it is an `OrdinaryWrite`: one that goes to a commit. The ownership map refuses
that commit, or the word stands (`State.claimed`), the block does its part (`State.hostCommit` for the `HST_` page), and a hold
is released and the Cairn image touched (`Follows`); then the outcome is recorded. -/

namespace Sys2Proof.Machine

variable {s t u : State}

/-! ### The register map -/

/-- The registers of the map lie below the end of the page of the host interface. -/
theorem RegMap.lt_of_find_ne_none {off : Nat} (h : RegMap.find off ≠ none) : off < 0x12000 := by
  by_contra hge
  obtain ⟨k, hk⟩ : ∃ k, off / 0x1000 = k + 18 := ⟨off / 0x1000 - 18, by omega⟩
  exact h (by rw [RegMap.find, RegMap.page, hk]; rfl)

theorem RegMap.find_ne_none_of_accMask {p : Acc → Bool} {off : Nat} (h : accMask p off ≠ 0) : RegMap.find off ≠ none :=
  fun hn => h (by rw [accMask, hn])

theorem RegMap.page_hst {off : Nat} (h : inPage 0x11 off) : RegMap.page off = RegMap.hst := by
  rw [inPage] at h
  rw [RegMap.page, h]
  rfl

/-- No register of the `HST_` page holds a field of the protection set. -/
theorem accMask_belay_hst {off : Nat} (h : inPage 0x11 off) : accMask Acc.belay off = 0 := by
  have hall : ∀ r ∈ RegMap.hst, r.mask Acc.belay = 0 := by decide
  unfold accMask
  split
  next r hr =>
    rw [RegMap.find, RegMap.page_hst h] at hr
    exact hall r (List.mem_of_find?_eq_some hr)
  next => rfl

theorem State.isBelayWrite_hst {off : Nat} (h : inPage 0x11 off) (v : Word) : s.isBelayWrite off v = false := by
  have hb := accMask_belay_hst h
  rw [inPage] at h
  have hkey : ¬ (0xA080 ≤ off ∧ off ≤ 0xA0C0) := by omega
  rw [State.isBelayWrite, if_neg (by omega), hasBelay, hb, decide_eq_false hkey]
  rfl

theorem isPwmReg_hst {off : Nat} (h : inPage 0x11 off) : isPwmReg off = false := by
  rw [inPage] at h
  simp only [isPwmReg, decide_eq_false_iff_not]
  omega

/-! ### Words that a write leaves -/

/-- Writes of fields apart from `g` leave it. -/
theorem FieldSpec.get_foldl_write_apart (p : Acc → Bool) (g : Fld) (l : List FieldSpec) (old v : Word)
    (hl : ∀ f ∈ l, f.lo + f.w ≤ 32 ∧ (g.lo + g.w ≤ f.lo ∨ f.lo + f.w ≤ g.lo)) :
    g.get (l.foldl (fun a f =>
      if p f.acc then (⟨0, f.lo, f.w⟩ : Fld).put a (f.clamp ((⟨0, f.lo, f.w⟩ : Fld).get v)) else a) old) = g.get old := by
  induction l generalizing old with
  | nil => rfl
  | cons f l ih =>
    obtain ⟨hf, hl⟩ := List.forall_mem_cons.1 hl
    rw [List.foldl_cons, ih _ hl]
    split
    · exact Fld.get_put_apart ⟨0, f.lo, f.w⟩ g hf.1 hf.2 old _
    · rfl

/-- A written field takes the value of the word, where that value lies within the field's range. -/
theorem RegSpec.get_write (r : RegSpec) (x : Fld) {p : Acc → Bool} (l₁ : List FieldSpec) (f : FieldSpec) {l₂ : List FieldSpec}
    {old v : Word} (hx : x.lo = f.lo ∧ x.w = f.w) (hr : r.fields = l₁ ++ f :: l₂) (hp : p f.acc = true)
    (hf : f.lo + f.w ≤ 32)
    (hl : ∀ g ∈ l₂, g.lo + g.w ≤ 32 ∧ (f.lo + f.w ≤ g.lo ∨ g.lo + g.w ≤ f.lo)) (hc : f.clamp (x.get v) = x.get v) :
    x.get (r.write p old v) = x.get v := by
  obtain ⟨o, lo, w⟩ := x
  obtain ⟨rfl, rfl⟩ := hx
  rw [RegSpec.write, hr, List.foldl_append, List.foldl_cons, FieldSpec.get_foldl_write_apart p _ l₂ _ _ hl, if_pos hp]
  calc (⟨0, f.lo, f.w⟩ : Fld).get ((⟨0, f.lo, f.w⟩ : Fld).put _ (f.clamp ((⟨0, f.lo, f.w⟩ : Fld).get v)))
      = f.clamp ((⟨0, f.lo, f.w⟩ : Fld).get v) % 2 ^ f.w := Fld.get_put_self ⟨0, f.lo, f.w⟩ hf _ _
    _ = (⟨0, f.lo, f.w⟩ : Fld).get v % 2 ^ f.w := congrArg (· % 2 ^ f.w) hc
    _ = (⟨0, f.lo, f.w⟩ : Fld).get v := Nat.mod_eq_of_lt (Fld.get_lt ..)

/-- The word a write leaves, where the clamps of the register as a whole do not act. -/
theorem State.written_of_find {off : Nat} {r : RegSpec} (h : RegMap.find off = some r) (hc : ∀ w, wordClamp off w = w)
    (p : Acc → Bool) (v : Word) : s.written p off v = r.write p (s.reg off) v := by
  rw [State.written, h]
  exact hc _

/-- An ordinary write of a register of the `HST_` page has no clamp that depends on another register. -/
theorem State.writeCfg_hst {off : Nat} (h : inPage 0x11 off) (v : Word) :
    s.writeCfg [(0, off, v)] = s.setReg off (s.written Acc.cfg off v) := by
  rw [inPage] at h
  have hit {lo hi : Nat} (hh : hi ≤ 0x11000) : ¬ (lo ≤ off ∧ off < hi) := by omega
  have he : isEntry off = false := by simp [isEntry]; omega
  simp [State.writeCfg, State.crossClamp, hit, he, State.each]

/-! ### One ordinary write of BAR0 -/

theorem lastPairs_single (i off : Nat) (v : Word) : lastPairs i [(off, v)] = [(i, off, v)] := rfl

/-- A write at an offset that holds no register, or that is not aligned, is no unit. -/
theorem State.runUnit_format {off : Nat} (h : off % 4 ≠ 0 ∨ RegMap.find off = none) (v : Word) :
    s.runUnit .host .host [(off, v)] = { status := .format, st := s } := by
  rw [State.runUnit, lastPairs_single, if_pos]
  simpa using .inl h

/-- A write of one register that goes to an ordinary commit, and that the present configuration allows. -/
structure OrdinaryWrite (s : State) (off : Nat) (v : Word) : Prop where
  aligned : off % 4 = 0
  known : RegMap.find off ≠ none
  notPwm : isPwmReg off = false
  cfg : accMask Acc.cfg off ≠ 0#32
  notBelay : s.isBelayWrite off v = false
  allowed : s.stateBad (s.writeCfg [(0, off, v)]) [off] = false

namespace OrdinaryWrite

variable {off : Nat} {v : Word}

/-- It changes no field of the protection set, not even in `CLK_REF`. -/
theorem not_mixed (h : OrdinaryWrite s off v) : ¬ (off = 0x1000 ∧ s.changesBelay off v = true) := by
  rintro ⟨rfl, hb⟩
  exact absurd h.notBelay (by simp [State.isBelayWrite, hb])

/-- A C0 part has no capture windows to set up. -/
theorem not_capture_on_c0 (h : OrdinaryWrite s off v) : ¬ (s.part = .c0 ∧ 0x11400 ≤ off ∧ off < 0x11500) := by
  rintro ⟨hp, ho⟩
  exact absurd h.allowed (by simp [State.stateBad, hp, ho])

/-- A write that the ownership map refuses changes nothing but the record of the refusal. -/
theorem runUnit_conflict (h : OrdinaryWrite s off v) {c : Conflict} (hc : s.commitTo (s.writeCfg [(0, off, v)]) [off] = .error c) :
    ∃ i, s.runUnit .host .host [(off, v)] = { status := .conflict, st := s.refuse c false, idx := i, conflict := some c } := by
  refine ⟨s.refusedPair [(0, off, v)], ?_⟩
  simp [State.runUnit, lastPairs_single, h.aligned, h.known, h.notPwm, h.cfg, h.notBelay, h.allowed,
    h.not_mixed, h.not_capture_on_c0, hc]

/-- A write without a command that is committed: its status is DONE, and a changed status of the mixed-signal die is produced. -/
theorem runUnit_done (h : OrdinaryWrite s off v) (hcmd : accMask Acc.cmd off = 0#32)
    (hc : s.commitTo (s.writeCfg [(0, off, v)]) [off] = .ok t) :
    s.runUnit .host .host [(off, v)] = { status := .done, st := s.produceStatus t } := by
  cases ha : t.sys.arm <;>
    simp [State.runUnit, lastPairs_single, h.aligned, h.known, h.notPwm, h.cfg, h.notBelay, h.allowed,
      h.not_mixed, h.not_capture_on_c0, hc, State.commands, hcmd, ha]

end OrdinaryWrite

/-- A write that neither starts an ARM nor resets the module has its outcome recorded at once. -/
theorem State.barWrite_of_runUnit {off : Nat} {v : Word} {u : UnitRes} (hl : s.live = true)
    (hu : s.runUnit .host .host [(off, v)] = u) (hg : u.gone = false) (ha : u.st.sys.arm = s.sys.arm) :
    s.barWrite off v = u.st.wres off u.status := by
  have hw : u.armWaits s = false := by
    rw [UnitRes.armWaits, ha]
    cases s.sys.arm <;> rfl
  simp [State.barWrite, hl, hu, hg, hw]

/-! ### Outcomes -/

/-- The record of an outcome keeps all but the fields of `HST_WRES`. -/
theorem KeepsBut.wres {l : List Fld} (h : KeepsBut l s t) (hl : wresFlds ⊆ l) (off : Nat) (st : Status) :
    KeepsBut l s (t.wres off st) := by
  have k := (h.setF R.HST_WRES_STATUS (hl (by decide)) (by decide) st.code).setF R.HST_WRES_OFS (hl (by decide)) (by decide) off
  rw [State.wres]
  split
  · exact k
  · exact k.setF R.HST_WRES_CNT (hl (by decide)) (by decide) _

/-- The record of a refusal keeps all but the fields it writes. -/
theorem KeepsBut.refuse {l : List Fld} (h : KeepsBut l s t) (hl : [R.SYS_OWN_LAST_RESID, R.SYS_OWN_LAST_OWNER,
    R.SYS_OWN_LASTC_CLAIM, R.SYS_OWN_LASTC_RESTORE, R.SYS_OWN_LASTC_COUNT] ⊆ l) (c : Conflict) (restore : Bool) :
    KeepsBut l s (t.refuse c restore) :=
  ((((h.setF _ (hl (by simp)) (by decide) _).setF _ (hl (by simp)) (by decide) _).setF _ (hl (by simp)) (by decide) _).setF _
    (hl (by simp)) (by decide) _).setF _ (hl (by simp)) (by decide) _

theorem State.refuse_within {p : Nat → Prop} (c : Conflict) (restore : Bool) (h84 : p 0x84) (h88 : p 0x88) (h : Within p s t) :
    Within p s (t.refuse c restore) :=
  ((((h.setF _ _ h84).setF _ _ h84).setF _ _ h88).setF _ _ h88).count _ _ h88

theorem State.reg_refuse_ne (c : Conflict) (restore : Bool) {o : Nat} (h84 : o ≠ 0x84) (h88 : o ≠ 0x88) :
    (s.refuse c restore).reg o = s.reg o :=
  (State.refuse_within (p := fun o => o = 0x84 ∨ o = 0x88) c restore (.inl rfl) (.inr rfl) (Within.refl _ s)).reg o
    (by simp [h84, h88])

theorem State.reg_wres_ne (off : Nat) (st : Status) {o : Nat} (h : o ≠ 0x11000) : (s.wres off st).reg o = s.reg o :=
  (State.wres_within (p := (· = 0x11000)) off st rfl (Within.refl _ s)).reg o h

@[simp] theorem State.wres_sys (off : Nat) (st : Status) : (s.wres off st).sys = s.sys := by
  rw [State.wres]
  split <;> rfl

@[simp] theorem State.wres_hst (off : Nat) (st : Status) : (s.wres off st).hst = s.hst := by
  rw [State.wres]
  split <;> rfl

/-- An outcome recorded in a state that shows `HST_WRES` as before. -/
theorem State.wres_recorded_of_reg {off : Nat} (st : Status) (h : off < 2 ^ 20) (hr : t.reg 0x11000 = s.reg 0x11000) :
    Recorded off st s (t.wres off st) := by
  have k := State.wres_recorded (s := t) off st h
  have hc : t.f R.HST_WRES_CNT = s.f R.HST_WRES_CNT := congrArg R.HST_WRES_CNT.get hr
  exact ⟨k.status, k.ofs, hc ▸ k.cnt⟩

/-- A REGISTER_WRITE answers the state its write leaves. -/
theorem registerWrite_answers {off : Nat} {v : Word} {P : State → Prop} (hl : s.live = true) (h : P (s.barWrite off v)) :
    Answers (.registerWrite off v) s P :=
  ⟨_, congrArg Host.Outcome.next (s.onMain_of_live hl _), h⟩

/-- A write that is no unit of writes records FORMAT and nothing else. -/
theorem registerWrite_format_answers {off : Nat} (hl : s.live = true) (ho : off < 2 ^ 20)
    (h : off % 4 ≠ 0 ∨ RegMap.find off = none) (v : Word) : Answers (.registerWrite off v) s fun t =>
      Recorded off .format s t ∧ t.sys = s.sys ∧ KeepsBut wresFlds s t := by
  refine registerWrite_answers hl ?_
  rw [State.barWrite_of_runUnit hl (State.runUnit_format h v) rfl rfl]
  exact ⟨State.wres_recorded off .format ho, State.wres_sys off .format,
    (KeepsBut.refl wresFlds s).wres (List.Subset.refl _) off .format⟩

theorem State.commitTo_error {c : Conflict} (h : commitMap s t = .error c) (ws : List Nat) : s.commitTo t ws = .error c := by
  rw [State.commitTo, h]

/-- What the record of a refusal shows. -/
theorem State.refuse_shows (c : Conflict) (restore : Bool) :
    (s.refuse c restore).f R.SYS_OWN_LAST_RESID = c.res % 2 ^ R.SYS_OWN_LAST_RESID.w ∧
      (s.refuse c restore).f R.SYS_OWN_LAST_OWNER = c.holder % 2 ^ R.SYS_OWN_LAST_OWNER.w ∧
      (s.refuse c restore).f R.SYS_OWN_LASTC_CLAIM = c.claimer % 2 ^ R.SYS_OWN_LASTC_CLAIM.w ∧
      (s.refuse c restore).f R.SYS_OWN_LASTC_RESTORE = bit restore := by
  have hb : bit restore % 2 = bit restore := by cases restore <;> rfl
  simp only [State.refuse, State.count]
  refine ⟨?_, ?_, ?_, ?_⟩
  · iterate 4 rw [State.f_setF_ne _ _ (by decide) (by decide)]
    exact State.f_setF_self _ (by decide) _
  · iterate 3 rw [State.f_setF_ne _ _ (by decide) (by decide)]
    exact State.f_setF_self _ (by decide) _
  · iterate 2 rw [State.f_setF_ne _ _ (by decide) (by decide)]
    exact State.f_setF_self _ (by decide) _
  · rw [State.f_setF_ne _ _ (by decide) (by decide)]
    exact (State.f_setF_self _ (by decide) _).trans hb

/-- A refused write records CONFLICT and the refusal, and nothing else. -/
theorem OrdinaryWrite.conflict_answers {off : Nat} {v : Word} (h : OrdinaryWrite s off v) (hl : s.live = true) {c : Conflict}
    (hc : commitMap s (s.writeCfg [(0, off, v)]) = .error c) : Answers (.registerWrite off v) s fun t =>
      Recorded off .conflict s t ∧ t.sys = s.sys ∧ t.f R.SYS_OWN_LAST_RESID = c.res % 2 ^ R.SYS_OWN_LAST_RESID.w ∧
        t.f R.SYS_OWN_LAST_OWNER = c.holder % 2 ^ R.SYS_OWN_LAST_OWNER.w ∧
        t.f R.SYS_OWN_LASTC_CLAIM = c.claimer % 2 ^ R.SYS_OWN_LASTC_CLAIM.w ∧ t.f R.SYS_OWN_LASTC_RESTORE = 0 ∧
        KeepsBut (wresFlds ++ [R.SYS_OWN_LAST_RESID, R.SYS_OWN_LAST_OWNER, R.SYS_OWN_LASTC_CLAIM, R.SYS_OWN_LASTC_RESTORE,
          R.SYS_OWN_LASTC_COUNT]) s t := by
  obtain ⟨i, hu⟩ := h.runUnit_conflict (State.commitTo_error hc [off])
  have ho : off < 2 ^ 20 := (RegMap.lt_of_find_ne_none h.known).trans (by decide)
  obtain ⟨hres, howner, hclaim, hrestore⟩ := State.refuse_shows (s := s) c false
  have hf (x : Fld) (hx : x.off ≠ 0x11000) : ((s.refuse c false).wres off .conflict).f x = (s.refuse c false).f x :=
    congrArg x.get (State.reg_wres_ne off .conflict hx)
  refine registerWrite_answers hl ?_
  rw [State.barWrite_of_runUnit hl hu rfl rfl]
  refine ⟨State.wres_recorded_of_reg .conflict ho (State.reg_refuse_ne c false (by decide) (by decide)),
    State.wres_sys off .conflict, ?_, ?_, ?_, ?_, ?_⟩
  · exact (hf _ (by decide)).trans hres
  · exact (hf _ (by decide)).trans howner
  · exact (hf _ (by decide)).trans hclaim
  · exact (hf _ (by decide)).trans hrestore
  · exact ((KeepsBut.refl _ s).refuse (List.subset_append_right _ _) c false).wres (List.subset_append_left _ _) off .conflict

/-! ### Commits that change no claim -/

/-- Two states with the same fields that claims rest on: all but those of the host interface below its capture windows and above
them. -/
structure SameClaims (s t : State) : Prop where
  reg : ∀ o, o < 0x11000 ∨ 0x11400 ≤ o ∧ o < 0x11500 → t.reg o = s.reg o
  cairn : t.pwm.cairn = s.pwm.cairn

theorem flatMap_filter_range_congr {α : Type} {n : Nat} {p q : Nat → Bool} {c d : Nat → List α} (hp : ∀ i < n, p i = q i)
    (hc : ∀ i < n, c i = d i) : ((List.range n).filter p).flatMap c = ((List.range n).filter q).flatMap d := by
  rw [List.filter_congr fun i hi => hp i (List.mem_range.1 hi)]
  exact List.flatMap_congr fun i hi => hc i (List.mem_range.1 (List.mem_of_mem_filter hi))

namespace SameClaims

theorem f (h : SameClaims s t) (x : Fld) (hx : x.off < 0x11000 ∨ 0x11400 ≤ x.off ∧ x.off < 0x11500) : t.f x = s.f x :=
  congrArg x.get (h.reg x.off hx)

theorem on (h : SameClaims s t) (x : Fld) (hx : x.off < 0x11000 ∨ 0x11400 ≤ x.off ∧ x.off < 0x11500) : t.on x = s.on x := by
  rw [State.on, h.f x hx, State.on]

theorem pwmC (h : SameClaims s t) (x : Fld) : t.pwmC x = s.pwmC x := by rw [State.pwmC, h.cairn, State.pwmC]

theorem atcOwner (h : SameClaims s t) {n : Nat} (hn : n < 16) : t.atcOwner n = s.atcOwner n := by
  have hfn := h.f (R.ATC_CFG_FN n) (.inl (by simp only [R.ATC_CFG_FN]; omega))
  have htgt := h.f (R.ATC_CFG_TGT n) (.inl (by simp only [R.ATC_CFG_TGT]; omega))
  have hlt : s.f (R.ATC_CFG_TGT n) < 2 ^ 4 := Fld.get_lt ..
  have hseq := h.f (R.ADC_TRIG_SEQ (s.f (R.ATC_CFG_TGT n))) (.inl (by simp only [R.ADC_TRIG_SEQ]; omega))
  simp only [State.atcOwner, hfn, htgt, hseq]

/-- The claims of the features that are enabled by one field each. -/
theorem sel_on (h : SameClaims s t) {n : Nat} {x : Nat → Fld} {c : Nat → List Claim}
    (hx : ∀ i < n, (x i).off < 0x11000 ∨ 0x11400 ≤ (x i).off ∧ (x i).off < 0x11500) :
    ((List.range n).filter fun i => t.on (x i)).flatMap c = ((List.range n).filter fun i => s.on (x i)).flatMap c :=
  flatMap_filter_range_congr (fun i hi => h.on _ (hx i hi)) fun _ _ => rfl

/-- The claims are the same, feature by feature. -/
theorem claims (h : SameClaims s t) : t.claims = s.claims := by
  unfold State.claims
  dsimp only
  repeat' apply congrArg₂ HAppend.hAppend
  · exact h.sel_on fun n hn => .inl (by simp only [R.CLK_CKO_EN]; omega)
  · simp only [h.pwmC]
  · simp only [h.pwmC]
  · exact flatMap_filter_range_congr (fun n hn => by rw [h.f _ (.inl (by simp only [R.TIM_PTC_CFG_MODE]; omega))])
      fun n hn => by rw [h.f _ (.inl (by simp only [R.TIM_PTC_CFG_TGT]; omega))]
  · exact flatMap_filter_range_congr (fun n hn => by rw [h.f _ (.inl (by simp only [R.ATC_CFG_FN]; omega))])
      fun n hn => by rw [h.atcOwner hn]
  · exact h.sel_on fun n hn => .inl (by simp only [R.TRP_GRP_CFG_EN]; omega)
  · exact h.sel_on fun n hn => .inl (by simp only [R.TRP_SRC_CFG_EN]; omega)
  · exact h.sel_on fun n hn => .inl (by simp only [R.TRP_SRC_CFG_EN]; omega)
  · exact h.sel_on fun n hn => .inl (by simp only [R.CMP_CFG_EN]; omega)
  · exact h.sel_on fun n hn => .inl (by simp only [R.CMP_OUT_CFG_EN]; omega)
  · rw [h.on _ (.inl (by decide)), h.f _ (.inl (by decide))]
  · rw [h.on _ (.inl (by decide)), h.f _ (.inl (by decide))]
  · rw [h.f R.ADC_MON_CFG_MODE (.inl (by decide)), h.f R.ADC_MON_CFG_BUF (.inl (by decide)),
      h.f R.ADC_MON_CFG_LAST (.inl (by decide))]
  · exact h.sel_on fun n hn => .inr (by simp only [R.HST_CAP_CFG_EN]; omega)
  · rw [h.f _ (.inl (by decide))]
  · exact h.sel_on fun n hn => .inl (by simp only [R.MTR_PIN_EN]; omega)
  · exact flatMap_filter_range_congr (fun n hn => by rw [h.f _ (.inl (by simp only [R.SAF_IN_MODE]; omega))]) fun _ _ => rfl

theorem ptcTargets (h : SameClaims s t) {n : Nat} (hn : n < 16) : ptcTargets t n = ptcTargets s n := by
  rw [Machine.ptcTargets, h.f _ (.inl (by simp only [R.TIM_PTC_CFG_MODE]; omega)),
    h.f _ (.inl (by simp only [R.TIM_PTC_CFG_TGT]; omega)), h.f _ (.inl (by simp only [R.TIM_PTC_CFG_GRP]; omega)),
    Machine.ptcTargets]

/-- No PTC newly names a target. -/
theorem ptcConflicts (h : SameClaims s t) : ptcConflicts s t = [] := by
  refine List.flatMap_eq_nil_iff.2 fun b _ => ?_
  have hnames : ((List.range 16).filter fun n => (Machine.ptcTargets t n).testBit b) =
      (List.range 16).filter fun n => (Machine.ptcTargets s n).testBit b :=
    List.filter_congr fun n hn => by rw [h.ptcTargets (List.mem_range.1 hn)]
  have hold : ((List.range 16).filter fun n => (Machine.ptcTargets s n).testBit b).filter
      (fun n => (Machine.ptcTargets s n).testBit b) = (List.range 16).filter fun n => (Machine.ptcTargets s n).testBit b :=
    List.filter_eq_self.2 fun n hn => (List.mem_filter.1 hn).2
  dsimp only
  rw [hnames, hold]
  split
  · rfl
  · rw [List.filter_eq_nil_iff.2, List.map_nil]
    intro n hn
    simp [hn]

/-- No window is newly enabled or moved. -/
theorem winConflicts (h : SameClaims s t) : winConflicts s t = [] := by
  refine List.flatMap_eq_nil_iff.2 fun w hw => List.flatMap_eq_nil_iff.2 fun v _ => if_neg ?_
  have hw := List.mem_range.1 hw
  have hon := h.on (R.HST_CAP_CFG_EN w) (.inr (by simp only [R.HST_CAP_CFG_EN]; omega))
  have hreg := h.reg (0x11400 + 16 * w) (.inr (by omega))
  simp +contextual [hon, hreg]

/-- A commit that changes no claim is not refused. -/
theorem commitMap_ok (h : SameClaims s t) : ∃ own, commitMap s t = .ok own := by
  have hold : (s.claims.filter fun c => !s.claims.contains c) = [] := List.filter_eq_nil_iff.2 fun c hc => by simp [hc]
  simp only [commitMap, h.claims, h.ptcConflicts, h.winConflicts, hold]
  exact ⟨_, rfl⟩

end SameClaims

/-! ### A commit of one register of the `HST_` page -/

/-- The registers that show what a commit of the `HST_` page leads to, beside the outcome: those without a field that a commit
writes, on the page itself, in `SYS_STATE` and in `BVQ_CAIRN`. -/
def hstShown (o : Nat) : Prop := (inPage 0x11 o ∧ o ≠ 0x11000 ∨ o = 0x100 ∨ o = 0x10060) ∧ accMask Acc.cfg o = 0

/-- What a commit of one register of the `HST_` page does to the rings, the event ring and the capture windows: all that
`settle` does there but the release of a hold. -/
def State.hostCommit (s t : State) (off : Nat) : State :=
  let t := if 0x11100 ≤ off ∧ off < 0x11300 then t.each (List.range 16) fun r t =>
      if s.on (R.HST_RING_CFG_EN r) = t.on (R.HST_RING_CFG_EN r) then t else t.showRing r
    else t
  let t := if off = 0x11308 ∧ s.on R.HST_EVR_CFG_EN = true ∧ t.on R.HST_EVR_CFG_EN = false then t.evrOff else t
  if 0x11400 ≤ off ∧ off < 0x11500 then t.each (List.range 16) fun w t => s.capCommit t w else t

/-- A commit that writes no grid register leaves the grid supervisor alone. -/
theorem State.gridCommit_hst {off : Nat} (h : inPage 0x11 off) (hr : t.reg 0xB050 = s.reg 0xB050) : s.gridCommit t [off] = t := by
  rw [inPage] at h
  have ho : ¬ (0xB000 ≤ off ∧ off < 0xC000) := by omega
  simp [State.gridCommit, ho, hr, State.each]

theorem State.settle_hst {off : Nat} (h : inPage 0x11 off) (ha : off % 4 = 0) (hr : t.reg 0xB050 = s.reg 0xB050) :
    s.settle t [off] = (s.hostCommit t off).releaseHold := by
  have hg := State.gridCommit_hst h hr
  rw [inPage] at h
  have hit {lo hi : Nat} (hh : hi ≤ 0x11000) : ¬ (lo ≤ off ∧ off < hi) := by omega
  have he : (0x11308 ≤ off ∧ off < 0x1130C) ↔ off = 0x11308 := by omega
  simp [State.settle, State.hostCommit, hit, hg, he, and_assoc]

theorem hstShown_err : hstShown 0x11004 := ⟨.inl ⟨rfl, by decide⟩, by decide⟩

theorem hstShown_evrOff : hstShown 0x11310 := ⟨.inl ⟨rfl, by decide⟩, by decide⟩

theorem hstShown_ringStat {r : Nat} (h : r < 16) : hstShown (0x11114 + 32 * r) := by
  have hm : ∀ r < 16, accMask Acc.cfg (0x11114 + 32 * r) = 0 := by decide
  refine ⟨.inl ⟨?_, by omega⟩, hm r h⟩
  rw [inPage]
  omega

theorem hstShown_capStat {w : Nat} (h : w < 16) : hstShown (0x1140C + 16 * w) := by
  have hm : ∀ w < 16, accMask Acc.cfg (0x1140C + 16 * w) = 0 := by decide
  refine ⟨.inl ⟨?_, by omega⟩, hm w h⟩
  rw [inPage]
  omega

theorem hstShown_of_hold_or_cairn {o : Nat} (h : o = 0x100 ∨ o = 0x10060) : hstShown o := by
  refine ⟨.inr h, ?_⟩
  rcases h with rfl | rfl <;> decide

theorem State.showRing_within {p : Nat → Prop} {r : Nat} (hr : p (0x11114 + 32 * r)) (he : p 0x11004) (h : Within p s t) :
    Within p s (t.showRing r) :=
  ((h.setF (R.HST_RING_STAT_INFL r) _ hr).setF (R.HST_RING_STAT_IDLE r) _ hr).setF R.HST_ERR_INFL _ he

theorem State.evrOff_within {p : Nat → Prop} (ho : p 0x11310) (h : Within p s t) : Within p s t.evrOff :=
  Within.count R.HST_EVR_OFF_CNT _ ho (.same h rfl rfl rfl rfl rfl rfl rfl)

theorem State.setWin_within {p : Nat → Prop} (w : Nat) (c : WinSt) (h : Within p s t) : Within p s (t.setWin w c) :=
  .same h rfl rfl rfl rfl rfl rfl rfl

theorem State.winArm_within {p : Nat → Prop} {w : Nat} (hw : p (0x1140C + 16 * w)) (h : Within p s t) : Within p s (t.winArm w) :=
  State.setWin_within w {}
    (((h.setF (R.HST_CAP_STAT_LOST w) 0 hw).setF (R.HST_CAP_STAT_WRAP w) 0 hw).setF (R.HST_CAP_STAT_ST w) 1 hw)

theorem State.capCommit_within {p : Nat → Prop} {w : Nat} (hw : p (0x1140C + 16 * w)) (h : Within p s t) :
    Within p s (u.capCommit t w) := by
  have hoff : Within p s ((t.setF (R.HST_CAP_STAT_ST w) 0).setWin w {}) :=
    State.setWin_within w {} (h.setF (R.HST_CAP_STAT_ST w) 0 hw)
  unfold State.capCommit
  split
  · exact (State.winArm_within hw h).ite hoff
  · exact hoff
  · exact h

/-- What a commit of the `HST_` page does to its blocks writes registers that show it, and nothing of the memories. -/
theorem State.hostCommit_within (s t : State) (off : Nat) : Within hstShown t (s.hostCommit t off) := by
  unfold State.hostCommit
  extract_lets v w
  have hv : Within hstShown t v := .ite (.each (.refl _ t) fun r hr u hu =>
    .ite hu (State.showRing_within (hstShown_ringStat (List.mem_range.1 hr)) hstShown_err hu)) (.refl _ t)
  have hw : Within hstShown t w := .ite (State.evrOff_within hstShown_evrOff hv) hv
  exact .ite (hw.each fun i hi x hx => State.capCommit_within (hstShown_capStat (List.mem_range.1 hi)) hx) hw

theorem State.releaseHold_within {p : Nat → Prop} (hp : p 0x100) (h : Within p s t) : Within p s t.releaseHold :=
  Within.ite (Within.setF R.SYS_STATE_HOLDSB 0 hp (.same h rfl rfl rfl rfl rfl rfl rfl)) h

theorem State.releaseHold_hst (s : State) : s.releaseHold.hst = s.hst := by
  rw [State.releaseHold]
  split <;> rfl

theorem State.releaseHold_arm (s : State) : s.releaseHold.sys.arm = s.sys.arm := by
  rw [State.releaseHold]
  split <;> rfl

theorem State.cairnTouch_hst (s : State) : s.cairnTouch.hst = s.hst := by
  unfold State.cairnTouch
  dsimp only
  split
  · rfl
  · split <;> rfl

theorem State.cairnTouch_sys (s : State) : s.cairnTouch.sys = s.sys := by
  unfold State.cairnTouch
  dsimp only
  split
  · rfl
  · split <;> rfl

theorem State.capCommit_sys (s t : State) (w : Nat) : (s.capCommit t w).sys = t.sys := by
  unfold State.capCommit
  split
  · split <;> rfl
  · rfl
  · rfl

theorem State.hostCommit_sys (s t : State) (off : Nat) : (s.hostCommit t off).sys = t.sys := by
  unfold State.hostCommit
  extract_lets v w
  have hv : v.sys = t.sys := by
    dsimp only [v]
    split
    · exact State.each_ind (P := fun u => u.sys = t.sys) rfl fun r _ u hu => by split <;> exact hu
    · rfl
  have hw : w.sys = t.sys := by
    dsimp only [w]
    split <;> exact hv
  split
  · exact State.each_ind (P := fun u => u.sys = t.sys) hw fun i _ u hu => (State.capCommit_sys s u i).trans hu
  · exact hw

/-- The registers that the mixed-signal die shows stay: nothing is produced at crossing 7. -/
theorem State.produceStatus_of_reg (h : ∀ o ∈ status7, t.reg o = s.reg o) : s.produceStatus t = t := by
  have hs : t.statusNow = s.statusNow := List.map_congr_left fun o ho => by rw [h o ho]
  rw [State.produceStatus, if_pos hs]

/-- The word of an ordinary write of one register stands, and its claims are recorded. -/
def State.claimed (s : State) (off : Nat) (v : Word) (own : Tab Nat) : State :=
  { s.setReg off (s.written Acc.cfg off v) with sys := { s.sys with own := own } }

/-- What follows the block's own part of a commit of the `HST_` page: `SYS_STATE` and `BVQ_CAIRN` at most, and neither an ARM nor
the host interface. -/
structure Follows (s t : State) : Prop extends Within (fun o => o = 0x100 ∨ o = 0x10060) s t where
  hst : t.hst = s.hst
  arm : t.sys.arm = s.sys.arm

theorem State.releaseHold_follows (s : State) : Follows s s.releaseHold :=
  ⟨State.releaseHold_within (.inl rfl) (.refl _ s), s.releaseHold_hst, s.releaseHold_arm⟩

theorem State.cairnTouch_follows (h : Follows s t) : Follows s t.cairnTouch :=
  ⟨State.cairnTouch_within (.inr rfl) h.toWithin, t.cairnTouch_hst.trans h.hst,
    (congrArg SysSt.arm t.cairnTouch_sys).trans h.arm⟩

/-- With what follows, a commit of the `HST_` page writes no more than the registers that show it. -/
theorem Follows.within_hostCommit {off : Nat} (h : Follows (s.hostCommit t off) u) : Within hstShown t u :=
  (s.hostCommit_within t off).trans (h.toWithin.mono fun _ => hstShown_of_hold_or_cairn)

/-- A commit that is not refused records its claims and takes effect; a change of a retained field touches the Cairn image. -/
theorem State.commitTo_ok {own : Tab Nat} (h : commitMap s t = .ok own) (ws : List Nat) :
    ∃ x, x = s.settle (({ t with sys := { t.sys with own := own } } : State).each ws fun o t => t.carryWrite o (t.reg o)) ws ∧
      (s.commitTo t ws = .ok x ∨ s.commitTo t ws = .ok x.cairnTouch) := by
  refine ⟨_, rfl, ?_⟩
  rw [State.commitTo, h]
  dsimp only
  split
  · exact .inr rfl
  · exact .inl rfl

/-- No mailbox carries a write of the `HST_` page. -/
theorem State.carryWrite_hst {off : Nat} (h : inPage 0x11 off) (v : Word) : s.carryWrite off v = s := by
  rw [inPage] at h
  have hx : accessX off = none := by simp [accessX, h]
  rw [State.carryWrite, hx]

/-- What crossing 7 shows is neither on the `HST_` page nor among what a write of that page leads to. -/
theorem not_hstShown_of_status7 {o : Nat} (h : o ∈ status7) : ¬ hstShown o ∧ ¬ inPage 0x11 o := by
  have hn : ∀ o ∈ status7, o / 0x1000 ≠ 0x11 ∧ o ≠ 0x100 ∧ o ≠ 0x10060 := by decide
  obtain ⟨hpage, hstate, hcairn⟩ := hn o h
  refine ⟨?_, hpage⟩
  rintro ⟨⟨hp, _⟩ | ho | ho, _⟩
  · exact hpage hp
  · exact hstate ho
  · exact hcairn ho

theorem not_hstShown_wres : ¬ hstShown 0x11000 := by
  rintro ⟨⟨_, hne⟩ | h | h, _⟩
  · exact hne rfl
  · exact absurd h (by decide)
  · exact absurd h (by decide)

theorem page_of_hstShown {o : Nat} (h : hstShown o) : inPage 0x11 o ∨ inPage 0 o ∨ inPage 0x10 o := by
  rcases h.1 with ⟨hp, _⟩ | rfl | rfl
  · exact .inl hp
  · exact .inr (.inl rfl)
  · exact .inr (.inr rfl)

namespace OrdinaryWrite

variable {off : Nat} {v : Word} {own : Tab Nat}

/-- The commit of a register of the `HST_` page. -/
theorem commitTo_hst (h : OrdinaryWrite s off v) (hp : inPage 0x11 off) (hc : commitMap s (s.writeCfg [(0, off, v)]) = .ok own) :
    ∃ u, s.commitTo (s.writeCfg [(0, off, v)]) [off] = .ok u ∧ Follows (s.hostCommit (s.claimed off v own) off) u := by
  have hr : (s.claimed off v own).reg 0xB050 = s.reg 0xB050 := State.reg_setReg_ne _ (by rw [inPage] at hp; omega)
  obtain ⟨x, hx, ho⟩ := State.commitTo_ok hc [off]
  have hx : x = (s.hostCommit (s.claimed off v own) off).releaseHold := by
    rw [hx, State.writeCfg_hst hp, ← State.settle_hst hp h.aligned hr]
    exact congrArg (s.settle · [off]) (State.carryWrite_hst hp _)
  have hf := (s.hostCommit (s.claimed off v own) off).releaseHold_follows
  rw [← hx] at hf
  rcases ho with ho | ho
  · exact ⟨x, ho, hf⟩
  · exact ⟨_, ho, State.cairnTouch_follows hf⟩

/-- What a write of a register of the `HST_` page does: the word, the part of its block, what follows, and the outcome. -/
theorem barWrite_hst (h : OrdinaryWrite s off v) (hl : s.live = true) (hp : inPage 0x11 off) (hcmd : accMask Acc.cmd off = 0)
    (hc : commitMap s (s.writeCfg [(0, off, v)]) = .ok own) :
    ∃ u, s.barWrite off v = u.wres off .done ∧ Follows (s.hostCommit (s.claimed off v own) off) u := by
  obtain ⟨u, hu, hf⟩ := h.commitTo_hst hp hc
  have hs : s.produceStatus u = u := by
    refine State.produceStatus_of_reg fun o ho => ?_
    obtain ⟨hshown, hpage⟩ := not_hstShown_of_status7 ho
    exact (hf.within_hostCommit.reg o hshown).trans (State.reg_setReg_ne _ fun e => hpage (e ▸ hp))
  have hrun := h.runUnit_done hcmd hu
  rw [hs] at hrun
  have harm : u.sys.arm = s.sys.arm := calc
    u.sys.arm = (s.hostCommit (s.claimed off v own) off).sys.arm := hf.arm
    _ = (s.claimed off v own).sys.arm := by rw [State.hostCommit_sys]
    _ = s.sys.arm := rfl
  exact ⟨u, State.barWrite_of_runUnit hl hrun rfl harm, hf⟩

end OrdinaryWrite

/-- The outcome of a write of the `HST_` page that is committed. -/
structure PageWritten (off : Nat) (v : Word) (s t : State) : Prop where
  word : t.reg off = s.written Acc.cfg off v
  recorded : Recorded off .done s t
  keeps : KeepsOut (fun o => inPage 0x11 o ∨ inPage 0 o ∨ inPage 0x10 o) s t

namespace OrdinaryWrite

variable {off : Nat} {v : Word} {own : Tab Nat}

theorem pageWritten (h : OrdinaryWrite s off v) (hp : inPage 0x11 off)
    (hf : Follows (s.hostCommit (s.claimed off v own) off) u) : PageWritten off v s (u.wres off .done) := by
  have ho : off < 2 ^ 20 := (RegMap.lt_of_find_ne_none h.known).trans (by decide)
  have hw := hf.within_hostCommit
  have hne : off ≠ 0x11000 := by
    rintro rfl
    exact h.cfg (by decide)
  have hreg : (s.claimed off v own).reg off = s.written Acc.cfg off v := State.reg_setReg_self off _
  have hkeep : Within (fun o => inPage 0x11 o ∨ inPage 0 o ∨ inPage 0x10 o) s (s.claimed off v own) :=
    .same ((Within.refl _ s).setReg off (s.written Acc.cfg off v) (.inl hp)) rfl rfl rfl rfl rfl rfl rfl
  refine ⟨?_, ?_, ?_⟩
  · exact (State.reg_wres_ne off .done hne).trans ((hw.reg off fun hs => h.cfg hs.2).trans hreg)
  · exact State.wres_recorded_of_reg .done ho ((hw.reg _ not_hstShown_wres).trans (State.reg_setReg_ne _ hne.symm))
  · exact (State.wres_within off .done (.inl rfl) (hkeep.trans (hw.mono fun _ => page_of_hstShown))).keepsOut

/-- A committed write of the `HST_` page. -/
theorem page_answers (h : OrdinaryWrite s off v) (hl : s.live = true) (hp : inPage 0x11 off) (hcmd : accMask Acc.cmd off = 0)
    (hc : commitMap s (s.writeCfg [(0, off, v)]) = .ok own) : Answers (.registerWrite off v) s fun t =>
      t.reg off &&& accMask Acc.cfg off = s.written Acc.cfg off v &&& accMask Acc.cfg off ∧ Recorded off .done s t ∧
        KeepsOut (fun o => inPage 0x11 o ∨ inPage 0 o ∨ inPage 0x10 o) s t := by
  obtain ⟨u, hu, hf⟩ := h.barWrite_hst hl hp hcmd hc
  obtain ⟨hword, hrec, hkeep⟩ := h.pageWritten hp hf
  refine registerWrite_answers hl ?_
  rw [hu, hword]
  exact ⟨rfl, hrec, hkeep⟩

/-- A write of a register of the `HST_` page is ordinary when the present configuration allows it. -/
theorem of_hst (ha : off % 4 = 0) (hp : inPage 0x11 off) (hcfg : accMask Acc.cfg off ≠ 0)
    (hs : s.stateBad (s.writeCfg [(0, off, v)]) [off] = false) : OrdinaryWrite s off v :=
  ⟨ha, RegMap.find_ne_none_of_accMask hcfg, isPwmReg_hst hp, hcfg, State.isBelayWrite_hst hp v, hs⟩

end OrdinaryWrite

/-! ### Writes of the `HST_` page that nothing refuses -/

/-- What R573 and R588 ask of a write of the `HST_` page: no setup of an enabled ring changes, and only a C8 part has capture
windows. -/
theorem State.stateBad_hst {off : Nat} (h : inPage 0x11 off) (hcap : off < 0x11400 ∨ 0x11500 ≤ off)
    (hring : ∀ r < 16, s.f (R.HST_RING_CFG_EN r) ≠ 0 →
      (∀ i < 4, t.reg (0x11100 + 32 * r + 4 * i) = s.reg (0x11100 + 32 * r + 4 * i)) ∧
        t.f (R.HST_RING_CFG_LOG2SZ r) = s.f (R.HST_RING_CFG_LOG2SZ r)) :
    s.stateBad t [off] = false := by
  rw [inPage] at h
  have hit {lo hi : Nat} (hh : hi ≤ 0x11000) : ¬ (lo ≤ off ∧ off < hi) := by omega
  have hc : ¬ (0x11400 ≤ off ∧ off < 0x11500) := by omega
  have hring (r : Nat) (hr : r < 16) (hen : ¬ s.f (R.HST_RING_CFG_EN r) = 0) :
      (∀ i < 4, s.reg (0x11100 + 32 * r + 4 * i) = t.reg (0x11100 + 32 * r + 4 * i)) ∧
        s.f (R.HST_RING_CFG_LOG2SZ r) = t.f (R.HST_RING_CFG_LOG2SZ r) := by
    obtain ⟨hregs, hsize⟩ := hring r hr hen
    exact ⟨fun i hi => (hregs i hi).symm, hsize.symm⟩
  simpa [State.stateBad, hit, hc, State.on] using fun _ _ => hring

/-- A register of the `HST_` page that sets up no capture window makes no claim. -/
theorem State.sameClaims_setReg {off : Nat} (hp : inPage 0x11 off) (hcap : off < 0x11400 ∨ 0x11500 ≤ off) (w : Word) :
    SameClaims s (s.setReg off w) := by
  rw [inPage] at hp
  exact ⟨fun o ho => State.reg_setReg_ne w (by omega), rfl⟩

theorem State.commitMap_hst {off : Nat} (hp : inPage 0x11 off) (hcap : off < 0x11400 ∨ 0x11500 ≤ off) (v : Word) :
    ∃ own, commitMap s (s.writeCfg [(0, off, v)]) = .ok own := by
  rw [State.writeCfg_hst hp]
  exact (State.sameClaims_setReg hp hcap _).commitMap_ok

/-- A write beside the setup of enabled rings and of capture windows is ordinary. -/
theorem OrdinaryWrite.of_hst_apart {off : Nat} (v : Word) (ha : off % 4 = 0) (hp : inPage 0x11 off)
    (hcap : off < 0x11400 ∨ 0x11500 ≤ off) (hcfg : accMask Acc.cfg off ≠ 0)
    (hring : ∀ r < 16, 0x11100 + 32 * r ≤ off → off < 0x11120 + 32 * r → s.f (R.HST_RING_CFG_EN r) = 0) :
    OrdinaryWrite s off v := by
  refine .of_hst ha hp hcfg (State.stateBad_hst hp hcap fun r hr hen => ?_)
  have hne : ¬ (0x11100 + 32 * r ≤ off ∧ off < 0x11120 + 32 * r) := fun h => hen (hring r hr h.1 h.2)
  rw [State.writeCfg_hst hp]
  refine ⟨fun i hi => State.reg_setReg_ne _ (by omega), ?_⟩
  exact congrArg (R.HST_RING_CFG_LOG2SZ r).get (State.reg_setReg_ne _ (by simp only [R.HST_RING_CFG_LOG2SZ]; omega))

/-! ### The enable of the event ring -/

/-- A write of `HST_EVR_CFG` leaves `EN` as the word has it. -/
theorem State.written_evrCfg_en (v : Word) : R.HST_EVR_CFG_EN.get (s.written Acc.cfg 0x11308 v) = R.HST_EVR_CFG_EN.get v := by
  have hfind : RegMap.find 0x11308 = some ⟨0x11308, 0, 1, [⟨0, 1, .rw, 0, []⟩, ⟨1, 4, .rw, 4, [(0, 3, 4), (13, 15, 12)]⟩,
    ⟨8, 5, .rw, 0, []⟩, ⟨13, 1, .rwc, 1, []⟩]⟩ := rfl
  rw [State.written_of_find hfind fun w => by simp [wordClamp]]
  exact RegSpec.get_write _ R.HST_EVR_CFG_EN [] ⟨0, 1, .rw, 0, []⟩ ⟨rfl, rfl⟩ rfl rfl (by decide) (by decide) rfl

/-- A commit of `HST_EVR_CFG` that clears `EN` turns the event ring off. -/
theorem State.hostCommit_evrOff (hs : s.f R.HST_EVR_CFG_EN ≠ 0) (ht : t.f R.HST_EVR_CFG_EN = 0) :
    s.hostCommit t 0x11308 = t.evrOff := by
  simp [State.hostCommit, State.on, hs, ht]

theorem bit_lt_two (b : Bool) : bit b < 2 := by cases b <;> decide

/-- The word that EVENT_RING_ENABLE writes to `HST_EVR_CFG`. -/
def State.evRingWord (s : State) (en : Bool) : Word := R.HST_EVR_CFG_EN.put (s.reg 0x11308) (bit en)

theorem State.written_evRing (s : State) (en : Bool) :
    R.HST_EVR_CFG_EN.get (s.written Acc.cfg 0x11308 (s.evRingWord en)) = bit en := by
  rw [State.written_evrCfg_en, State.evRingWord, Fld.get_put_self _ (by decide)]
  exact Nat.mod_eq_of_lt (bit_lt_two en)

theorem eventRingEnable_answers (hl : s.live = true) (en : Bool) : Answers (.eventRingEnable en) s fun t =>
    t.f R.HST_EVR_CFG_EN = bit en ∧ Recorded 0x11308 .done s t ∧
      (en = false → s.f R.HST_EVR_CFG_EN = 1 → t.hst.held = [] ∧
        t.f R.HST_EVR_OFF_CNT = min 65535 (s.f R.HST_EVR_OFF_CNT + s.hst.held.length)) ∧ KeepsMem s t := by
  have hv := s.written_evRing en
  have hp : inPage 0x11 0x11308 := rfl
  have h : OrdinaryWrite s 0x11308 (s.evRingWord en) := .of_hst_apart _ (by decide) hp (by decide) (by decide) (by omega)
  obtain ⟨own, hown⟩ := s.commitMap_hst hp (by decide) (s.evRingWord en)
  obtain ⟨u, hu, hf⟩ := h.barWrite_hst hl hp (by decide) hown
  obtain ⟨hword, hrec, hkeep⟩ := h.pageWritten hp hf
  refine ⟨_, congrArg Host.Outcome.next ((s.onMain_of_live hl _).trans hu), ?_, hrec, ?_, hkeep.toKeepsMem⟩
  · exact (congrArg R.HST_EVR_CFG_EN.get hword).trans hv
  · rintro rfl hen
    have hoff : (s.claimed 0x11308 (s.evRingWord false) own).f R.HST_EVR_CFG_EN = 0 :=
      (congrArg R.HST_EVR_CFG_EN.get (State.reg_setReg_self 0x11308 _)).trans hv
    rw [State.hostCommit_evrOff (by omega) hoff] at hf
    refine ⟨?_, ?_⟩
    · rw [State.wres_hst, hf.hst]
      rfl
    · have hreg : (u.wres 0x11308 .done).reg 0x11310 = (s.claimed 0x11308 (s.evRingWord false) own).evrOff.reg 0x11310 :=
        (State.reg_wres_ne _ _ (by decide)).trans (hf.reg _ (by decide))
      refine (congrArg R.HST_EVR_OFF_CNT.get hreg).trans ((State.f_count_self R.HST_EVR_OFF_CNT (by decide) _).trans ?_)
      have hcnt : (s.claimed 0x11308 (s.evRingWord false) own).f R.HST_EVR_OFF_CNT = s.f R.HST_EVR_OFF_CNT :=
        congrArg R.HST_EVR_OFF_CNT.get (State.reg_setReg_ne _ (by decide))
      exact congrArg (fun n => min 65535 (n + s.hst.held.length)) hcnt

/-! ### The disable of a ring -/

/-- What a write of `HST_RING_CFG` leaves in `EN`, and in `LOG2SZ` within its range. -/
theorem State.written_ringCfg {r : Nat} (hr : r < 16) (v : Word) :
    (R.HST_RING_CFG_EN r).get (s.written Acc.cfg (0x11110 + 32 * r) v) = (R.HST_RING_CFG_EN r).get v ∧
      (4 ≤ (R.HST_RING_CFG_LOG2SZ r).get v → (R.HST_RING_CFG_LOG2SZ r).get v ≤ 12 →
        (R.HST_RING_CFG_LOG2SZ r).get (s.written Acc.cfg (0x11110 + 32 * r) v) = (R.HST_RING_CFG_LOG2SZ r).get v) := by
  have hfind : ∀ r < 16, RegMap.find (0x11110 + 32 * r) = some ⟨0x11110, 32, 16, [⟨0, 1, .rw, 0, []⟩,
    ⟨1, 4, .rw, 4, [(0, 3, 4), (13, 15, 12)]⟩, ⟨5, 1, .rw, 0, []⟩, ⟨8, 5, .rw, 0, []⟩]⟩ := by decide
  have hclamp (w : Word) : wordClamp (0x11110 + 32 * r) w = w := by
    have hlo (k : Nat) (hk : k ≤ 0x11110) : ¬ 0x11110 + 32 * r < k := by omega
    have hcap : ¬ 0x11400 ≤ 0x11110 + 32 * r := by omega
    have hmod : (0x11110 + 32 * r) % 32 = 16 := by omega
    have hne (k : Nat) (hk : k < 0x11110 ∨ k % 32 ≠ 16) : ¬ 0x11110 + 32 * r = k := by omega
    simp [wordClamp, hlo, hcap, hmod, hne]
  rw [State.written_of_find (hfind r hr) hclamp]
  refine ⟨?_, fun hlo hhi => ?_⟩
  · exact RegSpec.get_write _ (R.HST_RING_CFG_EN r) [] ⟨0, 1, .rw, 0, []⟩ ⟨rfl, rfl⟩ rfl rfl (by decide) (by decide) rfl
  · have h3 : ¬ (R.HST_RING_CFG_LOG2SZ r).get v ≤ 3 := by omega
    have h13 : ¬ 13 ≤ (R.HST_RING_CFG_LOG2SZ r).get v := by omega
    exact RegSpec.get_write _ (R.HST_RING_CFG_LOG2SZ r) [_] ⟨1, 4, .rw, 4, [(0, 3, 4), (13, 15, 12)]⟩ ⟨rfl, rfl⟩ rfl rfl
      (by decide) (by decide) (by simp [FieldSpec.clamp, List.find?, h3, h13])

/-- Where only one use in a list changes anything, the others before and after it, the list leaves what that one does. -/
theorem State.each_eq_single {l : List Nat} {r : Nat} {g : Nat → State → State} (hl : l.Nodup) (hr : r ∈ l)
    (hs : ∀ i ≠ r, g i s = s) (hg : g r s = t) (ht : ∀ i ≠ r, g i t = t) : s.each l g = t := by
  have fixed {l : List Nat} {x : State} (hx : ∀ i ∈ l, g i x = x) : x.each l g = x :=
    State.each_ind (P := (· = x)) rfl fun i hi u hu => hu ▸ hx i hi
  obtain ⟨l₁, l₂, rfl⟩ := List.mem_iff_append.1 hr
  obtain ⟨_, hl₂, hl₁⟩ := List.nodup_append.1 hl
  have h₁ : s.each l₁ g = s := fixed fun i hi => hs i (hl₁ i hi r (List.mem_cons_self ..))
  have h₂ : t.each l₂ g = t := fixed fun i hi => ht i fun e => (List.nodup_cons.1 hl₂).1 (e ▸ hi)
  calc s.each (l₁ ++ r :: l₂) g = (g r (s.each l₁ g)).each l₂ g := List.foldl_append ..
    _ = t := by rw [h₁, hg, h₂]


theorem State.reg_showRing_cfg (s : State) (r i : Nat) : (s.showRing r).reg (0x11110 + 32 * i) = s.reg (0x11110 + 32 * i) :=
  (State.showRing_within (p := fun o => o = 0x11114 + 32 * r ∨ o = 0x11004) (.inl rfl) (.inr rfl) (Within.refl _ s)).reg _
    (by omega)

/-- A disabled ring with nothing in flight is shown idle. -/
theorem State.showRing_idle {r : Nat} (hen : s.f (R.HST_RING_CFG_EN r) = 0) (hi : (s.ring r).infl = []) :
    (s.showRing r).f (R.HST_RING_STAT_IDLE r) = 1 := by
  have hb : bit (!s.on (R.HST_RING_CFG_EN r) && decide ((s.ring r).infl.length = 0)) = 1 := by simp [State.on, hen, hi, bit]
  rw [State.showRing, hb, State.f_setF_ne _ _ (by decide) (.inl (by simp only [R.HST_RING_STAT_IDLE, R.HST_ERR_INFL]; omega)),
    State.f_setF_self _ (by decide : 31 + 1 ≤ 32)]
  rfl

/-- A commit that disables one ring, and leaves the other rings as they were, shows that ring. -/
theorem State.hostCommit_ringOff {r : Nat} (hr : r < 16) (hs : s.f (R.HST_RING_CFG_EN r) ≠ 0) (ht : t.f (R.HST_RING_CFG_EN r) = 0)
    (hne : ∀ i ≠ r, t.reg (0x11110 + 32 * i) = s.reg (0x11110 + 32 * i)) :
    s.hostCommit t (0x11110 + 32 * r) = t.showRing r := by
  have hon {i : Nat} {x : State} (hx : x.reg (0x11110 + 32 * i) = s.reg (0x11110 + 32 * i)) :
      s.on (R.HST_RING_CFG_EN i) = x.on (R.HST_RING_CFG_EN i) :=
    congrArg (fun w => decide ((R.HST_RING_CFG_EN i).get w ≠ 0)) hx.symm
  have hdiff : ¬ s.on (R.HST_RING_CFG_EN r) = t.on (R.HST_RING_CFG_EN r) := by simp [State.on, hs, ht]
  have heach : (t.each (List.range 16) fun i t =>
      if s.on (R.HST_RING_CFG_EN i) = t.on (R.HST_RING_CFG_EN i) then t else t.showRing i) = t.showRing r :=
    State.each_eq_single List.nodup_range (List.mem_range.2 hr) (fun i hi => if_pos (hon (hne i hi))) (if_neg hdiff)
      fun i hi => if_pos (hon ((t.reg_showRing_cfg r i).trans (hne i hi)))
  have hevr : ¬ 0x11110 + 32 * r = 0x11308 := by omega
  have hcap : ¬ 0x11400 ≤ 0x11110 + 32 * r := by omega
  have hring : 0x11100 ≤ 0x11110 + 32 * r ∧ 0x11110 + 32 * r < 0x11300 := by omega
  rw [State.hostCommit, if_pos hring, heach, if_neg fun h => hcap h.1, if_neg fun h => hevr h.1]

/-- The word that RING_DISABLE writes to `HST_RING_CFG`. -/
def State.ringOffWord (s : State) (r : Nat) : Word := (R.HST_RING_CFG_EN r).put (s.reg (0x11110 + 32 * r)) 0

/-- It clears `EN`, and keeps a ring size within its range. -/
theorem State.written_ringOff {r : Nat} (hr : r < 16) (hlo : 4 ≤ s.f (R.HST_RING_CFG_LOG2SZ r))
    (hhi : s.f (R.HST_RING_CFG_LOG2SZ r) ≤ 12) :
    (R.HST_RING_CFG_EN r).get (s.written Acc.cfg (0x11110 + 32 * r) (s.ringOffWord r)) = 0 ∧
      (R.HST_RING_CFG_LOG2SZ r).get (s.written Acc.cfg (0x11110 + 32 * r) (s.ringOffWord r)) =
        s.f (R.HST_RING_CFG_LOG2SZ r) := by
  have hsize : (R.HST_RING_CFG_LOG2SZ r).get (s.ringOffWord r) =
      s.f (R.HST_RING_CFG_LOG2SZ r) :=
    Fld.get_put_apart (R.HST_RING_CFG_EN r) (R.HST_RING_CFG_LOG2SZ r) (by decide : 0 + 1 ≤ 32)
      (.inr (by decide : 0 + 1 ≤ 1)) _ _
  obtain ⟨hen, hlog⟩ := State.written_ringCfg (s := s) hr (s.ringOffWord r)
  rw [hsize] at hlog
  exact ⟨hen.trans (Fld.get_put_self _ (by decide : 0 + 1 ≤ 32) _ _), hlog hlo hhi⟩

/-- The disable of an enabled ring is an ordinary write (R573). -/
theorem OrdinaryWrite.of_ringOff {r : Nat} (hr : r < 16) (hlo : 4 ≤ s.f (R.HST_RING_CFG_LOG2SZ r))
    (hhi : s.f (R.HST_RING_CFG_LOG2SZ r) ≤ 12) :
    OrdinaryWrite s (0x11110 + 32 * r) (s.ringOffWord r) := by
  have hp : inPage 0x11 (0x11110 + 32 * r) := by
    rw [inPage]
    omega
  have hcfg : ∀ r < 16, accMask Acc.cfg (0x11110 + 32 * r) ≠ 0 := by decide
  refine .of_hst (by omega) hp (hcfg r hr) (State.stateBad_hst hp (.inl (by omega)) fun i hi _ => ?_)
  rw [State.writeCfg_hst hp]
  refine ⟨fun k hk => State.reg_setReg_ne _ (by omega), ?_⟩
  by_cases hir : i = r
  · subst hir
    exact (congrArg (R.HST_RING_CFG_LOG2SZ i).get (State.reg_setReg_self _ _)).trans (State.written_ringOff hr hlo hhi).2
  · exact congrArg (R.HST_RING_CFG_LOG2SZ i).get (State.reg_setReg_ne _ (by simp only [R.HST_RING_CFG_LOG2SZ]; omega))

theorem ringDisable_answers (hl : s.live = true) (r : Fin 16) (hen : s.f (R.HST_RING_CFG_EN r) = 1)
    (hlo : 4 ≤ s.f (R.HST_RING_CFG_LOG2SZ r)) (hhi : s.f (R.HST_RING_CFG_LOG2SZ r) ≤ 12) : Answers (.ringDisable r) s fun t =>
      t.f (R.HST_RING_CFG_EN r) = 0 ∧ (t.ring r).infl = (s.ring r).infl ∧
        ((s.ring r).infl = [] → t.f (R.HST_RING_STAT_IDLE r) = 1) ∧ Recorded (0x11110 + 32 * r.val) .done s t ∧ KeepsMem s t := by
  obtain ⟨r, hr⟩ := r
  have hp : inPage 0x11 (0x11110 + 32 * r) := by
    rw [inPage]
    omega
  have hcmd : ∀ r < 16, accMask Acc.cmd (0x11110 + 32 * r) = 0 := by decide
  have h := OrdinaryWrite.of_ringOff hr hlo hhi
  obtain ⟨own, hown⟩ := s.commitMap_hst hp (.inl (by omega)) (s.ringOffWord r)
  obtain ⟨u, hu, hf⟩ := h.barWrite_hst hl hp (hcmd r hr) hown
  obtain ⟨hword, hrec, hkeep⟩ := h.pageWritten hp hf
  have hoff := (State.written_ringOff hr hlo hhi).1
  have hclaimed : (s.claimed (0x11110 + 32 * r) (s.ringOffWord r) own).f
      (R.HST_RING_CFG_EN r) = 0 := (congrArg (R.HST_RING_CFG_EN r).get (State.reg_setReg_self _ _)).trans hoff
  rw [State.hostCommit_ringOff hr (by simp [hen]) hclaimed fun i hi => State.reg_setReg_ne _ (by omega)] at hf
  have hring : (u.wres (0x11110 + 32 * r) .done).ring r = s.ring r := by
    rw [State.ring, State.wres_hst, hf.hst]
    rfl
  refine ⟨_, congrArg Host.Outcome.next ((s.onMain_of_live hl _).trans hu), ?_, congrArg RingSt.infl hring, fun hi => ?_, hrec,
    hkeep.toKeepsMem⟩
  · exact (congrArg (R.HST_RING_CFG_EN r).get hword).trans hoff
  · refine Eq.trans ?_ (State.showRing_idle hclaimed hi)
    exact congrArg (R.HST_RING_STAT_IDLE r).get ((State.reg_wres_ne _ _ (by simp only [R.HST_RING_STAT_IDLE]; omega)).trans
      (hf.reg _ (by simp only [R.HST_RING_STAT_IDLE]; omega)))

/-! ### The obligation -/

/-- Settles O54, clause by clause: a write that is no unit, one that the ownership map refuses, a committed one of the `HST_` page,
one there that nothing can refuse, and the two commands that are such writes. -/
theorem registerWrites : Obligations.RegisterWrites := by
  intro s hl
  refine ⟨fun off v ho h => registerWrite_format_answers hl ho h v, ?_, ?_, ?_, eventRingEnable_answers hl, ?_⟩
  · intro off v c ha hk hp hg hb hs hc
    exact (OrdinaryWrite.mk ha hk hp hg hb hs).conflict_answers hl hc
  · intro off v own ha hp hg hcmd hs hc
    exact (OrdinaryWrite.of_hst ha hp hg hs).page_answers hl hp hcmd hc
  · intro off v ha hp hcap hg hcmd hring
    obtain ⟨own, hc⟩ := s.commitMap_hst hp hcap v
    exact (OrdinaryWrite.of_hst_apart v ha hp hcap hg hring).page_answers hl hp hcmd hc
  · exact fun r hen hlo hhi => ringDisable_answers hl r hen hlo hhi

end Sys2Proof.Machine
end

section
/-! PROOFS. The end of coarse mode where a staging slot holds a word of `CLK_STAT` (O11).

COARSE_EXIT restarts a carrier whose period start has just come on its fine values (R83), and the restart brings the words that
the carrier's latch point took into force (R177). The spec stages the fields of `PWM_CARk` and `PWM_PAIRm` alone (R172, R175,
R179), but a slot of the model lists words by offset (`Slot.regs`), and the clause about COARSE_EXIT speaks of every state: it
asks nothing of the offsets that the slots list. -/

namespace Sys2Proof.Machine

/-- A state in which coarse mode may end: CKREF is present, PLLA is stably locked, and carrier 0, the `RETCAR`, stands at a
period start. Its latch point has taken a word of `CLK_STAT`, with `COARSE` = 1. Every pair runs on carrier 1. -/
def stagedClkStat : State :=
  let clocks := (State.reset.setF R.CLK_STAT_REFOK 1).setF R.CLK_STAT_STABLE 1
  let running := (clocks.setF (R.PWM_CAR_EFF_RUN 0) 1).setF (R.PWM_CAR_EFF_RUN 1) 1
  { running.each pairs24 fun m s => (s.setF (R.PWM_PAIR_CFG_MODE m) 1).setF (R.PWM_PAIR_CFG_CAR m) 1 with
    pwm := { cars := [(0, { start := 0, next := 800, taken := some { regs := [(0x1004, R.CLK_STAT_COARSE.mask)] } })] } }

/-- It meets every condition of COARSE_EXIT (R82). -/
theorem stagedClkStat_mayExit : stagedClkStat.live = true ∧ stagedClkStat.f R.CLK_STAT_COARSE = 1 ∧
    stagedClkStat.bitAt R.CLK_STAT_STABLE 0 = true ∧ stagedClkStat.f R.CLK_STAT_REFOK = 1 ∧ stagedClkStat.returnDue = true := by
  decide +kernel

/-- The restart of carrier 0 writes the word of its slot, and coarse mode stands again. -/
theorem coarse_after_exit_of_stagedClkStat : (stagedClkStat.onStatus stagedClkStat.coarseExit).f R.CLK_STAT_COARSE = 1 := by
  decide +kernel

/-- Refutes O11, by its clause about COARSE_EXIT: from `stagedClkStat`, where every condition is met, the command leaves
`CLK_STAT.COARSE` at 1. -/
theorem not_clocksAndCoarseMode : ¬ Obligations.ClocksAndCoarseMode := by
  rintro ⟨-, hplls⟩
  obtain ⟨hlive, hcoarse, hstable, hrefok, hdue⟩ := stagedClkStat_mayExit
  obtain ⟨-, -, -, hexit, -⟩ := hplls stagedClkStat hlive
  obtain ⟨t, hrun, hfine, -⟩ := hexit hcoarse hstable hrefok hdue
  obtain rfl : stagedClkStat.onStatus stagedClkStat.coarseExit = t := Host.Outcome.next.inj hrun
  exact absurd (hfine.symm.trans coarse_after_exit_of_stagedClkStat) (by decide)

end Sys2Proof.Machine
end

section
/-! PROOFS. A step with no command waiting (O2), the state after reset (O5), and plant time as it is read (O24). -/

namespace Sys2Proof.Machine

variable {s t : State}

/-- While the main domain is powered, a command of it answers what its operation leaves. -/
theorem Answers.onMain {c : Instr} {P : State → Prop} (hl : s.live = true) (hc : exec c s = .next (s.onMain t)) (h : P t) :
    Answers c s P := ⟨t, hc.trans (congrArg Host.Outcome.next (s.onMain_of_live hl t)), h⟩

/-! ### The passing of time -/

/-- A clock period moves the time bases alone: TBP, and TBK with its part below a whole count. -/
theorem State.tick_eq (s : State) : ∃ n b, s.tick = { s with tbp := n, bvq := b } := by
  unfold State.tick
  split
  · exact ⟨_, _, rfl⟩
  · exact ⟨s.tbp, _, rfl⟩
  · exact ⟨s.tbp, s.bvq, rfl⟩

/-- The counts of a period: 16 in coarse mode, else 1. -/
theorem State.unit_eq (s : State) : s.unit = if s.f R.CLK_STAT_COARSE = 0 then 1 else 16 := by
  by_cases h : s.f R.CLK_STAT_COARSE = 0 <;> simp [State.unit, State.coarse, State.on, h]

theorem State.tick_tbp_of_main (h : s.power = .main) : s.tick.tbp = s.tbp + s.unit := by
  simp only [State.tick, h]
  rfl

theorem State.tick_of_keepalive (h : s.power = .keepalive) : s.tick = { s with bvq := { s.bvq with tbk := s.bvq.tbk + 1 } } := by
  simp only [State.tick, h]

theorem State.tick_of_off (h : s.power = .off) : s.tick = s := by
  simp only [State.tick, h]

theorem step_of_idle (h : s.pending = []) : step s = .next s.tick := by
  rw [step, h]

/-- Settles O2: the step is one `tick`, whose effect depends on the supply condition. -/
theorem idleStepPasses : Obligations.IdleStepPasses := by
  intro s hp
  refine ⟨s.tick, step_of_idle hp, ?_⟩
  have hframe : s.tick.regs = s.regs ∧ s.tick.mem = s.mem ∧ s.tick.pending = s.pending ∧ s.tick.hst = s.hst ∧ s.tick.sys = s.sys := by
    obtain ⟨n, b, h⟩ := s.tick_eq
    rw [h]
    exact ⟨rfl, rfl, rfl, rfl, rfl⟩
  obtain ⟨hregs, hmem, hpend, hhst, hsys⟩ := hframe
  refine ⟨hregs, hmem, hpend.trans hp, hhst, hsys, fun h => ?_, fun h => ?_, State.tick_of_off⟩
  · rw [State.tick_tbp_of_main h, State.unit_eq]
  · rw [State.tick_of_keepalive h]
    exact ⟨rfl, rfl⟩

/-! ### Reset -/

/-- A register reads its value after reset. -/
theorem State.reg_reset (off : Nat) : State.reset.reg off = RegMap.resetWord off := rfl

/-- Settles O5: at reset the register file and data memory list nothing, so every entry reads as an unlisted one does. -/
theorem resetState : Obligations.ResetState :=
  ⟨State.canon_reset, rfl, by decide, rfl, rfl, State.reg_reset, fun _ => rfl⟩

/-! ### The three registers of plant time (R104) -/

/-- The read of `TIM_PT_NS` shows the nanoseconds and captures the whole of plant time for its path. -/
theorem State.readShow_ptNs (s : State) (path : Nat) : s.readShow path 0x2010 =
    { s with rdata := BitVec.ofNat 32 (ptNs s.pt), capPt := Tab.set (fun _ => 0) s.capPt path s.pt } := rfl

/-- None of the other two is part of a pair of R628. -/
theorem State.pairAt_ptSec (s : State) : s.pairAt 0x2014 = none ∧ s.pairAt 0x2018 = none := by simp [State.pairAt]

/-- `TIM_PT_SECL` and `TIM_PT_SECH` show what the path captured last. -/
theorem State.readVal_ptSecl (s : State) (path : Nat) : s.readVal path 0x2014 = BitVec.ofNat 32 (ptSec (s.ptCap path)) := by
  simp [State.readVal, s.pairAt_ptSec.1, isHigh]
theorem State.readVal_ptSech (s : State) (path : Nat) : s.readVal path 0x2018 =
    BitVec.ofNat 32 (ptSec (s.ptCap path) / 2 ^ 32 % 2 ^ 16 + ptFrac (s.ptCap path) * 2 ^ 16) := by
  simp [State.readVal, s.pairAt_ptSec.2, isHigh]

/-- The registers of a path that has captured a plant time show it. -/
theorem State.readVal_of_ptCap {path v : Nat} (h : s.ptCap path = v) :
    s.readVal path 0x2014 = BitVec.ofNat 32 (ptSec v) ∧
      s.readVal path 0x2018 = BitVec.ofNat 32 (ptSec v / 2 ^ 32 % 2 ^ 16 + ptFrac v * 2 ^ 16) := by
  rw [State.readVal_ptSecl, State.readVal_ptSech, h]
  exact ⟨rfl, rfl⟩

theorem plantTimeRead_run (p : Path) (hl : s.live = true) : exec (.plantTimeRead p) s = .next { s with
    rdata := BitVec.ofNat 32 (ptNs s.pt), capPt := Tab.set (fun _ => 0) s.capPt (Path.key p) s.pt } :=
  congrArg Host.Outcome.next ((s.onMain_of_live hl _).trans (s.readShow_ptNs (Path.key p)))

/-- What a read shows and what it captures are no registers. -/
theorem KeepsBut.read (s : State) (v : Word) (c : Tab Nat) : KeepsBut [] s { s with rdata := v, capPt := c } where
  mem _ := rfl
  host := rfl
  queue := rfl
  part := rfl
  regs _ := rfl

/-- Settles O24: what the other two registers return depends on the captured plant time alone. -/
theorem plantTimeRead : Obligations.PlantTimeRead := fun _ p hl =>
  ⟨_, plantTimeRead_run p hl, rfl, .read ..,
    fun _ hu => State.readVal_of_ptCap (hu.trans (Tab.get_set_self ..))⟩

end Sys2Proof.Machine
end

section
/-! PROOFS. The declared crossings: FIFO crossings (O13), mailboxes, event crossings and the resynchronisation (O14). -/

namespace Sys2Proof.Machine

variable {s t u : State} {x ch : Nat} {p : Nat → Prop}

/-! ### What a crossing reads as after a write -/

@[simp] theorem State.xing_setXing_self (c : Crossing) : (s.setXing x c).xing x = c := Tab.get_set_self ..
theorem State.xing_setXing_ne {y : Nat} (c : Crossing) (h : y ≠ x) : (s.setXing x c).xing y = s.xing y := Tab.get_set_ne _ _ _ h
@[simp] theorem State.xing_setFifo (y : Nat) (l : List Nat) : (s.setFifo x ch l).xing y = s.xing y := rfl
@[simp] theorem State.fifo_setFifo_self (l : List Nat) : (s.setFifo x ch l).fifo x ch = l := Tab.get_set_self ..
theorem State.fifo_setFifo_ne {c : Nat} (l : List Nat) (h : c ≠ ch) : (s.setFifo x ch l).fifo x c = s.fifo x c :=
  Tab.get_set_ne _ _ _ fun e => h (Nat.add_left_cancel e)
@[simp] theorem State.fifo_setXing (y : Nat) (c : Crossing) : (s.setXing y c).fifo x ch = s.fifo x ch := rfl

/-! ### The registers of the crossings and the posting of an event

`evReg` lists `XDC_STAT3`, which crossing 3 counts in; the posting itself writes no register of page 3. -/

theorem State.reg_winPut_xdcStat3 (w : Nat) (r : List Word) : (s.winPut w r).reg 0x300C = s.reg 0x300C := by
  unfold State.winPut
  dsimp only
  split
  · exact State.reg_setF_ne (R.HST_CAP_STAT_WRAP w) 1 (by simp only [R.HST_CAP_STAT_WRAP]; omega)
  · rfl

theorem State.reg_winTrigger_xdcStat3 (w src : Nat) : (s.winTrigger w src).reg 0x300C = s.reg 0x300C :=
  State.reg_setF_ne (R.HST_CAP_STAT_ST w) 2 (by simp only [R.HST_CAP_STAT_ST]; omega)

theorem State.reg_capture_xdcStat3 (ty flg n : Nat) (v : Word) (body : List Word) :
    (s.capture ty flg n v body).reg 0x300C = s.reg 0x300C := by
  refine State.each_ind (P := fun u => u.reg 0x300C = s.reg 0x300C) rfl fun w _ u hu => ?_
  dsimp only
  split
  · split
    · exact (State.reg_setF_ne (R.HST_CAP_STAT_LOST w) _ (by simp only [R.HST_CAP_STAT_LOST]; omega)).trans hu
    · exact (State.reg_winPut_xdcStat3 w _).trans hu
  · exact hu

theorem State.reg_ringEvent_xdcStat3 (e : EvRec) : (s.ringEvent e).reg 0x300C = s.reg 0x300C := by
  have hdrop : (s.count R.HST_EVR_STAT_DROP 1).reg 0x300C = s.reg 0x300C := State.reg_setF_ne _ _ (by decide)
  unfold State.ringEvent
  split
  · split
    · rfl
    · dsimp only
      split <;> exact hdrop
  · exact State.reg_setF_ne R.HST_EVR_OFF_CNT _ (by decide)

theorem State.reg_queueAlarm_xdcStat3 (a : AlarmEnt) : (s.queueAlarm a).reg 0x300C = s.reg 0x300C := by
  unfold State.queueAlarm
  split
  · exact State.reg_setF_ne ⟨0xD030, 0, 32⟩ _ (by decide)
  · split
    · rfl
    · exact State.reg_setF_ne R.PLT_DROP0_ALARM _ (by decide)

theorem State.reg_queueTrip_xdcStat3 (a : AlarmEnt) : (s.queueTrip a).reg 0x300C = s.reg 0x300C := by
  unfold State.queueTrip
  split
  · rfl
  · exact State.reg_setF_ne R.PLT_DROP0_TRIP _ (by decide)

theorem State.reg_queueLog_xdcStat3 (q : Packet) : (s.queueLog q).reg 0x300C = s.reg 0x300C := by
  unfold State.queueLog
  split
  · rfl
  · split
    · exact State.reg_capture_xdcStat3 ..
    · exact State.reg_setF_ne R.PLT_DROP1_LOG _ (by decide)

theorem State.reg_linkEvent_xdcStat3 (e : EvRec) : (s.linkEvent e).reg 0x300C = s.reg 0x300C := by
  unfold State.linkEvent
  split
  · dsimp only
    split
    · exact State.reg_queueAlarm_xdcStat3 _
    · exact State.reg_queueTrip_xdcStat3 _
    · exact State.reg_queueLog_xdcStat3 _
  · rfl

theorem State.reg_emitN_xdcStat3 (fuel : Nat) (e : EvRec) : (State.emitN fuel e s).reg 0x300C = s.reg 0x300C := by
  induction fuel generalizing s e with
  | zero => rfl
  | succ n ih =>
    unfold State.emitN
    refine State.each_ind (P := fun u => u.reg 0x300C = s.reg 0x300C) ?_ fun w _ u hu => ?_
    · rw [State.reg_capture_xdcStat3, State.reg_linkEvent_xdcStat3, State.reg_ringEvent_xdcStat3]
      rfl
    · split
      · rw [ih, State.reg_winTrigger_xdcStat3, hu]
      · exact hu

/-- The posting of an event writes no `XDC_STAT` register. -/
theorem State.reg_post_xdcStat (hx : x < 18) (c i a b d : Nat) : (s.post c i a b d).reg (0x3000 + 4 * x) = s.reg (0x3000 + 4 * x) := by
  by_cases h : x = 3
  · subst h
    exact State.reg_emitN_xdcStat3 _ _
  · exact State.reg_post s (by unfold evReg; omega) c i a b d

theorem State.f_post_xdcStat (y : Fld) (hx : x < 18) (hy : y.off = 0x3000 + 4 * x) (c i a b d : Nat) :
    (s.post c i a b d).f y = s.f y := by
  rw [State.f, State.f, hy, State.reg_post_xdcStat hx]

/-! ### Overrun (R143) -/

/-- `OVR` stands afterwards, and the counts of the crossing are as before. -/
theorem State.f_overrun_ovr (hx : x < 18) : (s.overrun x).f (R.XDC_STAT_OVR x) = 1 := by
  unfold State.overrun
  split
  next h =>
    have hlt : s.f (R.XDC_STAT_OVR x) < 2 := Fld.get_lt (R.XDC_STAT_OVR x) _
    simp only [State.on, decide_eq_true_eq] at h
    omega
  · rw [State.f_post_xdcStat _ hx rfl]
    exact State.f_setF_self (R.XDC_STAT_OVR x) (by simp [R.XDC_STAT_OVR]) 1

theorem State.f_overrun_lost (hx : x < 18) : (s.overrun x).f (R.XDC_STAT_LOST x) = s.f (R.XDC_STAT_LOST x) := by
  unfold State.overrun
  split
  · rfl
  · rw [State.f_post_xdcStat _ hx rfl]
    exact State.f_setF_ne (R.XDC_STAT_OVR x) (R.XDC_STAT_LOST x) (by simp [R.XDC_STAT_OVR]) (.inr (.inl (by simp [R.XDC_STAT_LOST, R.XDC_STAT_OVR]))) 1

theorem State.overrun_xdc : (s.overrun x).xdc = s.xdc := by
  unfold State.overrun
  split <;> simp

/-! ### What a lost word means to its block, and the resumption of capture (R297, R593, R594) -/

theorem State.setSeq_within (q : Nat) (y : SeqSt) (h : Within p s t) : Within p s (t.setSeq q y) := by
  unfold State.setSeq
  split <;> exact h.same rfl rfl rfl rfl rfl rfl rfl

theorem State.setSeq_xdc (q : Nat) (y : SeqSt) : (s.setSeq q y).xdc = s.xdc := by
  unfold State.setSeq
  split <;> rfl

/-- It shows in `ADC_STAT.MONLOSS` and in the capture windows alone. -/
theorem State.fifoLoss_within (hm : p 0x9090) (hp : ∀ o, evReg o → p o) (h : Within p s t) : Within p s (t.fifoLoss x ch) := by
  unfold State.fifoLoss
  split
  · extract_lets l u
    have hu : Within p s u := by
      dsimp only [u]
      split
      · exact h.same rfl rfl rfl rfl rfl rfl rfl
      · exact h
    clear_value u
    split
    · exact hu.setF R.ADC_STAT_MONLOSS 1 hm
    · exact hu.setF R.ADC_STAT_MONLOSS 1 hm
    · exact State.setSeq_within _ _ hu
  · split
    · refine Within.each (h.same rfl rfl rfl rfl rfl rfl rfl) fun w hw u hu => ?_
      split
      · exact (hu.count (R.HST_CAP_STAT_LOST w) 1 (hp _ (evReg_cap (by simpa using hw)))).same rfl rfl rfl rfl rfl rfl rfl
      · exact hu
    · exact h

theorem State.fifoLoss_xdc : (s.fifoLoss x ch).xdc = s.xdc := by
  unfold State.fifoLoss
  split
  · extract_lets l u
    have hu : u.xdc = s.xdc := by
      dsimp only [u]
      split <;> rfl
    clear_value u
    split
    · exact hu
    · exact hu
    · exact (State.setSeq_xdc _ _).trans hu
  · split
    · refine State.each_ind (P := fun u => u.xdc = s.xdc) rfl fun w _ u hu => ?_
      split <;> exact hu
    · rfl

theorem State.captureResume_within (hp : ∀ o, evReg o → p o) (h : Within p s t) : Within p s t.captureResume := by
  unfold State.captureResume
  refine Within.post hp _ _ _ _ _ (Within.each (h.same rfl rfl rfl rfl rfl rfl rfl) fun w hw u hu => ?_)
  dsimp only
  split
  · exact hu
  · exact hu.trans (((Posted.setWin w _).trans (State.winPut_posted (by simpa using hw) _)).within hp)

theorem State.captureResume_xdc : s.captureResume.xdc = s.xdc := by
  unfold State.captureResume
  rw [State.post_xdc]
  refine State.each_ind (P := fun u => u.xdc = s.xdc) rfl fun w hw u hu => ?_
  dsimp only
  split
  · exact hu
  · exact (State.winPut_posted (by simpa using hw) _).xdc.trans hu

/-! ### FIFO crossings: the cases of a word transfer (R133, R134, R136) -/

theorem State.fifoMove_enter_wait (hr : s.fifoInReset x ch = false) (hf : s.fifoFull x ch = true) (hc : clockedFifo x ch = false)
    (v : Word) : s.fifoMove x ch (.enter v) = s := by
  simp [State.fifoMove, hr, hf, hc]

section
variable (hch : ch < fifoChans x)
include hch

theorem State.fifoMove_enter_reset (hr : s.fifoInReset x ch = true) (v : Word) :
    s.fifoMove x ch (.enter v) = s.count (R.XDC_STAT_DISC x) 1 := by
  simp [State.fifoMove, hch, hr]

theorem State.fifoMove_enter_room (hr : s.fifoInReset x ch = false) (hf : s.fifoFull x ch = false) (v : Word) :
    s.fifoMove x ch (.enter v) = s.setFifo x ch (s.fifo x ch ++ [v.toNat]) := by
  simp [State.fifoMove, hch, hr, hf]

theorem State.fifoMove_enter_lost (hr : s.fifoInReset x ch = false) (hf : s.fifoFull x ch = true) (hc : clockedFifo x ch = true)
    (v : Word) : s.fifoMove x ch (.enter v) = ((s.count (R.XDC_STAT_LOST x) 1).overrun x).fifoLoss x ch := by
  simp [State.fifoMove, hch, hr, hf, hc]

/-- A word taken moves the crossing; on crossing 12 capture may resume. -/
theorem State.fifoMove_take {w : Nat} {l : List Nat} (h : s.fifo x ch = w :: l) (hp : ∀ o, evReg o → p o) :
    Within p s (s.fifoMove x ch .take) ∧ (s.fifoMove x ch .take).xdc =
      { (s.setFifo x ch l).xdc with took := Tab.set (fun _ => 0) s.xdc.took (fifoKey x ch) w } := by
  have hmoved : Within p s { s.setFifo x ch l with
      xdc := { (s.setFifo x ch l).xdc with took := Tab.set (fun _ => 0) s.xdc.took (fifoKey x ch) w } } :=
    (Within.refl p s).same rfl rfl rfl rfl rfl rfl rfl
  simp only [State.fifoMove, Nat.not_le.2 hch, if_false, h]
  split
  · exact ⟨State.captureResume_within hp hmoved, State.captureResume_xdc⟩
  · exact ⟨hmoved, rfl⟩

end

theorem lt_of_isFifo (h : isFifo x = true) : x < 18 ∧ x ≠ 3 := by
  simp only [isFifo, List.contains_eq_mem, List.mem_cons, List.not_mem_nil, or_false, decide_eq_true_eq] at h
  omega

/-- A word lost: it is counted, `OVR` stands, and what the channel holds stays. -/
theorem State.fifoMove_lost_shows (hx : x < 18) (h3 : x ≠ 3) : (((s.count (R.XDC_STAT_LOST x) 1).overrun x).fifoLoss x ch).fifo x ch = s.fifo x ch ∧
    (((s.count (R.XDC_STAT_LOST x) 1).overrun x).fifoLoss x ch).f (R.XDC_STAT_LOST x) = min 4095 (s.f (R.XDC_STAT_LOST x) + 1) ∧
    (((s.count (R.XDC_STAT_LOST x) 1).overrun x).fifoLoss x ch).f (R.XDC_STAT_OVR x) = 1 := by
  have hstat : (((s.count (R.XDC_STAT_LOST x) 1).overrun x).fifoLoss x ch).reg (0x3000 + 4 * x) =
      ((s.count (R.XDC_STAT_LOST x) 1).overrun x).reg (0x3000 + 4 * x) :=
    (State.fifoLoss_within (p := fun o => o = 0x9090 ∨ evReg o) (.inl rfl) (fun _ => .inr) (Within.refl _ _)).reg _
      (by unfold evReg; omega)
  refine ⟨?_, (congrArg (R.XDC_STAT_LOST x).get hstat).trans ?_, (congrArg (R.XDC_STAT_OVR x).get hstat).trans ?_⟩
  · rw [State.fifo, State.fifoLoss_xdc, State.overrun_xdc]
    rfl
  · exact (State.f_overrun_lost hx).trans (State.f_count_self (R.XDC_STAT_LOST x) (by simp [R.XDC_STAT_LOST]) 1)
  · exact State.f_overrun_ovr hx

/-- Settles O13, one equation of a word transfer for each clause. -/
theorem fifoCrossings : Obligations.FifoCrossings := by
  intro s x ch v hl hfifo
  obtain ⟨hx, h3⟩ := lt_of_isFifo hfifo
  have answers {act : FifoAct} {t : State} {P : State → Prop} (h : s.fifoMove x ch act = t) (ht : P t) :
      Answers (.fifoWordTransfer x ch act) s P := .onMain (t := s.fifoMove x ch act) hl rfl (h ▸ ht)
  refine ⟨fun h act => answers (if_pos h) rfl, fun h hr hf => ?_, fun _ hr hf hc => ?_, fun h hr hf hc => ?_, fun h hr => ?_,
    fun w l h hw => ?_⟩
  · exact answers (State.fifoMove_enter_room h hr hf v) ⟨State.fifo_setFifo_self _, rfl, ⟨fun _ => rfl, rfl, rfl, rfl⟩⟩
  · exact answers (State.fifoMove_enter_wait hr hf hc v) rfl
  · obtain ⟨hsame, hlost, hovr⟩ := State.fifoMove_lost_shows (s := s) (ch := ch) hx h3
    have hkeep : Within (fun _ => True) s (((s.count (R.XDC_STAT_LOST x) 1).overrun x).fifoLoss x ch) :=
      State.fifoLoss_within trivial (fun _ _ => trivial) (State.overrun_within x trivial (fun _ _ => trivial)
        ((Within.refl _ s).count _ _ trivial))
    exact answers (State.fifoMove_enter_lost h hr hf hc v) ⟨hsame, hlost, hovr, hkeep.keepsMem⟩
  · exact answers (State.fifoMove_enter_reset h hr v)
      ⟨State.f_count_self _ (by simp [R.XDC_STAT_DISC]) 1,
        (KeepsBut.refl _ s).setF (R.XDC_STAT_DISC x) (by simp) (by simp [R.XDC_STAT_DISC]) _⟩
  · obtain ⟨hkeep, hxdc⟩ := State.fifoMove_take (p := fun _ => True) h hw fun _ _ => trivial
    refine answers rfl ⟨?_, ?_, hkeep.keepsMem⟩
    · rw [State.fifo, hxdc]
      exact Tab.get_set_self ..
    · rw [hxdc]
      exact Tab.get_set_self ..

end Sys2Proof.Machine
end

section
/-! PROOFS. Mailboxes, event crossings and the resynchronisation of a crossing (O14). -/

namespace Sys2Proof.Machine

variable {s t u : State} {x : Nat} {p : Nat → Prop}

/-- The posting of an event moves no crossing. -/
theorem State.xing_post (y c i a b d : Nat) : (s.post c i a b d).xing y = s.xing y := by rw [State.xing, State.post_xdc, State.xing]
theorem State.fifo_post (x ch c i a b d : Nat) : (s.post c i a b d).fifo x ch = s.fifo x ch := by
  rw [State.fifo, State.post_xdc, State.fifo]

/-! ### Operations that move crossings alone -/

/-- No more than the content of crossings differs. -/
def MovesCrossings (s t : State) : Prop := ∃ x, t = { s with xdc := x }

namespace MovesCrossings

theorem refl (s : State) : MovesCrossings s s := ⟨s.xdc, rfl⟩

theorem trans (h : MovesCrossings s t) (k : MovesCrossings t u) : MovesCrossings s u := by
  obtain ⟨y, rfl⟩ := h
  obtain ⟨z, rfl⟩ := k
  exact ⟨z, rfl⟩

theorem setXing (h : MovesCrossings s t) (key : Nat) (c : Crossing) : MovesCrossings s (t.setXing key c) := h.trans ⟨_, rfl⟩
theorem setFifo (h : MovesCrossings s t) (x ch : Nat) (l : List Nat) : MovesCrossings s (t.setFifo x ch l) := h.trans ⟨_, rfl⟩

theorem each {l : List Nat} {g : Nat → State → State} (h : MovesCrossings s t) (hg : ∀ i u, MovesCrossings u (g i u)) :
    MovesCrossings s (t.each l g) := State.each_ind h fun i _ u hu => hu.trans (hg i u)

theorem regs (h : MovesCrossings s t) : t.regs = s.regs := by
  obtain ⟨y, rfl⟩ := h
  rfl

theorem reg (h : MovesCrossings s t) (off : Nat) : t.reg off = s.reg off := by rw [State.reg, h.regs, State.reg]

theorem within (h : MovesCrossings s t) : Within p s t := by
  obtain ⟨y, rfl⟩ := h
  exact (Within.refl p s).same rfl rfl rfl rfl rfl rfl rfl

theorem keepsMem (h : MovesCrossings s t) : KeepsMem s t := (h.within (p := fun _ => True)).keepsMem

end MovesCrossings

/-- What one step of a list establishes and no other breaks holds after all of them. -/
theorem State.each_at {l : List Nat} {j : Nat} {g : Nat → State → State} {P Q : State → Prop} (hl : l.Nodup) (hj : j ∈ l) (h0 : P s)
    (hP : ∀ i ∈ l, i ≠ j → ∀ u, P u → P (g i u)) (hg : ∀ u, P u → Q (g j u)) (hQ : ∀ i ∈ l, i ≠ j → ∀ u, Q u → Q (g i u)) :
    Q (s.each l g) := by
  obtain ⟨l₁, l₂, rfl⟩ := List.mem_iff_append.1 hj
  obtain ⟨_, hl₂, hl₁⟩ := List.nodup_append.1 hl
  have hbefore : P (s.each l₁ g) := State.each_ind h0 fun i hi => hP i (by simp [hi]) (hl₁ i hi j (List.mem_cons_self ..))
  have hafter : Q ((g j (s.each l₁ g)).each l₂ g) := State.each_ind (hg _ hbefore) fun i hi =>
    hQ i (by simp [hi]) fun e => (List.nodup_cons.1 hl₂).1 (e ▸ hi)
  have hsplit : s.each (l₁ ++ j :: l₂) g = (g j (s.each l₁ g)).each l₂ g := List.foldl_append ..
  exact hsplit ▸ hafter

/-! ### Mailboxes (R128, R129, R142, R174) -/

/-- A mailbox out of reset with a value in flight hands it over. -/
theorem State.deliverKey_of_flight {key : Nat} {v : List Nat} (hr : (s.xing key).inReset = false) (hf : (s.xing key).flight = some v) :
    s.deliverKey key = s.setXing key { s.xing key with dst := v, flight := (s.xing key).pend, pend := none } := by
  simp only [State.deliverKey, hr, hf]

theorem State.deliverKey_moves (key : Nat) : MovesCrossings s (s.deliverKey key) := by
  unfold State.deliverKey
  dsimp only
  split
  · exact (MovesCrossings.refl s).setXing _ _
  · exact .refl s

theorem State.xing_deliverKey_ne {key y : Nat} (h : y ≠ key) : (s.deliverKey key).xing y = s.xing y := by
  unfold State.deliverKey
  dsimp only
  split
  · exact State.xing_setXing_ne _ h
  · rfl

theorem mailboxTransfer_answers (hl : s.live = true) {x : Fin 18} {v : List Nat} (hm : isMailbox x = true) (h0 : x.val ≠ 0)
    (h10 : x.val ≠ 10) (hr : (s.xing x).inReset = false) (hf : (s.xing x).flight = some v) : Answers (.mailboxTransfer x) s fun t =>
      (t.xing x).dst = v ∧ (t.xing x).flight = (s.xing x).pend ∧ (t.xing x).pend = none ∧ t.regs = s.regs ∧ KeepsMem s t := by
  have h : s.mailboxes x = s.setXing x { s.xing x with dst := v, flight := (s.xing x).pend, pend := none } := by
    simp [State.mailboxes, State.mailbox, hm, h0, h10, State.deliverKey_of_flight hr hf]
  refine .onMain (t := s.mailboxes x) hl rfl (h ▸ ?_)
  rw [State.xing_setXing_self]
  exact ⟨rfl, rfl, rfl, rfl, ((MovesCrossings.refl s).setXing _ _).keepsMem⟩

/-- The mailboxes of crossing 10 hand over each on its own. -/
theorem State.xing_mailboxes_time {n : Nat} {v : List Nat} (hn : n < 8) (hr : (s.xing (timeKey n)).inReset = false)
    (hf : (s.xing (timeKey n)).flight = some v) : (s.mailboxes 10).xing (timeKey n) =
      { s.xing (timeKey n) with dst := v, flight := (s.xing (timeKey n)).pend, pend := none } := by
  have hkey (i : Nat) (h : i ≠ n) : timeKey n ≠ timeKey i := by
    unfold timeKey
    omega
  refine State.each_at (j := n) (P := fun u => u.xing (timeKey n) = s.xing (timeKey n)) (Q := fun u => u.xing (timeKey n) = _)
    List.nodup_range (List.mem_range.2 hn) rfl (fun i _ hi u hu => ?_) (fun u hu => ?_) fun i _ hi u hu => ?_
  · exact (State.xing_deliverKey_ne (hkey i hi)).trans hu
  · rw [← hu] at hr hf
    rw [State.deliverKey_of_flight hr hf, State.xing_setXing_self, hu]
  · exact (State.xing_deliverKey_ne (hkey i hi)).trans hu

theorem mailboxTransfer_time_answers (hl : s.live = true) : Answers (.mailboxTransfer 10) s fun t =>
    (∀ n < 8, ∀ v, (s.xing (timeKey n)).inReset = false → (s.xing (timeKey n)).flight = some v →
      (t.xing (timeKey n)).dst = v ∧ (t.xing (timeKey n)).flight = (s.xing (timeKey n)).pend ∧ (t.xing (timeKey n)).pend = none) ∧
    t.regs = s.regs ∧ KeepsMem s t := by
  have hmoves : MovesCrossings s (s.mailboxes 10) := (MovesCrossings.refl s).each fun n u => u.deliverKey_moves (timeKey n)
  refine .onMain (t := s.mailboxes 10) hl rfl ⟨fun n hn v hr hf => ?_, hmoves.regs, hmoves.keepsMem⟩
  rw [State.xing_mailboxes_time hn hr hf]
  exact ⟨rfl, rfl, rfl⟩

theorem mailboxTransfer_updateSet_answers (hl : s.live = true) {v : List Nat} (hr : (s.xing 0).inReset = false)
    (hf : (s.xing 0).flight = some v) : Answers (.mailboxTransfer 0) s fun t =>
      (t.xing 0).dst = v ∧ (t.xing 0).flight = some v ∧ t.regs = s.regs ∧ KeepsMem s t := by
  have h : s.mailboxes 0 = s.setXing 0 { s.xing 0 with dst := v } := by
    simp [State.mailboxes, State.mailbox, isMailbox, hr, hf]
  refine .onMain (t := s.mailboxes 0) hl rfl (h ▸ ?_)
  rw [State.xing_setXing_self]
  exact ⟨rfl, hf, rfl, ((MovesCrossings.refl s).setXing _ _).keepsMem⟩

/-! ### Event crossings (R130, R131, R279, R584) -/

theorem handshake_start_answers (hl : s.live = true) (hr : (s.xing 2).inReset = false) (hg : (s.xing 2).got = 0) :
    Answers (.eventHandshake 2) s fun t =>
      (t.xing 2).got = (s.xing 2).cnt ∧ (t.xing 2).cnt = 0 ∧ t.regs = s.regs ∧ KeepsMem s t := by
  have h : s.handshake 2 = s.setXing 2 { s.xing 2 with got := (s.xing 2).cnt, cnt := 0 } := by
    simp [State.handshake, isEventX, hr, hg]
  refine .onMain (t := s.handshake 2) hl rfl (h ▸ ?_)
  rw [State.xing_setXing_self]
  exact ⟨rfl, rfl, rfl, ((MovesCrossings.refl s).setXing _ _).keepsMem⟩

theorem Posted.foldl {α : Type} {l : List α} {g : State → α → State} (hg : ∀ u a, Posted u (g u a)) : Posted s (l.foldl g s) := by
  induction l generalizing s with
  | nil => exact .refl s
  | cons a l ih => exact (hg s a).trans ih

/-- While the event writer can take them, the reports of crossing 3 leave it, each posted. -/
theorem State.handshake_reports (hr : (s.xing 3).inReset = false) (he : s.f R.HST_EVR_CFG_EN = 0) :
    Posted { s with xdc := { s.xdc with rep3 := [] } } (s.handshake 3) := by
  simp only [State.handshake, isEventX, hr, State.on, he]
  refine Posted.foldl fun u e => ?_
  split
  · exact State.emit_posted _
  · exact .refl u

theorem handshake_reports_answers (hl : s.live = true) (hr : (s.xing 3).inReset = false) (he : s.f R.HST_EVR_CFG_EN = 0) :
    Answers (.eventHandshake 3) s fun t => t.xdc.rep3 = [] ∧ KeepsOut evReg s t := by
  have h := State.handshake_reports hr he
  have hmoved : MovesCrossings s { s with xdc := { s.xdc with rep3 := [] } } := ⟨_, rfl⟩
  have hkeep : Within evReg s (s.handshake 3) := hmoved.within.trans (h.within fun _ => id)
  exact .onMain (t := s.handshake 3) hl rfl ⟨congrArg XdcSt.rep3 h.xdc, hkeep.keepsOut⟩

/-- One trigger input or PTC target of crossing 4: its count is delivered once the one before has been taken; that of a trigger
input without a sequence is dropped. -/
def State.passTrigger (s : State) (ch : Nat) : State :=
  let c := s.xing (100 + ch)
  if c.got ≠ 0 then s
  else s.setXing (100 + ch) { c with got := if ch < 16 && s.f (R.ADC_TRIG_SEQ ch) = 0 then 0 else c.cnt, cnt := 0 }

theorem State.handshake_triggers (hr : (s.xing 4).inReset = false) :
    s.handshake 4 = s.each (List.range 19) fun ch s => s.passTrigger ch := by
  simp only [State.handshake, isEventX, hr]
  rfl

theorem State.passTrigger_moves (ch : Nat) : MovesCrossings s (s.passTrigger ch) := by
  unfold State.passTrigger
  dsimp only
  split
  · exact .refl s
  · exact (MovesCrossings.refl s).setXing _ _

theorem State.xing_passTrigger_ne {ch y : Nat} (h : y ≠ 100 + ch) : (s.passTrigger ch).xing y = s.xing y := by
  unfold State.passTrigger
  dsimp only
  split
  · rfl
  · exact State.xing_setXing_ne _ h

theorem State.xing_passTrigger_self {ch : Nat} (h : (s.xing (100 + ch)).got = 0) : (s.passTrigger ch).xing (100 + ch) =
    { s.xing (100 + ch) with got := if ch < 16 ∧ s.f (R.ADC_TRIG_SEQ ch) = 0 then 0 else (s.xing (100 + ch)).cnt, cnt := 0 } := by
  simp [State.passTrigger, h]

theorem handshake_triggers_answers (hl : s.live = true) (hr : (s.xing 4).inReset = false) (hg : ∀ ch < 19, (s.xing (100 + ch)).got = 0) :
    Answers (.eventHandshake 4) s fun t =>
      (∀ ch < 19, (t.xing (100 + ch)).cnt = 0 ∧ (t.xing (100 + ch)).got =
        if ch < 16 ∧ s.f (R.ADC_TRIG_SEQ ch) = 0 then 0 else (s.xing (100 + ch)).cnt) ∧ t.regs = s.regs ∧ KeepsMem s t := by
  have hmoves : MovesCrossings s (s.each (List.range 19) fun ch s => s.passTrigger ch) :=
    (MovesCrossings.refl s).each fun ch u => u.passTrigger_moves ch
  refine .onMain (t := s.handshake 4) hl rfl (State.handshake_triggers hr ▸ ⟨fun ch hch => ?_, hmoves.regs, hmoves.keepsMem⟩)
  have h : (s.each (List.range 19) fun ch s => s.passTrigger ch).xing (100 + ch) = { s.xing (100 + ch) with
      got := if ch < 16 ∧ s.f (R.ADC_TRIG_SEQ ch) = 0 then 0 else (s.xing (100 + ch)).cnt, cnt := 0 } := by
    refine State.each_at (j := ch) (P := fun u => u.xing (100 + ch) = s.xing (100 + ch) ∧ MovesCrossings s u)
      (Q := fun u => u.xing (100 + ch) = _) List.nodup_range (List.mem_range.2 hch) ⟨rfl, .refl s⟩ (fun i _ hi u hu => ?_)
      (fun u hu => ?_) fun i _ hi u hu => ?_
    · exact ⟨(State.xing_passTrigger_ne (by omega)).trans hu.1, hu.2.trans (u.passTrigger_moves i)⟩
    · obtain ⟨hsame, hmoved⟩ := hu
      have hseq : u.f (R.ADC_TRIG_SEQ ch) = s.f (R.ADC_TRIG_SEQ ch) := congrArg (R.ADC_TRIG_SEQ ch).get (hmoved.reg _)
      rw [State.xing_passTrigger_self (hsame ▸ hg ch hch), hsame, hseq]
    · exact (State.xing_passTrigger_ne (by omega)).trans hu
  rw [h]
  exact ⟨rfl, rfl⟩

/-! ### Resynchronisation (R137, R138, R616) -/

/-- Both counts of `XDC_STATx` rise: `DISC` by what was in flight, `RSYNC` by one. -/
theorem State.f_resyncCount (x n : Nat) : (s.resyncCount x n).f (R.XDC_STAT_DISC x) = min 4095 (s.f (R.XDC_STAT_DISC x) + n) ∧
    (s.resyncCount x n).f (R.XDC_STAT_RSYNC x) = min 127 (s.f (R.XDC_STAT_RSYNC x) + 1) := by
  have hd : (R.XDC_STAT_DISC x).lo + (R.XDC_STAT_DISC x).w ≤ 32 := by simp [R.XDC_STAT_DISC]
  have hr : (R.XDC_STAT_RSYNC x).lo + (R.XDC_STAT_RSYNC x).w ≤ 32 := by simp [R.XDC_STAT_RSYNC]
  have hlt : (R.XDC_STAT_DISC x).lo + (R.XDC_STAT_DISC x).w ≤ (R.XDC_STAT_RSYNC x).lo := by simp [R.XDC_STAT_DISC, R.XDC_STAT_RSYNC]
  constructor
  · exact (State.f_setF_ne _ _ hr (.inr (.inl hlt)) _).trans (State.f_count_self _ hd n)
  · refine (State.f_count_self _ hr 1).trans ?_
    rw [State.count, State.f_setF_ne _ _ hd (.inr (.inr hlt))]
    rfl

theorem State.resyncCount_within (hx : p (0x3000 + 4 * x)) (n : Nat) : Within p s (s.resyncCount x n) :=
  ((Within.refl p s).count (R.XDC_STAT_DISC x) n hx).count (R.XDC_STAT_RSYNC x) 1 hx

/-- The words of a FIFO crossing, the reports of crossing 3 and the triggers of crossing 4 are discarded. -/
def State.dropWords (s : State) (x : Nat) : State :=
  if isFifo x then s.each (List.range 32) fun ch s => s.setFifo x ch [] else s
def State.dropReports (s : State) (x : Nat) : State := if x = 3 then { s with xdc := { s.xdc with rep3 := [] } } else s
def State.dropTriggers (s : State) (x : Nat) : State :=
  if x = 4 then s.each (List.range 19) fun ch s => s.setXing (100 + ch) {} else s

/-- A crossing whose content the handshake has counted and discarded, its own entry apart. -/
def State.drained (s : State) (x : Nat) : State :=
  (((s.resyncCount x (s.inFlight x)).dropWords x).dropReports x).dropTriggers x

/-- The entry of a crossing after its handshake: a mailbox sends the present value of its source once. -/
def Crossing.restarted (c : Crossing) (x : Nat) : Crossing :=
  { src := c.src, dst := c.dst, flight := if isMailbox x && !c.src.isEmpty then some c.src else none }

/-- The crossing's part of XDC_RESYNC. -/
theorem State.resync_of_due (h : (s.xing x).resync = true) : s.resync x =
    (if x = 0 then ((s.drained x).setXing x ((s.xing x).restarted x)).resendSet
      else (s.drained x).setXing x ((s.xing x).restarted x)).post 0x0301 x := by
  simp only [State.resync, h]
  rfl

theorem State.resync_of_not_due (h : (s.xing x).resync = false) : s.resync x = s := by
  simp [State.resync, h]

theorem State.dropWords_moves : MovesCrossings s (s.dropWords x) := by
  unfold State.dropWords
  split
  · exact (MovesCrossings.refl s).each fun ch u => (MovesCrossings.refl u).setFifo x ch []
  · exact .refl s

theorem State.dropReports_moves : MovesCrossings s (s.dropReports x) := by
  unfold State.dropReports
  split
  · exact ⟨_, rfl⟩
  · exact .refl s

theorem State.dropTriggers_moves : MovesCrossings s (s.dropTriggers x) := by
  unfold State.dropTriggers
  split
  · exact (MovesCrossings.refl s).each fun ch u => (MovesCrossings.refl u).setXing (100 + ch) {}
  · exact .refl s

theorem State.drained_moves : MovesCrossings (s.resyncCount x (s.inFlight x)) (s.drained x) :=
  (State.dropWords_moves.trans State.dropReports_moves).trans State.dropTriggers_moves

theorem State.fifo_dropWords (hx : isFifo x = true) {ch : Nat} (hch : ch < 32) : (s.dropWords x).fifo x ch = [] := by
  rw [State.dropWords, if_pos hx]
  refine State.each_at (j := ch) (P := fun _ => True) (Q := fun u => u.fifo x ch = []) List.nodup_range (List.mem_range.2 hch) trivial
    (fun _ _ _ _ _ => trivial) (fun u _ => State.fifo_setFifo_self _) fun i _ hi u hu => ?_
  exact (State.fifo_setFifo_ne _ hi.symm).trans hu

theorem State.fifo_drained (hx : isFifo x = true) {ch : Nat} (hch : ch < 32) : (s.drained x).fifo x ch = [] := by
  have h4 : x ≠ 4 := by
    rintro rfl
    exact absurd hx (by decide)
  rw [State.drained, State.dropTriggers, if_neg h4, State.dropReports, if_neg (lt_of_isFifo hx).2]
  exact State.fifo_dropWords hx hch

/-- The parts of crossings 8 to 10 that belong to ports stay. -/
theorem State.xing_drained_port {y : Nat} (hy : 119 ≤ y) : (s.drained x).xing y = s.xing y := by
  have hwords (u : State) : (u.dropWords x).xing y = u.xing y := by
    unfold State.dropWords
    split
    · exact State.each_ind (P := fun z => z.xing y = u.xing y) rfl fun _ _ _ => id
    · rfl
  have hreports (u : State) : (u.dropReports x).xing y = u.xing y := by
    unfold State.dropReports
    split <;> rfl
  have htriggers (u : State) : (u.dropTriggers x).xing y = u.xing y := by
    unfold State.dropTriggers
    split
    · refine State.each_ind (P := fun z => z.xing y = u.xing y) rfl fun ch hch z hz => (State.xing_setXing_ne _ ?_).trans hz
      have := List.mem_range.1 hch
      omega
    · rfl
  rw [State.drained, htriggers, hreports, hwords]
  simp [State.xing, State.resyncCount]

/-- What the handshake of a crossing shows. -/
structure Resynced (s : State) (x n : Nat) (t : State) : Prop where
  disc : t.f (R.XDC_STAT_DISC x) = min 4095 (s.f (R.XDC_STAT_DISC x) + n)
  rsync : t.f (R.XDC_STAT_RSYNC x) = min 127 (s.f (R.XDC_STAT_RSYNC x) + 1)
  keeps : KeepsOut (fun o => o = 0x3000 + 4 * x ∨ evReg o) s t

/-- The counts are shown, however the crossings move after them, and stand through the event's posting. -/
theorem Resynced.post {n : Nat} (hx : x < 18) (hregs : u.regs = (s.resyncCount x n).regs)
    (hkeep : Within (fun o => o = 0x3000 + 4 * x ∨ evReg o) s u) : Resynced s x n (u.post 0x0301 x) where
  disc := by
    rw [State.f_post_xdcStat _ hx rfl, State.f, State.reg, hregs]
    exact (State.f_resyncCount x n).1
  rsync := by
    rw [State.f_post_xdcStat _ hx rfl, State.f, State.reg, hregs]
    exact (State.f_resyncCount x n).2
  keeps := (hkeep.post (fun _ => .inr) ..).keepsOut

/-- The resynchronisation of a whole crossing. -/
theorem State.resync_shows (hx : x < 18) (h : (s.xing x).resync = true) : Resynced s x (s.inFlight x) (s.resync x) ∧
    (s.resync x).xing x = (s.xing x).restarted x ∧ (isFifo x = true → ∀ ch < 32, (s.resync x).fifo x ch = []) ∧
    ∀ y, 119 ≤ y → (s.resync x).xing y = s.xing y := by
  rw [State.resync_of_due h]
  have hmoves := (State.drained_moves (s := s) (x := x)).setXing x ((s.xing x).restarted x)
  have hkeep := (State.resyncCount_within (p := fun o => o = 0x3000 + 4 * x ∨ evReg o) (.inl rfl) (s.inFlight x)).trans hmoves.within
  have hent := State.xing_setXing_self (s := s.drained x) (x := x) ((s.xing x).restarted x)
  have hfifo (hf : isFifo x = true) (ch : Nat) (hch : ch < 32) := State.fifo_drained (s := s) hf hch
  have hport (y : Nat) (hy : 119 ≤ y) := (State.xing_setXing_ne (s := s.drained x) ((s.xing x).restarted x) (show y ≠ x by omega)).trans
    (State.xing_drained_port hy)
  have hposted (u : State) (hxdc : u.xdc = ((s.drained x).setXing x ((s.xing x).restarted x)).xdc)
      (hregs : u.regs = (s.resyncCount x (s.inFlight x)).regs) (hu : Within (fun o => o = 0x3000 + 4 * x ∨ evReg o) s u) :
      Resynced s x (s.inFlight x) (u.post 0x0301 x) ∧ (u.post 0x0301 x).xing x = (s.xing x).restarted x ∧
        (isFifo x = true → ∀ ch < 32, (u.post 0x0301 x).fifo x ch = []) ∧
        ∀ y, 119 ≤ y → (u.post 0x0301 x).xing y = s.xing y := by
    refine ⟨.post hx hregs hu, ?_, fun hf ch hch => ?_, fun y hy => ?_⟩
    · rw [State.xing_post, State.xing, hxdc]
      exact hent
    · rw [State.fifo_post, State.fifo, hxdc]
      exact hfifo hf ch hch
    · rw [State.xing_post, State.xing, hxdc]
      exact hport y hy
  split
  · exact hposted _ rfl hmoves.regs (hkeep.same rfl rfl rfl rfl rfl rfl rfl)
  · exact hposted _ rfl hmoves.regs hkeep

theorem State.linkResync_of_not_due {n : Nat} (h : (s.xing (linkKey n)).resync = false) : s.linkResync n = s := by
  simp [State.linkResync, h]

theorem State.timeResync_of_not_due {n : Nat} (h : (s.xing (timeKey n)).resync = false) : s.timeResync n = s := by
  simp [State.timeResync, h]

/-- Where no port's part is due, the command resynchronises the crossing alone. -/
theorem State.resyncAll_of_no_port (hx : x < 18) (h : (s.xing x).resync = true)
    (hlink : x = 8 ∨ x = 9 → ∀ i < 4, (s.xing (linkKey (4 * (x - 8) + i))).resync = false)
    (htime : x = 10 → ∀ n < 8, (s.xing (timeKey n)).resync = false) : s.resyncAll x = s.resync x := by
  obtain ⟨_, _, _, hport⟩ := State.resync_shows hx h
  unfold State.resyncAll
  dsimp only
  split
  next h89 =>
    refine State.each_ind (P := (· = s.resync x)) rfl fun i hi u hu => hu.symm ▸ State.linkResync_of_not_due ?_
    rw [hport _ (by unfold linkKey; omega)]
    exact hlink (by simpa using h89) i (List.mem_range.1 hi)
  · split
    next h10 =>
      refine State.each_ind (P := (· = s.resync x)) rfl fun n hn u hu => hu.symm ▸ State.timeResync_of_not_due ?_
      rw [hport _ (by unfold timeKey; omega)]
      exact htime h10 n (List.mem_range.1 hn)
    · rfl

theorem xdcResync_answers (hl : s.live = true) {x : Fin 18} (h : (s.xing x).resync = true)
    (hlink : x.val = 8 ∨ x.val = 9 → ∀ i < 4, (s.xing (linkKey (4 * (x - 8) + i))).resync = false)
    (htime : x.val = 10 → ∀ n < 8, (s.xing (timeKey n)).resync = false) : Answers (.xdcResync x) s fun t =>
      (t.xing x).inReset = false ∧ (t.xing x).resync = false ∧ (t.xing x).cnt = 0 ∧
        t.f (R.XDC_STAT_DISC x) = min 4095 (s.f (R.XDC_STAT_DISC x) + s.inFlight x) ∧
        t.f (R.XDC_STAT_RSYNC x) = min 127 (s.f (R.XDC_STAT_RSYNC x) + 1) ∧ (isFifo x = true → ∀ ch < 32, t.fifo x ch = []) ∧
        KeepsOut (fun o => o = 0x3000 + 4 * x.val ∨ evReg o) s t := by
  obtain ⟨⟨hdisc, hrsync, hkeeps⟩, hent, hfifo, -⟩ := State.resync_shows x.isLt h
  refine .onMain (t := s.resyncAll x) hl rfl (State.resyncAll_of_no_port x.isLt h hlink htime ▸ ?_)
  rw [hent]
  exact ⟨rfl, rfl, rfl, hdisc, hrsync, hfifo, hkeeps⟩

/-- The link side of port n after its handshake: both its directions are empty. -/
theorem State.linkResync_shows {n : Nat} (hn : n < 8) (hx : x = 8 + n / 4) (h : (s.xing (linkKey n)).resync = true)
    (hr : (s.xing (linkKey n)).inReset = false) :
    Resynced s x ((s.fifo x (n % 4)).length + (s.fifo x (n % 4 + 4)).length) (s.linkResync n) ∧
      (s.linkResync n).fifo x (n % 4) = [] ∧ (s.linkResync n).fifo x (n % 4 + 4) = [] ∧ (s.linkResync n).xing (linkKey n) = {} ∧
      ∀ y, y ≠ linkKey n → (s.linkResync n).xing y = s.xing y := by
  subst hx
  have heq : s.linkResync n = ((((s.resyncCount (8 + n / 4) ((s.fifo (8 + n / 4) (n % 4)).length +
      (s.fifo (8 + n / 4) (n % 4 + 4)).length)).setFifo (8 + n / 4) (n % 4) []).setFifo (8 + n / 4) (n % 4 + 4) []).setXing
      (linkKey n) {}).post 0x0301 (8 + n / 4) := by
    simp [State.linkResync, h, hr]
  rw [heq]
  have hmoves := (((MovesCrossings.refl (s.resyncCount (8 + n / 4) ((s.fifo (8 + n / 4) (n % 4)).length +
    (s.fifo (8 + n / 4) (n % 4 + 4)).length))).setFifo (8 + n / 4) (n % 4) []).setFifo (8 + n / 4) (n % 4 + 4) []).setXing
    (linkKey n) {}
  refine ⟨.post (by omega) hmoves.regs ((State.resyncCount_within (.inl rfl) _).trans hmoves.within), ?_, ?_, ?_, fun y hy => ?_⟩
  · rw [State.fifo_post, State.fifo_setXing, State.fifo_setFifo_ne _ (by omega), State.fifo_setFifo_self]
  · rw [State.fifo_post, State.fifo_setXing, State.fifo_setFifo_self]
  · rw [State.xing_post, State.xing_setXing_self]
  · rw [State.xing_post, State.xing_setXing_ne _ hy, State.xing_setFifo, State.xing_setFifo]
    simp [State.xing, State.resyncCount]

/-- Where the part of one port alone is due, the command resynchronises that. -/
theorem State.resyncAll_of_port {n : Nat} (hn : n < 8) (hx : x = 8 + n / 4) (h0 : (s.xing x).resync = false)
    (h : (s.xing (linkKey n)).resync = true) (hr : (s.xing (linkKey n)).inReset = false)
    (hne : ∀ m < 8, m ≠ n → (s.xing (linkKey m)).resync = false) : s.resyncAll x = s.linkResync n := by
  obtain ⟨_, _, _, _, hother⟩ := State.linkResync_shows hn hx h hr
  have h89 : (x = 8 || x = 9) = true := by
    simp only [Bool.or_eq_true, decide_eq_true_eq]
    omega
  have hport (i : Nat) : 4 * (x - 8) + i = n ↔ i = n % 4 := by omega
  simp only [State.resyncAll, State.resync_of_not_due h0, h89, if_true]
  refine State.each_at (j := n % 4) (P := (· = s)) (Q := (· = s.linkResync n)) List.nodup_range (List.mem_range.2 (by omega)) rfl
    (fun i hi hne' u hu => ?_) (fun u hu => ?_) fun i hi hne' u hu => ?_
  · have := List.mem_range.1 hi
    rw [hu, State.linkResync_of_not_due (hne _ (by omega) (mt (hport i).1 hne'))]
  · rw [hu, (hport (n % 4)).2 rfl]
  · have := List.mem_range.1 hi
    rw [hu, State.linkResync_of_not_due]
    rw [hother (linkKey (4 * (x - 8) + i)) fun e => hne' ((hport i).1 (Nat.add_left_cancel e))]
    exact hne _ (by omega) (mt (hport i).1 hne')

theorem xdcResync_port_answers (hl : s.live = true) {x : Fin 18} {n : Nat} (hn : n < 8) (hx : x.val = 8 + n / 4)
    (h0 : (s.xing x).resync = false) (h : (s.xing (linkKey n)).resync = true) (hr : (s.xing (linkKey n)).inReset = false)
    (hne : ∀ m < 8, m ≠ n → (s.xing (linkKey m)).resync = false) : Answers (.xdcResync x) s fun t =>
      t.fifo x (n % 4) = [] ∧ t.fifo x (n % 4 + 4) = [] ∧ (t.xing (linkKey n)).resync = false ∧
        t.f (R.XDC_STAT_DISC x) = min 4095 (s.f (R.XDC_STAT_DISC x) + ((s.fifo x (n % 4)).length + (s.fifo x (n % 4 + 4)).length)) ∧
        t.f (R.XDC_STAT_RSYNC x) = min 127 (s.f (R.XDC_STAT_RSYNC x) + 1) ∧
        KeepsOut (fun o => o = 0x3000 + 4 * x.val ∨ evReg o) s t := by
  obtain ⟨⟨hdisc, hrsync, hkeeps⟩, hin, hout, hent, -⟩ := State.linkResync_shows hn hx h hr
  refine .onMain (t := s.resyncAll x) hl rfl (State.resyncAll_of_port hn hx h0 h hr hne ▸ ?_)
  exact ⟨hin, hout, congrArg Crossing.resync hent, hdisc, hrsync, hkeeps⟩

/-- Settles O14, clause by clause: the three forms of mailbox, the three event crossings, and the two forms of
resynchronisation. -/
theorem mailboxesAndEvents : Obligations.MailboxesAndEvents := fun _ hl =>
  ⟨fun _ _ hm h0 h10 hr hf => mailboxTransfer_answers hl hm h0 h10 hr hf, mailboxTransfer_time_answers hl,
    fun _ hr hf => mailboxTransfer_updateSet_answers hl hr hf, handshake_start_answers hl, handshake_reports_answers hl,
    handshake_triggers_answers hl, fun _ h hlink htime => xdcResync_answers hl h hlink htime,
    fun _ _ hn hx h0 h hr hne => xdcResync_port_answers hl hn hx h0 h hr hne⟩

end Sys2Proof.Machine
end

section
/-! PROOFS. Plant time: the servo (O12). Each operation of the servo has a lemma that says which registers it writes and one that
says what becomes of `TimSt`; a measurement is then told apart by the source that is selected after it. -/

namespace Sys2Proof.Machine

variable {s t u : State} {p : Nat → Prop}

theorem Within.tim (h : Within p s t) (q : TimSt) : Within p s { t with tim := q } := h.same rfl rfl rfl rfl rfl rfl rfl

/-! ### The display of synchronisation (R111, R118, R379) -/

theorem State.aiShow_tim : s.aiShow.tim = s.tim := by
  unfold State.aiShow
  split <;> rfl

theorem State.aiShow_within (hg : p 0xB0E0) (h : Within p s t) : Within p s t.aiShow := by
  unfold State.aiShow
  exact ((h.setF R.GRD_STAT_HITS 0 hg).setF R.GRD_STAT_AISUSP 1 hg).ite (h.setF R.GRD_STAT_AISUSP 0 hg)

theorem State.f_aiShow (x : Fld) (hx : x.off ≠ 0xB0E0) : s.aiShow.f x = s.f x :=
  congrArg x.get ((State.aiShow_within (p := (· = 0xB0E0)) rfl (.refl _ s)).reg _ hx)

theorem State.showSync_tim : s.showSync.tim = s.tim := State.aiShow_tim

theorem State.showSync_within (hd : p 0xD000) (hg : p 0xB0E0) (h : Within p s t) : Within p s t.showSync :=
  State.aiShow_within hg (h.setF R.PLT_TSTAT_UNSYNC _ hd)

/-- `UNSYNC` is shown, every other field of `PLT_TSTAT` stays. -/
theorem State.f_showSync (x : Fld) (hx : x.off = 0xD000) (hlo : 1 ≤ x.lo) : s.showSync.f x = s.f x :=
  (State.f_aiShow x (by omega)).trans (State.f_setF_ne R.PLT_TSTAT_UNSYNC x (by decide) (.inr (.inr hlo)) _)

theorem State.f_showSync_unsync :
    s.showSync.f R.PLT_TSTAT_UNSYNC = bit (!s.on R.PLT_TSTAT_LOCKED || s.on R.PLT_TSTAT_OSC) :=
  (State.f_aiShow _ (by decide)).trans ((State.f_setF_self _ (by decide) _).trans (Nat.mod_eq_of_lt (bit_lt_two _)))

theorem KeepsBut.aiShow {l : List Fld} (h : KeepsBut l s t) (hh : R.GRD_STAT_HITS ∈ l) (ha : R.GRD_STAT_AISUSP ∈ l) :
    KeepsBut l s t.aiShow := by
  unfold State.aiShow
  split
  · exact (h.setF _ hh (by decide) 0).setF _ ha (by decide) 1
  · exact h.setF _ ha (by decide) 0

theorem KeepsBut.showSync {l : List Fld} (h : KeepsBut l s t) (hu : R.PLT_TSTAT_UNSYNC ∈ l) (hh : R.GRD_STAT_HITS ∈ l)
    (ha : R.GRD_STAT_AISUSP ∈ l) : KeepsBut l s t.showSync :=
  (h.setF _ hu (by decide) _).aiShow hh ha

/-! ### Loss of lock, the rate and a step (R102, R103, R111, R112) -/

theorem State.unlockServo_tim : s.unlockServo.tim = { s.tim with inLock := 0, outLock := 0 } := State.showSync_tim

theorem State.unlockServo_within (hd : p 0xD000) (hg : p 0xB0E0) (h : Within p s t) : Within p s t.unlockServo :=
  State.showSync_within hd hg ((h.tim _).setF R.PLT_TSTAT_LOCKED 0 hd)

theorem State.f_unlockServo_locked : s.unlockServo.f R.PLT_TSTAT_LOCKED = 0 :=
  (State.f_showSync _ rfl (by decide)).trans (State.f_setF_self _ (by decide) 0)

theorem State.f_unlockServo_unsync : s.unlockServo.f R.PLT_TSTAT_UNSYNC = 1 := by
  refine State.f_showSync_unsync.trans ?_
  rw [State.on, State.f_setF_self _ (by decide)]
  rfl

/-- The source shown stays through a loss of lock. -/
theorem State.f_unlockServo_src : s.unlockServo.f R.PLT_TSTAT_SRC = s.f R.PLT_TSTAT_SRC :=
  (State.f_showSync _ rfl (by decide)).trans (State.f_setF_ne R.PLT_TSTAT_LOCKED _ (by decide) (by decide) 0)

theorem State.rebase_src : s.rebase.tim.src = s.tim.src := by
  unfold State.rebase
  split <;> rfl

theorem State.setRate_src (i p : Int) : (s.setRate i p).tim.src = s.tim.src := State.rebase_src

theorem State.setRate_within (hr : p 0x203C) (i q : Int) (h : Within p s t) : Within p s (t.setRate i q) := by
  refine Within.setF R.TIM_RATE_VAL _ hr ?_
  unfold State.rebase
  split <;> exact h.tim _

theorem State.f_setRate (x : Fld) (hx : x.off ≠ 0x203C) (i q : Int) : (s.setRate i q).f x = s.f x :=
  congrArg x.get ((State.setRate_within (p := (· = 0x203C)) rfl i q (.refl _ s)).reg _ hx)

/-- After Cairn restore a change of rate leaves plant time where it is and rebases it. -/
theorem State.setRate_tim (h : s.sys.restored = true) (i q : Int) :
    (s.setRate i q).tim = { s.tim with ptb := s.pt, tbpb := s.tbp, rhoI := i, rhoP := q } := by
  simp [State.setRate, State.rebase, h]

theorem State.ptStep_src (e : Int) : (s.ptStep e).tim.src = s.tim.src := by
  simp only [State.ptStep, State.post_tim, State.count_tim, State.unlockServo_tim, State.setRate_src]

theorem State.ptStep_tim (h : s.sys.restored = true) (e : Int) : (s.ptStep e).tim = { s.tim with
    ptb := ((s.pt : Int) + e * 2 ^ 25).toNat, tbpb := s.tbp, rhoP := 0, inLock := 0, outLock := 0 } := by
  simp only [State.ptStep, State.post_tim, State.count_tim, State.unlockServo_tim, State.setRate_tim h]

theorem State.ptStep_within (hr : p 0x203C) (hd : p 0xD000) (hg : p 0xB0E0) (hp : ∀ o, evReg o → p o) (e : Int) (h : Within p s t) :
    Within p s (t.ptStep e) :=
  have hstepped := (State.setRate_within hr t.tim.rhoI 0 h).tim _
  Within.post hp _ _ _ _ _ ((State.unlockServo_within hd hg hstepped).count R.PLT_TSTAT_STEPS 1 hd)

theorem not_evReg_tstat : ¬ evReg 0xD000 := by
  unfold evReg
  omega

theorem State.f_ptStep_locked (e : Int) : (s.ptStep e).f R.PLT_TSTAT_LOCKED = 0 := by
  refine (State.f_post _ _ not_evReg_tstat ..).trans ?_
  exact (State.f_setF_ne R.PLT_TSTAT_STEPS _ (by decide) (by decide) _).trans State.f_unlockServo_locked

/-! ### The choice of a source (R107, R108) -/

@[simp] theorem State.srcMeas_setSrcMeas_self (i : Nat) (m : SrcMeas) : (s.setSrcMeas i m).srcMeas i = m := Tab.get_set_self ..

theorem State.srcMeas_of_src (h : t.tim.src = s.tim.src) (i : Nat) : t.srcMeas i = s.srcMeas i := by
  rw [State.srcMeas, h, State.srcMeas]

theorem State.bestSource_lt : s.bestSource < 8 := by
  have hlt (x : Fld) (hw : x.w = 3) : s.f x < 8 := by simpa [hw, State.f] using Fld.get_lt x (s.reg x.off)
  unfold State.bestSource
  cases h : [s.f R.TIM_SRVSRC_P0, s.f R.TIM_SRVSRC_P1, s.f R.TIM_SRVSRC_P2, s.f R.TIM_SRVSRC_P3].find?
      fun c => c ≠ 0 && (s.srcMeas c).valid with
  | none => exact Nat.zero_lt_succ 7
  | some c =>
    have hc := List.mem_of_find?_eq_some h
    simp only [List.mem_cons, List.not_mem_nil, or_false] at hc
    rcases hc with rfl | rfl | rfl | rfl <;> exact hlt _ rfl

/-- The source of the first priority is the best one while it is valid. -/
theorem State.bestSource_of_first {c : Nat} (hp : s.f R.TIM_SRVSRC_P0 = c) (h0 : c ≠ 0) (hv : (s.srcMeas c).valid = true) :
    s.bestSource = c := by
  simp [State.bestSource, hp, h0, hv]

/-- While the source stays the same, a choice shows no more than that the servo does not hold. -/
theorem State.reselect_of_same (h : s.bestSource = s.f R.PLT_TSTAT_SRC) (h0 : s.bestSource ≠ 0) :
    s.reselect = s.setF R.PLT_TSTAT_HOLD 0 := by
  simp [State.reselect, ← h, h0]

/-- `t` shows `b` as the source; beside it only registers of `p` differ from `s`, and no measurement. -/
structure ShowsSource (p : Nat → Prop) (s : State) (b : Nat) (t : State) : Prop extends Within p s t where
  src : t.tim.src = s.tim.src
  shown : t.f R.PLT_TSTAT_SRC = b

namespace ShowsSource

variable {b : Nat}

theorem setRate (h : ShowsSource p s b t) (hr : p 0x203C) (i q : Int) : ShowsSource p s b (t.setRate i q) :=
  ⟨State.setRate_within hr i q h.toWithin, (State.setRate_src i q).trans h.src, (State.f_setRate _ (by decide) i q).trans h.shown⟩

theorem unlockServo (h : ShowsSource p s b t) (hd : p 0xD000) (hg : p 0xB0E0) : ShowsSource p s b t.unlockServo :=
  ⟨State.unlockServo_within hd hg h.toWithin, (congrArg TimSt.src State.unlockServo_tim).trans h.src,
    State.f_unlockServo_src.trans h.shown⟩

theorem hold (h : ShowsSource p s b t) (hd : p 0xD000) (n : Nat) : ShowsSource p s b (t.setF R.PLT_TSTAT_HOLD n) :=
  ⟨h.toWithin.setF R.PLT_TSTAT_HOLD n hd, h.src, (State.f_setF_ne R.PLT_TSTAT_HOLD _ (by decide) (by decide) n).trans h.shown⟩

theorem ite {c : Prop} [Decidable c] (ht : ShowsSource p s b t) (hu : ShowsSource p s b u) :
    ShowsSource p s b (if c then t else u) := by
  split <;> assumption

end ShowsSource

/-- A choice shows the best source; beside it, it reaches the rates, the lock and the hold. -/
theorem State.reselect_shows (hr : p 0x203C) (hd : p 0xD000) (hg : p 0xB0E0) : ShowsSource p s s.bestSource s.reselect := by
  unfold State.reselect
  extract_lets b old _ v u w
  have hv : ShowsSource p s b v := by
    dsimp only [v]
    split
    next h => exact ⟨.refl p s, rfl, h.symm⟩
    · exact ⟨((Within.refl p s).tim _).setF R.PLT_TSTAT_SRC b hd, rfl,
        (State.f_setF_self _ (by decide) b).trans (Nat.mod_eq_of_lt State.bestSource_lt)⟩
  have hu : ShowsSource p s b u := hv.ite (hv.setRate hr _ _)
  have hw : ShowsSource p s b w := (hu.unlockServo hd hg).ite hu
  exact ((hw.hold hd 1).ite hw).ite (hv.hold hd 0)

/-! ### A measurement (R107 to R113) -/

/-- The source has its measurement, and a source is chosen again. -/
def State.measured (s : State) (i : Nat) : State := (s.setSrcMeas i { last := some s.tbp, valid := true }).reselect

/-- The offset is shown. -/
def State.showOfs (s : State) (e : Int) : State :=
  s.setF R.TIM_LASTOFS_VAL (unsigned 32 (clampInt (-(2 ^ 31)) (2 ^ 31 - 1) (e / 2 ^ 8)))

theorem State.measured_within (hr : p 0x203C) (hd : p 0xD000) (hg : p 0xB0E0) (i : Nat) : Within p s (s.measured i) :=
  ((Within.refl p s).tim _).trans (State.reselect_shows hr hd hg).toWithin

theorem State.srcMeas_measured (i : Nat) : (s.measured i).srcMeas i = { last := some s.tbp, valid := true } :=
  (State.srcMeas_of_src (State.reselect_shows (p := fun _ => True) trivial trivial trivial).src i).trans
    (State.srcMeas_setSrcMeas_self ..)

/-- The offset of a source that is not selected has no effect. -/
theorem State.measure_of_not_selected {i : Nat} (h : (s.measured i).f R.PLT_TSTAT_SRC ≠ i) (e : Int) : s.measure i e = s.measured i :=
  if_pos h

/-- That of the selected source is shown; what follows it is a step, a correction of the rates or nothing. -/
theorem State.measure_of_selected {i : Nat} (h : (s.measured i).f R.PLT_TSTAT_SRC = i) (e : Int) (hr : p 0x203C) (hd : p 0xD000)
    (hg : p 0xB0E0) (hp : ∀ o, evReg o → p o) :
    Within p ((s.measured i).showOfs e) (s.measure i e) ∧ (s.measure i e).tim.src = (s.measured i).tim.src := by
  have hself := Within.refl p ((s.measured i).showOfs e)
  unfold State.measure
  extract_lets +onlyGivenNames m v w
  have hv : v.f R.PLT_TSTAT_SRC = i := h
  rw [if_neg (not_not.2 hv)]
  change Within p w _ ∧ _ = w.tim.src
  change Within p w w at hself
  clear_value w
  split
  · exact ⟨hself, rfl⟩
  · split
    · dsimp only
      split
      · exact ⟨State.ptStep_within hr hd hg hp e hself, State.ptStep_src e⟩
      · exact ⟨(State.setRate_within hr _ _ hself).tim _, State.rebase_src (s := w)⟩
    · exact ⟨hself.tim _, rfl⟩

/-- An offset of the selected source beyond `STEPTH` in a state that allows it is a step. -/
theorem State.measure_step {i : Nat} {e : Int} (h : (s.measured i).f R.PLT_TSTAT_SRC = i) (hc : (s.measured i).sys.restored = true)
    (hf : (s.measured i).tim.fresh = false) (hl : (s.srcMeas i).last ≠ none)
    (hbig : ((s.measured i).showOfs e).f R.TIM_SRV2_STEPTH * 1000 * 2 ^ 16 < e.natAbs)
    (hst : ((s.measured i).showOfs e).stepState = true) : s.measure i e = ((s.measured i).showOfs e).ptStep e := by
  obtain ⟨l, hl⟩ := Option.ne_none_iff_exists'.1 hl
  unfold State.measure
  extract_lets +onlyGivenNames m v w
  have hv : v.f R.PLT_TSTAT_SRC = i := h
  rw [if_neg (not_not.2 hv)]
  have hwc : w.sys.restored = true := hc
  have hwf : w.tim.fresh = false := hf
  change w.f R.TIM_SRV2_STEPTH * 1000 * 2 ^ 16 < e.natAbs at hbig
  change w.stepState = true at hst
  change _ = w.ptStep e
  clear_value w
  simp only [hwc, hwf, m, hl, decide_eq_true hbig, hst, Bool.not_true, Bool.and_true, Bool.false_eq_true, if_true, if_false]

/-- A measurement writes registers of plant time and the servo alone. -/
theorem State.measure_within (ho : p 0x2038) (hr : p 0x203C) (hd : p 0xD000) (hg : p 0xB0E0) (hp : ∀ o, evReg o → p o) (i : Nat)
    (e : Int) : Within p s (s.measure i e) := by
  have hm := State.measured_within (s := s) hr hd hg i
  by_cases h : (s.measured i).f R.PLT_TSTAT_SRC = i
  · exact (hm.setF R.TIM_LASTOFS_VAL _ ho).trans (State.measure_of_selected h e hr hd hg hp).1
  · exact State.measure_of_not_selected h e ▸ hm

/-- It stands as the last one of its source, which is valid. -/
theorem State.srcMeas_measure (i : Nat) (e : Int) : (s.measure i e).srcMeas i = { last := some s.tbp, valid := true } := by
  by_cases h : (s.measured i).f R.PLT_TSTAT_SRC = i
  · have hsrc := (State.measure_of_selected (p := fun _ => True) h e trivial trivial trivial fun _ _ => trivial).2
    exact (State.srcMeas_of_src hsrc i).trans (State.srcMeas_measured i)
  · exact State.measure_of_not_selected h e ▸ State.srcMeas_measured i

theorem State.f_measure_lastOfs {i : Nat} (h : (s.measured i).f R.PLT_TSTAT_SRC = i) (e : Int) :
    (s.measure i e).f R.TIM_LASTOFS_VAL = unsigned 32 (clampInt (-(2 ^ 31)) (2 ^ 31 - 1) (e / 2 ^ 8)) := by
  have hreg := (State.measure_of_selected (p := (· ≠ 0x2038)) h e (by decide) (by decide) (by decide)
    fun o ho => by unfold evReg at ho; omega).1.reg 0x2038 fun k => k rfl
  exact (congrArg R.TIM_LASTOFS_VAL.get hreg).trans ((State.f_setF_self _ (by decide) _).trans (Nat.mod_eq_of_lt (BitVec.isLt _)))

/-! The source of the first priority is the one selected already: the choice changes no more than `HOLD`. -/

section
variable {i : Nat} (hprio : s.f R.TIM_SRVSRC_P0 = i) (hsel : s.f R.PLT_TSTAT_SRC = i) (h0 : i ≠ 0)
include hprio hsel h0

theorem State.measured_of_first :
    s.measured i = (s.setSrcMeas i { last := some s.tbp, valid := true }).setF R.PLT_TSTAT_HOLD 0 := by
  have hbest : (s.setSrcMeas i { last := some s.tbp, valid := true }).bestSource = i :=
    State.bestSource_of_first hprio h0 (congrArg SrcMeas.valid (State.srcMeas_setSrcMeas_self ..))
  exact State.reselect_of_same (hbest.trans hsel.symm) fun h => h0 (hbest.symm.trans h)

theorem State.f_measured_src_of_first : (s.measured i).f R.PLT_TSTAT_SRC = i := by
  rw [State.measured_of_first hprio hsel h0, State.f_setF_ne _ _ (by decide) (by decide)]
  exact hsel

end

/-- Plant time follows `TimSt`, the mode on OSC25, and the held ratio. -/
theorem State.pt_congr (hb : t.tbp = s.tbp) (hp : t.tim.ptb = s.tim.ptb) (hq : t.tim.tbpb = s.tim.tbpb) (hi : t.tim.rhoI = s.tim.rhoI)
    (hr : t.tim.rhoP = s.tim.rhoP) (ho : t.f R.CLK_STAT_ONOSC = s.f R.CLK_STAT_ONOSC) (hs : t.sys = s.sys) (hc : t.clk = s.clk) :
    t.pt = s.pt := by
  rw [State.pt, State.pt, State.ptAt, State.ptAt, State.on, State.on, hb, hp, hq, hi, hr, ho, hs, hc]

/-- What a step of a source selected already does: plant time moves by the offset, the proportional term and the lock end. -/
theorem State.measure_step_of_first {i : Nat} {e : Int} (hprio : s.f R.TIM_SRVSRC_P0 = i) (hsel : s.f R.PLT_TSTAT_SRC = i) (h0 : i ≠ 0)
    (hc : s.sys.restored = true) (hf : s.tim.fresh = false) (hlast : (s.srcMeas i).last ≠ none)
    (hbig : s.f R.TIM_SRV2_STEPTH * 1000 * 2 ^ 16 < e.natAbs) (hst : s.inSt [stBoot, stStandby, stTripped, stSafe] = true) :
    (s.measure i e).tim.ptb = ((s.pt : Int) + e * 2 ^ 25).toNat ∧ (s.measure i e).tim.tbpb = s.tbp ∧
      (s.measure i e).tim.rhoI = s.tim.rhoI ∧ (s.measure i e).tim.rhoP = 0 ∧ (s.measure i e).f R.PLT_TSTAT_LOCKED = 0 := by
  have hm := State.measured_of_first hprio hsel h0
  have hf' (x : Fld) (hx : x.off ≠ 0xD000 ∧ x.off ≠ 0x2038) : ((s.measured i).showOfs e).f x = s.f x := by
    rw [State.showOfs, State.f_setF_ne _ _ (by decide) (.inl hx.2), hm, State.f_setF_ne _ _ (by decide) (.inl hx.1)]
    rfl
  have hpt : ((s.measured i).showOfs e).pt = s.pt := by
    refine State.pt_congr ?_ ?_ ?_ ?_ ?_ (hf' _ (by decide)) ?_ ?_ <;> rw [State.showOfs, hm] <;> rfl
  have hrest : ((s.measured i).showOfs e).sys.restored = true := by
    rw [State.showOfs, hm]
    exact hc
  have hstep : s.measure i e = ((s.measured i).showOfs e).ptStep e := by
    refine State.measure_step (State.f_measured_src_of_first hprio hsel h0) hrest ?_ hlast ?_ ?_
    · rw [hm]
      exact hf
    · rw [hf' _ (by decide)]
      exact hbig
    · have hlive : ((s.measured i).showOfs e).live = s.live := by
        rw [State.showOfs, hm]
        rfl
      rw [State.stepState, State.inSt, hlive, State.st, hf' _ (by decide)]
      exact hst
  have hrate : ((s.measured i).showOfs e).tim.rhoI = s.tim.rhoI := by
    rw [State.showOfs, hm]
    rfl
  have htbp : ((s.measured i).showOfs e).tbp = s.tbp := by
    rw [State.showOfs, hm]
    rfl
  rw [hstep, State.ptStep_tim hrest, hpt, hrate, htbp]
  exact ⟨rfl, rfl, rfl, rfl, State.f_ptStep_locked e⟩

/-! ### The commands of the servo -/

theorem State.measure_within_servoRegs (i : Nat) (e : Int) : Within servoRegs s (s.measure i e) :=
  State.measure_within (.inl rfl) (.inl rfl) (.inr (.inl rfl)) (.inr (.inr (.inl rfl))) (fun _ h => .inr (.inr (.inr (.inr h)))) i e

theorem State.wres_tim (off : Nat) (st : Status) : (s.wres off st).tim = s.tim := by
  unfold State.wres
  dsimp only
  split <;> rfl

theorem State.f_wres_ne (x : Fld) (hx : x.off ≠ 0x11000) (off : Nat) (st : Status) : (s.wres off st).f x = s.f x :=
  congrArg x.get (State.reg_wres_ne off st hx)

theorem hostOffsetSubmit_answers (hl : s.live = true) (sec : Word) : Answers (.hostOffsetSubmit sec) s fun t =>
    t.srcMeas 3 = { last := some s.tbp, valid := true } ∧ Recorded 0x2034 .done s t ∧
      (s.f R.TIM_SRVSRC_P0 = 3 → s.f R.PLT_TSTAT_SRC = 3 →
        t.f R.TIM_LASTOFS_VAL = unsigned 32 (clampInt (-(2 ^ 31)) (2 ^ 31 - 1) (hostE s sec / 2 ^ 8)) ∧
        (s.sys.restored = true → s.tim.fresh = false → (s.srcMeas 3).last ≠ none → s.f R.TIM_SRV2_STEPTH * 1000 * 2 ^ 16 < (hostE s sec).natAbs →
          s.inSt [stBoot, stStandby, stTripped, stSafe] = true →
          t.tim.ptb = ((s.pt : Int) + hostE s sec * 2 ^ 25).toNat ∧ t.tim.tbpb = s.tbp ∧ t.tim.rhoI = s.tim.rhoI ∧
            t.tim.rhoP = 0 ∧ t.f R.PLT_TSTAT_LOCKED = 0)) ∧
      KeepsOut servoRegs s t := by
  have hkeep := State.measure_within_servoRegs (s := s) 3 (hostE s sec)
  have hwres : (s.measure 3 (hostE s sec)).reg 0x11000 = s.reg 0x11000 :=
    (State.measure_within (p := (· ≠ 0x11000)) (by decide) (by decide) (by decide) (by decide)
      (fun o ho => by unfold evReg at ho; omega) 3 (hostE s sec)).reg _ fun k => k rfl
  refine .onMain (t := (s.measure 3 (hostE s sec)).wres 0x2034 .done) hl rfl ⟨?_, ?_, fun hprio hsel => ⟨?_, ?_⟩, ?_⟩
  · exact (State.srcMeas_of_src (congrArg TimSt.src (State.wres_tim ..)) 3).trans (State.srcMeas_measure 3 _)
  · exact State.wres_recorded_of_reg .done (by decide) hwres
  · exact (State.f_wres_ne _ (by decide) ..).trans
      (State.f_measure_lastOfs (State.f_measured_src_of_first hprio hsel (by decide)) _)
  · intro hc hf hlast hbig hst
    rw [State.wres_tim, State.f_wres_ne _ (by decide)]
    exact State.measure_step_of_first hprio hsel (by decide) hc hf hlast hbig hst
  · exact (State.wres_within _ _ (.inr (.inr (.inr (.inl rfl)))) hkeep).keepsOut

theorem ppsEdge_answers (hl : s.live = true) (hlock : s.f R.PLT_TSTAT_LOCKED = 0) : Answers .ppsEdge s fun t =>
    t.srcMeas 4 = { last := some s.tbp, valid := true } ∧ KeepsOut servoRegs s t := by
  have hmeas : ∃ e, s.ppsEdge = s.measure 4 e := by
    simp only [State.ppsEdge, State.on, hlock]
    exact ⟨_, rfl⟩
  obtain ⟨e, he⟩ := hmeas
  exact .onMain (t := s.ppsEdge) hl rfl (he ▸ ⟨State.srcMeas_measure 4 e, (State.measure_within_servoRegs 4 e).keepsOut⟩)

theorem servoSourceTimeout_answers (hl : s.live = true) (i : Fin 5) {l : Nat} (hlast : (s.srcMeas i).last = some l)
    (hv : (s.srcMeas i).valid = true) (hdue : l + s.validFor i ≤ s.tbp) : Answers (.servoSourceTimeout i) s fun t =>
      (t.srcMeas i).valid = false ∧ t.f R.PLT_TSTAT_SRC = (s.setSrcMeas i { last := some l }).bestSource ∧ KeepsOut servoRegs s t := by
  have h : s.sourceTimeout i = (s.setSrcMeas i { last := some l }).reselect := by
    simp [State.sourceTimeout, hlast, hv, hdue]
  obtain ⟨hkeep, hsrc, hshown⟩ := State.reselect_shows (p := servoRegs) (s := s.setSrcMeas i { last := some l }) (.inl rfl) (.inr (.inl rfl))
    (.inr (.inr (.inl rfl)))
  refine .onMain (t := s.sourceTimeout i) hl rfl (h ▸ ⟨?_, hshown, (((Within.refl _ s).tim _).trans hkeep).keepsOut⟩)
  rw [State.srcMeas_of_src hsrc, State.srcMeas_setSrcMeas_self]

/-- The fields that lock and loss of lock show. -/
def lockFlds : List Fld := [R.PLT_TSTAT_LOCKED, R.PLT_TSTAT_UNSYNC, R.GRD_STAT_AISUSP, R.GRD_STAT_HITS]

theorem KeepsBut.lock (h : KeepsBut lockFlds s t) (n : Nat) : KeepsBut lockFlds s (t.setF R.PLT_TSTAT_LOCKED n).showSync :=
  (h.setF _ (by simp [lockFlds]) (by decide) n).showSync (by simp [lockFlds]) (by simp [lockFlds]) (by simp [lockFlds])

theorem servoLock_answers (hl : s.live = true) (hin : s.tim.inLock = 16) (hsrc : s.f R.PLT_TSTAT_SRC ≠ 0) :
    Answers .servoLock s fun t => t.f R.PLT_TSTAT_LOCKED = 1 ∧ t.f R.PLT_TSTAT_UNSYNC = s.f R.PLT_TSTAT_OSC ∧ KeepsBut lockFlds s t := by
  have h : s.servoLock = (s.setF R.PLT_TSTAT_LOCKED 1).showSync := by simp [State.servoLock, hin, hsrc]
  have hlocked : (s.setF R.PLT_TSTAT_LOCKED 1).f R.PLT_TSTAT_LOCKED = 1 := State.f_setF_self _ (by decide) 1
  have hosc : (s.setF R.PLT_TSTAT_LOCKED 1).f R.PLT_TSTAT_OSC = s.f R.PLT_TSTAT_OSC := State.f_setF_ne _ _ (by decide) (by decide) 1
  refine .onMain (t := s.servoLock) hl rfl (h ▸ ⟨(State.f_showSync _ rfl (by decide)).trans hlocked, ?_, (KeepsBut.refl _ s).lock 1⟩)
  have hlt : s.f R.PLT_TSTAT_OSC < 2 := Fld.get_lt R.PLT_TSTAT_OSC _
  rw [State.f_showSync_unsync, State.on, State.on, hlocked, hosc]
  obtain h0 | h1 : s.f R.PLT_TSTAT_OSC = 0 ∨ s.f R.PLT_TSTAT_OSC = 1 := by omega
  · rw [h0]
    rfl
  · rw [h1]
    rfl

theorem servoLockLoss_answers (hl : s.live = true) (hlock : s.f R.PLT_TSTAT_LOCKED = 1) (hout : s.tim.outLock = 4) :
    Answers .servoLockLoss s fun t => t.f R.PLT_TSTAT_LOCKED = 0 ∧ t.f R.PLT_TSTAT_UNSYNC = 1 ∧ KeepsBut lockFlds s t := by
  have h : s.servoLoss = s.unlockServo := by simp [State.servoLoss, State.on, hlock, hout]
  have hkeep : KeepsBut lockFlds s { s with tim := { s.tim with inLock := 0, outLock := 0 } } :=
    ⟨⟨fun _ => rfl, rfl, rfl, rfl⟩, fun _ => rfl⟩
  exact .onMain (t := s.servoLoss) hl rfl (h ▸ ⟨State.f_unlockServo_locked, State.f_unlockServo_unsync, hkeep.lock 0⟩)

/-- The servo's half of O12. -/
theorem servo : servoHolds := fun _ hl =>
  ⟨hostOffsetSubmit_answers hl, ppsEdge_answers hl, fun i _ hlast hv hdue => servoSourceTimeout_answers hl i hlast hv hdue,
    servoLock_answers hl, servoLockLoss_answers hl⟩

end Sys2Proof.Machine
end

section
/-! PROOFS. Plant time: the compare units (O12). A match moves its unit on and starts its targets. What the targets do, the plant
frame with them, leaves plant time, the compare units and the ownership map alone; that is `KeepsUnits`. -/

namespace Sys2Proof.Machine

variable {s t u : State}

/-! ### Operations that leave the compare units alone -/

/-- Plant time and the state of the compare units, the registers of the page of both, and the ownership map are the same. -/
structure KeepsUnits (s t : State) : Prop where
  tim : t.tim = s.tim
  sys : t.sys = s.sys
  reg : ∀ off, off / 0x1000 = 2 → t.reg off = s.reg off

namespace KeepsUnits

theorem refl (s : State) : KeepsUnits s s := ⟨rfl, rfl, fun _ _ => rfl⟩

theorem trans (h : KeepsUnits s t) (k : KeepsUnits t u) : KeepsUnits s u :=
  ⟨k.tim.trans h.tim, k.sys.trans h.sys, fun o ho => (k.reg o ho).trans (h.reg o ho)⟩

/-- A change of other parts of the state. -/
theorem same (h : KeepsUnits s t) (ht : u.tim = t.tim) (hs : u.sys = t.sys) (hr : u.regs = t.regs) : KeepsUnits s u :=
  h.trans ⟨ht, hs, fun o _ => by rw [State.reg, hr, State.reg]⟩

theorem setF (h : KeepsUnits s t) (x : Fld) (n : Nat) (hx : x.off / 0x1000 ≠ 2) : KeepsUnits s (t.setF x n) :=
  h.trans ⟨rfl, rfl, fun _ ho => State.reg_setF_ne x n fun e => hx (e ▸ ho)⟩

theorem count (h : KeepsUnits s t) (x : Fld) (n : Nat) (hx : x.off / 0x1000 ≠ 2) : KeepsUnits s (t.count x n) := h.setF x _ hx

theorem posted (h : KeepsUnits s t) (k : Posted t u) : KeepsUnits s u :=
  h.trans ⟨k.tim, k.sys, fun o ho => k.reg o (by unfold evReg; omega)⟩

theorem post (h : KeepsUnits s t) (c i a b d : Nat) : KeepsUnits s (t.post c i a b d) := h.posted (State.post_posted c i a b d)

theorem setXing (h : KeepsUnits s t) (x : Nat) (c : Crossing) : KeepsUnits s (t.setXing x c) := h.same rfl rfl rfl
theorem ce (h : KeepsUnits s t) (q : CeSt) : KeepsUnits s { t with ce := q } := h.same rfl rfl rfl
theorem lnk (h : KeepsUnits s t) (q : LnkSt) : KeepsUnits s { t with lnk := q } := h.same rfl rfl rfl
theorem plt (h : KeepsUnits s t) (q : PltSt) : KeepsUnits s { t with plt := q } := h.same rfl rfl rfl
theorem saf (h : KeepsUnits s t) (q : SafSt) : KeepsUnits s { t with saf := q } := h.same rfl rfl rfl
theorem que (h : KeepsUnits s t) (q : QueSt) : KeepsUnits s { t with que := q } := h.same rfl rfl rfl
theorem bvq (h : KeepsUnits s t) (q : BvqSt) : KeepsUnits s { t with bvq := q } := h.same rfl rfl rfl

theorem setPort (h : KeepsUnits s t) (n : Nat) (q : PortSt) : KeepsUnits s (t.setPort n q) := h.lnk _
theorem setOut (h : KeepsUnits s t) (n : Nat) (f : LinkFrame) : KeepsUnits s (t.setOut n f) := h.lnk _
theorem takeFree (h : KeepsUnits s t) : KeepsUnits s t.takeFree.2 := h.same rfl rfl rfl

theorem setByte (h : KeepsUnits s t) (a : Nat) (b : Byte) : KeepsUnits s (t.setByte a b) :=
  h.same (State.setByte_tim ..) (State.setByte_sys ..) (State.setByte_regs ..)

theorem setWord (h : KeepsUnits s t) (a : Nat) (v : Word) : KeepsUnits s (t.setWord a v) :=
  h.same (State.setWord_tim ..) (State.setWord_sys ..) (State.setWord_regs ..)

theorem ite {c : Prop} [Decidable c] (ht : KeepsUnits s t) (hu : KeepsUnits s u) : KeepsUnits s (if c then t else u) := by
  split <;> assumption

theorem foldl {α : Type} {l : List α} {g : State → α → State} (h : KeepsUnits s t) (hg : ∀ v a, KeepsUnits s v → KeepsUnits s (g v a)) :
    KeepsUnits s (l.foldl g t) := by
  induction l generalizing t with
  | nil => exact h
  | cons a l ih => exact ih (hg t a h)

theorem each {l : List Nat} {g : Nat → State → State} (h : KeepsUnits s t) (hg : ∀ i v, KeepsUnits s v → KeepsUnits s (g i v)) :
    KeepsUnits s (t.each l g) := h.foldl fun v i => hg i v

end KeepsUnits

/-! ### The targets of a match but the plant frame (R126) -/

theorem State.overrun_keepsUnits (x : Nat) (hx : x < 18) (h : KeepsUnits s t) : KeepsUnits s (t.overrun x) :=
  h.ite ((h.setF (R.XDC_STAT_OVR x) 1 (by simp only [R.XDC_STAT_OVR]; omega)).post ..)

theorem State.xEvent_keepsUnits (x : Nat) (hx : x < 18) (h : KeepsUnits s t) : KeepsUnits s (t.xEvent x).2 := by
  unfold State.xEvent
  dsimp only
  split
  · exact h.count (R.XDC_STAT_DISC x) 1 (by simp only [R.XDC_STAT_DISC]; omega)
  · split
    · exact State.overrun_keepsUnits x hx (h.count (R.XDC_STAT_LOST x) 1 (by simp only [R.XDC_STAT_LOST]; omega))
    · exact h.setXing _ _

theorem State.trigEvent_keepsUnits (ch : Nat) (h : KeepsUnits s t) : KeepsUnits s (t.trigEvent ch) :=
  (h.count (R.XDC_STAT_DISC 4) 1 (by decide)).ite
    ((State.overrun_keepsUnits 4 (by decide) (h.count (R.XDC_STAT_LOST 4) 1 (by decide))).ite (h.setXing _ _))

theorem State.groupSync_keepsUnits (g : Nat) (h : KeepsUnits s t) : KeepsUnits s (t.groupSync g) := by
  have hcar (k : Nat) (c : CarSt) (v : State) (hv : KeepsUnits s v) : KeepsUnits s (v.setCar k c) := hv.same rfl rfl rfl
  unfold State.groupSync
  refine KeepsUnits.each (h.same rfl rfl rfl) fun k v hv => ?_
  dsimp only
  exact (((hcar _ _ v hv).ite (hcar _ _ v hv)).ite ((hcar _ _ v hv).ite hv)).ite hv

theorem State.winArm_posted {w : Nat} (hw : w < 16) : Posted s (s.winArm w) :=
  (((Posted.setF _ 0 (evReg_cap hw)).trans (.setF _ 0 (evReg_cap hw))).trans (.setF _ 1 (evReg_cap hw))).trans (.setWin w {})

theorem State.ptcTargets_keepsUnits (n tgt grp : Nat) (h : KeepsUnits s t) : KeepsUnits s (t.ptcTargets n tgt grp) := by
  unfold State.ptcTargets
  extract_lets +onlyGivenNames _ t₀ t₁ t₂ t₃ t₄ t₅ t₆ t₇
  have h₀ : KeepsUnits s t₀ := h.ce _
  have h₁ : KeepsUnits s t₁ := (State.xEvent_keepsUnits 2 (by decide) h₀).ite h
  have h₂ : KeepsUnits s t₂ := (State.trigEvent_keepsUnits 16 h₁).ite h₁
  have h₃ : KeepsUnits s t₃ := (State.trigEvent_keepsUnits 17 h₂).ite h₂
  have h₄ : KeepsUnits s t₄ := (State.trigEvent_keepsUnits 18 h₃).ite h₃
  have h₅ : KeepsUnits s t₅ := (State.groupSync_keepsUnits grp h₄).ite h₄
  have h₆ : KeepsUnits s t₆ := by
    refine KeepsUnits.ite (State.each_ind h₅ fun w hw v hv => ?_) h₅
    exact (hv.posted (State.winArm_posted (List.mem_range.1 hw))).ite hv
  have h₇ : KeepsUnits s t₇ := (h₆.posted (State.capTriggerAll_posted 1 _)).ite h₆
  exact (h₇.post ..).ite h₇

/-! ### The plant frame (R395) -/

theorem State.scrub_keepsUnits (a n : Nat) (h : KeepsUnits s t) : KeepsUnits s (t.scrub a n) := by
  refine h.foldl fun v b hv => ?_
  have hconst : KeepsUnits s ((v.restoreConst b).count R.CE_CHK_PARF 1) := (hv.setWord _ _).count _ 1 (by decide)
  have hlost : KeepsUnits s (v.lostWord 0 b) :=
    (((hv.setWord _ _).setF R.CE_FADDR_ADDR b (by decide)).count R.CE_CHK_PARS 1 (by decide)).post ..
  exact ((hconst.post ..).ite hlost).ite hv

theorem State.zoneSum_keepsUnits (h : KeepsUnits s t) : KeepsUnits s t.zoneSum :=
  (h.setF R.PLT_ZP_P _ (by decide)).setF R.PLT_ZQ_Q _ (by decide)

theorem State.ageSlot_keepsUnits (key : Nat) (h : KeepsUnits s t) : KeepsUnits s (t.ageSlot key) := by
  unfold State.ageSlot
  dsimp only
  exact h.ite (h.ite ((h.setByte ..).setByte ..))

theorem State.refusedStop_keepsUnits (q : Nat) (h : KeepsUnits s t) : KeepsUnits s (t.refusedStop q) :=
  (h.plt _).ite h

theorem State.relaySetpoints_keepsUnits (h : KeepsUnits s t) : KeepsUnits s t.relaySetpoints := (h.plt _).ite h

theorem State.refill_keepsUnits (h : KeepsUnits s t) : KeepsUnits s t.refill := h.each fun _ _ hv => hv.que _

theorem State.takeDown_keepsUnits (line cells : Nat) (h : KeepsUnits s t) : KeepsUnits s (t.takeDown line cells).2 :=
  (h.lnk _).foldl fun _ _ hv => hv.lnk _

theorem State.produceAt_keepsUnits (x key : Nat) (v : List Nat) (hx : x < 18) (h : KeepsUnits s t) :
    KeepsUnits s (t.produceAt x key v) := by
  unfold State.produceAt
  dsimp only
  split
  · exact (h.count (R.XDC_STAT_DISC x) 1 (by simp only [R.XDC_STAT_DISC]; omega)).setXing _ _
  · split
    · exact h.setXing _ _
    · exact ((h.count (R.XDC_STAT_LOST x) 1 (by simp only [R.XDC_STAT_LOST]; omega)).ite h).setXing _ _

theorem State.relate_keepsUnits (port : Nat) (h : KeepsUnits s t) : KeepsUnits s (t.relate port) :=
  State.produceAt_keepsUnits 10 _ _ (by decide) h

theorem State.emitLine_keepsUnits (l ts : Nat) (h : KeepsUnits s t) : KeepsUnits s (t.emitLine l ts) := by
  unfold State.emitLine
  dsimp only
  split
  · exact h
  · refine KeepsUnits.each ((State.takeDown_keepsUnits _ _ h).each fun i w hw => (hw.saf _).ite hw) fun net w hw => ?_
    exact (((State.relate_keepsUnits _ hw).setOut ..).setPort ..).ite hw

theorem State.frameStart_keepsUnits (h : KeepsUnits s t) : KeepsUnits s t.frameStart := by
  unfold State.frameStart
  split
  · exact h
  · split
    · exact h.count R.LNK_STAT_LATEF 1 (by decide)
    · extract_lets +onlyGivenNames t₁ t₂ t₃ _ t₄ _ t₅ t₆
      have h₁ : KeepsUnits s t₁ := State.zoneSum_keepsUnits (State.scrub_keepsUnits _ _ (State.scrub_keepsUnits _ _ h))
      have h₂ : KeepsUnits s t₂ := h₁.each fun q _ hv => State.ageSlot_keepsUnits q hv
      have h₃ : KeepsUnits s t₃ := h₂.each fun q _ hv => State.refusedStop_keepsUnits q hv
      have h₅ : KeepsUnits s t₅ := (h₃.lnk _).saf _
      have h₆ : KeepsUnits s t₆ := ((State.refill_keepsUnits (State.relaySetpoints_keepsUnits h₅)).lnk _).que _
      clear_value t₆
      exact (h₆.takeFree.each fun l _ hv => State.emitLine_keepsUnits l _ hv).lnk _

/-! ### A match (R114, R119, R120) -/

@[simp] theorem State.ptc_setPtc_self (n : Nat) (q : PtcSt) : (s.setPtc n q).ptc n = q := Tab.get_set_self ..
@[simp] theorem State.owner_setOwner_self (r o : Nat) : (s.setOwner r o).owner r = o := Tab.get_set_self ..

theorem State.cairnTouch_keepsUnits (h : KeepsUnits s t) : KeepsUnits s t.cairnTouch := by
  have hpend := h.setF R.BVQ_CAIRN_PEND 1 (by decide)
  exact (hpend.bvq _).ite (hpend.ite (hpend.bvq _))

theorem KeepsBut.cairnTouch {l : List Fld} (h : KeepsBut l s t) (hp : R.BVQ_CAIRN_PEND ∈ l) : KeepsBut l s t.cairnTouch := by
  have hpend := h.setF R.BVQ_CAIRN_PEND hp (by decide) 1
  unfold State.cairnTouch
  dsimp only
  split
  · exact ⟨⟨hpend.mem, hpend.host, hpend.queue, hpend.part⟩, hpend.regs⟩
  · split
    · exact hpend
    · exact ⟨⟨hpend.mem, hpend.host, hpend.queue, hpend.part⟩, hpend.regs⟩

/-- The unit as its match leaves it, before the targets. -/
def State.ptcPassed (s : State) (n : Nat) : State :=
  if s.f (R.TIM_PTC_CFG_MODE n) = 1 then (s.ptcAdvance n).cairnTouch else s.ptcAdvance n

theorem State.ptcPassed_keepsUnits (n : Nat) : KeepsUnits (s.ptcAdvance n) (s.ptcPassed n) :=
  (State.cairnTouch_keepsUnits (.refl _)).ite (.refl _)

/-- A match moves its unit on and starts the targets it names. -/
theorem State.ptcMatch_of_due {n : Nat} (hl : s.live = true) (hd : s.ptcDue n = true) : s.ptcMatch n =
    if (s.f (R.TIM_PTC_CFG_TGT n)).testBit 8 then
      ((s.ptcPassed n).ptcTargets n (s.f (R.TIM_PTC_CFG_TGT n)) (s.f (R.TIM_PTC_CFG_GRP n))).frameStart
    else (s.ptcPassed n).ptcTargets n (s.f (R.TIM_PTC_CFG_TGT n)) (s.f (R.TIM_PTC_CFG_GRP n)) := by
  simp [State.ptcMatch, State.ptcPassed, hl, hd]

/-- The targets leave the unit as the match has moved it on. -/
theorem State.ptcMatch_keepsUnits {n : Nat} (hl : s.live = true) (hd : s.ptcDue n = true) : KeepsUnits (s.ptcAdvance n) (s.ptcMatch n) := by
  have h := State.ptcTargets_keepsUnits n (s.f (R.TIM_PTC_CFG_TGT n)) (s.f (R.TIM_PTC_CFG_GRP n)) (s.ptcPassed_keepsUnits n)
  rw [State.ptcMatch_of_due hl hd]
  exact (State.frameStart_keepsUnits h).ite h

/-- With no target named, nothing is started. -/
theorem State.ptcMatch_of_no_target {n : Nat} (hl : s.live = true) (hd : s.ptcDue n = true) (ht : s.f (R.TIM_PTC_CFG_TGT n) = 0) :
    s.ptcMatch n = s.ptcPassed n := by
  simp [State.ptcMatch_of_due hl hd, ht, State.ptcTargets]

theorem State.ptcAdvance_once {n : Nat} (h : s.f (R.TIM_PTC_CFG_MODE n) = 1) :
    s.ptcAdvance n = ((s.setF (R.TIM_PTC_CFG_MODE n) 0).setOwner (0x1000 + n) 0).setPtc n {} := by
  simp [State.ptcAdvance, h]

/-- The next match of a periodic unit lies on its grid, after the present plant time. -/
theorem State.ptcAdvance_periodic {n c : Nat} (h : s.f (R.TIM_PTC_CFG_MODE n) = 2) (hc : (s.ptc n).next = some c) :
    s.ptcAdvance n = s.setPtc n { s.ptc n with next := some (c + ((s.pt - c) / s.ptcIvl n + 1) * s.ptcIvl n) } := by
  simp [State.ptcAdvance, h, hc]

theorem State.ptcAdvance_placed {n : Nat} (h : s.f (R.TIM_PTC_CFG_MODE n) = 3) :
    s.ptcAdvance n = s.setPtc n { s.ptc n with placed := (s.ptc n).placed.drop 1 } := by
  simp [State.ptcAdvance, h]

theorem State.ptcIvl_pos (n : Nat) : 0 < s.ptcIvl n :=
  Nat.mul_pos (Nat.lt_of_lt_of_le (by decide) (Nat.le_max_left 1000 _)) (Nat.two_pow_pos 41)

theorem State.pt_lt_next (n c : Nat) : s.pt < c + ((s.pt - c) / s.ptcIvl n + 1) * s.ptcIvl n := by
  have := Nat.lt_div_mul_add (a := s.pt - c) (s.ptcIvl_pos n)
  rw [Nat.add_mul, Nat.one_mul]
  omega

/-- A periodic unit that is due has a match planned. -/
theorem State.next_of_ptcDue {n : Nat} (h : s.f (R.TIM_PTC_CFG_MODE n) = 2) (hd : s.ptcDue n = true) : ∃ c, (s.ptc n).next = some c := by
  cases hn : (s.ptc n).next with
  | none => simp [State.ptcDue, h, hn] at hd
  | some c => exact ⟨c, rfl⟩

/-- A move of a unit with the mode it has changes `MODE` at most. -/
theorem State.ptcAdvance_keepsBut {l : List Fld} {n : Nat} (hm : R.TIM_PTC_CFG_MODE n ∈ l) : KeepsBut l s (s.ptcAdvance n) := by
  have hmode := (KeepsBut.refl l s).setF (R.TIM_PTC_CFG_MODE n) hm (by simp [R.TIM_PTC_CFG_MODE]) 0
  have hptc (q : PtcSt) : KeepsBut l s (s.setPtc n q) := ⟨⟨fun _ => rfl, rfl, rfl, rfl⟩, fun _ => rfl⟩
  unfold State.ptcAdvance
  dsimp only
  split
  · exact ⟨⟨hmode.mem, hmode.host, hmode.queue, hmode.part⟩, hmode.regs⟩
  · split
    · exact hptc _
    · exact .refl l s
  · exact hptc _

theorem ptcMatch_answers (s : State) (n : Fin 16) (hl : s.live = true) (hd : s.ptcDue n = true) : Answers (.ptcMatch n) s fun t =>
    (s.f (R.TIM_PTC_CFG_MODE n) = 1 → t.f (R.TIM_PTC_CFG_MODE n) = 0 ∧ t.owner (0x1000 + n) = 0) ∧
    (s.f (R.TIM_PTC_CFG_MODE n) = 2 → ∃ u, (t.ptc n).next = some u ∧ s.pt < u) ∧
    (s.f (R.TIM_PTC_CFG_MODE n) = 3 → (t.ptc n).placed = (s.ptc n).placed.drop 1) ∧
    (s.f (R.TIM_PTC_CFG_TGT n) = 0 → KeepsBut [R.TIM_PTC_CFG_MODE n, R.BVQ_CAIRN_PEND] s t) := by
  obtain ⟨htim, hsys, hreg⟩ := State.ptcMatch_keepsUnits hl hd
  have hptc : (s.ptcMatch n).ptc n = (s.ptcAdvance n).ptc n := by rw [State.ptc, htim, State.ptc]
  refine .onMain (t := s.ptcMatch n) hl rfl ⟨fun h => ⟨?_, ?_⟩, fun h => ?_, fun h => ?_, fun h => ?_⟩
  · refine (congrArg (R.TIM_PTC_CFG_MODE n).get (hreg _ (by simp only [R.TIM_PTC_CFG_MODE]; omega))).trans ?_
    rw [State.ptcAdvance_once h]
    exact State.f_setF_self _ (by simp [R.TIM_PTC_CFG_MODE]) 0
  · rw [State.owner, hsys, State.ptcAdvance_once h]
    exact State.owner_setOwner_self ..
  · obtain ⟨c, hc⟩ := State.next_of_ptcDue h hd
    rw [hptc, State.ptcAdvance_periodic h hc, State.ptc_setPtc_self]
    exact ⟨_, rfl, State.pt_lt_next ..⟩
  · rw [hptc, State.ptcAdvance_placed h, State.ptc_setPtc_self]
  · have hkeep := State.ptcAdvance_keepsBut (s := s) (n := n) (l := [R.TIM_PTC_CFG_MODE n, R.BVQ_CAIRN_PEND]) (by simp)
    rw [State.ptcMatch_of_no_target hl hd h, State.ptcPassed]
    split
    · exact hkeep.cairnTouch (by simp)
    · exact hkeep

/-- Settles O12: the servo, and the compare units, whose targets leave the unit itself alone. -/
theorem plantTime : Obligations.PlantTime := ⟨servo, ptcMatch_answers⟩

end Sys2Proof.Machine
end

section
/-! PROOFS. The power stage: what the switching of a pair's lands writes, and what it leaves alone. `Keeps p q` follows the parts
of the state that a carrier's period start reads: the registers outside `p` and the latches of the trip groups, the device state,
the carriers, the timer windows that blank, and the pairs outside `q`. `Switches q` says the same of an operation at the lands,
which writes `ATC_MISS` alone among the registers (R187), and adds the memories of a statement's frame. -/

namespace Sys2Proof.Machine

variable {s t u : State} {p : Nat → Prop} {q : Nat → Prop}

/-! ### What pairs, carriers and timer channels read as after a write -/

@[simp] theorem State.pair_setPair_self (m : Nat) (c : PairSt) : (s.setPair m c).pair m = c := Tab.get_set_self ..
theorem State.pair_setPair_ne {m i : Nat} (c : PairSt) (h : i ≠ m) : (s.setPair m c).pair i = s.pair i := Tab.get_set_ne _ _ _ h
@[simp] theorem State.car_setCar_self (k : Nat) (c : CarSt) : (s.setCar k c).car k = c := Tab.get_set_self ..
@[simp] theorem State.atcOf_setAtc_self (n : Nat) (a : AtcSt) : (s.setAtc n a).atcOf n = a := Tab.get_set_self ..
theorem State.atcOf_setAtc_ne {n i : Nat} (a : AtcSt) (h : i ≠ n) : (s.setAtc n a).atcOf i = s.atcOf i := Tab.get_set_ne _ _ _ h

theorem Within.setPair (h : Within p s t) (m : Nat) (c : PairSt) : Within p s (t.setPair m c) := h.same rfl rfl rfl rfl rfl rfl rfl

/-- What the open window of a timer channel masks by: since when it is open, its use, its target, and whether it is spent. -/
def AtcSt.mask (a : AtcSt) : Option Nat × Nat × Nat × Bool := (a.opened, a.fn, a.tgt, a.spent)

/-- The plan of a pair for its period: the reference waveform with its edges to come, and the notch. -/
def PairSt.plan (c : PairSt) : Bool × Option Nat × Option Nat × Option (Nat × Nat × Nat) × Nat :=
  (c.w, c.rise, c.fall, c.notch, c.nph)

/-! ### The two relations -/

/-- What an operation of the power stage leaves as it was. -/
structure Keeps (p q : Nat → Prop) (s t : State) : Prop where
  reg : ∀ off, ¬ p off → t.reg off = s.reg off
  latch : ∀ g < 16, t.f (R.TRP_GRP_STAT_LATCH g) = s.f (R.TRP_GRP_STAT_LATCH g)
  power : t.power = s.power
  tbp : t.tbp = s.tbp
  sys : t.sys = s.sys
  bvq : t.bvq = s.bvq
  cars : t.pwm.cars = s.pwm.cars
  mask : ∀ n, (t.atcOf n).mask = (s.atcOf n).mask
  pair : ∀ i, ¬ q i → t.pair i = s.pair i

namespace Keeps

theorem refl (p q : Nat → Prop) (s : State) : Keeps p q s s :=
  ⟨fun _ _ => rfl, fun _ _ => rfl, rfl, rfl, rfl, rfl, rfl, fun _ => rfl, fun _ _ => rfl⟩

theorem trans (h : Keeps p q s t) (k : Keeps p q t u) : Keeps p q s u :=
  ⟨fun o ho => (k.reg o ho).trans (h.reg o ho), fun g hg => (k.latch g hg).trans (h.latch g hg), k.power.trans h.power,
    k.tbp.trans h.tbp, k.sys.trans h.sys, k.bvq.trans h.bvq, k.cars.trans h.cars, fun n => (k.mask n).trans (h.mask n),
    fun i hi => (k.pair i hi).trans (h.pair i hi)⟩

theorem mono {p' q' : Nat → Prop} (h : Keeps p q s t) (hp : ∀ o, p o → p' o) (hq : ∀ i, q i → q' i) : Keeps p' q' s t :=
  { h with reg := fun o ho => h.reg o fun k => ho (hp o k), pair := fun i hi => h.pair i fun k => hi (hq i k) }

/-- A change of other parts of the state. -/
theorem same (h : Keeps p q s t) (hr : u.regs = t.regs) (hw : u.power = t.power) (hb : u.tbp = t.tbp) (hs : u.sys = t.sys)
    (hv : u.bvq = t.bvq) (hc : u.pwm.cars = t.pwm.cars) (hp : u.pwm.pairs = t.pwm.pairs) (ha : u.atc = t.atc) : Keeps p q s u :=
  h.trans ⟨fun o _ => by rw [State.reg, hr, State.reg], fun g _ => by rw [State.f, State.reg, hr]; rfl, hw, hb, hs, hv, hc,
    fun n => by rw [State.atcOf, ha, State.atcOf], fun i _ => by rw [State.pair, hp, State.pair]⟩

theorem setPair (h : Keeps p q s t) {m : Nat} (hq : q m) (c : PairSt) : Keeps p q s (t.setPair m c) :=
  h.trans ⟨fun _ _ => rfl, fun _ _ => rfl, rfl, rfl, rfl, rfl, rfl, fun _ => rfl,
    fun _ hi => State.pair_setPair_ne c fun e => hi (e ▸ hq)⟩

/-- A write of a field that is no latch of a group. -/
theorem setF (h : Keeps p q s t) (x : Fld) (n : Nat) (hx : p x.off) (hw : x.lo + x.w ≤ 32)
    (hl : (∀ g, x.off ≠ 0x7308 + 16 * g) ∨ 1 ≤ x.lo) : Keeps p q s (t.setF x n) :=
  h.trans ⟨fun _ ho => State.reg_setF_ne x n fun e => ho (e ▸ hx),
    fun g _ => State.f_setF_ne x _ hw (hl.imp (fun k => (k g).symm) .inl) n, rfl, rfl, rfl, rfl, rfl, fun _ => rfl, fun _ _ => rfl⟩

theorem posted (h : Keeps p q s t) (k : Posted t u) (hp : ∀ o, evReg o → p o) : Keeps p q s u :=
  h.trans ⟨fun o ho => k.reg o fun e => ho (hp o e),
    fun g hg => congrArg (R.TRP_GRP_STAT_LATCH g).get (k.reg _ (by simp only [R.TRP_GRP_STAT_LATCH, evReg]; omega)),
    k.power, k.tbp, k.sys, k.bvq, by rw [k.pwm], fun n => by rw [State.atcOf, k.atc, State.atcOf],
    fun i _ => by rw [State.pair, k.pwm, State.pair]⟩

theorem ite {c : Prop} [Decidable c] (ht : Keeps p q s t) (hu : Keeps p q s u) : Keeps p q s (if c then t else u) := by
  split <;> assumption

theorem each {l : List Nat} {g : Nat → State → State} (h : Keeps p q s t)
    (hg : ∀ i ∈ l, ∀ v, Keeps p q s v → Keeps p q s (g i v)) : Keeps p q s (t.each l g) := State.each_ind h hg

theorem f (h : Keeps p q s t) (x : Fld) (hx : ¬ p x.off) : t.f x = s.f x := congrArg x.get (h.reg _ hx)

theorem on (h : Keeps p q s t) (x : Fld) (hx : ¬ p x.off) : t.on x = s.on x := by rw [State.on, h.f x hx, State.on]

theorem bitAt (h : Keeps p q s t) (x : Fld) (hx : ¬ p x.off) (i : Nat) : t.bitAt x i = s.bitAt x i := by
  rw [State.bitAt, h.f x hx, State.bitAt]

theorem car (h : Keeps p q s t) (k : Nat) : t.car k = s.car k := by rw [State.car, h.cars, State.car]

theorem live (h : Keeps p q s t) : t.live = s.live := by rw [State.live, h.power, State.live]

/-! The fields of pairs and carriers stay where no register of their page is written. -/

section
variable (h : Keeps p q s t) (hp : ∀ o, inPage 4 o → ¬ p o)
include h hp

theorem pairFld (x : Fld) {m : Nat} (hm : m < 24) (hx : 0x4100 + 16 * m ≤ x.off ∧ x.off < 0x4110 + 16 * m) : t.f x = s.f x :=
  h.f x (hp _ (by unfold inPage; omega))

theorem carFld (x : Fld) {k : Nat} (hk : k < 16) (hx : 0x4000 + 16 * k ≤ x.off ∧ x.off < 0x4010 + 16 * k) : t.f x = s.f x :=
  h.f x (hp _ (by unfold inPage; omega))

theorem pairOn {m : Nat} (hm : m < 24) : t.pairOn m = s.pairOn m := by
  simp only [State.pairOn, h.pairFld hp (R.PWM_PAIR_CFG_MODE m) hm (by simp [R.PWM_PAIR_CFG_MODE])]

theorem pairCar {m : Nat} (hm : m < 24) : t.pairCar m = s.pairCar m :=
  h.pairFld hp (R.PWM_PAIR_CFG_CAR m) hm (by simp [R.PWM_PAIR_CFG_CAR])

theorem pairLeg {m : Nat} (hm : m < 24) : t.pairLeg m = s.pairLeg m :=
  h.pairFld hp (R.PWM_PAIR_CFG_LEG m) hm (by simp [R.PWM_PAIR_CFG_LEG])

theorem carOn {k : Nat} (hk : k < 16) : t.carOn k = s.carOn k := by
  simp only [State.carOn, State.on, h.carFld hp (R.PWM_CAR_EFF_RUN k) hk (by simp [R.PWM_CAR_EFF_RUN])]

theorem carCoarse {k : Nat} (hk : k < 16) : t.on (R.PWM_CAR_EFF_COARSE k) = s.on (R.PWM_CAR_EFF_COARSE k) := by
  simp only [State.on, h.carFld hp (R.PWM_CAR_EFF_COARSE k) hk (by simp [R.PWM_CAR_EFF_COARSE])]

end

end Keeps

theorem State.pairCar_lt (s : State) (m : Nat) : s.pairCar m < 16 := Fld.get_lt ..

/-- What an operation at the lands of the pairs in `q` leaves as it was: of the registers it may write `ATC_MISS`, and
every pair keeps its plan. -/
structure Switches (q : Nat → Prop) (s t : State) : Prop extends Keeps (fun o => o = 0x5080) q s t where
  within : Within (fun o => o = 0x5080) s t
  plan : ∀ i, (t.pair i).plan = (s.pair i).plan

namespace Switches

theorem refl (q : Nat → Prop) (s : State) : Switches q s s := ⟨.refl _ q s, .refl _ s, fun _ => rfl⟩

theorem trans (h : Switches q s t) (k : Switches q t u) : Switches q s u :=
  ⟨h.toKeeps.trans k.toKeeps, h.within.trans k.within, fun i => (k.plan i).trans (h.plan i)⟩

theorem setPair (h : Switches q s t) {m : Nat} (hq : q m) (c : PairSt) (hc : c.plan = (t.pair m).plan) :
    Switches q s (t.setPair m c) := by
  refine ⟨h.toKeeps.setPair hq c, h.within.setPair m c, fun i => ?_⟩
  by_cases hi : i = m
  · subst hi
    rw [State.pair_setPair_self, hc, h.plan]
  · rw [State.pair_setPair_ne c hi, h.plan]

/-- A change of a timer channel that leaves its open window alone. -/
theorem setAtc (h : Switches q s t) (n : Nat) (a : AtcSt) (ha : a.mask = (t.atcOf n).mask) : Switches q s (t.setAtc n a) := by
  refine ⟨h.toKeeps.trans ⟨fun _ _ => rfl, fun _ _ => rfl, rfl, rfl, rfl, rfl, rfl, fun i => ?_, fun _ _ => rfl⟩,
    h.within.same rfl rfl rfl rfl rfl rfl rfl, h.plan⟩
  by_cases hi : i = n
  · subst hi
    rw [State.atcOf_setAtc_self, ha]
  · rw [State.atcOf_setAtc_ne a hi]

theorem missed (h : Switches q s t) (i : Nat) (b : Bool) : Switches q s (t.setBit R.ATC_MISS_ATC i b) :=
  ⟨h.toKeeps.setF _ _ rfl (by decide) (.inl fun g => by simp only [R.ATC_MISS_ATC]; omega), h.within.setBit _ i b rfl, h.plan⟩

theorem ite {c : Prop} [Decidable c] (ht : Switches q s t) (hu : Switches q s u) : Switches q s (if c then t else u) := by
  split <;> assumption

theorem each {l : List Nat} {g : Nat → State → State} (h : Switches q s t)
    (hg : ∀ i ∈ l, ∀ v, Switches q s v → Switches q s (g i v)) : Switches q s (t.each l g) := State.each_ind h hg

theorem keepsOut (h : Switches q s t) : KeepsOut (fun o => o = 0x5080) s t := h.within.keepsOut

/-- Of a register field outside `ATC_MISS` nothing changes. -/
theorem fld (h : Switches q s t) (x : Fld) (hx : x.off ≠ 0x5080) : t.f x = s.f x := h.toKeeps.f x hx

end Switches

/-! ### The timer channels (R185 to R189) -/

theorem State.atcSchedule_switches (n : Nat) (h : Switches q s t) : Switches q s (t.atcSchedule n) := by
  unfold State.atcSchedule
  dsimp only
  refine .ite (h.setAtc _ _ rfl) ?_
  split
  · exact .ite (h.setAtc _ _ rfl) ((h.missed _ _).setAtc _ _ rfl)
  · exact h.setAtc _ _ rfl

theorem State.atcEvent_switches (src edge : Nat) (h : Switches q s t) : Switches q s (t.atcEvent src edge) :=
  h.each fun n _ _ hv => .ite (State.atcSchedule_switches n hv) hv

@[simp] theorem State.atcEvent_pair (src edge i : Nat) : (s.atcEvent src edge).pair i = s.pair i :=
  (State.atcEvent_switches src edge (.refl (fun _ => False) s)).pair i id

/-! ### The lands of a pair (R164 to R166, R199) -/

variable {m : Nat} (hm : q m)
include hm

theorem State.landOff_switches (upper : Bool) (h : Switches q s t) : Switches q s (t.landOff m upper) := by
  unfold State.landOff
  dsimp only
  exact .ite (.ite (State.atcEvent_switches _ _ (h.setPair hm _ rfl)) h) (.ite (State.atcEvent_switches _ _ (h.setPair hm _ rfl)) h)

theorem State.landOn_switches (upper : Bool) (h : Switches q s t) : Switches q s (t.landOn m upper) := by
  unfold State.landOn
  dsimp only
  exact .ite (.ite h (State.atcEvent_switches _ _ (h.setPair hm _ rfl))) (.ite h (State.atcEvent_switches _ _ (h.setPair hm _ rfl)))

theorem State.pairLow_switches (h : Switches q s t) : Switches q s (t.pairLow m) :=
  (State.landOff_switches hm false (State.landOff_switches hm true h)).setPair hm _ rfl

theorem State.tripOff_switches (h : Switches q s t) : Switches q s (t.tripOff m) := by
  have hset := h.setPair hm { t.pair m with wait := none, blocked := true } rfl
  unfold State.tripOff
  dsimp only
  refine .ite (State.pairLow_switches hm hset) (.ite ?_ hset)
  split
  · exact hset
  · exact hset.setPair hm _ rfl

theorem State.turnOn_switches (upper : Bool) (h : Switches q s t) : Switches q s (t.turnOn m upper) :=
  .ite (State.landOn_switches hm upper (h.setPair hm _ rfl)) (h.setPair hm _ rfl)

theorem State.target_switches (tgt : Option Bool) (edge : Bool) (h : Switches q s t) : Switches q s (t.target m tgt edge) := by
  unfold State.target
  split
  · exact (State.landOff_switches hm false (State.landOff_switches hm true h)).setPair hm _ rfl
  next upper =>
    have hoff := State.landOff_switches hm (!upper) h
    dsimp only
    exact .ite (hoff.setPair hm _ rfl) (.ite (State.turnOn_switches hm upper hoff) (hoff.setPair hm _ rfl))

theorem State.followW_switches (edge : Bool) (h : Switches q s t) : Switches q s (t.followW m edge) :=
  .ite (State.target_switches hm _ edge h) (.ite (State.target_switches hm _ edge h) (State.target_switches hm _ edge h))

omit hm

/-- What a turn-off at a land does to its pair. -/
structure TurnedOff (now : Nat) (upper : Bool) (a b : PairSt) : Prop where
  plan : b.plan = a.plan
  up : b.up = (a.up && !upper)
  lo : b.lo = (a.lo && upper)
  soft : b.soft = a.soft
  offUp : b.offUp = if upper && a.up then some now else a.offUp
  offLo : b.offLo = if !upper && a.lo then some now else a.offLo

theorem State.landOff_turnedOff (m : Nat) (upper : Bool) : TurnedOff s.tbp upper (s.pair m) ((s.landOff m upper).pair m) := by
  unfold State.landOff
  cases upper <;> cases hu : (s.pair m).up <;> cases hl : (s.pair m).lo <;> constructor <;> simp [hu, hl, PairSt.plan]

end Sys2Proof.Machine
end

section
/-! PROOFS. The edges of W with the dead time, and the notch of a bootstrap refresh (O19). -/

namespace Sys2Proof.Machine

variable {s t u : State} {m : Nat}

/-! ### An edge of W (R162, R164 to R166) -/

/-- The dead time before the upper or the lower switch of pair m, in TBP counts. -/
def State.deadFor (s : State) (m : Nat) (upper : Bool) : Nat := (if upper then s.dtr m else s.dtf m) * s.carUnit (s.pairCar m)

theorem Switches.deadFor {q : Nat → Prop} (h : Switches q s t) (hm : m < 24) (upper : Bool) : t.deadFor m upper = s.deadFor m upper := by
  have hp (o : Nat) (ho : inPage 4 o) : o ≠ 0x5080 := by
    unfold inPage at ho
    omega
  have hdtr := h.pairFld hp (R.PWM_PAIR_DT_DTR m) hm (by simp [R.PWM_PAIR_DT_DTR])
  have hdtf := h.pairFld hp (R.PWM_PAIR_DT_DTF m) hm (by simp [R.PWM_PAIR_DT_DTF])
  simp only [State.deadFor, State.dtr, State.dtf, State.carCnt, State.carUnit, h.pairCar hp hm, h.carCoarse hp (s.pairCar_lt m),
    hdtr, hdtf]

/-- Pair m with the edge of W taken that comes now. -/
def State.edgeTaken (s : State) (m : Nat) (rise : Bool) : State :=
  s.setPair m { s.pair m with w := rise, wAt := s.tbp, rise := if rise then none else (s.pair m).rise,
                              fall := if rise then (s.pair m).fall else none }

theorem State.pulseShort_edgeTaken (m : Nat) (rise : Bool) (on : Nat) :
    (s.edgeTaken m rise).pulseShort m rise on = s.pulseShort m rise on := by
  cases rise <;> simp only [State.pulseShort, State.plannedOff, State.edgeTaken, State.pair_setPair_self] <;> rfl

/-- An edge that is due: the switches follow W, but inside a notch, and where the pulse to come would be too short. -/
theorem State.pwmEdge_of_due {rise : Bool} {v : Nat} (hv : (if rise then (s.pair m).rise else (s.pair m).fall) = some v)
    (hd : v ≤ s.tbp) : s.pwmEdge m rise =
      if (s.pair m).nph = 1 ∨ s.f (R.PWM_PAIR_CFG_MODE m) = 1 ∧ (if rise then (s.pair m).lo else (s.pair m).up) = true ∧
        s.pulseShort m rise (s.tbp + s.deadFor m rise) = true
      then s.edgeTaken m rise else (s.edgeTaken m rise).followW m true := by
  rw [← State.pulseShort_edgeTaken m rise]
  unfold State.pwmEdge
  dsimp only
  rw [hv]
  simp only [hd, decide_true, if_true, Bool.or_eq_true, Bool.and_eq_true, decide_eq_true_eq, and_assoc]
  rfl

/-- When the upper or the lower switch of pair m, now off, turns on: after the dead time from the edge of W that calls for it and
from the turn-off of the other switch, a wait already running kept (R164, R166). -/
def State.turnOnAt (s : State) (m : Nat) (upper edge : Bool) : Nat :=
  let p := s.pair m
  let dt := if decide (s.f (R.PWM_PAIR_CFG_MODE m) = 2) then 0 else s.deadFor m upper
  let fromOff := match (if upper then p.offLo else p.offUp) with
    | some t => t + dt
    | none => 0
  let t := max (if edge then s.tbp + dt else s.tbp) fromOff
  match p.wait with
  | some (u, w) => if u = upper && !edge then max w fromOff else t
  | none => t

theorem State.target_some (m : Nat) (upper edge : Bool) : s.target m (some upper) edge =
    if (if upper then ((s.landOff m (!upper)).pair m).up else ((s.landOff m (!upper)).pair m).lo) = true then
      (s.landOff m (!upper)).setPair m { (s.landOff m (!upper)).pair m with wait := none }
    else if (s.landOff m (!upper)).turnOnAt m upper edge ≤ (s.landOff m (!upper)).tbp then (s.landOff m (!upper)).turnOn m upper
    else (s.landOff m (!upper)).setPair m
      { (s.landOff m (!upper)).pair m with wait := some (upper, (s.landOff m (!upper)).turnOnAt m upper edge) } := rfl

/-- From an edge of a complementary pair, with no turn-off of the other switch ahead, it is the dead time. -/
theorem State.turnOnAt_edge {upper : Bool} (hmode : s.f (R.PWM_PAIR_CFG_MODE m) = 1)
    (hlast : ∀ v, (if upper then (s.pair m).offLo else (s.pair m).offUp) = some v → v ≤ s.tbp) :
    s.turnOnAt m upper true = s.tbp + s.deadFor m upper := by
  have hdt : (if decide (s.f (R.PWM_PAIR_CFG_MODE m) = 2) then 0 else s.deadFor m upper) = s.deadFor m upper := by simp [hmode]
  unfold State.turnOnAt
  dsimp only
  rw [hdt]
  generalize (if upper then (s.pair m).offLo else (s.pair m).offUp) = o at hlast
  cases o with
  | none => split <;> simp
  | some v =>
    have hv : v + s.deadFor m upper ≤ s.tbp + s.deadFor m upper := by have := hlast v rfl; omega
    split <;> simpa using hv

/-- At an edge of a complementary pair the switch of W's new level, now off, waits for its dead time, and the other one is off. -/
theorem State.target_edge {upper : Bool} (hm : m < 24) (hmode : s.f (R.PWM_PAIR_CFG_MODE m) = 1)
    (hoff : (if upper then (s.pair m).up else (s.pair m).lo) = false) (hdead : 0 < s.deadFor m upper)
    (hlast : ∀ v, (if upper then (s.pair m).offLo else (s.pair m).offUp) = some v → v ≤ s.tbp) :
    ((s.target m (some upper) true).pair m).up = false ∧ ((s.target m (some upper) true).pair m).lo = false ∧
      ((s.target m (some upper) true).pair m).wait = some (upper, s.tbp + s.deadFor m upper) := by
  have hs : Switches (· = m) s (s.landOff m (!upper)) := State.landOff_switches (q := (· = m)) rfl _ (.refl _ s)
  have ht := State.landOff_turnedOff (s := s) m (!upper)
  have hoffs : ((s.landOff m (!upper)).pair m).up = false ∧ ((s.landOff m (!upper)).pair m).lo = false := by
    rw [ht.up, ht.lo]
    cases upper <;> simp_all
  have hon : (s.landOff m (!upper)).turnOnAt m upper true = s.tbp + s.deadFor m upper := by
    rw [State.turnOnAt_edge, hs.tbp, hs.deadFor hm]
    · exact (hs.fld _ (by simp only [R.PWM_PAIR_CFG_MODE]; omega)).trans hmode
    · rw [hs.tbp, ht.offLo, ht.offUp]
      grind
  rw [State.target_some, hon, hs.tbp, if_neg (by simp [hoffs]), if_neg (by omega), State.pair_setPair_self]
  exact ⟨hoffs.1, hoffs.2, rfl⟩

/-- An edge after which the switch of W's new level waits for its dead time. -/
theorem State.pwmEdge_waits {rise : Bool} {v : Nat} (hm : m < 24) (hv : (if rise then (s.pair m).rise else (s.pair m).fall) = some v)
    (hd : v ≤ s.tbp) (hnotch : (s.pair m).nph ≠ 1) (hmode : s.f (R.PWM_PAIR_CFG_MODE m) = 1)
    (hoff : (if rise then (s.pair m).up else (s.pair m).lo) = false) (hdead : 0 < s.deadFor m rise)
    (hlast : ∀ v, (if rise then (s.pair m).offLo else (s.pair m).offUp) = some v → v ≤ s.tbp)
    (hlong : (if rise then (s.pair m).lo else (s.pair m).up) = false ∨ s.pulseShort m rise (s.tbp + s.deadFor m rise) = false) :
    ((s.pwmEdge m rise).pair m).w = rise ∧
      (if rise then ((s.pwmEdge m rise).pair m).rise else ((s.pwmEdge m rise).pair m).fall) = none ∧
      ((s.pwmEdge m rise).pair m).up = false ∧ ((s.pwmEdge m rise).pair m).lo = false ∧
      ((s.pwmEdge m rise).pair m).wait = some (rise, s.tbp + s.deadFor m rise) ∧ KeepsOut (fun o => o = 0x5080) s (s.pwmEdge m rise) := by
  have hpair : (s.edgeTaken m rise).pair m = { s.pair m with
      w := rise, wAt := s.tbp, rise := if rise then none else (s.pair m).rise, fall := if rise then (s.pair m).fall else none } :=
    State.pair_setPair_self ..
  have hfollow : s.pwmEdge m rise = (s.edgeTaken m rise).target m (some rise) true := by
    rw [State.pwmEdge_of_due hv hd, if_neg, State.followW, hpair]
    · cases rise
      · have hne : (s.edgeTaken m false).f (R.PWM_PAIR_CFG_MODE m) ≠ 2 := fun e => absurd (hmode.symm.trans e) (by decide)
        simp [hne]
      · rfl
    · rintro (h | ⟨-, hlit, hshort⟩)
      · exact hnotch h
      · exact hlong.elim (fun k => by simp [hlit] at k) fun k => by simp [hshort] at k
  have hs : Switches (· = m) (s.edgeTaken m rise) (s.pwmEdge m rise) := by
    rw [hfollow]
    exact State.target_switches (q := (· = m)) rfl _ _ (.refl _ _)
  have htaken : Within (fun o => o = 0x5080) s (s.edgeTaken m rise) := (Within.refl _ s).setPair _ _
  obtain ⟨hup, hlo, hwait⟩ := State.target_edge (s := s.edgeTaken m rise) hm hmode (by rw [hpair]; exact hoff) hdead
    (by rw [hpair]; exact hlast)
  rw [← hfollow] at hup hlo hwait
  have hplan := hs.plan m
  rw [hpair] at hplan
  simp only [PairSt.plan, Prod.mk.injEq] at hplan
  obtain ⟨hw, hrise, hfall, -, -⟩ := hplan
  refine ⟨hw, ?_, hup, hlo, hwait, (htaken.trans hs.within).keepsOut⟩
  rw [hrise, hfall]
  cases rise <;> rfl

/-! ### The end of a dead time (R164 to R166) -/

/-- A wait of the upper switch that is over. -/
theorem State.deadTimeExpiry_of_upper {v : Nat} (hw : (s.pair m).wait = some (true, v)) (hv : v ≤ s.tbp) :
    s.deadTimeExpiry m = s.turnOn m true := by
  simp [State.deadTimeExpiry, State.deadTime, hw, hv]

theorem State.turnOn_upper (m : Nat) : s.turnOn m true =
    if s.mayOn m true = true ∧ s.pulseShort m true s.tbp = false then (s.setPair m { s.pair m with wait := none }).landOn m true
    else s.setPair m { s.pair m with wait := none } := by
  have hmay : (s.setPair m { s.pair m with wait := none }).mayOn m true = s.mayOn m true := by
    simp only [State.mayOn, State.pair_setPair_self]
    rfl
  simp only [State.turnOn, hmay, Bool.and_eq_true, Bool.not_eq_true']

/-- The pair after the turn-on of its upper switch. -/
theorem State.landOn_upper_pair (m : Nat) : ((s.landOn m true).pair m).up = true ∧ ((s.landOn m true).pair m).lo = (s.pair m).lo ∧
    ((s.landOn m true).pair m).wait = (s.pair m).wait := by
  unfold State.landOn
  cases hu : (s.pair m).up <;> simp [hu]

theorem State.turnOn_upper_pair (m : Nat) : ((s.turnOn m true).pair m).wait = none ∧ ((s.turnOn m true).pair m).lo = (s.pair m).lo ∧
    ((s.turnOn m true).pair m).up = ((s.mayOn m true && !s.pulseShort m true s.tbp) || (s.pair m).up) := by
  obtain ⟨hup, hlo, hwait⟩ := State.landOn_upper_pair (s := s.setPair m { s.pair m with wait := none }) m
  rw [State.turnOn_upper]
  split
  next h => simp [h, hup, hlo, hwait]
  next h =>
    have : (s.mayOn m true && !s.pulseShort m true s.tbp) = false := by simpa using h
    simp [this]

/-- With neither a fall of W nor a notch to come, and no fall at the next period start, the upper pulse is long enough. -/
theorem State.pulseShort_of_no_end (hfall : (s.pair m).fall = none) (hnotch : (s.pair m).notch = none)
    (hmode : s.f (R.PWM_CAR_CFG_MODE (s.pairCar m)) ≠ 2) (on : Nat) : s.pulseShort m true on = false := by
  simp [State.pulseShort, State.plannedOff, hfall, hnotch, hmode]

/-- A later instant comes no earlier (R74). -/
theorem State.onTick_mono {a b : Nat} (h : a ≤ b) : s.onTick a ≤ s.onTick b := by
  unfold State.onTick ceilDiv
  split <;> omega

/-- A fall of W that is too near makes the upper pulse too short, with a notch before it or not. -/
theorem State.pulseShort_of_fall {v on : Nat} (hfall : (s.pair m).fall = some v)
    (hnear : s.onTick v < s.onTick on + s.minPulse m * s.carUnit (s.pairCar m)) : s.pulseShort m true on = true := by
  have hoff : ∃ w, s.plannedOff m true on = some w ∧ w ≤ v := by
    unfold State.plannedOff
    simp only [hfall, if_true, Option.some_or]
    split
    · split
      · exact ⟨_, rfl, Nat.min_le_left ..⟩
      · exact ⟨_, rfl, Nat.le_refl _⟩
    · exact ⟨v, rfl, Nat.le_refl _⟩
  obtain ⟨w, hw, hle⟩ := hoff
  have := s.onTick_mono hle
  simp only [State.pulseShort, hw, decide_eq_true_eq]
  omega

theorem deadTimeExpiry_answers (m : Fin 24) (hl : s.live = true) {v : Nat} (hw : (s.pair m).wait = some (true, v)) (hv : v ≤ s.tbp) :
    Answers (.deadTimeExpiry m) s fun t =>
      (t.pair m).wait = none ∧ (t.pair m).lo = (s.pair m).lo ∧
        (s.mayOn m true = true → (s.pair m).fall = none → (s.pair m).notch = none →
          s.f (R.PWM_CAR_CFG_MODE (s.pairCar m)) ≠ 2 → (t.pair m).up = true) ∧
        (s.mayOn m true = false → (t.pair m).up = (s.pair m).up) ∧
        (∀ v, (s.pair m).fall = some v → s.onTick v < s.onTick s.tbp + s.minPulse m * s.carUnit (s.pairCar m) →
          (t.pair m).up = (s.pair m).up) ∧
        KeepsOut (fun o => o = 0x5080) s t := by
  obtain ⟨hwait, hlo, hup⟩ := State.turnOn_upper_pair (s := s) m
  have hs : Switches (· = m.val) s (s.turnOn m true) := State.turnOn_switches (q := (· = m.val)) rfl _ (.refl _ s)
  refine .onMain (t := s.deadTimeExpiry m) hl rfl (State.deadTimeExpiry_of_upper hw hv ▸ ⟨hwait, hlo, fun hmay hfall hnotch hmode => ?_,
    fun hmay => ?_, fun v hfall hnear => ?_, hs.keepsOut⟩)
  · rw [hup, hmay, State.pulseShort_of_no_end hfall hnotch hmode]
    rfl
  · rw [hup, hmay]
    rfl
  · rw [hup, State.pulseShort_of_fall hfall hnear]
    simp

/-- The four clauses about an edge and the end of a dead time. -/
theorem edgesAndDeadTime : edgesAndDeadTimeHolds := by
  refine fun s m hl => ⟨fun u hrise hd hnph hmode hup hdead hlast hlong => ?_, fun u hfall hd hnph hmode hlo hdead hlast hlong => ?_,
    fun u hrise hd hmode hlo hshort => ?_, fun u hw hu => deadTimeExpiry_answers m hl hw hu⟩
  · have hunit : 0 < s.carUnit (s.pairCar m) := by unfold State.carUnit; split <;> decide
    exact .onMain (t := s.pwmEdge m true) hl rfl (State.pwmEdge_waits (rise := true) m.isLt hrise hd hnph hmode hup
      (Nat.mul_pos hdead hunit) hlast hlong)
  · have hunit : 0 < s.carUnit (s.pairCar m) := by unfold State.carUnit; split <;> decide
    exact .onMain (t := s.pwmEdge m false) hl rfl (State.pwmEdge_waits (rise := false) m.isLt hfall hd hnph hmode hlo
      (Nat.mul_pos hdead hunit) hlast hlong)
  · have htaken : s.pwmEdge m true = s.edgeTaken m true := by
      rw [State.pwmEdge_of_due (rise := true) hrise hd, if_pos (.inr ⟨hmode, hlo, hshort⟩)]
    refine .onMain (t := s.pwmEdge m true) hl rfl (htaken ▸ ⟨State.pair_setPair_self .., ?_⟩)
    exact ⟨⟨fun _ => rfl, rfl, rfl, rfl⟩, fun _ => rfl⟩

/-! ### The notch of a bootstrap refresh (R202 to R206) -/

/-- The start of a notch. -/
theorem State.notchEdge_start {a on off : Nat} (h : (s.pair m).notch = some (a, on, off)) (hp : (s.pair m).nph = 0) (ha : a ≤ s.tbp)
    (hmay : s.mayOn m false = true) : s.notchEdge m =
      ((s.landOff m true).count R.GDI_BSCNT_REFR 1).setPair m { ((s.landOff m true).count R.GDI_BSCNT_REFR 1).pair m with
        nph := 1, notched := true, wait := some (false, max on (s.tbp + (on - a))) } := by
  have htbp : ((s.landOff m true).count R.GDI_BSCNT_REFR 1).tbp = s.tbp :=
    (State.landOff_switches (q := (· = m)) rfl true (.refl _ s)).tbp
  unfold State.notchEdge
  simp only [h, hp, ha, hmay, htbp, decide_true, Bool.and_self, Bool.or_true, if_true]

theorem notchEdge_start_answers (m : Fin 24) (hl : s.live = true) {a on off : Nat} (h : (s.pair m).notch = some (a, on, off))
    (hp : (s.pair m).nph = 0) (ha : a ≤ s.tbp) (hmay : s.mayOn m false = true) : Answers (.notchEdge m) s fun t =>
      (t.pair m).up = false ∧ (t.pair m).nph = 1 ∧ (t.pair m).notched = true ∧
        (t.pair m).wait = some (false, max on (s.tbp + (on - a))) ∧
        t.f R.GDI_BSCNT_REFR = min 65535 (s.f R.GDI_BSCNT_REFR + 1) ∧ KeepsOut (fun o => o = 0x621C ∨ o = 0x5080) s t := by
  have hs : Switches (· = m.val) s (s.landOff m true) := State.landOff_switches (q := (· = m.val)) rfl _ (.refl _ s)
  have hup : ((s.landOff m true).pair m).up = false := by simp [(State.landOff_turnedOff (s := s) m true).up]
  have hkeep : Within (fun o => o = 0x621C ∨ o = 0x5080) s ((s.landOff m true).count R.GDI_BSCNT_REFR 1) :=
    (hs.within.mono fun _ => .inr).count _ _ (.inl rfl)
  have hrefr : ((s.landOff m true).count R.GDI_BSCNT_REFR 1).f R.GDI_BSCNT_REFR = min 65535 (s.f R.GDI_BSCNT_REFR + 1) := by
    rw [State.f_count_self _ (by decide), hs.fld _ (by decide)]
    rfl
  refine .onMain (t := s.notchEdge m) hl rfl (State.notchEdge_start h hp ha hmay ▸ ?_)
  rw [State.pair_setPair_self]
  exact ⟨hup, rfl, rfl, rfl, hrefr, (hkeep.setPair _ _).keepsOut⟩

/-- The end of a notch: whatever becomes of the lower switch, the notch is over. -/
theorem State.notchEdge_end {a on off : Nat} (h : (s.pair m).notch = some (a, on, off)) (hp : (s.pair m).nph = 1) (hoff : off ≤ s.tbp) :
    ∃ u c, Switches (· = m) s u ∧ c.notch = none ∧ c.nph = 2 ∧ Switches (· = m) (u.setPair m c) (s.notchEdge m) := by
  unfold State.notchEdge
  extract_lets +onlyGivenNames p
  rw [show p.notch = _ from h]
  dsimp -zeta only
  rw [if_neg (by simp [p, hp]), if_pos (by simp [p, hp, hoff])]
  extract_lets planned short goesOn t
  have ht : Switches (· = m) s t := .ite (.refl _ s) (State.landOff_switches (q := (· = m)) rfl false (.refl _ s))
  clear_value goesOn t
  exact ⟨t, _, ht, rfl, rfl, .ite (State.followW_switches (q := (· = m)) rfl false (.refl _ _)) (.refl _ _)⟩

theorem notchEdge_end_answers (m : Fin 24) (hl : s.live = true) {a on off : Nat} (h : (s.pair m).notch = some (a, on, off))
    (hp : (s.pair m).nph = 1) (hoff : off ≤ s.tbp) : Answers (.notchEdge m) s fun t =>
      (t.pair m).notch = none ∧ (t.pair m).nph = 2 ∧ KeepsOut (fun o => o = 0x5080) s t := by
  obtain ⟨u, c, hu, hnone, hover, ht⟩ := State.notchEdge_end h hp hoff
  have hplan := ht.plan m
  rw [State.pair_setPair_self] at hplan
  simp only [PairSt.plan, Prod.mk.injEq] at hplan
  obtain ⟨-, -, -, hnotch, hnph⟩ := hplan
  exact .onMain (t := s.notchEdge m) hl rfl ⟨hnotch.trans hnone, hnph.trans hover,
    ((hu.within.setPair _ _).trans ht.within).keepsOut⟩

theorem refreshNotch : refreshNotchHolds := fun _ m _ _ _ hl h =>
  ⟨fun hp ha hmay => notchEdge_start_answers m hl h hp ha hmay, fun hp hoff => notchEdge_end_answers m hl h hp hoff⟩

/-- Settles O19: the edges and dead times by the instant of the turn-on, the notch by its two edges. -/
theorem edges : Obligations.Edges := ⟨edgesAndDeadTime, refreshNotch⟩

end Sys2Proof.Machine
end

section
/-! PROOFS. Carrier periods, peaks, latch points and mid boundaries (O18). A period start writes the word of its carrier in
force, and beyond it only what the ends and starts of its pairs' periods may write (`periodReg`); so what holds a pair off at
its start still holds it off when its turn comes. -/

namespace Sys2Proof.Machine

variable {s t u : State} {p q : Nat → Prop} {m k : Nat}

/-! ### What the ends and starts of the pairs' periods write -/

/-- The registers that they may write: the counts of crossing 1 and what a posting changes, `ATC_MISS`, `GDI_BS_HOLD`, and the
status and the counts of the trip groups. -/
def periodReg (o : Nat) : Prop :=
  o = 0x3004 ∨ evReg o ∨ o = 0x5080 ∨ o = 0x6218 ∨ (0x7308 ≤ o ∧ (o % 16 = 8 ∨ o % 16 = 12))

/-- With them the registers of the carriers. -/
def startReg (o : Nat) : Prop := periodReg o ∨ (0x4000 ≤ o ∧ o < 0x4100)

theorem not_periodReg_of_page {o : Nat} (h : inPage 4 o) : ¬ periodReg o := by
  unfold periodReg evReg inPage at *
  omega

/-- What the pairs' periods may write a period start may write. -/
theorem Keeps.start (h : Keeps periodReg q s t) : Keeps startReg q s t := h.mono (fun _ => .inl) fun _ => id

theorem Keeps.switched {q' : Nat → Prop} (h : Keeps periodReg q s t) (k : Switches q' t u) (hq : ∀ i, q' i → q i) :
    Keeps periodReg q s u := h.trans (k.toKeeps.mono (fun _ ho => .inr (.inr (.inl ho))) hq)

theorem Keeps.count (h : Keeps p q s t) (x : Fld) (n : Nat) (hx : p x.off) (hw : x.lo + x.w ≤ 32)
    (hl : ∀ g, x.off ≠ 0x7308 + 16 * g) : Keeps p q s (t.count x n) := h.setF x _ hx hw (.inl hl)

/-- A change of the trip network's own state. -/
theorem Keeps.trp (h : Keeps p q s t) (r : TrpSt) : Keeps p q s { t with trp := r } := h.same rfl rfl rfl rfl rfl rfl rfl rfl

theorem State.setCut_keeps (g i : Nat) (on : Bool) (h : Keeps periodReg q s t) : Keeps periodReg q s (t.setCut g i on) := by
  unfold State.setCut
  refine (h.trp _).setF (R.TRP_GRP_STAT_CUT g) _ ?_ (by decide : 2 + 1 ≤ 32) (.inr (by decide : 1 ≤ 2))
  simp only [periodReg, R.TRP_GRP_STAT_CUT]
  omega

theorem State.countCut_keeps (g i : Nat) (h : Keeps periodReg q s t) : Keeps periodReg q s (t.countCut g i) := by
  unfold State.countCut
  refine .ite ((h.trp _).count (R.TRP_GRP_CNT_CBC g) _ ?_ (by decide : 0 + 12 ≤ 32) ?_) h
  · simp only [periodReg, R.TRP_GRP_CNT_CBC]
    omega
  · simp only [R.TRP_GRP_CNT_CBC]
    omega

theorem State.shadowTick_keeps (h : Keeps p q s t) : Keeps p q s (t.shadowTick k) := by
  unfold State.shadowTick
  exact .ite (h.same rfl rfl rfl rfl rfl rfl rfl rfl) h

theorem State.endHold_keeps (i : Nat) (h : Keeps periodReg q s t) : Keeps periodReg q s (t.endHold i) := by
  unfold State.endHold
  refine .ite (h.setF R.GDI_BS_HOLD _ ?_ (by decide) (.inl fun g => ?_)) h
  · simp [periodReg, R.GDI_BS_HOLD]
  · simp only [R.GDI_BS_HOLD]
    omega

/-! ### A report (R170, R171, R316) -/

theorem State.setWord_keeps (a : Nat) (w : Word) (h : Keeps p q s t) : Keeps p q s (t.setWord a w) :=
  h.same (by simp) (by simp) (by simp) (by simp) (by simp) (by simp) (by simp) (by simp)

theorem State.setWords_keeps (a : Nat) (ws : List Word) (h : Keeps p q s t) : Keeps p q s (t.setWords a ws) := by
  induction ws generalizing t a with
  | nil => exact h
  | cons w ws ih => exact ih (a + 4) (State.setWord_keeps a w h)

theorem State.setWords_pwm (a : Nat) (ws : List Word) : (s.setWords a ws).pwm = s.pwm := by
  induction ws generalizing s a with
  | nil => rfl
  | cons w ws ih => simp [State.setWords, ih]

theorem State.overrun_keeps (h : Keeps periodReg q s t) : Keeps periodReg q s (t.overrun 1) := by
  unfold State.overrun
  refine .ite h ((h.setF (R.XDC_STAT_OVR 1) 1 (.inl rfl) (by decide) (.inl fun g => ?_)).posted (State.post_posted ..)
    fun _ ho => .inr (.inl ho))
  simp only [R.XDC_STAT_OVR]
  omega

theorem State.report_keeps (i : Nat) (h : Keeps periodReg q s t) : Keeps periodReg q s (t.report i) := by
  have hcount (x : Fld) (hx : x.off = 0x3004) (hw : x.lo + x.w ≤ 32) : Keeps periodReg q s (t.count x 1) :=
    h.count x 1 (.inl hx) hw fun g => by omega
  unfold State.report
  refine .ite (hcount _ rfl (by decide)) (.ite (State.overrun_keeps (hcount _ rfl (by decide))) ?_)
  dsimp only
  exact (State.setWord_keeps _ _ (State.setWords_keeps _ _ h)).posted (State.capture_posted ..) fun _ ho => .inr (.inl ho)

theorem State.report_pwm (i : Nat) : (s.report i).pwm = s.pwm := by
  unfold State.report
  split
  · rfl
  · split
    · unfold State.overrun
      split
      · rfl
      · exact (State.post_posted ..).pwm
    · dsimp only
      rw [(State.capture_posted ..).pwm, State.setWord_pwm, State.setWords_pwm]

/-! ### The end of a pair's period -/

theorem State.endPair_keeps (i : Nat) (hi : q i) (h : Keeps periodReg q s t) : Keeps periodReg q s (t.endPair i) := by
  unfold State.endPair
  dsimp only
  exact .ite (State.report_keeps i (h.setPair hi _)) (h.setPair hi _)

/-- It closes on-times; a turn-off in soft-off order goes on. -/
theorem State.endPair_soft (i j : Nat) : ((s.endPair i).pair j).soft = (s.pair j).soft := by
  have hset (c : PairSt) (hc : c.soft = (s.pair i).soft) : ((s.setPair i c).pair j).soft = (s.pair j).soft := by
    by_cases hj : j = i
    · subst hj
      rw [State.pair_setPair_self, hc]
    · rw [State.pair_setPair_ne c hj]
  unfold State.endPair
  dsimp only
  split
  · rw [State.pair, State.report_pwm, ← State.pair]
    exact hset _ rfl
  · exact hset _ rfl

/-! ### Pairs at the off level (R145, R157) -/

/-- Both lands of pair m are low. -/
def State.bothLow (s : State) (m : Nat) : Prop := (s.pair m).up = false ∧ (s.pair m).lo = false

theorem State.pairLow_bothLow (m : Nat) : (s.pairLow m).bothLow m := by
  have hup := State.landOff_turnedOff (s := s) m true
  have hlo := State.landOff_turnedOff (s := s.landOff m true) m false
  simp only [State.bothLow, State.pairLow, State.pair_setPair_self, hlo.up, hlo.lo, hup.up]
  simp

theorem State.pairLow_soft (m : Nat) : ((s.pairLow m).pair m).soft = none := by
  rw [State.pairLow, State.pair_setPair_self]

theorem State.bothLow.of_keeps (hs : s.bothLow m) (h : Keeps p q s t) (hq : ¬ q m) : t.bothLow m := by
  rw [State.bothLow, h.pair m hq]
  exact hs

theorem State.setCuts_keeps (i : Nat) (on : Nat → Bool) (h : Keeps periodReg q s t) :
    Keeps periodReg q s (t.each (List.range 16) fun g v => v.setCut g i (on g)) :=
  h.each fun g _ _ hv => State.setCut_keeps g i (on g) hv

theorem State.pairIdle_keeps (hm : q m) (h : Keeps periodReg q s t) : Keeps periodReg q s (t.pairIdle m) :=
  (State.setCuts_keeps m _ (h.switched (State.pairLow_switches (q := (· = m)) rfl (.refl _ t)) fun _ e => e ▸ hm)).setPair hm _

theorem State.pairIdle_bothLow (m : Nat) : (s.pairIdle m).bothLow m := by
  have hcut := State.setCuts_keeps (q := fun _ => False) m (fun _ => false) (.refl _ _ (s.pairLow m))
  have hlow := (State.pairLow_bothLow (s := s) m).of_keeps hcut id
  unfold State.pairIdle State.bothLow
  rwa [State.pair_setPair_self]

/-- A pair at the off level stays there when pairs go to it. -/
theorem State.bothLow.pairIdle (hs : s.bothLow m) (i : Nat) : (s.pairIdle i).bothLow m := by
  by_cases hi : m = i
  · subst hi
    exact State.pairIdle_bothLow m
  · exact hs.of_keeps (State.pairIdle_keeps (q := (· = i)) rfl (.refl _ _ s)) hi

theorem State.mem_bound (hm : m < 24) : m ∈ s.bound k ↔ s.pairOn m = true ∧ s.pairCar m = k := by
  simp [State.bound, State.pairsWhere, pairs24, hm]

theorem State.bound_nodup (s : State) (k : Nat) : (s.bound k).Nodup := List.nodup_range.filter _

theorem State.lt_of_mem_bound (h : m ∈ s.bound k) : m < 24 := List.mem_range.1 (List.mem_filter.1 h).1

theorem State.idleLoose_keeps (hq : ∀ i < 24, (s.pairOn i && s.carOn (s.pairCar i)) = false → q i) (h : Keeps periodReg q u s) :
    Keeps periodReg q u s.idleLoose :=
  h.each fun i hi _ hv => by
    obtain ⟨hr, hn⟩ := List.mem_filter.1 hi
    exact State.pairIdle_keeps (hq i (List.mem_range.1 hr) (Bool.not_eq_true' _ ▸ hn)) hv

/-! ### What holds a pair off, and stays through a period start (R148, R199, R228) -/

section
variable (h : Keeps startReg q s t)
include h

theorem Keeps.stateAllows (hm : m < 24) : t.stateAllows m = s.stateAllows m := by
  have hst : t.st = s.st := h.f R.SYS_STATE_ST (by simp [startReg, periodReg, evReg, R.SYS_STATE_ST])
  have harm := h.on (R.PWM_PAIR_CFG_ARM m) (by simp only [startReg, periodReg, evReg, R.PWM_PAIR_CFG_ARM]; omega)
  have hhold := h.on R.GRD_STAT_HOLD (by simp [startReg, periodReg, evReg, R.GRD_STAT_HOLD])
  simp only [State.stateAllows, h.live, h.bvq, hst, harm, hhold, h.sys]

theorem Keeps.stage (m : Nat) : t.stage m = s.stage m := by
  have h0 := h.f R.GDI_STAGE0_STG (by simp [startReg, periodReg, evReg, R.GDI_STAGE0_STG])
  have h1 := h.f R.GDI_STAGE1_STG (by simp [startReg, periodReg, evReg, R.GDI_STAGE1_STG])
  simp only [State.stage, h0, h1]

theorem Keeps.legOf (hm : m < 24) : t.pairLeg m = s.pairLeg m :=
  h.f (R.PWM_PAIR_CFG_LEG m) (by simp only [startReg, periodReg, evReg, R.PWM_PAIR_CFG_LEG]; omega)

theorem Keeps.groupsOf (j : Nat) : t.groupsOf j = s.groupsOf j := by
  simp only [State.groupsOf]
  refine List.filter_congr fun g hg => ?_
  rw [h.f (R.TRP_GRP_CFG_LEGS g) (by simp only [startReg, periodReg, evReg, R.TRP_GRP_CFG_LEGS]; have := List.mem_range.1 hg; omega)]

theorem Keeps.tripHeld (hm : m < 24) : t.tripHeld m = s.tripHeld m := by
  have hblk := h.on R.TRP_BLK_SC (by simp [startReg, periodReg, evReg, R.TRP_BLK_SC])
  have hany : ((s.groupsOf (s.pairLeg m)).any fun g => t.on (R.TRP_GRP_STAT_LATCH g)) =
      (s.groupsOf (s.pairLeg m)).any fun g => s.on (R.TRP_GRP_STAT_LATCH g) := by
    rw [Bool.eq_iff_iff, List.any_eq_true, List.any_eq_true]
    refine exists_congr fun g => and_congr_right fun hg => ?_
    rw [State.on, h.latch g (List.mem_range.1 (List.mem_filter.1 hg).1), State.on]
  rw [State.tripHeld, hblk, h.legOf hm, h.groupsOf, hany, State.tripHeld]

theorem Keeps.coarse : t.coarse = s.coarse :=
  h.on R.CLK_STAT_COARSE (by simp [startReg, periodReg, evReg, R.CLK_STAT_COARSE])

theorem Keeps.blanked {g : Nat} (hg : g < 16) : t.blanked g = s.blanked g := by
  have hmax := h.f (R.TRP_GRP_BLK_MAX g) (by simp only [startReg, periodReg, evReg, R.TRP_GRP_BLK_MAX]; omega)
  simp only [State.blanked]
  congr 1
  funext n
  have hmask := h.mask n
  simp only [AtcSt.mask, Prod.mk.injEq] at hmask
  obtain ⟨hopened, hfn, htgt, hspent⟩ := hmask
  rw [hopened, hfn, htgt, hspent, h.tbp, hmax, State.durDown, h.coarse, State.durDown]

theorem Keeps.groupActs {g : Nat} (hg : g < 16) : t.groupActs g = s.groupActs g := by
  simp only [State.groupActs, h.blanked hg]
  rw [Bool.eq_iff_iff, List.any_eq_true, List.any_eq_true]
  refine exists_congr fun i => and_congr_right fun hi => ?_
  have hi := List.mem_range.1 hi
  have hcfg (x : Fld) (hx : x.off = 0x7000 + 8 * i) : t.on x = s.on x := h.on x (by simp only [startReg, periodReg, evReg]; omega)
  have hmask := h.f (R.TRP_SRC_GRP_MASK i) (by simp only [startReg, periodReg, evReg, R.TRP_SRC_GRP_MASK]; omega)
  simp only [State.srcOf, State.srcOn, hcfg (R.TRP_SRC_CFG_EN i) rfl, hcfg (R.TRP_SRC_CFG_ACT i) rfl, hcfg (R.TRP_SRC_CFG_BLNK i) rfl,
    hmask]

end

/-- The device state does not let pair m switch, no turn-off in soft-off order is under way, and none begins at its period start:
its stage is 0, or the trip network does not act on it. -/
structure State.HeldOff (s : State) (m : Nat) : Prop where
  state : s.stateAllows m = false
  soft : (s.pair m).soft = none
  trips : s.stage m = 0 ∨ (s.tripHeld m = false ∧ ∀ g ∈ s.groupsOf (s.pairLeg m), s.groupActs g = false)

theorem State.HeldOff.of_keeps (hs : s.HeldOff m) (hm : m < 24) (h : Keeps startReg q s t) (hsoft : (t.pair m).soft = (s.pair m).soft) :
    t.HeldOff m := by
  refine ⟨(h.stateAllows hm).trans hs.state, hsoft.trans hs.soft, ?_⟩
  rw [h.stage, h.tripHeld hm, h.legOf hm, h.groupsOf]
  refine hs.trips.imp id fun hfree => ⟨hfree.1, fun g hg => ?_⟩
  rw [h.groupActs (List.mem_range.1 (List.mem_filter.1 hg).1)]
  exact hfree.2 g hg

/-! ### The start of a pair's period -/

theorem State.resume_keeps (hm : q m) (h : Keeps periodReg q s t) : Keeps periodReg q s (t.resume m) := by
  unfold State.resume
  extract_lets +onlyGivenNames own mine acting cutting other v c w x
  have hv : Keeps periodReg q s v := State.setCuts_keeps m _ h
  have hw : Keeps periodReg q s w := .ite (hv.switched (State.tripOff_switches (q := (· = m)) rfl (.refl _ v)) fun _ e => e ▸ hm) hv
  clear_value v w
  exact .ite (hv.setPair hm _) ((hw.setPair hm _).each fun g _ _ hu => State.countCut_keeps g m hu)

theorem State.tripOff_soft (h : s.stage m = 0) : ((s.tripOff m).pair m).soft = none := by
  unfold State.tripOff
  exact (congrArg (fun v => (State.pair v m).soft) (if_pos h)).trans (State.pairLow_soft m)

/-- A pair held off begins its period with no turn-off in soft-off order. -/
theorem State.resume_soft (hm : m < 24) (hs : s.HeldOff m) : ((s.resume m).pair m).soft = none := by
  unfold State.resume
  extract_lets +onlyGivenNames own mine acting cutting other v c w x
  have hv : Keeps periodReg (fun _ => False) s v := State.setCuts_keeps m _ (.refl _ _ s)
  have hc : c.soft = none := (congrArg PairSt.soft (hv.pair m id)).trans hs.soft
  have hfree : (acting.isEmpty && !v.tripHeld m) = false → s.stage m = 0 := fun hn => by
    refine hs.trips.resolve_right fun hno => ?_
    have hacting : acting = [] := List.filter_eq_nil_iff.2 fun g hg => by simp [hno.2 g hg]
    simp [hacting, hv.start.tripHeld hm, hno.1] at hn
  split
  · rw [State.pair_setPair_self]
    exact hc
  next hn =>
    have hstage : v.stage m = 0 := (hv.start.stage m).trans (hfree (by simpa using hn))
    have hw : (w.pair m).soft = none := by
      unfold w
      split
      · exact State.tripOff_soft hstage
      · exact hc
    have hcount := Keeps.each (p := periodReg) (q := fun _ => False) (l := cutting)
      (.refl _ _ (w.setPair m { w.pair m with blocked := true, byOther := other, cut := true }))
      fun g _ _ hu => State.countCut_keeps g m hu
    rw [hcount.pair m id, State.pair_setPair_self]
    exact hw

theorem State.setNotch_keeps (hm : q m) (h : Keeps p q s t) : Keeps p q s (t.setNotch m) := .ite (h.setPair hm _) (h.setPair hm _)

theorem State.setNotch_soft (m : Nat) : ((s.setNotch m).pair m).soft = (s.pair m).soft := by
  unfold State.setNotch
  split <;> simp only [State.pair_setPair_self]

theorem State.planRefresh_keeps (ton len reg : Nat) (hm : q m) (h : Keeps p q s t) : Keeps p q s (t.planRefresh m ton len reg) := by
  unfold State.planRefresh
  dsimp only
  exact .ite (.ite (State.setNotch_keeps hm (h.setPair hm _)) (h.setPair hm _)) (h.setPair hm _)

theorem State.planRefresh_soft (m ton len reg : Nat) : ((s.planRefresh m ton len reg).pair m).soft = (s.pair m).soft := by
  unfold State.planRefresh
  extract_lets c j n due held has d
  split
  · split
    · rw [State.setNotch_soft, State.pair_setPair_self]
    · rw [State.pair_setPair_self]
  · rw [State.pair_setPair_self]

/-- Pair m at its period start, its on-times begun anew and its refresh planned. -/
def State.replanned (s : State) (m ton reg : Nat) : State :=
  let v := s.resume m
  let v := (v.setPair m { v.pair m with
    hon := 0, lon := 0, region := reg, mixed := false, notched := false, rise := none, fall := none }).planRefresh m ton
      (s.f (R.PWM_CAR_EFF_PER (s.pairCar m))) reg
  v.setPair m { v.pair m with lowOk := false }

theorem State.replanned_keeps (ton reg : Nat) (hm : q m) (h : Keeps periodReg q s t) : Keeps periodReg q s (t.replanned m ton reg) :=
  (State.planRefresh_keeps ton _ reg hm ((State.resume_keeps hm h).setPair hm _)).setPair hm _

theorem State.replanned_soft (ton reg : Nat) (hm : m < 24) (hs : s.HeldOff m) : ((s.replanned m ton reg).pair m).soft = none := by
  rw [State.replanned, State.pair_setPair_self]
  dsimp only
  rw [State.planRefresh_soft, State.pair_setPair_self]
  exact State.resume_soft hm hs

/-- The on-time and the region of the period of pair m that starts. -/
def State.plannedNow (s : State) (m : Nat) : Nat × Nat := s.planned m (s.f (R.PWM_CAR_EFF_PER (s.pairCar m)))

theorem State.planPair_of_regG (h : (s.plannedNow m).2 = regG) : s.planPair m =
    let v := s.replanned m (s.plannedNow m).1 (s.plannedNow m).2
    let w := if (v.pair m).soft.isSome then v else v.pairLow m
    w.setPair m { w.pair m with w := false } := if_pos h

theorem State.planPair_of_ne_regG (h : (s.plannedNow m).2 ≠ regG) : ∃ c : PairSt,
    s.planPair m = ((s.replanned m (s.plannedNow m).1 (s.plannedNow m).2).setPair m c).target m none false ∨
      ∃ edge, s.planPair m = ((s.replanned m (s.plannedNow m).1 (s.plannedNow m).2).setPair m c).followW m edge := by
  by_cases hF : (s.plannedNow m).2 = regF
  · exact ⟨_, .inl ((if_neg h).trans (if_pos hF))⟩
  · exact ⟨_, .inr ⟨_, (if_neg h).trans (if_neg hF)⟩⟩

theorem State.planPair_keeps (hm : q m) (h : Keeps periodReg q s t) : Keeps periodReg q s (t.planPair m) := by
  have hsw {v w : State} (hv : Keeps periodReg q s v) (k : Switches (· = m) v w) : Keeps periodReg q s w :=
    hv.switched k fun _ e => e ▸ hm
  have hr := State.replanned_keeps (t.plannedNow m).1 (t.plannedNow m).2 hm h
  by_cases hG : (t.plannedNow m).2 = regG
  · rw [State.planPair_of_regG hG]
    exact (Keeps.ite hr (hsw hr (State.pairLow_switches (q := (· = m)) rfl (.refl _ _)))).setPair hm _
  · obtain ⟨c, he | ⟨edge, he⟩⟩ := State.planPair_of_ne_regG hG
    · exact he ▸ hsw (hr.setPair hm c) (State.target_switches (q := (· = m)) rfl none false (.refl _ _))
    · exact he ▸ hsw (hr.setPair hm c) (State.followW_switches (q := (· = m)) rfl edge (.refl _ _))

/-- A pair held off is low after its period start (R148). -/
theorem State.planPair_bothLow (hm : m < 24) (hs : s.HeldOff m) : (s.planPair m).bothLow m := by
  have hreg : (s.plannedNow m).2 = regG := by
    simp only [State.plannedNow, State.planned, hs.state]
    rfl
  have hsoft := State.replanned_soft (s.plannedNow m).1 (s.plannedNow m).2 hm hs
  rw [State.planPair_of_regG hreg, State.bothLow]
  generalize s.replanned m (s.plannedNow m).1 (s.plannedNow m).2 = v at hsoft ⊢
  simp only [State.pair_setPair_self, hsoft, Option.isSome_none, Bool.false_eq_true, if_false]
  exact v.pairLow_bothLow m

end Sys2Proof.Machine
end

section
/-! PROOFS. Carrier periods: how one begins at its plain length, and how a carrier stops (O18). -/

namespace Sys2Proof.Machine

variable {s t u : State} {p q : Nat → Prop} {m k : Nat}

/-! ### The word of a carrier in force, and its period (R151, R154, R157, R160) -/

theorem State.applySlot_empty (s : State) : s.applySlot {} = s := by
  simp [State.applySlot, State.applyRegs, State.each]

theorem State.shadowSpan_keeps (h : Keeps p q s t) : Keeps p q s t.shadowSpan := by
  unfold State.shadowSpan
  split
  · exact h
  · exact h.same rfl rfl rfl rfl rfl rfl rfl rfl

theorem State.carrierEvent_keeps (edge : Nat) (h : Keeps periodReg q s t) : Keeps periodReg q s (t.carrierEvent k edge) := by
  have he := State.atcEvent_switches (q := fun _ => False) (48 + k) edge (.refl _ t)
  exact (h.switched he fun _ e => e.elim).each fun _ _ _ hv => .ite (hv.same rfl rfl rfl rfl rfl rfl rfl rfl) hv

/-- The mode and the dither index of the period of carrier k that starts now. -/
def State.indexed (s : State) (k : Nat) (coarse first : Bool) : State :=
  let v := s.setF (R.PWM_CAR_EFF_COARSE k) (bit coarse)
  if first then v.setF (R.PWM_CAR_EFF_DIDX k) 0
  else if coarse then v
  else v.setF (R.PWM_CAR_EFF_DIDX k) ((v.f (R.PWM_CAR_EFF_DIDX k) + 1) % 16)

/-- The dither index of that period (R160). -/
def State.nextIndex (s : State) (k : Nat) (coarse first : Bool) : Nat :=
  if first then 0 else if coarse then s.f (R.PWM_CAR_EFF_DIDX k) else (s.f (R.PWM_CAR_EFF_DIDX k) + 1) % 16

/-- A write to the word of carrier k in force. -/
theorem Keeps.eff (h : Keeps (· = 0x400c + 16 * k) q s t) (x : Fld) (n : Nat) (hx : x.off = 0x400c + 16 * k)
    (hw : x.lo + x.w ≤ 32) : Keeps (· = 0x400c + 16 * k) q s (t.setF x n) :=
  h.setF x n hx hw (.inl fun g => by omega)

theorem State.indexed_keeps (coarse first : Bool) : Keeps (· = 0x400c + 16 * k) (fun _ => False) s (s.indexed k coarse first) := by
  have hmode := (Keeps.refl (· = 0x400c + 16 * k) (fun _ => False) s).eff (R.PWM_CAR_EFF_COARSE k) (bit coarse) rfl
    (by decide : 23 + 1 ≤ 32)
  exact .ite (hmode.eff _ _ rfl (by decide : 19 + 4 ≤ 32)) (.ite hmode (hmode.eff _ _ rfl (by decide : 19 + 4 ≤ 32)))

theorem State.indexed_mode (k : Nat) (coarse first : Bool) : (s.indexed k coarse first).f (R.PWM_CAR_EFF_COARSE k) = bit coarse := by
  have hmode : (s.setF (R.PWM_CAR_EFF_COARSE k) (bit coarse)).f (R.PWM_CAR_EFF_COARSE k) = bit coarse := by
    rw [State.f_setF_self _ (by decide : 23 + 1 ≤ 32)]
    cases coarse <;> rfl
  have hindex (n : Nat) := State.f_setF_ne (s := s.setF (R.PWM_CAR_EFF_COARSE k) (bit coarse)) (R.PWM_CAR_EFF_DIDX k)
    (R.PWM_CAR_EFF_COARSE k) (by decide : 19 + 4 ≤ 32) (.inr (.inr (by decide : 19 + 4 ≤ 23))) n
  unfold State.indexed
  dsimp only
  split
  · exact (hindex _).trans hmode
  · split
    · exact hmode
    · exact (hindex _).trans hmode

theorem State.indexed_index (k : Nat) (coarse first : Bool) :
    (s.indexed k coarse first).f (R.PWM_CAR_EFF_DIDX k) = s.nextIndex k coarse first := by
  have hmode := State.f_setF_ne (s := s) (R.PWM_CAR_EFF_COARSE k) (R.PWM_CAR_EFF_DIDX k) (by decide : 23 + 1 ≤ 32)
    (.inr (.inl (by decide : 19 + 4 ≤ 23))) (bit coarse)
  unfold State.indexed State.nextIndex
  dsimp only
  split
  · exact State.f_setF_self _ (by decide : 19 + 4 ≤ 32) 0
  · split
    · exact hmode
    · rw [State.f_setF_self _ (by decide : 19 + 4 ≤ 32), hmode]
      exact Nat.mod_eq_of_lt (Nat.mod_lt _ (by decide))

theorem State.carUnit_of_mode (h : s.f (R.PWM_CAR_EFF_COARSE k) = bit s.coarse) : s.carUnit k = s.unit := by
  unfold State.carUnit State.unit State.on
  rw [h]
  cases s.coarse <;> rfl

/-- P in the counts of a carrier (R151, R183). -/
theorem State.period_bounds (k : Nat) (coarse : Bool) : 0 < s.period k coarse ∧ s.period k coarse < 2 ^ 19 := by
  unfold State.period clampPer
  cases coarse
  · simp
  · simp
    omega

/-- With the phase in force before, a carrier that follows no sync has a period of plain length (R154, R155). -/
theorem State.adjust_plain (h : s.f (R.PWM_CAR_CFG_SYNC k) = 0 ∨ (s.car k).syncAt = none) (start : Nat) :
    (s.adjust k start (s.f (R.PWM_CAR_PH_PHASE k))).1 = 0 := by
  by_cases hsync : s.f (R.PWM_CAR_CFG_SYNC k) = 0
  · have hpos := (s.period_bounds k (s.on (R.PWM_CAR_EFF_COARSE k))).1
    have hzero : nearDiv 0 (2 ^ 24) = 0 := by decide
    simp only [State.adjust, show s.on (R.PWM_CAR_CFG_SYNC k) = false by simp [State.on, hsync], sub_self, zero_mul, hzero]
    split
    · contradiction
    · split <;> omega
  · have hnone : s.syncGrid k (s.f (R.PWM_CAR_PH_PHASE k)) = none := by
      simp [State.syncGrid, h.resolve_left hsync]
    simp [State.adjust, State.on, hsync, hnone]

/-- The shadow's count, brought up to date where carrier k starts its first period and paces it (R181). -/
def State.spanned (s : State) (k : Nat) (first : Bool) : State :=
  if first && s.shadowCars.head? = some k then s.shadowSpan else s

/-- The carrier itself at that period start, and its word complete. -/
def State.periodHead (s : State) (k : Nat) (first : Bool) (oldPhase : Nat) : State :=
  let c := s.car k
  let v := (s.spanned k first).indexed k s.coarse first
  let a := v.adjust k c.next oldPhase
  let len := ((v.period k s.coarse : Int) + a.1).toNat
  let v := v.setCar k { c with taken := none, bridging := false, start := c.next, startPt := v.ptAt c.next, peaked := false,
                               starting := false, waitSync := false, syncAt := c.lateAt, lateAt := none, grid := a.2, d := a.1,
                               phase0 := oldPhase, sync0 := c.syncAt, grid0 := c.grid, first0 := first,
                               next := c.next + len * v.carUnit k }
  (v.setF (R.PWM_CAR_EFF_PER k) len).setF (R.PWM_CAR_EFF_RUN k) 1

/-- The cuts of carrier k are counted anew (R220). -/
def State.countAnew (s : State) (k : Nat) : State :=
  { s with trp := { s.trp with
    counted := (s.trp.counted.map fun e => (e.1, if e.2.testBit k then e.2 - 2 ^ k else e.2)).filter fun e => e.2 ≠ 0 } }

/-- No pair moves where the bound pairs stay the same. -/
theorem filter_not_contains_self (l : List Nat) : (l.filter fun i => !l.contains i) = [] := by
  simp

/-- A period that takes nothing staged, in the mode of the one before, begins with the head, the pairs that do not run at the off
level, the cuts counted anew and the plans of its pairs. -/
theorem State.openPeriod_eq (first : Bool) (oldPhase : Nat) (htaken : (s.car k).taken = none) (hbr : (s.car k).bridging = false)
    (hmode : s.f (R.PWM_CAR_EFF_COARSE k) = bit s.coarse) : s.openPeriod k first false oldPhase =
      ((s.periodHead k first oldPhase).idleLoose.countAnew k).each (((s.periodHead k first oldPhase).idleLoose.countAnew k).bound k)
        fun m v => v.planPair m := by
  have hstay : (s.on (R.PWM_CAR_EFF_COARSE k) && !s.coarse) = false := by
    rw [State.on, hmode]
    cases s.coarse <;> rfl
  unfold State.openPeriod
  extract_lets +onlyGivenNames c wasCoarse coarse v0 before v1 v2
  have hv1 : v1 = v0 := (congrArg v0.applySlot (congrArg (fun o => o.getD {}) htaken)).trans v0.applySlot_empty
  have hv2 : v2 = v0 := by
    show v1.each (before.filter fun i => !(v1.bound k).contains i) _ = v0
    rw [hv1, filter_not_contains_self]
    rfl
  have hv0 : v0 = s.spanned k first := by simp [v0, State.spanned]
  clear_value v2
  subst hv2
  clear_value v0
  subst hv0
  extract_lets +onlyGivenNames v3 v4 start
  have hstart : start = c.next := if_neg (by simp [c, hbr, wasCoarse, coarse, hstay])
  clear_value start
  subst hstart
  rfl

theorem Keeps.setCar (h : Keeps p q s t) (k : Nat) (c : CarSt) : Keeps p q (s.setCar k c) (t.setCar k c) :=
  { h with cars := congrArg (fun l : Tab CarSt => Tab.set (fun _ => ({} : CarSt)) l k c) h.cars }

/-- A period of carrier k has begun as planned: its word in force, and where it starts and ends. -/
structure PeriodBegun (k : Nat) (first : Bool) (s t : State) : Prop where
  run : t.f (R.PWM_CAR_EFF_RUN k) = 1
  len : t.f (R.PWM_CAR_EFF_PER k) = s.period k s.coarse
  index : t.f (R.PWM_CAR_EFF_DIDX k) = s.nextIndex k s.coarse first
  start : (t.car k).start = (s.car k).next
  starting : (t.car k).starting = false
  next : (t.car k).next = (s.car k).next + s.period k s.coarse * s.unit

/-- What plans the period of carrier k reads the same. -/
theorem Keeps.period (h : Keeps p q s t) (hp : ¬ p (0x4004 + 16 * k)) (coarse : Bool) : t.period k coarse = s.period k coarse := by
  rw [State.period, h.f (R.PWM_CAR_PER_PER k) hp, State.period]

theorem PeriodBegun.of_keeps {first : Bool} (hk : k < 16) (b : PeriodBegun k first s t) (h : Keeps periodReg q t u) :
    PeriodBegun k first s u := by
  have hf (x : Fld) (hx : x.off = 0x400c + 16 * k) : u.f x = t.f x :=
    h.carFld (fun _ => not_periodReg_of_page) x hk (by omega)
  exact ⟨(hf _ rfl).trans b.run, (hf _ rfl).trans b.len, (hf _ rfl).trans b.index, h.car k ▸ b.start, h.car k ▸ b.starting,
    h.car k ▸ b.next⟩

theorem PeriodBegun.from_keeps {first : Bool} (hk : k < 16) (b : PeriodBegun k first t u) (h : Keeps periodReg q s t) :
    PeriodBegun k first s u := by
  have hindex : t.f (R.PWM_CAR_EFF_DIDX k) = s.f (R.PWM_CAR_EFF_DIDX k) :=
    h.carFld (fun _ => not_periodReg_of_page) _ hk (by simp [R.PWM_CAR_EFF_DIDX])
  have hlen := h.period (k := k) (not_periodReg_of_page (by unfold inPage; omega)) s.coarse
  have hunit : t.unit = s.unit := by rw [State.unit, h.start.coarse, State.unit]
  obtain ⟨hrun, hper, hidx, hstart, hstarting, hnext⟩ := b
  rw [h.start.coarse] at hper hidx hnext
  refine ⟨hrun, hper.trans hlen, ?_, h.car k ▸ hstart, hstarting, ?_⟩
  · rw [hidx, State.nextIndex, hindex, State.nextIndex]
  · rw [hnext, h.car k, hlen, hunit]

theorem State.spanned_keeps (k : Nat) (first : Bool) : Keeps p q s (s.spanned k first) :=
  .ite (State.shadowSpan_keeps (.refl _ _ s)) (.refl _ _ s)

section
variable (first : Bool) (hplain : s.f (R.PWM_CAR_CFG_SYNC k) = 0 ∨ (s.car k).syncAt = none)

/-- At the head of a period only the carrier and its word change. -/
theorem State.periodHead_keeps (oldPhase : Nat) :
    ∃ c, Keeps (· = 0x400c + 16 * k) (fun _ => False) (s.setCar k c) (s.periodHead k first oldPhase) :=
  have hcar := ((s.spanned_keeps k first).trans (State.indexed_keeps s.coarse first)).setCar k _
  ⟨_, (hcar.eff _ _ rfl (by decide : 0 + 19 ≤ 32)).eff _ _ rfl (by decide : 24 + 1 ≤ 32)⟩

include hplain in
theorem State.periodHead_begun : PeriodBegun k first s (s.periodHead k first (s.f (R.PWM_CAR_PH_PHASE k))) := by
  have hspan := s.spanned_keeps (p := fun _ => False) (q := fun _ => False) k first
  have hv := (hspan.mono (fun _ => False.elim) fun _ => id).trans (State.indexed_keeps (s := s.spanned k first) (k := k) s.coarse first)
  have hcoarse := State.indexed_mode (s := s.spanned k first) k s.coarse first
  have hindex := State.indexed_index (s := s.spanned k first) k s.coarse first
  rw [State.nextIndex, hspan.f _ id, ← State.nextIndex] at hindex
  unfold State.periodHead
  extract_lets c v a len w
  have hphase : v.f (R.PWM_CAR_PH_PHASE k) = s.f (R.PWM_CAR_PH_PHASE k) := hv.f _ (by simp [R.PWM_CAR_PH_PHASE])
  have hsync : v.f (R.PWM_CAR_CFG_SYNC k) = s.f (R.PWM_CAR_CFG_SYNC k) := hv.f _ (by simp [R.PWM_CAR_CFG_SYNC])
  have hlen : len = s.period k s.coarse := by
    have hzero : a.1 = 0 := by
      show (v.adjust k c.next (s.f (R.PWM_CAR_PH_PHASE k))).1 = 0
      rw [← hphase]
      exact State.adjust_plain (hplain.imp hsync.trans (congrArg CarSt.syncAt (hv.car k)).trans) _
    rw [show len = ((v.period k s.coarse : Int) + a.1).toNat from rfl, hzero, hv.period (by omega)]
    simp
  have hunit : v.carUnit k = s.unit := by
    have hon : v.coarse = s.coarse := hv.on _ (by simp only [R.CLK_STAT_COARSE]; omega)
    rw [State.carUnit_of_mode (hcoarse.trans (congrArg bit hon.symm)), State.unit, hon, State.unit]
  have hrun (v : State) (x : Fld) (hx : x.lo + x.w ≤ 24) : (v.setF (R.PWM_CAR_EFF_RUN k) 1).f x = v.f x :=
    State.f_setF_ne _ _ (by decide : 24 + 1 ≤ 32) (.inr (.inl hx)) 1
  refine ⟨State.f_setF_self _ (by decide : 24 + 1 ≤ 32) 1, ?_, ?_, congrArg CarSt.start (State.car_setCar_self k _),
    congrArg CarSt.starting (State.car_setCar_self k _), ?_⟩
  · rw [hrun _ _ (by decide : 0 + 19 ≤ 24), State.f_setF_self _ (by decide : 0 + 19 ≤ 32), hlen]
    exact Nat.mod_eq_of_lt (s.period_bounds k s.coarse).2
  · rw [hrun _ _ (by decide : 19 + 4 ≤ 24), State.f_setF_ne _ _ (by decide : 0 + 19 ≤ 32) (.inr (.inr (by decide : 0 + 19 ≤ 19)))]
    exact hindex
  · refine (congrArg CarSt.next (State.car_setCar_self k _)).trans ?_
    rw [hlen, hunit]
end

/-! ### What a period start leaves as it was, and the pairs it holds off -/

/-- After the head come the pairs that do not run, and the plans of the carrier's own. -/
theorem State.openPeriod_of_head (first : Bool) (oldPhase : Nat) (htaken : (s.car k).taken = none) (hbr : (s.car k).bridging = false)
    (hmode : s.f (R.PWM_CAR_EFF_COARSE k) = bit s.coarse) :
    Keeps periodReg (fun _ => True) (s.periodHead k first oldPhase) (s.openPeriod k first false oldPhase) := by
  rw [State.openPeriod_eq first oldPhase htaken hbr hmode]
  exact ((State.idleLoose_keeps (fun _ _ _ => trivial) (.refl _ _ _)).trp _).each fun i _ _ hv => State.planPair_keeps trivial hv

/-- What holds a pair off does not read the carriers. -/
theorem State.HeldOff.setCar (hs : s.HeldOff m) (k : Nat) (c : CarSt) : (s.setCar k c).HeldOff m := ⟨hs.state, hs.soft, hs.trips⟩

/-- The word of a carrier lies among the registers that a period start may write. -/
theorem Keeps.headStart (h : Keeps (· = 0x400c + 16 * k) q s t) (hk : k < 16) : Keeps startReg q s t :=
  h.mono (fun o ho => .inr (by omega)) fun _ => id

/-- A pair of the carrier that is held off is low once its period has begun. -/
theorem State.openPeriod_bothLow (first : Bool) (oldPhase : Nat) (hk : k < 16) (hm : m < 24)
    (htaken : (s.car k).taken = none) (hbr : (s.car k).bridging = false)
    (hmode : s.f (R.PWM_CAR_EFF_COARSE k) = bit s.coarse) (hon : s.pairOn m = true)
    (hcar : s.pairCar m = k) (hs : s.HeldOff m) : (s.openPeriod k first false oldPhase).bothLow m := by
  obtain ⟨c, hc⟩ := s.periodHead_keeps (k := k) first oldPhase
  have hrun : (s.periodHead k first oldPhase).carOn k = true := by
    have : (s.periodHead k first oldPhase).f (R.PWM_CAR_EFF_RUN k) = 1 := State.f_setF_self _ (by decide : 24 + 1 ≤ 32) 1
    simp [State.carOn, State.on, this]
  rw [State.openPeriod_eq first oldPhase htaken hbr hmode]
  generalize s.periodHead k first oldPhase = v at hc hrun
  have hstart := hc.headStart hk
  have hpair (x : Fld) (hx : 0x4100 + 16 * m ≤ x.off ∧ x.off < 0x4110 + 16 * m) : v.f x = s.f x := hc.f x (by omega)
  have hvon : v.pairOn m = true := by
    rw [State.pairOn, hpair (R.PWM_PAIR_CFG_MODE m) (by simp [R.PWM_PAIR_CFG_MODE])]
    exact hon
  have hvcar : v.pairCar m = k := (hpair (R.PWM_PAIR_CFG_CAR m) (by simp [R.PWM_PAIR_CFG_CAR])).trans hcar
  have hloose : Keeps periodReg (· ≠ m) v (v.idleLoose.countAnew k) := by
    refine (State.idleLoose_keeps (fun i _ hi e => ?_) (.refl _ _ v)).trp _
    subst e
    simp [hvon, hvcar, hrun] at hi
  have hpage (o : Nat) (ho : inPage 4 o) := not_periodReg_of_page ho
  have hw : (v.idleLoose.countAnew k).HeldOff m :=
    ((hs.setCar k c).of_keeps hm hstart (congrArg PairSt.soft (hstart.pair m id))).of_keeps hm hloose.start
      (congrArg PairSt.soft (hloose.pair m fun h => h rfl))
  have hmem : m ∈ (v.idleLoose.countAnew k).bound k :=
    (State.mem_bound hm).2 ⟨(hloose.pairOn hpage hm).trans hvon, (hloose.pairCar hpage hm).trans hvcar⟩
  have hother (i : Nat) (hi : i ≠ m) (u : State) : Keeps periodReg (· = i) u (u.planPair i) := State.planPair_keeps rfl (.refl _ _ u)
  exact State.each_at (P := fun u => u.HeldOff m) (Q := fun u => u.bothLow m) (State.bound_nodup _ k) hmem hw
    (fun i _ hi u hu => hu.of_keeps hm (hother i hi u).start (congrArg PairSt.soft ((hother i hi u).pair m hi.symm)))
    (fun u hu => State.planPair_bothLow hm hu) fun i _ hi u hu => hu.of_keeps (hother i hi u) hi.symm

/-! ### Carrier period starts (R148, R151, R152, R157, R160) -/

/-- With the legs as they were no land is decoded in another mode. -/
theorem State.gdfFollow_of_legs (h : ∀ i < 24, t.pairLeg i = s.pairLeg i) : s.gdfFollow t = t := by
  have hnone : ((List.range 48).filter fun n => s.pairLeg (n / 2) ≠ t.pairLeg (n / 2) && s.gdfMode n ≠ t.gdfMode n) = [] := by
    refine List.filter_eq_nil_iff.2 fun n hn => ?_
    have hn := List.mem_range.1 hn
    simp [h (n / 2) (by omega)]
  rw [State.gdfFollow, hnone]
  rfl

/-- The ends of the pairs' periods before a period start: their reports, and the bootstrap holds that end. -/
def State.ended (s : State) (k : Nat) : State :=
  let v := s.each (s.bound k) fun m v => v.endPair m
  (v.each (v.bound k) fun m v => v.endHold m).shadowTick k

theorem State.ended_keeps (k : Nat) : Keeps periodReg (fun _ => True) s (s.ended k) :=
  State.shadowTick_keeps ((Keeps.each (.refl _ _ s) fun i _ _ hv => State.endPair_keeps i trivial hv).each
    fun i _ _ hv => State.endHold_keeps i hv)

theorem State.ended_soft (k m : Nat) : ((s.ended k).pair m).soft = (s.pair m).soft := by
  have hhold : Keeps periodReg (fun _ => False) (s.each (s.bound k) fun m v => v.endPair m) (s.ended k) :=
    State.shadowTick_keeps (Keeps.each (.refl _ _ _) fun i _ _ hv => State.endHold_keeps i hv)
  rw [hhold.pair m id]
  exact State.each_ind (P := fun u => (u.pair m).soft = (s.pair m).soft) rfl fun i _ u hu => (State.endPair_soft i m).trans hu

/-- The holds that end before a carrier's first period. -/
def State.holdsEnded (s : State) (k : Nat) : State := (s.each (s.bound k) fun m v => v.endHold m).shadowTick k

theorem State.holdsEnded_keeps (k : Nat) : Keeps periodReg (fun _ => True) s (s.holdsEnded k) :=
  State.shadowTick_keeps (Keeps.each (.refl _ _ s) fun i _ _ hv => State.endHold_keeps i hv)

theorem State.carrierPeriodStart_first (hon : s.carOn k = false) (hstarting : (s.car k).starting = true) (hdue : (s.car k).next ≤ s.tbp) :
    s.carrierPeriodStart k = (s.holdsEnded k).beginPeriod k true := by
  simp only [State.carrierPeriodStart, hon, hstarting, hdue, decide_true, Bool.and_self, Bool.false_eq_true, if_false, if_true]
  rfl

theorem State.carrierPeriodStart_next (hon : s.carOn k = true) (hstop : (s.car k).stopPend = false) (hdue : (s.car k).next ≤ s.tbp) :
    s.carrierPeriodStart k = (s.ended k).beginPeriod k false := by
  simp only [State.carrierPeriodStart, hon, hstop, hdue, Bool.false_eq_true, if_false, if_true]
  rfl

theorem State.carrierPeriodStart_stop (hon : s.carOn k = true) (hstop : (s.car k).stopPend = true) (hdue : (s.car k).next ≤ s.tbp) :
    s.carrierPeriodStart k = (s.ended k).stopCarrier k := by
  simp only [State.carrierPeriodStart, hon, hstop, hdue, if_true]
  rfl

section
variable (first : Bool) (hk : k < 16) (h : Keeps periodReg (fun _ => True) s t) (htaken : (s.car k).taken = none)
  (hbr : (s.car k).bridging = false) (hmode : s.f (R.PWM_CAR_EFF_COARSE k) = bit s.coarse)
include hk h htaken hbr hmode

/-- What `beginPeriod` asks of a carrier still holds after the ends of its pairs' periods. -/
theorem Keeps.readyToOpen : (t.car k).taken = none ∧ (t.car k).bridging = false ∧ t.f (R.PWM_CAR_EFF_COARSE k) = bit t.coarse := by
  rw [h.car k, h.start.coarse, h.carFld (fun _ => not_periodReg_of_page) (R.PWM_CAR_EFF_COARSE k) hk (by simp [R.PWM_CAR_EFF_COARSE])]
  exact ⟨htaken, hbr, hmode⟩

theorem State.beginPeriod_legs : s.gdfFollow (t.beginPeriod k first) = t.beginPeriod k first := by
  obtain ⟨ht, hb, hc⟩ := h.readyToOpen hk htaken hbr hmode
  obtain ⟨c, hhead⟩ := t.periodHead_keeps (k := k) first (t.f (R.PWM_CAR_PH_PHASE k))
  have hopen := State.carrierEvent_keeps (k := k) 1 (t.openPeriod_of_head first (t.f (R.PWM_CAR_PH_PHASE k)) ht hb hc)
  refine State.gdfFollow_of_legs fun i hi => ?_
  calc (t.beginPeriod k first).pairLeg i = (t.periodHead k first (t.f (R.PWM_CAR_PH_PHASE k))).pairLeg i := hopen.start.legOf hi
    _ = (t.setCar k c).pairLeg i := (hhead.headStart hk).legOf hi
    _ = s.pairLeg i := h.start.legOf hi

theorem State.beginPeriod_begun (hplain : s.f (R.PWM_CAR_CFG_SYNC k) = 0 ∨ (s.car k).syncAt = none) :
    PeriodBegun k first s (t.beginPeriod k first) := by
  obtain ⟨ht, hb, hc⟩ := h.readyToOpen hk htaken hbr hmode
  have hsync : t.f (R.PWM_CAR_CFG_SYNC k) = s.f (R.PWM_CAR_CFG_SYNC k) :=
    h.carFld (fun _ => not_periodReg_of_page) _ hk (by simp [R.PWM_CAR_CFG_SYNC])
  have hhead := t.periodHead_begun (k := k) first (hplain.imp hsync.trans (congrArg CarSt.syncAt (h.car k)).trans)
  exact (hhead.of_keeps hk (State.carrierEvent_keeps 1 (t.openPeriod_of_head first _ ht hb hc))).from_keeps hk h

theorem State.beginPeriod_bothLow (hm : m < 24) (hon : s.pairOn m = true) (hcar : s.pairCar m = k) (hs : s.HeldOff m)
    (hsoft : (t.pair m).soft = (s.pair m).soft) : (t.beginPeriod k first).bothLow m := by
  obtain ⟨ht, hb, hc⟩ := h.readyToOpen hk htaken hbr hmode
  have hpage (o : Nat) (ho : inPage 4 o) := not_periodReg_of_page ho
  exact (t.openPeriod_bothLow first _ hk hm ht hb hc ((h.pairOn hpage hm).trans hon) ((h.pairCar hpage hm).trans hcar)
    (hs.of_keeps hm h.start hsoft)).of_keeps (State.carrierEvent_keeps (q := fun _ => False) 1 (.refl _ _ _)) id

end

/-- The pairs of carrier k at the off level, and the shadow's count brought up to date where the carrier paces it (R181). -/
def State.pairsStopped (s : State) (k : Nat) : State :=
  let v := s.each (s.bound k) fun m v => v.pairIdle m
  if v.shadowCars.head? = some k then v.shadowSpan else v

/-- The word in force of a stopped carrier. -/
def State.carStopped (s : State) (k : Nat) : State :=
  ((s.setF (R.PWM_CAR_EFF_RUN k) 0).setF (R.PWM_CAR_EFF_PER k) 0).setF (R.PWM_CAR_EFF_COARSE k) 0

theorem State.stopCarrier_eq (htaken : (s.car k).taken = none) (hslot : (s.car k).slot = {}) :
    s.stopCarrier k = (((s.pairsStopped k).carStopped k).setCar k {}).idleLoose := by
  simp only [State.stopCarrier, htaken, hslot, Option.getD_none, State.applySlot_empty]
  rfl

theorem State.pairsStopped_keeps (k : Nat) : Keeps periodReg (fun _ => True) s (s.pairsStopped k) := by
  have hidle := Keeps.each (p := periodReg) (q := fun _ => True) (l := s.bound k) (.refl _ _ s)
    fun i _ _ hv => State.pairIdle_keeps (m := i) trivial hv
  exact .ite (State.shadowSpan_keeps hidle) hidle

theorem State.pairsStopped_bothLow (hmem : m ∈ s.bound k) : (s.pairsStopped k).bothLow m := by
  have hidle : (s.each (s.bound k) fun m v => v.pairIdle m).bothLow m :=
    State.each_at (P := fun _ => True) (Q := fun u => u.bothLow m) (State.bound_nodup s k) hmem trivial (fun _ _ _ _ _ => trivial)
      (fun _ _ => State.pairIdle_bothLow m) fun i _ _ _ hu => hu.pairIdle i
  refine hidle.of_keeps (p := fun _ => False) (q := fun _ => False) ?_ id
  exact .ite (State.shadowSpan_keeps (.refl _ _ _)) (.refl _ _ _)

theorem State.carStopped_keeps (k : Nat) : Keeps (· = 0x400c + 16 * k) (fun _ => False) s (s.carStopped k) :=
  (((Keeps.refl _ _ s).eff _ _ rfl (by decide : 24 + 1 ≤ 32)).eff _ _ rfl (by decide : 0 + 19 ≤ 32)).eff _ _ rfl
    (by decide : 23 + 1 ≤ 32)

theorem State.f_setCar (c : CarSt) (x : Fld) : (s.setCar k c).f x = s.f x := rfl
theorem State.bothLow.setCar (hs : s.bothLow m) (k : Nat) (c : CarSt) : (s.setCar k c).bothLow m := hs
theorem State.pairLeg_setCar (c : CarSt) : (s.setCar k c).pairLeg m = s.pairLeg m := rfl

theorem State.carStopped_run (k : Nat) : (s.carStopped k).f (R.PWM_CAR_EFF_RUN k) = 0 := by
  rw [State.carStopped, State.f_setF_ne _ _ (by decide : 23 + 1 ≤ 32) (.inr (.inr (by decide : 23 + 1 ≤ 24))),
    State.f_setF_ne _ _ (by decide : 0 + 19 ≤ 32) (.inr (.inr (by decide : 0 + 19 ≤ 24)))]
  exact State.f_setF_self _ (by decide : 24 + 1 ≤ 32) 0

theorem State.carStopped_per (k : Nat) : (s.carStopped k).f (R.PWM_CAR_EFF_PER k) = 0 := by
  rw [State.carStopped, State.f_setF_ne _ _ (by decide : 23 + 1 ≤ 32) (.inr (.inl (by decide : 0 + 19 ≤ 23)))]
  exact State.f_setF_self _ (by decide : 0 + 19 ≤ 32) 0

theorem carrierPeriodStart_first_answers (k : Fin 16) (hl : s.live = true) (hdue : (s.car k).next ≤ s.tbp)
    (htaken : (s.car k).taken = none) (hbr : (s.car k).bridging = false)
    (hmode : s.f (R.PWM_CAR_EFF_COARSE k) = bit s.coarse) (hon : s.carOn k = false)
    (hstarting : (s.car k).starting = true) (hplain : s.f (R.PWM_CAR_CFG_SYNC k) = 0 ∨ (s.car k).syncAt = none) :
    Answers (.carrierPeriodStart k) s (PeriodBegun k true s) := by
  refine .onMain (t := s.gdfFollow (s.carrierPeriodStart k)) hl rfl ?_
  rw [State.carrierPeriodStart_first hon hstarting hdue, State.beginPeriod_legs true k.isLt (s.holdsEnded_keeps k) htaken hbr hmode]
  exact State.beginPeriod_begun true k.isLt (s.holdsEnded_keeps k) htaken hbr hmode hplain

theorem carrierPeriodStart_next_answers (k : Fin 16) (hl : s.live = true) (hdue : (s.car k).next ≤ s.tbp)
    (htaken : (s.car k).taken = none) (hbr : (s.car k).bridging = false)
    (hmode : s.f (R.PWM_CAR_EFF_COARSE k) = bit s.coarse) (hon : s.carOn k = true)
    (hstop : (s.car k).stopPend = false) (hsync : s.f (R.PWM_CAR_CFG_SYNC k) = 0) : Answers (.carrierPeriodStart k) s fun t =>
      PeriodBegun k false s t ∧ ∀ m < 24, s.pairOn m = true → s.pairCar m = k → s.HeldOff m → t.bothLow m := by
  refine .onMain (t := s.gdfFollow (s.carrierPeriodStart k)) hl rfl ?_
  rw [State.carrierPeriodStart_next hon hstop hdue, State.beginPeriod_legs false k.isLt (s.ended_keeps k) htaken hbr hmode]
  exact ⟨State.beginPeriod_begun false k.isLt (s.ended_keeps k) htaken hbr hmode (.inl hsync), fun m hm hpair hcar hs =>
    State.beginPeriod_bothLow false k.isLt (s.ended_keeps k) htaken hbr hmode hm hpair hcar hs (s.ended_soft k m)⟩

theorem carrierPeriodStart_stop_answers (k : Fin 16) (hl : s.live = true) (hdue : (s.car k).next ≤ s.tbp)
    (htaken : (s.car k).taken = none)
    (hon : s.carOn k = true) (hstop : (s.car k).stopPend = true) (hslot : (s.car k).slot = {}) : Answers (.carrierPeriodStart k) s fun t =>
      t.f (R.PWM_CAR_EFF_RUN k) = 0 ∧ t.f (R.PWM_CAR_EFF_PER k) = 0 ∧ t.car k = {} ∧
        ∀ m < 24, s.pairOn m = true → s.pairCar m = k → t.bothLow m := by
  have hend := s.ended_keeps k
  have heq : s.carrierPeriodStart k = ((((s.ended k).pairsStopped k).carStopped k).setCar k {}).idleLoose := by
    rw [State.carrierPeriodStart_stop hon hstop hdue, State.stopCarrier_eq]
    · rw [hend.car k, htaken]
    · rw [hend.car k, hslot]
  have hstopped := hend.trans ((s.ended k).pairsStopped_keeps k)
  have hword := State.carStopped_keeps (s := (s.ended k).pairsStopped k) k
  have hloose : Keeps periodReg (fun _ => True) ((((s.ended k).pairsStopped k).carStopped k).setCar k {}) (s.carrierPeriodStart k) :=
    heq ▸ State.idleLoose_keeps (fun _ _ _ => trivial) (.refl _ _ _)
  have hlegs (i : Nat) (hi : i < 24) : (s.carrierPeriodStart k).pairLeg i = s.pairLeg i :=
    calc (s.carrierPeriodStart k).pairLeg i = ((((s.ended k).pairsStopped k).carStopped k).setCar k {}).pairLeg i :=
          hloose.start.legOf hi
      _ = (((s.ended k).pairsStopped k).carStopped k).pairLeg i := State.pairLeg_setCar ..
      _ = ((s.ended k).pairsStopped k).pairLeg i := (hword.headStart k.isLt).legOf hi
      _ = s.pairLeg i := hstopped.start.legOf hi
  have hpage (o : Nat) (ho : inPage 4 o) := not_periodReg_of_page ho
  refine .onMain (t := s.gdfFollow (s.carrierPeriodStart k)) hl rfl ?_
  rw [State.gdfFollow_of_legs hlegs]
  refine ⟨?_, ?_, ?_, fun m hm hpair hcar => ?_⟩
  · rw [hloose.carFld hpage (R.PWM_CAR_EFF_RUN k) k.isLt (by simp [R.PWM_CAR_EFF_RUN]), State.f_setCar]
    exact State.carStopped_run k
  · rw [hloose.carFld hpage (R.PWM_CAR_EFF_PER k) k.isLt (by simp [R.PWM_CAR_EFF_PER]), State.f_setCar]
    exact State.carStopped_per k
  · rw [hloose.car k, State.car_setCar_self]
  · have hmem : m ∈ (s.ended k).bound k :=
      (State.mem_bound hm).2 ⟨(hend.pairOn hpage hm).trans hpair, (hend.pairCar hpage hm).trans hcar⟩
    have hlow : ((((s.ended k).pairsStopped k).carStopped k).setCar k {}).bothLow m :=
      ((State.pairsStopped_bothLow hmem).of_keeps hword id).setCar k {}
    rw [heq]
    exact State.each_ind (P := fun u => u.bothLow m) hlow fun i _ _ hu => hu.pairIdle i

theorem carrierPeriods : carrierPeriodsHolds := by
  refine fun s k hl hdue htaken hbr hmode => ⟨fun hon hstarting hplain => ?_, fun hon hstop hsync => ?_,
    carrierPeriodStart_stop_answers k hl hdue htaken⟩
  · obtain ⟨t, ht, b⟩ := carrierPeriodStart_first_answers k hl hdue htaken hbr hmode hon hstarting hplain
    exact ⟨t, ht, b.run, b.len, b.index, b.start, b.starting, b.next⟩
  · obtain ⟨t, ht, b, hoff⟩ := carrierPeriodStart_next_answers k hl hdue htaken hbr hmode hon hstop hsync
    exact ⟨t, ht, b.run, b.len, b.index, b.start, b.next, fun m hm hpair hcar hstate hsoft htrips =>
      hoff m hm hpair hcar ⟨hstate, hsoft, htrips⟩⟩

end Sys2Proof.Machine
end

section
/-! PROOFS. The peak of a period, the latch point and the mid boundary (O18). -/

namespace Sys2Proof.Machine

variable {s t u : State} {p q : Nat → Prop} {m k : Nat}

/-! ### The peak of a period (R122, R152, R185, R186) -/

theorem State.atcSchedule_tim (n : Nat) : (s.atcSchedule n).tim = s.tim := by
  unfold State.atcSchedule
  dsimp only
  split
  · rfl
  · split
    · split <;> rfl
    · rfl

theorem State.atcEvent_tim (src edge : Nat) : (s.atcEvent src edge).tim = s.tim :=
  State.each_ind (P := fun u => u.tim = s.tim) rfl fun n _ u hu => by
    split
    · rw [State.atcSchedule_tim, hu]
    · exact hu

theorem State.atcOf_atcSchedule_ne {n i : Nat} (h : i ≠ n) : (s.atcSchedule n).atcOf i = s.atcOf i := by
  unfold State.atcSchedule
  dsimp only
  split
  · exact State.atcOf_setAtc_ne _ h
  · split
    · split
      · exact State.atcOf_setAtc_ne _ h
      · exact State.atcOf_setAtc_ne _ h
    · exact State.atcOf_setAtc_ne _ h

/-- The window of a timer channel that is closed with none to come opens after its delay (R186). -/
theorem State.atcSchedule_pend {n : Nat} (hopened : (s.atcOf n).opened = none) (hpend : (s.atcOf n).pend = none) :
    ((s.atcSchedule n).atcOf n).pend = some (s.tbp + s.durNear (s.f (R.ATC_TIME_DLY n))) := by
  simp [State.atcSchedule, hopened, hpend]

/-- Of an event that it selects a closed window with none to come is scheduled (R185, R186). -/
theorem State.atcEvent_pend {n src edge : Nat} (hn : n < 16) (hfn : s.f (R.ATC_CFG_FN n) ≠ 0) (hsrc : s.f (R.ATC_CFG_SRC n) = src)
    (hedge : (s.f (R.ATC_CFG_EDGE n)).testBit (edge - 1) = true) (hopened : (s.atcOf n).opened = none) (hpend : (s.atcOf n).pend = none) :
    ((s.atcEvent src edge).atcOf n).pend = some (s.tbp + s.durNear (s.f (R.ATC_TIME_DLY n))) := by
  refine State.each_at (P := fun u => Switches (fun _ => False) s u ∧ u.atcOf n = s.atcOf n)
    (Q := fun u => (u.atcOf n).pend = some (s.tbp + s.durNear (s.f (R.ATC_TIME_DLY n)))) List.nodup_range (List.mem_range.2 hn)
    ⟨.refl _ s, rfl⟩ (fun i _ hi u hu => ⟨.ite (State.atcSchedule_switches i hu.1) hu.1, ?_⟩) (fun u ⟨hu, ha⟩ => ?_)
    fun i _ hi u hu => ?_
  · split
    · rw [State.atcOf_atcSchedule_ne hi.symm, hu.2]
    · exact hu.2
  · have hcfg (x : Fld) (hx : x.off ≠ 0x5080) : u.f x = s.f x := hu.fld x hx
    have hcoarse : u.coarse = s.coarse := hu.on R.CLK_STAT_COARSE (by decide)
    rw [hcfg (R.ATC_CFG_FN n) (by simp only [R.ATC_CFG_FN]; omega), hcfg (R.ATC_CFG_SRC n) (by simp only [R.ATC_CFG_SRC]; omega),
      hcfg (R.ATC_CFG_EDGE n) (by simp only [R.ATC_CFG_EDGE]; omega), if_pos (by simp [hfn, hsrc, hedge]),
      State.atcSchedule_pend (ha ▸ hopened) (ha ▸ hpend), hu.tbp, State.durNear, hcoarse,
      hcfg (R.ATC_TIME_DLY n) (by simp only [R.ATC_TIME_DLY]; omega), State.durNear]
  · split
    · rw [State.atcOf_atcSchedule_ne hi.symm, hu]
    · exact hu

/-- The matches of a carrier event leave the timer channels alone. -/
theorem State.carrierEvent_atcOf (edge n : Nat) : (s.carrierEvent k edge).atcOf n = (s.atcEvent (48 + k) edge).atcOf n := by
  refine State.each_ind (P := fun u => u.atcOf n = (s.atcEvent (48 + k) edge).atcOf n) rfl fun i _ u hu => ?_
  dsimp only
  split <;> exact hu

theorem State.carrierEvent_within (edge : Nat) (hp : p 0x5080) (h : Within p u s) : Within p u (s.carrierEvent k edge) :=
  Within.each (h.trans ((State.atcEvent_switches (q := fun _ => False) (48 + k) edge (.refl _ s)).within.mono fun _ e => e ▸ hp))
    fun _ _ _ hv => .ite (hv.tim _) hv

theorem State.ptc_setPtc_ne {n i : Nat} (c : PtcSt) (h : i ≠ n) : (s.setPtc n c).ptc i = s.ptc i := Tab.get_set_ne _ _ _ h

/-- A compare unit that selects the event gets a match placed (R122). -/
theorem State.carrierEvent_placed {n edge : Nat} (hn : n < 16) (hmode : s.f (R.TIM_PTC_CFG_MODE n) = 3)
    (hcar : s.f (R.TIM_PTC_CFG_CAR n) = k) (hevt : (s.f (R.TIM_PTC_CFG_CEVT n)).testBit (edge - 1) = true) :
    ∃ x, ((s.carrierEvent k edge).ptc n).placed = (s.ptc n).placed ++ [x] := by
  have he := State.atcEvent_switches (q := fun _ => False) (48 + k) edge (.refl _ s)
  have hstart : (s.atcEvent (48 + k) edge).ptc n = s.ptc n := by rw [State.ptc, State.atcEvent_tim, State.ptc]
  refine State.each_at (P := fun u => Within (· = 0x5080) s u ∧ u.ptc n = s.ptc n)
    (Q := fun u => ∃ x, (u.ptc n).placed = (s.ptc n).placed ++ [x]) List.nodup_range (List.mem_range.2 hn) ⟨he.within, hstart⟩
    (fun i _ hi u hu => ⟨.ite (hu.1.tim _) hu.1, ?_⟩) (fun u hu => ?_) fun i _ hi u hu => ?_
  · split
    · exact (State.ptc_setPtc_ne _ hi.symm).trans hu.2
    · exact hu.2
  · have hcfg (x : Fld) (hx : x.off = 0x210c + 16 * n) : u.f x = s.f x := congrArg x.get (hu.1.reg _ (by omega))
    rw [hcfg (R.TIM_PTC_CFG_MODE n) rfl, hcfg (R.TIM_PTC_CFG_CAR n) rfl, hcfg (R.TIM_PTC_CFG_CEVT n) rfl,
      if_pos (by simp [hmode, hcar, hevt]), ← hu.2]
    exact ⟨_, congrArg PtcSt.placed (State.ptc_setPtc_self n _)⟩
  · split
    · obtain ⟨x, hx⟩ := hu
      exact ⟨x, (congrArg PtcSt.placed (State.ptc_setPtc_ne _ hi.symm)).trans hx⟩
    · exact hu

theorem carrierPeak_answers (k : Fin 16) (hl : s.live = true) (hon : s.carOn k = true) (hdue : s.peakAt k ≤ s.tbp)
    (hpeaked : (s.car k).peaked = false) : Answers (.carrierPeak k) s fun t =>
      t.car k = { s.car k with peaked := true } ∧
        (∀ n < 16, s.f (R.TIM_PTC_CFG_MODE n) = 3 → s.f (R.TIM_PTC_CFG_CAR n) = k → (s.f (R.TIM_PTC_CFG_CEVT n)).testBit 1 = true →
          ∃ u, (t.ptc n).placed = (s.ptc n).placed ++ [u]) ∧
        (∀ n < 16, s.f (R.ATC_CFG_FN n) = 1 → s.f (R.ATC_CFG_SRC n) = 48 + k → (s.f (R.ATC_CFG_EDGE n)).testBit 1 = true →
          (s.atcOf n).opened = none → (s.atcOf n).pend = none →
          (t.atcOf n).pend = some (s.tbp + s.durNear (s.f (R.ATC_TIME_DLY n)))) ∧
        KeepsOut (fun o => o = 0x5080) s t := by
  obtain ⟨v, hv⟩ : ∃ v, v = s.setCar k { s.car k with peaked := true } := ⟨_, rfl⟩
  have heq : s.carrierPeak k = v.carrierEvent k 2 := by simp [State.carrierPeak, hon, hdue, hpeaked, hv]
  have hkeep := State.carrierEvent_keeps (k := k) (q := fun _ => False) 2 (.refl _ _ v)
  have hset : Within (fun o => o = 0x5080) s v := hv ▸ (Within.refl _ s).same rfl rfl rfl rfl rfl rfl rfl
  refine .onMain (t := s.carrierPeak k) hl rfl (heq ▸ ⟨?_, fun n hn hmode hcar hevt => ?_, fun n hn hfn hsrc hedge hopened hpend => ?_,
    (State.carrierEvent_within (p := fun o => o = 0x5080) 2 rfl hset).keepsOut⟩)
  · rw [hkeep.car k, hv, State.car_setCar_self]
  · subst hv
    exact State.carrierEvent_placed (s := s.setCar k { s.car k with peaked := true }) hn hmode hcar hevt
  · subst hv
    rw [State.carrierEvent_atcOf]
    exact State.atcEvent_pend (s := s.setCar k { s.car k with peaked := true }) hn
      (fun e => absurd (hfn.symm.trans e) (by decide)) hsrc hedge hopened hpend

/-! ### The latch point (R176) -/

theorem latchPoint_answers (k : Fin 16) (hl : s.live = true) (hon : s.carOn k = true) (hslot : (s.car k).slot.regs ≠ [])
    (hdue : (s.car k).next ≤ s.tbp + 2 * s.unit) : Answers (.latchPoint k) s fun t =>
      t.car k = { s.car k with slot := {}, taken := some (s.car k).slot } ∧ t.regs = s.regs ∧ KeepsMem s t := by
  have heq : s.latchPoint k = s.setCar k { s.car k with slot := {}, taken := some (s.car k).slot } := by
    simp [State.latchPoint, hon, hslot, hdue]
  exact .onMain (t := s.latchPoint k) hl rfl (heq ▸ ⟨State.car_setCar_self .., rfl, fun _ => rfl, rfl, rfl, rfl⟩)

/-- A slot with a shadow field waits for the next period start. -/
theorem latchPoint_waits (k : Fin 16) (hl : s.live = true) (hnot : s.tbp + 2 * s.unit < (s.car k).next)
    (hshadow : (s.car k).slot.shadow = true) : Answers (.latchPoint k) s fun t => t = s := by
  have heq : s.latchPoint k = s := by
    have hnext : ¬ (s.car k).next ≤ s.tbp + 2 * s.unit := by omega
    simp [State.latchPoint, hnext, hshadow]
  exact .onMain (t := s.latchPoint k) hl rfl heq

/-! ### The mid boundary (R152, R162, R177, R196) -/

/-- What writing pairs and switching them keeps, a pair's mid boundary keeps. -/
theorem State.midPair_ind {P : State → Prop} (h : P s) (hset : ∀ v c, P v → P (v.setPair m c))
    (hswitch : ∀ v w, P v → Switches (· = m) v w → P w) : P (s.midPair m) := by
  have htarget (v : State) (hv : P v) : P (v.target m none false) :=
    hswitch v _ hv (State.target_switches (q := (· = m)) rfl none false (.refl _ v))
  have hfollow (v : State) (hv : P v) : P (v.followW m true) :=
    hswitch v _ hv (State.followW_switches (q := (· = m)) rfl true (.refl _ v))
  unfold State.midPair
  extract_lets k len c
  dsimp -zeta only
  extract_lets v fall _ falling hi flat
  have hv : P v := by
    unfold v
    split
    · exact h
    · exact hset _ _ h
  have hfalling : P falling := hset _ _ hv
  have hflat : P flat := hset _ _ hv
  clear_value v falling flat
  split
  · exact hv
  · split
    · split
      · exact hfalling
      · exact hfollow _ hfalling
    · split
      · exact htarget _ hflat
      · split
        · exact hflat
        · exact hfollow _ hflat

/-- Of the registers a pair's mid boundary writes `ATC_MISS` alone, and no carrier. -/
theorem State.midPair_within (hp : p 0x5080) (h : Within p u s ∧ s.pwm.cars = u.pwm.cars) (i : Nat) :
    Within p u (s.midPair i) ∧ (s.midPair i).pwm.cars = u.pwm.cars :=
  State.midPair_ind (P := fun v => Within p u v ∧ v.pwm.cars = u.pwm.cars) h (fun _ c hv => ⟨hv.1.setPair i c, hv.2⟩) fun _ _ hv hw =>
    ⟨hv.1.trans (hw.within.mono fun _ e => e ▸ hp), hw.cars.trans hv.2⟩

/-- A staged duty word of pair m goes into force: besides it the pair's dead times may be raised (R177, R196). -/
theorem State.applySlot_duty (v : Word) : (s.applySlot { regs := [(0x4104 + 16 * m, v)] }).reg (0x4104 + 16 * m) = v ∧
    Within (fun o => o = 0x4104 + 16 * m ∨ o = 0x4108 + 16 * m) s (s.applySlot { regs := [(0x4104 + 16 * m, v)] }) := by
  refine State.each_ind (P := fun u => u.reg (0x4104 + 16 * m) = v ∧ Within (fun o => o = 0x4104 + 16 * m ∨ o = 0x4108 + 16 * m) s u)
    ⟨State.reg_setReg_self .., (Within.refl _ s).setReg _ _ (.inl rfl)⟩ fun i hi u hu => ?_
  have him : i = m := by
    have := (List.mem_filter.1 hi).2
    simp at this
    omega
  subst him
  exact ⟨(State.reg_setReg_ne _ (by omega)).trans hu.1, hu.2.setReg _ _ (.inr rfl)⟩

theorem carrierMidBoundary_answers (k : Fin 16) (hl : s.live = true) (hon : s.carOn k = true) (m : Fin 24) (v : Word)
    (hmode : s.f (R.PWM_CAR_CFG_MODE k) = 3) (hupd : s.f (R.PWM_CAR_CFG_UPD k) = 3) (hdue : s.peakAt k ≤ s.tbp)
    (htaken : (s.car k).taken = some { regs := [(0x4104 + 16 * m, v)] }) : Answers (.carrierMidBoundary k) s fun t =>
      t.reg (0x4104 + 16 * m) = v ∧ (t.car k).taken = none ∧
        KeepsOut (fun o => o = 0x4104 + 16 * m.val ∨ o = 0x4108 + 16 * m.val ∨ o = 0x5080) s t := by
  obtain ⟨w, hw⟩ : ∃ w, w = (s.applySlot { regs := [(0x4104 + 16 * m.val, v)] }).setCar k { s.car k with taken := none } :=
    ⟨_, rfl⟩
  have heq : s.carrierMid k = w.each (w.bound k) fun m u => u.midPair m := by
    simp [State.carrierMid, hon, hmode, hupd, hdue, htaken, hw]
  obtain ⟨hduty, hslot⟩ := State.applySlot_duty (s := s) (m := m) v
  obtain ⟨hmid, hcars⟩ : Within (fun o => o = 0x5080) w (s.carrierMid k) ∧ (s.carrierMid k).pwm.cars = w.pwm.cars := heq ▸
    State.each_ind (P := fun u => Within (fun o => o = 0x5080) w u ∧ u.pwm.cars = w.pwm.cars) ⟨.refl _ w, rfl⟩
      fun i _ _ hu => State.midPair_within (p := fun o => o = 0x5080) rfl hu i
  have hset : Within (fun o => o = 0x4104 + 16 * m.val ∨ o = 0x4108 + 16 * m.val) s w := hw ▸ hslot.same rfl rfl rfl rfl rfl rfl rfl
  refine .onMain (t := s.carrierMid k) hl rfl ⟨?_, ?_, ((hset.mono ?_).trans (hmid.mono fun _ e => .inr (.inr e))).keepsOut⟩
  · rw [hmid.reg _ (by omega), hw]
    exact hduty
  · rw [State.car, hcars, ← State.car, hw, State.car_setCar_self]
  · exact fun o ho => ho.imp_right .inl

theorem peaksAndLatchPoints : peaksAndLatchPointsHolds := fun _ k hl hon =>
  ⟨carrierPeak_answers k hl hon, latchPoint_answers k hl hon, fun _ hnot hshadow => latchPoint_waits k hl hnot hshadow,
    carrierMidBoundary_answers k hl hon⟩

/-- Settles O18: a period start by its head, which the carrier's word holds, and what then becomes of each pair; the peak, the
latch point and the mid boundary by what each of them writes. -/
theorem carriers : Obligations.Carriers := ⟨carrierPeriods, peaksAndLatchPoints⟩

end Sys2Proof.Machine
end

section
/-! PROOFS. The shadow copies of carriers and pairs (O20). -/

namespace Sys2Proof.Machine

variable {s t u : State} {off : Nat} {v : Word}

/-! ### A write to a field of a carrier or a pair (R179) -/

theorem RegMap.page_pwm (h : isPwmReg off = true) : RegMap.page off = RegMap.pwm := by
  have hpage : off / 0x1000 = 4 := by
    simp only [isPwmReg, decide_eq_true_eq] at h
    omega
  rw [RegMap.page, hpage]
  rfl

/-- A register of a carrier or a pair holds no field of the protection set, and none with a command beside fields to commit. -/
theorem accMask_of_pwm {r : RegSpec} (hp : isPwmReg off = true) (hr : RegMap.find off = some r) (hc : r.mask Acc.cfg ≠ 0) :
    accMask Acc.belay off = 0 ∧ accMask Acc.cmd off = 0 := by
  have hall : ∀ r ∈ RegMap.pwm, r.mask Acc.belay = 0 ∧ (r.mask Acc.cfg ≠ 0 → r.mask Acc.cmd = 0) := by decide
  have hmem := hr
  rw [RegMap.find, RegMap.page_pwm hp] at hmem
  obtain ⟨hbelay, hcmd⟩ := hall r (List.mem_of_find?_eq_some hmem)
  simp only [accMask, hr]
  exact ⟨hbelay, hcmd hc⟩

theorem State.isBelayWrite_of_pwm {r : RegSpec} (hp : isPwmReg off = true) (hr : RegMap.find off = some r)
    (hc : r.mask Acc.cfg ≠ 0) (v : Word) : s.isBelayWrite off v = false := by
  have hb := (accMask_of_pwm hp hr hc).1
  simp only [isPwmReg, decide_eq_true_eq] at hp
  have hkey : ¬ (0xA080 ≤ off ∧ off ≤ 0xA0C0) := by omega
  rw [State.isBelayWrite, if_neg (by omega), hasBelay, hb, decide_eq_false hkey]
  rfl

/-- An empty shadow begins its count of periods anew (R181). -/
def State.shadowFresh (s : State) : State :=
  if s.pwm.shadow.isEmpty then { s with pwm := { s.pwm with shCount := 0, shFrom := s.tbp } } else s

/-- A word listed in the shadow. -/
def State.shadowHold (s : State) (off : Nat) (v : Word) : State :=
  { s with pwm := { s.pwm with shadow := Tab.put s.pwm.shadow off v } }

theorem State.shadowPut_steps (s : State) (off : Nat) (v : Word) : s.shadowPut off v =
    ((if (s.shadowFresh.shadowHold off v).shadowCars.head? = s.shadowFresh.shadowCars.head? then s.shadowFresh
      else s.shadowFresh.shadowSpan).shadowHold off v).setF R.PWM_SH_STAT_PEND 1 := rfl

/-- Nothing but the PWM engine's own state differs. -/
def MovesPwm (s t : State) : Prop := ∃ q, t = { s with pwm := q }

theorem State.shadowFresh_moves (s : State) : MovesPwm s s.shadowFresh := by
  unfold State.shadowFresh
  split
  · exact ⟨_, rfl⟩
  · exact ⟨s.pwm, rfl⟩

theorem State.shadowSpan_moves (h : MovesPwm s t) : MovesPwm s t.shadowSpan := by
  obtain ⟨q, rfl⟩ := h
  unfold State.shadowSpan
  split
  · exact ⟨q, rfl⟩
  · exact ⟨_, rfl⟩

/-- The word is held in the shadow, and `PEND` shows it; nothing else changes outside the PWM engine's own state. -/
theorem State.shadowPut_eq (s : State) (off : Nat) (v : Word) :
    ∃ t, MovesPwm s t ∧ Tab.look t.pwm.shadow off = some v ∧ s.shadowPut off v = t.setF R.PWM_SH_STAT_PEND 1 := by
  have hmoves : MovesPwm s (if (s.shadowFresh.shadowHold off v).shadowCars.head? = s.shadowFresh.shadowCars.head? then s.shadowFresh
      else s.shadowFresh.shadowSpan) := by
    split
    · exact s.shadowFresh_moves
    · exact State.shadowSpan_moves s.shadowFresh_moves
  obtain ⟨q, hq⟩ := hmoves
  refine ⟨_, ?_, Tab.look_put_self .., s.shadowPut_steps off v⟩
  rw [hq]
  exact ⟨_, rfl⟩

/-- The unit of a write to a carrier or a pair: its word goes to the shadow. -/
theorem State.runUnit_shadow {r : RegSpec} (hp : isPwmReg off = true) (hr : RegMap.find off = some r) (ha : off % 4 = 0)
    (hc : r.mask Acc.cfg ≠ 0) (v : Word) : s.runUnit .host .host [(off, v)] =
      { status := .done, st := s.shadowPut off (wordClamp off (r.write Acc.cfg 0 v)) } := by
  have hcmd := (accMask_of_pwm hp hr hc).2
  have hbelay : s.isBelayWrite off v = false := State.isBelayWrite_of_pwm hp hr hc v
  have hrange : 0x4000 ≤ off ∧ off < 0x4280 := by simpa [isPwmReg] using hp
  have hmask : r.mask Acc.cfg ≠ 0#32 := hc
  have hclk : off ≠ 0x1000 := by omega
  have hcap : ¬ (0x11400 ≤ off ∧ off < 0x11500) := by omega
  have hstatus (w : Word) : s.produceStatus (s.shadowPut off w) = s.shadowPut off w := by
    have hne : ∀ o ∈ status7, o ≠ 0x4300 := by decide
    obtain ⟨_, ⟨q, rfl⟩, -, hq⟩ := s.shadowPut_eq off w
    exact State.produceStatus_of_reg fun o ho => hq ▸ State.reg_setF_ne R.PWM_SH_STAT_PEND 1 (hne o ho)
  have harm (w : Word) : (s.shadowPut off w).sys.arm = s.sys.arm := by
    obtain ⟨_, ⟨q, rfl⟩, -, hq⟩ := s.shadowPut_eq off w
    rw [hq]
    rfl
  have hcross : s.writeCfg [] = s := by simp [State.writeCfg, State.crossClamp, State.each]
  cases hw : s.sys.arm <;>
    simp [State.runUnit, lastPairs_single, ha, hr, hp, hbelay, hclk, hcap, hcross, State.stateBad, State.commands, hcmd, hmask, harm, hw,
      hstatus]

theorem KeepsBut.pwm {l : List Fld} (h : KeepsBut l s t) (q : PwmSt) : KeepsBut l s { t with pwm := q } :=
  ⟨⟨h.mem, h.host, h.queue, h.part⟩, h.regs⟩

@[simp] theorem State.wres_pwm (off : Nat) (st : Status) : (s.wres off st).pwm = s.pwm := by
  rw [State.wres]
  split <;> rfl

theorem shadowWrite_answers {r : RegSpec} (hl : s.live = true) (hp : isPwmReg off = true) (hr : RegMap.find off = some r)
    (ha : off % 4 = 0) (hc : r.mask Acc.cfg ≠ 0) (v : Word) : Answers (.shadowWrite off v) s fun t =>
      Tab.look t.pwm.shadow off = some (wordClamp off (r.write Acc.cfg 0 v)) ∧ t.f R.PWM_SH_STAT_PEND = 1 ∧
        Recorded off .done s t ∧ KeepsBut (R.PWM_SH_STAT_PEND :: wresFlds) s t := by
  obtain ⟨_, ⟨q, rfl⟩, hlook, hq⟩ := s.shadowPut_eq off (wordClamp off (r.write Acc.cfg 0 v))
  have hoff : off < 2 ^ 20 := by
    simp only [isPwmReg, decide_eq_true_eq] at hp
    omega
  have hrun := State.runUnit_shadow (s := s) hp hr ha hc v
  rw [hq] at hrun
  have hwrite : s.barWrite off v = (({ s with pwm := q } : State).setF R.PWM_SH_STAT_PEND 1).wres off .done :=
    State.barWrite_of_runUnit hl hrun rfl rfl
  have hkeep : KeepsBut (R.PWM_SH_STAT_PEND :: wresFlds) s (({ s with pwm := q } : State).setF R.PWM_SH_STAT_PEND 1) :=
    ((KeepsBut.refl _ s).pwm q).setF _ (List.mem_cons_self ..) (by decide) 1
  refine .onMain (t := if isPwmReg off then s.barWrite off v else s) hl rfl ?_
  rw [if_pos hp, hwrite]
  refine ⟨?_, ?_, State.wres_recorded_of_reg .done hoff (State.reg_setF_ne _ _ (by decide)), hkeep.wres (List.subset_cons_self ..) _ _⟩
  · rw [State.wres_pwm]
    exact hlook
  · refine (congrArg R.PWM_SH_STAT_PEND.get (State.reg_wres_ne off .done (by decide))).trans ?_
    exact State.f_setF_self _ (by decide) 1

/-! ### The end of a shadow (R180, R181) -/

/-- An empty shadow, and shown so. -/
structure ShadowEmpty (t : State) : Prop where
  shadow : t.pwm.shadow = []
  pend : t.f R.PWM_SH_STAT_PEND = 0

theorem State.shadowClear_empty (s : State) : ShadowEmpty s.shadowClear := ⟨rfl, State.f_setF_self _ (by decide) 0⟩

theorem ShadowEmpty.of_reg (h : ShadowEmpty s) (hp : t.pwm = s.pwm) (hr : t.reg 0x4300 = s.reg 0x4300) : ShadowEmpty t :=
  ⟨by rw [hp, h.shadow], (congrArg R.PWM_SH_STAT_PEND.get hr).trans h.pend⟩

theorem ShadowEmpty.setF (h : ShadowEmpty s) (x : Fld) (n : Nat) (hx : x.lo + x.w ≤ 32) (ha : 1 ≤ x.lo) : ShadowEmpty (s.setF x n) :=
  ⟨h.shadow, (State.f_setF_ne x R.PWM_SH_STAT_PEND hx (.inr (.inl ha)) n).trans h.pend⟩

theorem ShadowEmpty.wres (h : ShadowEmpty s) (off : Nat) (st : Status) : ShadowEmpty (s.wres off st) :=
  h.of_reg (State.wres_pwm ..) (State.reg_wres_ne off st (by decide))

theorem ShadowEmpty.refuse (h : ShadowEmpty s) (c : Conflict) : ShadowEmpty (s.refuse c false) :=
  h.of_reg rfl (State.reg_refuse_ne c false (by decide) (by decide))

/-- What a shadow commit comes to: refused, or in effect; either way the shadow is empty. -/
theorem State.pwmCommit_cases (s : State) :
    (∃ c, s.pwmCommit = (.error c, ((s.shadowClear).refuse c false).setF R.PWM_SH_STAT_RES 2)) ∨
      ∃ t : State, s.pwmCommit = (.ok (t.shadowClear.setF R.PWM_SH_STAT_RES 0), t.shadowClear.setF R.PWM_SH_STAT_RES 0) := by
  unfold State.pwmCommit
  extract_lets +onlyGivenNames sh _ written clamped
  clear_value clamped
  split
  next c _ => exact .inl ⟨c, rfl⟩
  next => exact .inr ⟨_, rfl⟩

theorem State.commitGo_of_error {c : Conflict} (h : s.pwmCommit.1 = .error c) :
    s.commitGo = { status := .conflict, st := ((s.shadowClear).refuse c false).setF R.PWM_SH_STAT_RES 2, conflict := some c } := by
  unfold State.commitGo
  rcases s.pwmCommit_cases with ⟨d, hd⟩ | ⟨t, ht⟩
  · rw [hd] at h ⊢
    obtain rfl : d = c := Except.error.inj h
    rfl
  · rw [ht] at h
    exact absurd h nofun

theorem State.commitGo_empty (s : State) : ShadowEmpty s.commitGo.st := by
  rcases s.pwmCommit_cases with ⟨c, hc⟩ | ⟨t, ht⟩
  · rw [State.commitGo_of_error (c := c) (by rw [hc])]
    exact (s.shadowClear_empty.refuse c).setF _ _ (by decide) (by decide)
  · rw [State.commitGo, ht]
    exact t.shadowClear_empty.setF _ _ (by decide) (by decide)

theorem pwmCommitGo_answers (hl : s.live = true) :
    Answers .pwmCommitGo s fun t => t.pwm.shadow = [] ∧ t.f R.PWM_SH_STAT_PEND = 0 := by
  obtain ⟨hshadow, hpend⟩ := s.commitGo_empty.wres 0x4304 s.commitGo.status
  exact .onMain (t := s.commitGo.st.wres 0x4304 s.commitGo.status) hl rfl ⟨hshadow, hpend⟩

theorem pwmCommitGo_conflict_answers (hl : s.live = true) {c : Conflict} (h : s.pwmCommit.1 = .error c) :
    Answers .pwmCommitGo s fun t =>
      t.f R.PWM_SH_STAT_RES = 2 ∧ t.sys.own = s.sys.own ∧ t.pwm.cairn = s.pwm.cairn ∧ Recorded 0x4304 .conflict s t := by
  refine .onMain (t := s.commitGo.st.wres 0x4304 s.commitGo.status) hl rfl ?_
  rw [State.commitGo_of_error h]
  refine ⟨?_, ?_, ?_, State.wres_recorded_of_reg .conflict (by decide) ?_⟩
  · refine (congrArg R.PWM_SH_STAT_RES.get (State.reg_wres_ne 0x4304 .conflict (by decide))).trans ?_
    exact State.f_setF_self _ (by decide) 2
  · rw [State.wres_sys]
    rfl
  · rw [State.wres_pwm]
    rfl
  · calc (((s.shadowClear).refuse c false).setF R.PWM_SH_STAT_RES 2).reg 0x11000
        = ((s.shadowClear).refuse c false).reg 0x11000 := State.reg_setF_ne _ _ (by decide)
      _ = s.shadowClear.reg 0x11000 := State.reg_refuse_ne c false (by decide) (by decide)
      _ = s.reg 0x11000 := State.reg_setF_ne _ _ (by decide)

theorem pwmCommitAbort_answers (hl : s.live = true) : Answers .pwmCommitAbort s fun t =>
    t.pwm.shadow = [] ∧ t.f R.PWM_SH_STAT_PEND = 0 ∧ Recorded 0x4304 .done s t ∧ KeepsBut (R.PWM_SH_STAT_PEND :: wresFlds) s t := by
  obtain ⟨hshadow, hpend⟩ := s.shadowClear_empty.wres 0x4304 .done
  have hkeep : KeepsBut (R.PWM_SH_STAT_PEND :: wresFlds) s s.shadowClear :=
    ((KeepsBut.refl _ s).pwm _).setF _ (List.mem_cons_self ..) (by decide) 0
  exact .onMain (t := s.shadowClear.wres 0x4304 .done) hl rfl ⟨hshadow, hpend,
    State.wres_recorded_of_reg .done (by decide) (State.reg_setF_ne _ _ (by decide)), hkeep.wres (List.subset_cons_self ..) _ _⟩

theorem pwmShadowDrop_answers (hl : s.live = true) {k : Nat} (hk : s.shadowCars.head? = some k) (hon : s.carOn k = true)
    (h64 : 64 ≤ s.pwm.shCount) : Answers .pwmShadowDrop s fun t =>
      t.pwm.shadow = [] ∧ t.f R.PWM_SH_STAT_PEND = 0 ∧ t.f R.PWM_SH_STAT_DROP = 1 ∧
        KeepsOut (fun o => o = 0x4300 ∨ evReg o) s t := by
  have hdrop : s.shadowDrop = (s.shadowClear.setF R.PWM_SH_STAT_DROP 1).post 0x0402 k := by
    simp [State.shadowDrop, hk, hon, h64]
  have hev : ¬ evReg 0x4300 := by
    unfold evReg
    omega
  obtain ⟨hshadow, hpend⟩ := (s.shadowClear_empty.setF R.PWM_SH_STAT_DROP 1 (by decide) (by decide)).of_reg
    (State.post_pwm _ 0x0402 k 0 0 0) (State.reg_post _ hev ..)
  have hkeep : Within (fun o => o = 0x4300 ∨ evReg o) s (s.shadowClear.setF R.PWM_SH_STAT_DROP 1) :=
    Within.setF _ 1 (.inl rfl) (Within.setF R.PWM_SH_STAT_PEND 0 (.inl rfl) ((Within.refl _ s).same rfl rfl rfl rfl rfl rfl rfl))
  refine .onMain (t := s.shadowDrop) hl rfl (hdrop ▸ ⟨hshadow, hpend, ?_, (hkeep.post (fun _ => .inr) ..).keepsOut⟩)
  rw [State.f_post _ _ hev]
  exact State.f_setF_self _ (by decide) 1

theorem shadowCopies : shadowHolds := fun _ hl =>
  ⟨fun _ v _ hp hr ha hc => shadowWrite_answers hl hp hr ha hc v, pwmCommitGo_answers hl,
    fun _ h => pwmCommitGo_conflict_answers hl h, pwmCommitAbort_answers hl, fun _ hk hon h64 => pwmShadowDrop_answers hl hk hon h64⟩

end Sys2Proof.Machine
end

section
/-! PROOFS. The converter's slices: calibration, rotation, handover and failure (O20). -/

namespace Sys2Proof.Machine

variable {s t u : State} {p : Nat → Prop}

/-! ### What the status of the mixed-signal die goes through, and the lanes -/

/-- A changed status is produced at crossing 7, which may count a report it replaces or discards. -/
theorem State.produceStatus_within (hx : p 0x301C) (h : Within p u t) : Within p u (s.produceStatus t) := by
  unfold State.produceStatus
  exact h.ite (State.xProduce_within 7 _ hx h)

theorem KeepsBut.produceStatus {l : List Fld} (h : KeepsBut l u t) (hl : xdc7 ⊆ l) : KeepsBut l u (s.produceStatus t) := by
  have hlost := h.setF (R.XDC_STAT_LOST 7) (hl (by simp [xdc7])) (by decide)
  have hdisc := h.setF (R.XDC_STAT_DISC 7) (hl (by simp [xdc7])) (by decide)
  have hmove {v : State} (k : KeepsBut l u v) (y : Nat) (c : Crossing) : KeepsBut l u (v.setXing y c) :=
    ⟨⟨k.mem, k.host, k.queue, k.part⟩, k.regs⟩
  unfold State.produceStatus State.xProduce State.produceAt
  dsimp only
  split
  · exact h
  · split
    · exact hmove (hdisc _) _ _
    · split
      · exact hmove h _ _
      · split
        · exact hmove (hlost _) _ _
        · exact hmove h _ _

theorem State.produceStatus_adc : (s.produceStatus t).adc = t.adc := by
  unfold State.produceStatus State.xProduce State.produceAt
  dsimp only
  split
  · rfl
  · split
    · rfl
    · split
      · rfl
      · split <;> rfl

theorem State.reg_produceStatus {o : Nat} (h : o ≠ 0x301C) : (s.produceStatus t).reg o = t.reg o :=
  (State.produceStatus_within (p := (· = 0x301C)) rfl (Within.refl _ t)).reg o h

theorem State.f_produceStatus (x : Fld) (h : x.off ≠ 0x301C) : (s.produceStatus t).f x = t.f x :=
  congrArg x.get (State.reg_produceStatus h)

theorem State.bitAt_produceStatus (x : Fld) (h : x.off ≠ 0x301C) (i : Nat) : (s.produceStatus t).bitAt x i = t.bitAt x i := by
  rw [State.bitAt, State.f_produceStatus x h, State.bitAt]

theorem State.lane_produceStatus (k : Nat) : (s.produceStatus t).lane k = t.lane k := by
  rw [State.lane, State.produceStatus_adc, State.lane]

/-- A command of the converter answers its operation's state, with the status produced where it has changed. -/
theorem Answers.onStatus {c : Instr} {P : State → Prop} (hl : s.live = true) (hc : exec c s = .next (s.onStatus t))
    (h : P (s.produceStatus t)) : Answers c s P := .onMain hl hc h

@[simp] theorem State.lane_setLane_self (k : Nat) (l : LaneSt) : (s.setLane k l).lane k = l := Tab.get_set_self ..
theorem State.lane_setLane_ne {k j : Nat} (l : LaneSt) (h : j ≠ k) : (s.setLane k l).lane j = s.lane j := Tab.get_set_ne _ _ _ h

/-- Nothing but the converter's own state differs. -/
def MovesAdc (s t : State) : Prop := ∃ a, t = { s with adc := a }

namespace MovesAdc

theorem refl (s : State) : MovesAdc s s := ⟨s.adc, rfl⟩

theorem trans (h : MovesAdc s t) (k : MovesAdc t u) : MovesAdc s u := by
  obtain ⟨a, rfl⟩ := h
  obtain ⟨b, rfl⟩ := k
  exact ⟨b, rfl⟩

theorem setLane (h : MovesAdc s t) (k : Nat) (l : LaneSt) : MovesAdc s (t.setLane k l) := h.trans ⟨_, rfl⟩

theorem reg (h : MovesAdc s t) (o : Nat) : t.reg o = s.reg o := by
  obtain ⟨a, rfl⟩ := h
  rfl

theorem f (h : MovesAdc s t) (x : Fld) : t.f x = s.f x := congrArg x.get (h.reg _)

theorem within (h : MovesAdc s t) : Within p s t := by
  obtain ⟨a, rfl⟩ := h
  exact (Within.refl p s).same rfl rfl rfl rfl rfl rfl rfl

end MovesAdc

theorem State.park_moves : MovesAdc s s.park := by
  refine State.each_ind (P := MovesAdc s) (.refl s) fun k _ u hu => ?_
  dsimp only
  split
  · split
    · exact hu
    · exact hu.setLane ..
  · exact hu

theorem State.takeFailed_moves : MovesAdc s s.takeFailed := by
  unfold State.takeFailed
  split
  · exact ⟨_, rfl⟩
  · exact .refl s

/-! ### A slice that fails (R269) -/

/-- A bit of a field that is set, and the others. -/
theorem State.bitAt_setBit_true (x : Fld) {i : Nat} (hx : x.lo + x.w ≤ 32) (hi : i < x.w) (j : Nat) :
    (s.setBit x i true).bitAt x j = (s.bitAt x j || decide (j = i)) := by
  have hlt : s.f x ||| 2 ^ i < 2 ^ x.w := Nat.or_lt_two_pow (Fld.get_lt ..) (Nat.pow_lt_pow_right (by decide) hi)
  have hv : (s.setBit x i true).f x = s.f x ||| 2 ^ i := (State.f_setF_self x hx _).trans (Nat.mod_eq_of_lt hlt)
  rw [State.bitAt, hv, Nat.testBit_or, Nat.testBit_two_pow, State.bitAt]
  simp only [eq_comm]

theorem State.sliceFail_of_failed {sl : Nat} (h : s.bitAt R.ADC_SLFAIL_FAIL sl = true) : s.sliceFail sl = s := if_pos h

/-- A slice that fails is marked and posted, and there is no spare any more; the rest is the converter's own. -/
theorem State.sliceFail_moves {sl : Nat} (h : s.bitAt R.ADC_SLFAIL_FAIL sl = false) :
    MovesAdc (((s.setBit R.ADC_SLFAIL_FAIL sl true).post 0x0902 0 sl).setF R.ADC_STAT_NOSPARE 1) (s.sliceFail sl) := by
  unfold State.sliceFail
  rw [if_neg (by simp [h])]
  dsimp only
  split
  · split
    · exact ((MovesAdc.refl _).setLane _ _).trans ⟨_, rfl⟩
    · exact ⟨_, rfl⟩
  · exact State.takeFailed_moves

theorem State.sliceFail_within {sl : Nat} (ha : p 0x9090) (hs : p 0x9094) (hp : ∀ o, evReg o → p o) (h : Within p u s) :
    Within p u (s.sliceFail sl) := by
  cases hb : s.bitAt R.ADC_SLFAIL_FAIL sl with
  | true => rwa [State.sliceFail_of_failed hb]
  | false =>
    have hmark := ((h.setBit R.ADC_SLFAIL_FAIL sl true hs).post hp 0x0902 0 sl 0 0).setF R.ADC_STAT_NOSPARE 1 ha
    exact hmark.trans (State.sliceFail_moves hb).within

theorem not_evReg_adc : ¬ evReg 0x9090 ∧ ¬ evReg 0x9094 := by
  unfold evReg
  omega

/-- Of `ADC_STAT` a failed slice changes `NOSPARE` alone. -/
theorem State.f_sliceFail_stat {sl : Nat} (x : Fld) (hx : x.off = 0x9090) (hd : x.lo + x.w ≤ 12) : (s.sliceFail sl).f x = s.f x := by
  cases hb : s.bitAt R.ADC_SLFAIL_FAIL sl with
  | true => rw [State.sliceFail_of_failed hb]
  | false =>
    rw [(State.sliceFail_moves hb).f, State.f_setF_ne _ _ (by decide) (.inr (.inl hd)), State.f_post _ _ (hx ▸ not_evReg_adc.1)]
    exact State.f_setF_ne R.ADC_SLFAIL_FAIL x (by decide) (.inl (by rw [hx]; decide)) _

theorem State.f_sliceFail_noSpare {sl : Nat} (h : s.bitAt R.ADC_SLFAIL_FAIL sl = false) : (s.sliceFail sl).f R.ADC_STAT_NOSPARE = 1 := by
  rw [(State.sliceFail_moves h).f]
  exact State.f_setF_self _ (by decide) 1

/-- The slice is marked, every other one as before. -/
theorem State.bitAt_sliceFail {sl : Nat} (hsl : sl < 17) (j : Nat) :
    (s.sliceFail sl).bitAt R.ADC_SLFAIL_FAIL j = (s.bitAt R.ADC_SLFAIL_FAIL j || decide (j = sl)) := by
  cases hb : s.bitAt R.ADC_SLFAIL_FAIL sl with
  | true =>
    rw [State.sliceFail_of_failed hb]
    by_cases hj : j = sl
    · subst hj
      simp [hb]
    · simp [hj]
  | false =>
    rw [← State.bitAt_setBit_true R.ADC_SLFAIL_FAIL (by decide) hsl j, State.bitAt, State.bitAt, (State.sliceFail_moves hb).f,
      State.f_setF_ne _ _ (by decide) (.inl (by decide)), State.f_post _ _ not_evReg_adc.2]

/-! ### Calibration at start-up (R264) -/

/-- The failures of a calibration, one slice after the other. -/
def State.failSlices (s : State) (failed : Nat) : State :=
  s.each (List.range 17) fun sl s => if failed.testBit sl then s.sliceFail sl else s

theorem State.failSlices_within (failed : Nat) (ha : p 0x9090) (hs : p 0x9094) (hp : ∀ o, evReg o → p o) (h : Within p u s) :
    Within p u (s.failSlices failed) :=
  h.each fun _ _ _ hv => .ite (State.sliceFail_within ha hs hp hv) hv

theorem State.f_failSlices_stat (failed : Nat) (x : Fld) (hx : x.off = 0x9090) (hd : x.lo + x.w ≤ 12) :
    (s.failSlices failed).f x = s.f x := by
  refine State.each_ind (P := fun u => u.f x = s.f x) rfl fun sl _ u hu => ?_
  split
  · exact (State.f_sliceFail_stat x hx hd).trans hu
  · exact hu

theorem State.bitAt_failSlices (failed : Nat) {sl : Nat} (h : sl < 17) :
    (s.failSlices failed).bitAt R.ADC_SLFAIL_FAIL sl = (s.bitAt R.ADC_SLFAIL_FAIL sl || failed.testBit sl) := by
  have hother (i : Nat) (hi : i ∈ List.range 17) (hne : i ≠ sl) (v : State) :
      (if failed.testBit i then v.sliceFail i else v).bitAt R.ADC_SLFAIL_FAIL sl = v.bitAt R.ADC_SLFAIL_FAIL sl := by
    split
    · simp [State.bitAt_sliceFail (List.mem_range.1 hi), hne.symm]
    · rfl
  refine State.each_at (j := sl) (P := fun u => u.bitAt R.ADC_SLFAIL_FAIL sl = s.bitAt R.ADC_SLFAIL_FAIL sl)
    (Q := fun u => u.bitAt R.ADC_SLFAIL_FAIL sl = (s.bitAt R.ADC_SLFAIL_FAIL sl || failed.testBit sl))
    List.nodup_range (List.mem_range.2 h) rfl (fun i hi hne v hv => (hother i hi hne v).trans hv) (fun v hv => ?_)
    fun i hi hne v hv => (hother i hi hne v).trans hv
  cases hf : failed.testBit sl <;> simp [State.bitAt_sliceFail h, hv]

/-- The calibration shows itself done, then fails its slices; the rest is the converter's own. -/
theorem State.calibrated_eq (failed : Nat) (h : s.f R.ADC_STAT_CALOK = 0) : ∃ t,
    MovesAdc ((s.setF R.ADC_STAT_CALOK 1).setF R.ADC_STAT_CALSL 31) t ∧ s.calibrated failed = (t.failSlices failed).park := by
  unfold State.calibrated
  rw [if_neg (by simp [State.on, h])]
  exact ⟨_, ⟨_, rfl⟩, rfl⟩

theorem adcCalibrationComplete_answers (hl : s.live = true) (failed : BitVec 17) (h : s.f R.ADC_STAT_CALOK = 0) :
    Answers (.adcCalibrationComplete failed) s fun t =>
      t.f R.ADC_STAT_CALOK = 1 ∧
        (∀ sl < 17, t.bitAt R.ADC_SLFAIL_FAIL sl = (s.bitAt R.ADC_SLFAIL_FAIL sl || failed.getLsbD sl)) ∧
        KeepsOut (fun o => o = 0x9090 ∨ o = R.ADC_SLFAIL_FAIL.off ∨ o = 0x301C ∨ evReg o) s t := by
  obtain ⟨t, ht, heq⟩ := State.calibrated_eq failed.toNat h
  refine .onStatus (t := s.calibrated failed.toNat) hl rfl (heq ▸ ⟨?_, fun sl hsl => ?_, ?_⟩)
  · rw [State.f_produceStatus _ (by decide), State.park_moves.f, State.f_failSlices_stat _ _ rfl (by decide), ht.f,
      State.f_setF_ne _ _ (by decide) (by decide)]
    exact State.f_setF_self _ (by decide) 1
  · have hbit : t.bitAt R.ADC_SLFAIL_FAIL sl = s.bitAt R.ADC_SLFAIL_FAIL sl := by
      rw [State.bitAt, ht.f, State.f_setF_ne _ _ (by decide) (by decide), State.f_setF_ne _ _ (by decide) (by decide), State.bitAt]
    rw [State.bitAt_produceStatus _ (by decide), State.bitAt, State.park_moves.f, ← State.bitAt, State.bitAt_failSlices _ hsl, hbit]
    rfl
  · have hset := (((Within.refl (fun o => o = 0x9090 ∨ o = R.ADC_SLFAIL_FAIL.off ∨ o = 0x301C ∨ evReg o) s).setF
      R.ADC_STAT_CALOK 1 (.inl rfl)).setF R.ADC_STAT_CALSL 31 (.inl rfl)).trans ht.within
    have hfail := State.failSlices_within failed.toNat (.inl rfl) (.inr (.inl rfl)) (fun _ ho => .inr (.inr (.inr ho))) hset
    exact (State.produceStatus_within (.inr (.inr (.inl rfl))) (hfail.trans State.park_moves.within)).keepsOut

/-! ### Rotation (R265) -/

/-- The lane that a slice serves, where there is only one. -/
theorem find_lane {sl k : Nat} (hk : k < 16) (h : (s.lane k).slice = sl) (hu : ∀ j < 16, (s.lane j).slice = sl → j = k) :
    lanes16.find? (fun k => (s.lane k).slice = sl) = some k := by
  have hsome : (lanes16.find? fun k => (s.lane k).slice = sl).isSome = true :=
    List.find?_isSome.2 ⟨k, List.mem_range.2 hk, by simpa using h⟩
  obtain ⟨j, hj⟩ := Option.isSome_iff_exists.1 hsome
  have hslice : (s.lane j).slice = sl := by simpa using List.find?_some hj
  rw [hj, hu j (List.mem_range.1 (List.mem_of_find?_eq_some hj)) hslice]

/-- The next rotation is timed from now, and lane `k` with slice `sl` is to be handed over. -/
def State.rotationBegun (s : State) (k sl : Nat) : State :=
  { s with adc := { s.adc with hand := some k, rot := (sl + 1) % 17, rotAt := s.tba } }

theorem rotationStep_answers (hl : s.live = true) {sp sl k : Nat} (hk : k < 16) (hsp : s.adc.spare = some sp) (hrot : s.f R.ADC_CTL_ROT = 1)
    (hcal : s.f R.ADC_STAT_CALOK = 1) (hno : s.f R.ADC_STAT_NOSPARE = 0) (hhand : s.adc.hand = none)
    (hdue : s.adc.rotAt + 771000 ≤ s.tba) (hnext : s.nextSlice sp = some sl) (h : (s.lane k).slice = sl)
    (hu : ∀ j < 16, (s.lane j).slice = sl → j = k) : Answers .rotationStep s fun t =>
      t.adc.hand = some k ∧ (t.lane k).slice = sl ∧ (t.lane k).overlap = some s.tba ∧ t.adc.rot = (sl + 1) % 17 ∧
        t.adc.rotAt = s.tba ∧ t.regs = s.regs ∧ KeepsMem s t := by
  have heq : s.rotate = (s.rotationBegun k sl).setLane k { s.lane k with overlap := some s.tba } := by
    simp [State.rotate, State.rotationBegun, hsp, State.on, hrot, hcal, hno, hhand, hdue, hnext, find_lane hk h hu]
    rfl
  have hstatus : s.produceStatus s.rotate = s.rotate :=
    State.produceStatus_of_reg fun o _ => by rw [heq]; rfl
  refine .onStatus (t := s.rotate) hl rfl ?_
  rw [hstatus, heq, State.lane_setLane_self]
  exact ⟨rfl, h, rfl, rfl, rfl, rfl, fun _ => rfl, rfl, rfl, rfl⟩

/-! ### Handover (R266) -/

/-- Lane `k` is served by slice `sp`, and the slice it had is the spare. -/
def State.handedOver (s : State) (k sp : Nat) : State :=
  { s.setLane k { s.lane k with slice := sp, overlap := none } with
    adc := { (s.setLane k { s.lane k with slice := sp, overlap := none }).adc with hand := none, spare := some (s.lane k).slice } }

theorem State.handedOver_moves (k sp : Nat) : MovesAdc s (s.handedOver k sp) := ⟨_, rfl⟩

theorem State.lane_handedOver_self (k sp : Nat) : (s.handedOver k sp).lane k = { s.lane k with slice := sp, overlap := none } :=
  State.lane_setLane_self ..

theorem State.lane_handedOver_ne {k j : Nat} (sp : Nat) (h : j ≠ k) : (s.handedOver k sp).lane j = s.lane j :=
  State.lane_setLane_ne _ h

theorem State.handover_eq {sp v k : Nat} (hsp : s.adc.spare = some sp) (hhand : s.adc.hand = some k)
    (hover : (s.lane k).overlap = some v) (hdue : v + 40 ≤ s.tba) (hidle : (s.lane k).conv = none)
    (hold : s.bitAt R.ADC_SLFAIL_FAIL (s.lane k).slice = false) (hserved : lanes16.any (s.handedOver k sp).laneDead = false) :
    s.handover = (s.handedOver k sp).setF R.ADC_STAT_CALSL (s.lane k).slice := by
  have hgo : (decide (v + 40 ≤ s.tba) && (s.lane k).conv.isNone) = true := by simp [hdue, hidle]
  simp only [State.handover, hhand, hsp, hover, if_pos hgo, hold, Bool.false_eq_true, if_false]
  exact if_neg (by simpa [State.handedOver] using hserved)

theorem sliceHandover_answers (hl : s.live = true) {sp v k : Nat} (hsp : s.adc.spare = some sp) (hhand : s.adc.hand = some k)
    (hover : (s.lane k).overlap = some v) (hdue : v + 40 ≤ s.tba) (hidle : (s.lane k).conv = none)
    (hold : s.bitAt R.ADC_SLFAIL_FAIL (s.lane k).slice = false) (hlt : (s.lane k).slice < 17) (hnew : s.bitAt R.ADC_SLFAIL_FAIL sp = false)
    (hdead : ∀ j < 16, s.laneDead j = false) : Answers .sliceHandover s fun t =>
      (t.lane k).slice = sp ∧ (t.lane k).overlap = none ∧ t.adc.hand = none ∧ t.adc.spare = some (s.lane k).slice ∧
        t.f R.ADC_STAT_CALSL = (s.lane k).slice ∧ KeepsBut (R.ADC_STAT_CALSL :: xdc7) s t := by
  have hserved : lanes16.any (s.handedOver k sp).laneDead = false := by
    refine List.any_eq_false.2 fun j hj => ?_
    rw [State.laneDead, State.bitAt, (s.handedOver_moves k sp).f, ← State.bitAt]
    by_cases hjk : j = k
    · subst hjk
      simp [State.lane_handedOver_self, hnew]
    · rw [State.lane_handedOver_ne _ hjk, ← State.laneDead, hdead j (List.mem_range.1 hj)]
      decide
  have heq := State.handover_eq hsp hhand hover hdue hidle hold hserved
  have hlane : (s.handover.lane k) = { s.lane k with slice := sp, overlap := none } := by
    rw [heq]
    exact State.lane_handedOver_self k sp
  have hkeep : KeepsBut (R.ADC_STAT_CALSL :: xdc7) s s.handover := by
    have hmoved : KeepsBut (R.ADC_STAT_CALSL :: xdc7) s (s.handedOver k sp) := ⟨⟨fun _ => rfl, rfl, rfl, rfl⟩, fun _ => rfl⟩
    rw [heq]
    exact hmoved.setF _ (List.mem_cons_self ..) (by decide) _
  refine .onStatus (t := s.handover) hl rfl ⟨?_, ?_, ?_, ?_, ?_, hkeep.produceStatus (List.subset_cons_self ..)⟩
  · rw [State.lane_produceStatus, hlane]
  · rw [State.lane_produceStatus, hlane]
  · rw [State.produceStatus_adc, heq]
    rfl
  · rw [State.produceStatus_adc, heq]
    rfl
  · rw [State.f_produceStatus _ (by decide), heq, State.f_setF_self _ (by decide)]
    exact Nat.mod_eq_of_lt (hlt.trans (by decide))

/-! ### The end of a slice's calibration (R265, R269) -/

theorem State.sliceCalibrated_eq (ok : Bool) (h : s.f R.ADC_STAT_CALSL < 17) : s.sliceCalibrated ok =
    if ok then s.setF R.ADC_STAT_CALSL 31 else (s.setF R.ADC_STAT_CALSL 31).sliceFail (s.f R.ADC_STAT_CALSL) := by
  have hne : s.f R.ADC_STAT_CALSL ≠ 31 := by omega
  simp only [State.sliceCalibrated, hne, if_false]

theorem sliceCalibrationComplete_answers (hl : s.live = true) (h : s.f R.ADC_STAT_CALSL < 17) :
    Answers (.sliceCalibrationComplete true) s fun t =>
      t.f R.ADC_STAT_CALSL = 31 ∧ KeepsBut (R.ADC_STAT_CALSL :: xdc7) s t := by
  have hkeep := (KeepsBut.refl (R.ADC_STAT_CALSL :: xdc7) s).setF R.ADC_STAT_CALSL (List.mem_cons_self ..) (by decide) 31
  refine .onStatus (t := s.sliceCalibrated true) hl rfl ?_
  rw [State.sliceCalibrated_eq true h, if_pos rfl]
  refine ⟨?_, hkeep.produceStatus (List.subset_cons_self ..)⟩
  rw [State.f_produceStatus _ (by decide)]
  exact State.f_setF_self _ (by decide) 31

theorem sliceCalibrationComplete_failed_answers (hl : s.live = true) (h : s.f R.ADC_STAT_CALSL < 17) :
    Answers (.sliceCalibrationComplete false) s fun t =>
      t.f R.ADC_STAT_CALSL = 31 ∧ t.bitAt R.ADC_SLFAIL_FAIL (s.f R.ADC_STAT_CALSL) = true ∧
        (s.bitAt R.ADC_SLFAIL_FAIL (s.f R.ADC_STAT_CALSL) = false → t.f R.ADC_STAT_NOSPARE = 1) := by
  refine .onStatus (t := s.sliceCalibrated false) hl rfl ?_
  rw [State.sliceCalibrated_eq false h, if_neg (by decide)]
  refine ⟨?_, ?_, fun hb => ?_⟩
  · rw [State.f_produceStatus _ (by decide), State.f_sliceFail_stat _ rfl (by decide)]
    exact State.f_setF_self _ (by decide) 31
  · rw [State.bitAt_produceStatus _ (by decide), State.bitAt_sliceFail h]
    simp
  · rw [State.f_produceStatus _ (by decide)]
    refine State.f_sliceFail_noSpare ?_
    rw [State.bitAt, State.f_setF_ne _ _ (by decide) (by decide)]
    exact hb

theorem slices : slicesHolds := fun _ hl =>
  ⟨fun failed h => adcCalibrationComplete_answers hl failed h,
    fun _ _ k hsp hrot hcal hno hhand hdue hnext h hu => rotationStep_answers hl k.isLt hsp hrot hcal hno hhand hdue hnext h hu,
    fun _ _ _ hsp hhand hover hdue hidle hold hlt hnew hdead =>
      sliceHandover_answers hl hsp hhand hover hdue hidle hold hlt hnew hdead,
    sliceCalibrationComplete_answers hl, sliceCalibrationComplete_failed_answers hl⟩

/-- Settles O20: the shadow by its writes and its ends, the slices by what a failed slice changes and what moves their lanes. -/
theorem shadowAndSlices : Obligations.ShadowAndSlices := ⟨shadowCopies, slices⟩

end Sys2Proof.Machine
end

section
/-! PROOFS. The trip path: what a cut, a latch, a block short, a block trip request and the sources behind them leave as it was
(O15, O16). `TripKeeps p` follows it from the state a command finds; `p` lists the registers that may change. -/

namespace Sys2Proof.Machine

variable {s t u : State} {p : Nat → Prop}

/-! ### The relation -/

/-- A land that is low stays low. -/
def PairSt.StaysLow (a b : PairSt) : Prop := (a.up = false → b.up = false) ∧ (a.lo = false → b.lo = false)

theorem PairSt.StaysLow.refl (a : PairSt) : a.StaysLow a := ⟨id, id⟩

theorem PairSt.StaysLow.trans {a b c : PairSt} (h : a.StaysLow b) (k : b.StaysLow c) : a.StaysLow c :=
  ⟨fun ha => k.1 (h.1 ha), fun ha => k.2 (h.2 ha)⟩

/-- What the trip path leaves as it was, where no arming is under way: the registers outside `p` with the memories, what masks,
the GDF lands, the unfiltered levels of the sources, on which groups they have acted but for the groups in `p`, and the lands
that are low. -/
structure TripKeeps (p : Nat → Prop) (s t : State) : Prop where
  within : Within p s t
  arm : t.sys.arm = none
  mask : ∀ n, (t.atcOf n).mask = (s.atcOf n).mask
  gdf : t.trp.gdf = s.trp.gdf
  raw : ∀ i, (t.tsrc i).raw = (s.tsrc i).raw
  acted : ∀ i, ∀ g < 16, ¬ p (0x7308 + 16 * g) → (t.tsrc i).acted.testBit g = (s.tsrc i).acted.testBit g
  low : ∀ m, (s.pair m).StaysLow (t.pair m)

@[simp] theorem State.tsrc_setTsrc_self (i : Nat) (c : TsrcSt) : (s.setTsrc i c).tsrc i = c := Tab.get_set_self ..
theorem State.tsrc_setTsrc_ne {i j : Nat} (c : TsrcSt) (h : j ≠ i) : (s.setTsrc i c).tsrc j = s.tsrc j := Tab.get_set_ne _ _ _ h

namespace TripKeeps

theorem refl (p : Nat → Prop) (h : s.sys.arm = none) : TripKeeps p s s :=
  ⟨.refl p s, h, fun _ => rfl, rfl, fun _ => rfl, fun _ _ _ _ => rfl, fun _ => .refl _⟩

theorem trans (h : TripKeeps p s t) (k : TripKeeps p t u) : TripKeeps p s u :=
  ⟨h.within.trans k.within, k.arm, fun n => (k.mask n).trans (h.mask n), k.gdf.trans h.gdf, fun i => (k.raw i).trans (h.raw i),
    fun i g hg hn => (k.acted i g hg hn).trans (h.acted i g hg hn), fun m => (h.low m).trans (k.low m)⟩

/-- A change of registers in `p` and of other parts of the state. -/
theorem same (h : TripKeeps p s t) (hw : Within p t u) (hs : u.sys.arm = t.sys.arm) (ha : u.atc = t.atc) (hr : u.trp = t.trp)
    (hp : u.pwm = t.pwm) : TripKeeps p s u :=
  h.trans ⟨hw, hs.trans h.arm, fun n => by rw [State.atcOf, ha, State.atcOf], by rw [hr], fun i => by rw [State.tsrc, hr, State.tsrc],
    fun i _ _ _ => by rw [State.tsrc, hr, State.tsrc], fun m => by rw [State.pair, State.pair, hp]; exact .refl _⟩

theorem setF (h : TripKeeps p s t) (x : Fld) (n : Nat) (hx : p x.off) : TripKeeps p s (t.setF x n) :=
  h.same ((Within.refl p t).setF x n hx) rfl rfl rfl rfl

theorem count (h : TripKeeps p s t) (x : Fld) (n : Nat) (hx : p x.off) : TripKeeps p s (t.count x n) := h.setF x _ hx

theorem posted (h : TripKeeps p s t) (k : Posted t u) (hp : ∀ o, evReg o → p o) : TripKeeps p s u :=
  h.same (k.within hp) (by rw [k.sys]) k.atc k.trp k.pwm

/-- A change of the state of the device that starts no arming. -/
theorem sys (h : TripKeeps p s t) (y : SysSt) (hy : y.arm = t.sys.arm) : TripKeeps p s { t with sys := y } :=
  h.same ((Within.refl p t).same rfl rfl rfl rfl rfl rfl rfl) hy rfl rfl rfl

/-- A change of the trip network's own state, the sources and the GDF lands apart. -/
theorem trp (h : TripKeeps p s t) (r : TrpSt) (hg : r.gdf = t.trp.gdf) (hs : r.src = t.trp.src) :
    TripKeeps p s { t with trp := r } :=
  h.trans ⟨(Within.refl p t).same rfl rfl rfl rfl rfl rfl rfl, h.arm, fun _ => rfl, hg,
    fun i => by rw [State.tsrc, hs, State.tsrc], fun i _ _ _ => by rw [State.tsrc, hs, State.tsrc], fun _ => .refl _⟩

theorem setTsrc (h : TripKeeps p s t) (i : Nat) (c : TsrcSt) (hr : c.raw = (t.tsrc i).raw)
    (ha : ∀ g < 16, ¬ p (0x7308 + 16 * g) → c.acted.testBit g = (t.tsrc i).acted.testBit g) : TripKeeps p s (t.setTsrc i c) := by
  refine h.trans ⟨(Within.refl p t).same rfl rfl rfl rfl rfl rfl rfl, h.arm, fun _ => rfl, rfl, fun j => ?_, fun j g hg hn => ?_,
    fun _ => .refl _⟩
  · by_cases hj : j = i
    · rw [hj, State.tsrc_setTsrc_self, hr]
    · rw [State.tsrc_setTsrc_ne c hj]
  · by_cases hj : j = i
    · rw [hj, State.tsrc_setTsrc_self, ha g hg hn]
    · rw [State.tsrc_setTsrc_ne c hj]

theorem setPair (h : TripKeeps p s t) (m : Nat) (c : PairSt) (hc : (t.pair m).StaysLow c) : TripKeeps p s (t.setPair m c) := by
  refine h.trans ⟨(Within.refl p t).setPair m c, h.arm, fun _ => rfl, rfl, fun _ => rfl, fun _ _ _ _ => rfl, fun i => ?_⟩
  by_cases hi : i = m
  · subst hi
    rwa [State.pair_setPair_self]
  · rw [State.pair_setPair_ne c hi]
    exact .refl _

/-- A change of a timer channel that leaves its open window alone. -/
theorem setAtc (h : TripKeeps p s t) (n : Nat) (a : AtcSt) (ha : a.mask = (t.atcOf n).mask) : TripKeeps p s (t.setAtc n a) := by
  refine h.trans ⟨(Within.refl p t).same rfl rfl rfl rfl rfl rfl rfl, h.arm, fun i => ?_, rfl, fun _ => rfl, fun _ _ _ _ => rfl,
    fun _ => .refl _⟩
  by_cases hi : i = n
  · subst hi
    rw [State.atcOf_setAtc_self, ha]
  · rw [State.atcOf_setAtc_ne a hi]

theorem ite {c : Prop} [Decidable c] (ht : TripKeeps p s t) (hu : TripKeeps p s u) : TripKeeps p s (if c then t else u) := by
  split <;> assumption

theorem each {l : List Nat} {g : Nat → State → State} (h : TripKeeps p s t)
    (hg : ∀ i ∈ l, ∀ v, TripKeeps p s v → TripKeeps p s (g i v)) : TripKeeps p s (t.each l g) := State.each_ind h hg

theorem f (h : TripKeeps p s t) (x : Fld) (hx : ¬ p x.off) : t.f x = s.f x := congrArg x.get (h.within.reg _ hx)

theorem on (h : TripKeeps p s t) (x : Fld) (hx : ¬ p x.off) : t.on x = s.on x := by rw [State.on, h.f x hx, State.on]

theorem bitAt (h : TripKeeps p s t) (x : Fld) (hx : ¬ p x.off) (i : Nat) : t.bitAt x i = s.bitAt x i := by
  rw [State.bitAt, h.f x hx, State.bitAt]

end TripKeeps

/-! ### What a trip may write -/

/-- The registers that a trip may write beside those of its groups: `SYS_STATE`, `SYS_TCAUSE`, `ATC_MISS`, `TRP_BLK`, `TRP_BLKSC`,
`GRD_STAT`, and what the posting of an event changes. -/
def tripReg (o : Nat) : Prop :=
  o = 0x100 ∨ o = 0x10C ∨ o = 0x5080 ∨ o = 0x7400 ∨ o = 0x7404 ∨ o = 0xB0E0 ∨ evReg o

section
variable (hp : ∀ o, tripReg o → p o)
include hp

theorem TripKeeps.event (h : TripKeeps p s t) (k : Posted t u) : TripKeeps p s u :=
  h.posted k fun o ho => hp o (.inr (.inr (.inr (.inr (.inr (.inr ho))))))

/-! ### The lands of a pair (R199, R208) -/

theorem State.atcSchedule_tripKeeps (n : Nat) (h : TripKeeps p s t) : TripKeeps p s (t.atcSchedule n) := by
  have hmiss (b : Bool) : TripKeeps p s (t.setBit R.ATC_MISS_ATC n b) := h.setF _ _ (hp _ (by simp [tripReg, R.ATC_MISS_ATC]))
  unfold State.atcSchedule
  dsimp only
  refine .ite (h.setAtc _ _ rfl) ?_
  split
  · exact .ite (h.setAtc _ _ rfl) ((hmiss _).setAtc _ _ rfl)
  · exact h.setAtc _ _ rfl

theorem State.atcEvent_tripKeeps (src edge : Nat) (h : TripKeeps p s t) : TripKeeps p s (t.atcEvent src edge) :=
  h.each fun n _ _ hv => .ite (State.atcSchedule_tripKeeps hp n hv) hv

theorem State.landOff_tripKeeps (m : Nat) (upper : Bool) (h : TripKeeps p s t) : TripKeeps p s (t.landOff m upper) := by
  unfold State.landOff
  dsimp only
  exact .ite (.ite (State.atcEvent_tripKeeps hp _ _ (h.setPair m _ ⟨fun _ => rfl, id⟩)) h)
    (.ite (State.atcEvent_tripKeeps hp _ _ (h.setPair m _ ⟨id, fun _ => rfl⟩)) h)

theorem State.pairLow_tripKeeps (m : Nat) (h : TripKeeps p s t) : TripKeeps p s (t.pairLow m) :=
  (State.landOff_tripKeeps hp m false (State.landOff_tripKeeps hp m true h)).setPair m _ ⟨id, id⟩

theorem State.tripOff_tripKeeps (m : Nat) (h : TripKeeps p s t) : TripKeeps p s (t.tripOff m) := by
  have hset : TripKeeps p s (t.setPair m { t.pair m with wait := none, blocked := true }) := h.setPair m _ ⟨id, id⟩
  unfold State.tripOff
  dsimp only
  refine .ite (State.pairLow_tripKeeps hp m hset) (.ite ?_ hset)
  split
  · exact hset
  · exact hset.setPair m _ ⟨id, id⟩

theorem State.tripPair_tripKeeps (i m : Nat) (h : TripKeeps p s t) : TripKeeps p s (t.tripPair i m) := by
  unfold State.tripPair
  extract_lets +onlyGivenNames c own _ v
  have hv : TripKeeps p s v :=
    .ite ((State.landOff_tripKeeps hp m true h).setPair m _ ⟨id, id⟩) (State.tripOff_tripKeeps hp m h)
  exact hv.setPair m _ ⟨id, id⟩

/-- A pair turned off by a trip, its pulse cut short or not. -/
theorem State.tripCut_tripKeeps (i m : Nat) (cut : Bool) (h : TripKeeps p s t) :
    TripKeeps p s ((t.tripPair i m).setPair m { (t.tripPair i m).pair m with cut := cut }) :=
  (State.tripPair_tripKeeps hp i m h).setPair m _ ⟨id, id⟩

theorem State.tripAll_tripKeeps (h : TripKeeps p s t) : TripKeeps p s t.tripAll :=
  h.each fun m _ _ hv => State.tripCut_tripKeeps hp 88 m _ hv

theorem State.allOff_tripKeeps (h : TripKeeps p s t) : TripKeeps p s t.allOff :=
  h.each fun m _ _ hv => State.tripOff_tripKeeps hp m hv

/-! ### The device state and block trips (R605 to R611, R227) -/

theorem State.aiShow_tripKeeps (h : TripKeeps p s t) : TripKeeps p s t.aiShow := by
  have hg : p 0xB0E0 := hp _ (by simp [tripReg])
  unfold State.aiShow
  exact .ite ((h.setF R.GRD_STAT_HITS 0 hg).setF R.GRD_STAT_AISUSP 1 hg) (h.setF R.GRD_STAT_AISUSP 0 hg)

theorem State.enter_tripKeeps (new : Nat) (h : TripKeeps p s t) : TripKeeps p s (t.enter new) := by
  have hst : p 0x100 := hp _ (by simp [tripReg])
  unfold State.enter
  extract_lets +onlyGivenNames old running a b c _ d _ e
  have ha : TripKeeps p s a := .ite (State.allOff_tripKeeps hp h) h
  have hb : TripKeeps p s b := .ite (ha.setF R.TRP_BLK_SC 0 (hp _ (by simp [tripReg, R.TRP_BLK_SC]))) ha
  have hc : TripKeeps p s c := .ite (hb.each fun m _ _ hv => State.pairLow_tripKeeps hp m hv) hb
  have hd : TripKeeps p s d := hc.sys _ rfl
  have he : TripKeeps p s e := .ite (hd.same ((Within.refl p d).same rfl rfl rfl rfl rfl rfl rfl) rfl rfl rfl rfl) hd
  exact .ite h (State.aiShow_tripKeeps hp
    (((he.setF R.SYS_STATE_PREV _ hst).setF R.SYS_STATE_ST _ hst).count R.SYS_STATE_CHG 1 hst))

omit hp in
/-- No arming is under way that a block trip would end. -/
theorem State.armEnd_of_none (h : s.sys.arm = none) (st : Status) : s.armEnd st = s := by
  rw [State.armEnd, h]

theorem State.blockTrip_tripKeeps (code det : Nat) (h : TripKeeps p s t) : TripKeeps p s (t.blockTrip code det) := by
  have htc : p 0x10C := hp _ (by simp [tripReg])
  unfold State.blockTrip
  extract_lets +onlyGivenNames none_ together causes codes a _ b first rest c d e _
  have ha : TripKeeps p s a := h.count R.SYS_TCAUSE_COUNT 1 htc
  have hb : TripKeeps p s b := ha.sys _ rfl
  have hc : TripKeeps p s c := (hb.setF R.SYS_TCAUSE_FIRST _ htc).setF R.SYS_TCAUSE_SECOND _ htc
  have hd : TripKeeps p s d := .ite ((hb.setF R.SYS_TCAUSE_FIRST _ htc).setF R.SYS_TCAUSE_DET _ htc)
    (.ite (hc.setF R.SYS_TCAUSE_DET _ htc) (.ite (hb.setF R.SYS_TCAUSE_SECOND _ htc) hb))
  have he : TripKeeps p s e := hd.event hp (State.capTriggerAll_posted ..)
  clear_value e
  have hall := State.tripAll_tripKeeps hp he
  rw [State.armEnd_of_none hall.arm]
  exact .ite h (.ite (he.sys _ rfl) (.ite he (State.enter_tripKeeps hp stTripped hall)))

theorem State.report3_tripKeeps (e : Option EvRec) (h : TripKeeps p s t) : TripKeeps p s (t.report3 e) := by
  have h3 : p 0x300C := hp _ (by simp [tripReg, evReg])
  unfold State.report3 State.overrun
  have hlost := h.count (R.XDC_STAT_LOST 3) 1 h3
  refine .ite (.ite ?_ (.ite hlost ((hlost.setF (R.XDC_STAT_OVR 3) 1 h3).event hp (State.post_posted ..)))) ?_
  · exact h.same ((Within.refl p t).same rfl rfl rfl rfl rfl rfl rfl) rfl rfl rfl rfl
  · split
    · exact h.event hp (State.emit_posted _)
    · exact h

theorem State.blockShort_tripKeeps (a b : Nat) (h : TripKeeps p s t) : TripKeeps p s (t.blockShort a b) := by
  have hblk : p 0x7400 := hp _ (by simp [tripReg])
  have hlegs : p 0x7404 := hp _ (by simp [tripReg])
  have hall := State.tripAll_tripKeeps hp
    (((h.setF R.TRP_BLK_SC 1 hblk).setF R.TRP_BLKSC_LEGA a hlegs).setF R.TRP_BLKSC_LEGB b hlegs)
  exact .ite h (State.blockTrip_tripKeeps hp _ _ (State.report3_tripKeeps hp _ (hall.trp _ rfl rfl)))

theorem State.shortEvent_tripKeeps (leg : Nat) (h : TripKeeps p s t) : TripKeeps p s (t.shortEvent leg) := by
  have hset := h.trp { t.trp with short := some (leg, t.tbp) } rfl rfl
  unfold State.shortEvent
  extract_lets hit _ v
  clear_value hit
  cases hit with
  | none => exact hset
  | some _ => exact State.blockShort_tripKeeps hp _ _ hset

/-! ### Cuts and latches of a group (R217, R220 to R225) -/

omit hp in
theorem State.countCut_tripKeeps {g : Nat} (hcnt : p (0x730C + 16 * g)) (m : Nat) (h : TripKeeps p s t) :
    TripKeeps p s (t.countCut g m) := by
  have hseen (l : Tab Nat) : TripKeeps p s { t with trp := { t.trp with counted := l } } := h.trp _ rfl rfl
  exact .ite ((hseen _).count (R.TRP_GRP_CNT_CBC g) 1 hcnt) h

omit hp in
theorem State.setCut_tripKeeps {g : Nat} (hstat : p (0x7308 + 16 * g)) (m : Nat) (on : Bool) (h : TripKeeps p s t) :
    TripKeeps p s (t.setCut g m on) := by
  have hheld (l : Tab Nat) : TripKeeps p s { t with trp := { t.trp with cutBy := l } } := h.trp _ rfl rfl
  exact (hheld _).setF (R.TRP_GRP_STAT_CUT g) _ hstat

/-- Group g shows that source i has latched it, and counts the latch. -/
def State.latchStat (s : State) (g i : Nat) (scb : Bool) : State :=
  (((s.setF (R.TRP_GRP_STAT_LATCH g) 1).setF (R.TRP_GRP_STAT_FIRST g) i).setF (R.TRP_GRP_STAT_SCB g) (bit scb)).count
    (R.TRP_GRP_CNT_LAT g) 1

/-- With it the instant of the latch. -/
def State.latchShown (s : State) (g i : Nat) (scb : Bool) : State :=
  let v := s.latchStat g i scb
  { v with trp := { v.trp with latAt := Tab.set (fun _ => 0) v.trp.latAt g v.tbp } }

/-- The pairs of group g turned off by source i. -/
def State.groupOff (s : State) (g i : Nat) : State :=
  s.each (s.groupPairs g) fun m s => (s.tripPair i m).setPair m { (s.tripPair i m).pair m with cut := true }

/-- A latch of group g by source i is reported, and trips the block where the group asks for it. -/
def State.latchReport (s : State) (g i : Nat) : State :=
  let v := (s.post3 0x0701 g (bit (s.on (R.TRP_GRP_CFG_BLK g))) i (s.f (R.TRP_GRP_STAT_MULTI g))).capTriggerAll 3 fun _ => true
  if s.on (R.TRP_GRP_CFG_BLK g) then v.blockTrip 0x01 g else v

omit hp in
theorem State.latchGroup_eq (g i : Nat) (scb : Bool) : s.latchGroup g i scb =
    if s.on (R.TRP_GRP_STAT_LATCH g) then
      if Tab.get (fun _ => 0) s.trp.latAt g = s.tbp && s.f (R.TRP_GRP_STAT_FIRST g) ≠ i then
        (s.setF (R.TRP_GRP_STAT_MULTI g) 1).setF (R.TRP_GRP_STAT_FIRST g) (min i (s.f (R.TRP_GRP_STAT_FIRST g)))
      else s
    else ((s.latchShown g i scb).groupOff g i).latchReport g i := rfl

theorem State.groupOff_tripKeeps (g i : Nat) (h : TripKeeps p s t) : TripKeeps p s (t.groupOff g i) :=
  h.each fun m _ _ hv => State.tripCut_tripKeeps hp i m true hv

theorem State.latchReport_tripKeeps (g i : Nat) (h : TripKeeps p s t) : TripKeeps p s (t.latchReport g i) := by
  have hpost := (State.report3_tripKeeps hp
    (some (t.evNow 0x0701 g (bit (t.on (R.TRP_GRP_CFG_BLK g))) i (t.f (R.TRP_GRP_STAT_MULTI g)))) h).event hp
    (State.capTriggerAll_posted 3 fun _ => true)
  exact .ite (State.blockTrip_tripKeeps hp 0x01 g hpost) hpost

section
variable {g : Nat} (hstat : p (0x7308 + 16 * g)) (hcnt : p (0x730C + 16 * g))
include hstat hcnt

theorem State.cutGroup_tripKeeps (i : Nat) (h : TripKeeps p s t) : TripKeeps p s (t.cutGroup g i) :=
  State.report3_tripKeeps hp _ (h.each fun m _ _ hv => (State.setCut_tripKeeps hstat m true
    (State.countCut_tripKeeps hcnt m (State.tripPair_tripKeeps hp i m hv))).setPair m _ ⟨id, id⟩)

theorem State.latchGroup_tripKeeps (i : Nat) (scb : Bool) (h : TripKeeps p s t) : TripKeeps p s (t.latchGroup g i scb) := by
  have hset : TripKeeps p s (t.latchStat g i scb) :=
    (((h.setF (R.TRP_GRP_STAT_LATCH g) 1 hstat).setF (R.TRP_GRP_STAT_FIRST g) i hstat).setF (R.TRP_GRP_STAT_SCB g) (bit scb)
      hstat).count (R.TRP_GRP_CNT_LAT g) 1 hcnt
  have hshown : TripKeeps p s (t.latchShown g i scb) := hset.trp _ rfl rfl
  have hmulti := (h.setF (R.TRP_GRP_STAT_MULTI g) 1 hstat).setF (R.TRP_GRP_STAT_FIRST g) (min i (t.f (R.TRP_GRP_STAT_FIRST g))) hstat
  rw [State.latchGroup_eq]
  exact .ite (.ite hmulti h) (State.latchReport_tripKeeps hp g i (State.groupOff_tripKeeps hp g i hshown))

theorem State.hitGroup_tripKeeps (i : Nat) (scb : Bool) (h : TripKeeps p s t) : TripKeeps p s (t.hitGroup i g scb) :=
  .ite (State.latchGroup_tripKeeps hp hstat hcnt i true h)
    (.ite (State.cutGroup_tripKeeps hp hstat hcnt i h) (State.latchGroup_tripKeeps hp hstat hcnt i false h))

/-! ### Sources (R210 to R216) -/

theorem State.srcActOn_tripKeeps (i : Nat) (h : TripKeeps p s t) : TripKeeps p s (t.srcActOn i g) := by
  have hacted : TripKeeps p s (t.setTsrc i { t.tsrc i with acted := (t.tsrc i).acted ||| 2 ^ g }) :=
    h.setTsrc i _ rfl fun j _ hj => by
      have hne : g ≠ j := fun e => hj (e ▸ hstat)
      simp [Nat.testBit_or, hne]
  have hhit := State.hitGroup_tripKeeps hp hstat hcnt i (t.blanked g && t.on (R.TRP_SRC_CFG_HARD i)) hacted
  exact .ite h (.ite (h.setTsrc i _ rfl fun _ _ _ => rfl) (.ite h (.ite (State.shortEvent_tripKeeps hp _ hhit) hhit)))

theorem State.blankEnd_tripKeeps (h : TripKeeps p s t) : TripKeeps p s (t.blankEnd g) :=
  .ite h (h.each fun i _ _ hv => .ite (.ite (State.hitGroup_tripKeeps hp hstat hcnt i false hv)
    (State.srcActOn_tripKeeps hp hstat hcnt i hv)) hv)

end

/-- Source i shows its unfiltered level, with the instant it took it. -/
def State.rawShown (s : State) (i : Nat) (on : Bool) : State :=
  if (s.tsrc i).raw = on then s else s.setTsrc i { s.tsrc i with raw := on, since := s.tbp }

omit hp in
theorem State.reg_rawShown (i : Nat) (on : Bool) (o : Nat) : (s.rawShown i on).reg o = s.reg o := by
  unfold State.rawShown
  split <;> rfl

omit hp in
theorem State.srcRaw_eq (i : Nat) (on : Bool) : s.srcRaw i on =
    if s.f (R.TRP_SRC_CFG_FLT i) = 0 then (if on then (s.rawShown i on).srcAssert i else (s.rawShown i on).srcRelease i)
    else s.rawShown i on := by
  rw [State.f, ← State.reg_rawShown i on]
  rfl

section
variable (hstat : ∀ g < 16, p (0x7308 + 16 * g))
include hstat

omit hp in
theorem State.showAct_tripKeeps (h : TripKeeps p s t) : TripKeeps p s t.showAct :=
  h.each fun g hg _ hv => hv.setF (R.TRP_GRP_STAT_ACT g) _ (hstat g (List.mem_range.1 hg))

variable (hcnt : ∀ g < 16, p (0x730C + 16 * g))
include hcnt

theorem State.srcAct_tripKeeps (i : Nat) (h : TripKeeps p s t) : TripKeeps p s (t.srcAct i) :=
  .ite (State.showAct_tripKeeps hstat (h.each fun g hg _ hv =>
    .ite (State.srcActOn_tripKeeps hp (hstat g (List.mem_range.1 hg)) (hcnt g (List.mem_range.1 hg)) i hv) hv))
    (State.showAct_tripKeeps hstat h)

variable {i : Nat} (hact : p (0x7000 + 8 * i))
include hact

theorem State.srcAssert_tripKeeps (h : TripKeeps p s t) : TripKeeps p s (t.srcAssert i) :=
  .ite h (State.srcAct_tripKeeps hp hstat hcnt i ((h.setF (R.TRP_SRC_CFG_ACT i) 1 hact).setTsrc i _ rfl
    fun g hg hn => (hn (hstat g hg)).elim))

omit hp in
theorem State.srcRelease_tripKeeps (h : TripKeeps p s t) : TripKeeps p s (t.srcRelease i) := by
  unfold State.srcRelease
  extract_lets c v
  have hv : TripKeeps p t v := (TripKeeps.refl p h.arm).each fun g hg _ hu =>
    .ite (hu.count (R.TRP_GRP_CNT_BLNK g) 1 (hcnt g (List.mem_range.1 hg))) hu
  have hset := (hv.setF (R.TRP_SRC_CFG_ACT i) 0 hact).setTsrc i { c with acted := 0, masked := 0 } (hv.raw i).symm
    fun g hg hn => (hn (hstat g hg)).elim
  exact .ite h (h.trans (State.showAct_tripKeeps hstat hset))

/-- Beside its own unfiltered level. -/
theorem State.srcRaw_tripKeeps (on : Bool) (h : TripKeeps p s (t.rawShown i on)) : TripKeeps p s (t.srcRaw i on) := by
  rw [State.srcRaw_eq]
  exact .ite (.ite (State.srcAssert_tripKeeps hp hstat hcnt hact h) (State.srcRelease_tripKeeps hstat hcnt hact h)) h

end

end

end Sys2Proof.Machine
end

section
/-! PROOFS. Trip sources, and the latch of a group (O16). -/

namespace Sys2Proof.Machine

variable {s t u v : State} {p : Nat → Prop} {g i m : Nat}

/-! ### What a trip of a group goes by -/

/-- The registers that say which pairs group g acts on and when: the pages of the pairs and of the gate drives, the mode of the
clock, and the configuration of the group. -/
def grpCfgReg (g o : Nat) : Prop := inPage 4 o ∨ inPage 6 o ∨ o = 0x1004 ∨ o = 0x7300 + 16 * g ∨ o = 0x7304 + 16 * g

/-- The registers that another group's trip may write: neither those, nor the sources' own, nor the status of group g. -/
def apartFrom (g o : Nat) : Prop := ¬ (grpCfgReg g o ∨ (0x7000 ≤ o ∧ o < 0x7300) ∨ o = 0x7308 + 16 * g)

theorem apartFrom_of_tripReg (hg : g < 16) {o : Nat} (h : tripReg o) : apartFrom g o := by
  unfold tripReg evReg at h
  unfold apartFrom grpCfgReg inPage
  omega

theorem not_apartFrom_of_cfg {o : Nat} (h : grpCfgReg g o) : ¬ apartFrom g o := fun k => k (.inl h)
theorem not_apartFrom_of_src {o : Nat} (h : 0x7000 ≤ o ∧ o < 0x7300) : ¬ apartFrom g o := fun k => k (.inr (.inl h))
theorem not_apartFrom_stat : ¬ apartFrom g (0x7308 + 16 * g) := fun k => k (.inr (.inr rfl))

section
variable (hw : Within p s t) (hr : ∀ o, grpCfgReg g o → ¬ p o)
include hw hr

/-- A field of those registers reads as before. -/
theorem Within.cfgFld (x : Fld) (hx : grpCfgReg g x.off) : t.f x = s.f x := congrArg x.get (hw.reg _ (hr _ hx))

theorem Within.groupPairs : t.groupPairs g = s.groupPairs g := by
  unfold State.groupPairs State.pairsWhere
  refine List.filter_congr fun m hm => ?_
  have hm := List.mem_range.1 hm
  have hpair (x : Fld) (hx : x.off = 0x4100 + 16 * m) : t.f x = s.f x := hw.cfgFld hr x (.inl (by unfold inPage; omega))
  simp only [State.pairOn, State.pairLeg, hpair (R.PWM_PAIR_CFG_MODE m) rfl, hpair (R.PWM_PAIR_CFG_LEG m) rfl,
    hw.cfgFld hr (R.TRP_GRP_CFG_LEGS g) (.inr (.inr (.inr (.inl rfl))))]

theorem Within.stage (m : Nat) : t.stage m = s.stage m := by
  simp only [State.stage, hw.cfgFld hr R.GDI_STAGE0_STG (.inr (.inl rfl)), hw.cfgFld hr R.GDI_STAGE1_STG (.inr (.inl rfl))]

theorem Within.held (m : Nat) : t.bitAt R.GDI_BS_HOLD m = s.bitAt R.GDI_BS_HOLD m := by
  simp only [State.bitAt, hw.cfgFld hr R.GDI_BS_HOLD (.inr (.inl rfl))]

theorem Within.blanked (hm : ∀ n, (t.atcOf n).mask = (s.atcOf n).mask) : t.blanked g = s.blanked g := by
  have hmax := hw.cfgFld hr (R.TRP_GRP_BLK_MAX g) (.inr (.inr (.inr (.inr rfl))))
  have hcoarse : t.coarse = s.coarse := by
    simp only [State.coarse, State.on, hw.cfgFld hr R.CLK_STAT_COARSE (.inr (.inr (.inl rfl)))]
  simp only [State.blanked]
  congr 1
  funext n
  have hmask := hm n
  simp only [AtcSt.mask, Prod.mk.injEq] at hmask
  obtain ⟨hopened, hfn, htgt, hspent⟩ := hmask
  rw [hopened, hfn, htgt, hspent, hw.tbp, hmax, State.durDown, hcoarse, State.durDown]

end

/-! ### A pair turned off (R199, R208) -/

theorem State.tripOff_bothLow (h : s.stage m = 0) : (s.tripOff m).bothLow m := by
  have heq : s.tripOff m = (s.setPair m { s.pair m with wait := none, blocked := true }).pairLow m := if_pos h
  rw [heq]
  exact State.pairLow_bothLow m

/-- The lands of pair m as source i leaves them: low, but for the lower one in a hold pulse under its own GDF source. -/
def State.OffBy (s : State) (i m : Nat) (t : State) : Prop :=
  (t.pair m).up = false ∧ (i ≠ 40 + 2 * m ∨ s.bitAt R.GDI_BS_HOLD m = false → (t.pair m).lo = false)

theorem State.OffBy.of_keeps (h : s.OffBy i m t) (k : TripKeeps p t u) : s.OffBy i m u :=
  ⟨(k.low m).1 h.1, fun hi => (k.low m).2 (h.2 hi)⟩

theorem State.tripPair_offBy (h : s.stage m = 0) : s.OffBy i m (s.tripPair i m) := by
  unfold State.tripPair
  extract_lets +onlyGivenNames c own _ v
  have hv : s.OffBy i m v := by
    unfold v
    split
    next hown =>
      simp only [own, Bool.and_eq_true, decide_eq_true_eq] at hown
      obtain ⟨⟨hi, hhold⟩, -⟩ := hown
      rw [State.OffBy, State.pair_setPair_self]
      exact ⟨(State.landOff_turnedOff m true).up.trans (by simp), fun k => by simp [hi, hhold] at k⟩
    · exact ⟨(State.tripOff_bothLow h).1, fun _ => (State.tripOff_bothLow h).2⟩
  rw [State.OffBy, State.pair_setPair_self]
  exact hv

/-! ### A latch (R221, R222) -/

/-- Source i has latched group g, found in the state s, and has turned off its pairs of stage 0. -/
structure GroupLatched (s : State) (g i : Nat) (t : State) : Prop where
  latch : t.f (R.TRP_GRP_STAT_LATCH g) = 1
  first : t.f (R.TRP_GRP_STAT_FIRST g) = i
  off : ∀ m ∈ s.groupPairs g, s.stage m = 0 → s.OffBy i m t

/-- It stays so while other groups trip. -/
theorem GroupLatched.of_keeps (b : GroupLatched s g i t) (h : TripKeeps (apartFrom g) t u) : GroupLatched s g i u :=
  ⟨(h.f (R.TRP_GRP_STAT_LATCH g) not_apartFrom_stat).trans b.latch, (h.f (R.TRP_GRP_STAT_FIRST g) not_apartFrom_stat).trans b.first,
    fun m hm hs => (b.off m hm hs).of_keeps h⟩

/-- What group g goes by is the same in both states. -/
theorem GroupLatched.from_within (b : GroupLatched u g i t) (hw : Within p s u) (hr : ∀ o, grpCfgReg g o → ¬ p o) :
    GroupLatched s g i t := by
  refine ⟨b.latch, b.first, fun m hm hs => ?_⟩
  have hoff := b.off m (hw.groupPairs hr ▸ hm) ((hw.stage hr m).trans hs)
  rwa [State.OffBy, hw.held hr] at hoff

/-- The display of `ACT` leaves the latch alone. -/
theorem GroupLatched.showAct (b : GroupLatched s g i t) : GroupLatched s g i t.showAct := by
  refine State.each_ind (P := GroupLatched s g i) b fun j _ u hu => ?_
  have hact (x : Fld) (hx : x.lo + x.w ≤ 1 ∨ 2 ≤ x.lo) : (u.setF (R.TRP_GRP_STAT_ACT j) (bit (u.groupAsserted j))).f x = u.f x :=
    State.f_setF_ne _ x (by decide : 1 + 1 ≤ 32) (.inr hx) _
  exact ⟨(hact _ (.inl (by decide : 0 + 1 ≤ 1))).trans hu.latch, (hact _ (.inr (by decide : 2 ≤ 8))).trans hu.first, hu.off⟩

theorem Within.trp (h : Within p s t) (r : TrpSt) : Within p s { t with trp := r } := h.same rfl rfl rfl rfl rfl rfl rfl

theorem State.latchShown_within (g i : Nat) (scb : Bool) :
    Within (fun o => o = 0x7308 + 16 * g ∨ o = 0x730C + 16 * g) s (s.latchShown g i scb) := by
  have hset : Within (fun o => o = 0x7308 + 16 * g ∨ o = 0x730C + 16 * g) s (s.latchStat g i scb) :=
    ((((Within.refl _ s).setF (R.TRP_GRP_STAT_LATCH g) 1 (.inl rfl)).setF (R.TRP_GRP_STAT_FIRST g) i (.inl rfl)).setF
      (R.TRP_GRP_STAT_SCB g) (bit scb) (.inl rfl)).count (R.TRP_GRP_CNT_LAT g) 1 (.inr rfl)
  exact hset.trp _

/-- The fields of the registers do not depend on the trip network's own state. -/
theorem State.f_withTrp (r : TrpSt) (x : Fld) : ({ s with trp := r } : State).f x = s.f x := rfl

theorem State.latchShown_shows (hi : i < 128) (scb : Bool) :
    (s.latchShown g i scb).f (R.TRP_GRP_STAT_LATCH g) = 1 ∧ (s.latchShown g i scb).f (R.TRP_GRP_STAT_FIRST g) = i := by
  have hcnt (w : State) (x : Fld) (hx : x.off = 0x7308 + 16 * g) : (w.count (R.TRP_GRP_CNT_LAT g) 1).f x = w.f x :=
    State.f_setF_ne (R.TRP_GRP_CNT_LAT g) x (by decide : 12 + 8 ≤ 32) (.inl (by simp only [R.TRP_GRP_CNT_LAT]; omega)) _
  have hscb (w : State) (x : Fld) (hx : x.lo + x.w ≤ 3 ∨ 4 ≤ x.lo) : (w.setF (R.TRP_GRP_STAT_SCB g) (bit scb)).f x = w.f x :=
    State.f_setF_ne (R.TRP_GRP_STAT_SCB g) x (by decide : 3 + 1 ≤ 32) (.inr hx) _
  constructor
  · refine (State.f_withTrp (s := s.latchStat g i scb) _ _).trans ((hcnt _ _ rfl).trans ?_)
    refine (hscb _ _ (.inl (by decide : 0 + 1 ≤ 3))).trans ?_
    rw [State.f_setF_ne _ _ (by decide : 8 + 7 ≤ 32) (.inr (.inl (by decide : 0 + 1 ≤ 8)))]
    exact State.f_setF_self _ (by decide : 0 + 1 ≤ 32) 1
  · refine (State.f_withTrp (s := s.latchStat g i scb) _ _).trans ((hcnt _ _ rfl).trans ?_)
    refine (hscb _ _ (.inr (by decide : 4 ≤ 8))).trans ?_
    exact (State.f_setF_self _ (by decide : 8 + 7 ≤ 32) i).trans (Nat.mod_eq_of_lt hi)

/-- The turn-off of a group's pairs reaches each of them. -/
theorem State.groupOff_offBy (hg : g < 16) (harm : s.sys.arm = none) (hm : m ∈ s.groupPairs g) (hs : s.stage m = 0) :
    s.OffBy i m (s.groupOff g i) := by
  have hp (o : Nat) (ho : tripReg o) : apartFrom g o := apartFrom_of_tripReg hg ho
  have hcut (j : Nat) (w : State) (hw : TripKeeps (apartFrom g) s w) := State.tripCut_tripKeeps hp i j true hw
  refine State.each_at (P := TripKeeps (apartFrom g) s) (Q := fun w => s.OffBy i m w ∧ w.sys.arm = none) (List.nodup_range.filter _) hm
    (.refl _ harm) (fun j _ _ w hw => hcut j w hw) (fun w hw => ⟨?_, (hcut m w hw).arm⟩) (fun j _ _ w hw => ?_) |>.1
  · have hoff : w.OffBy i m (w.tripPair i m) := State.tripPair_offBy ((hw.within.stage (fun _ => not_apartFrom_of_cfg) m).trans hs)
    rw [State.OffBy, hw.within.held (fun _ => not_apartFrom_of_cfg)] at hoff
    rw [State.OffBy, State.pair_setPair_self]
    exact hoff
  · have hk := State.tripCut_tripKeeps hp i j true (.refl (apartFrom g) hw.2)
    exact ⟨hw.1.of_keeps hk, hk.arm⟩

theorem State.latchGroup_latched (hg : g < 16) (hi : i < 128) (harm : s.sys.arm = none) (hfree : s.f (R.TRP_GRP_STAT_LATCH g) = 0)
    (scb : Bool) : GroupLatched s g i (s.latchGroup g i scb) := by
  have hp (o : Nat) (ho : tripReg o) : apartFrom g o := apartFrom_of_tripReg hg ho
  have hoff := State.groupOff_tripKeeps hp g i (.refl (apartFrom g) (s := s.latchShown g i scb) harm)
  obtain ⟨hlatch, hfirst⟩ := s.latchShown_shows (g := g) hi scb
  have hlatched : GroupLatched (s.latchShown g i scb) g i ((s.latchShown g i scb).groupOff g i) :=
    ⟨(hoff.f (R.TRP_GRP_STAT_LATCH g) not_apartFrom_stat).trans hlatch,
      (hoff.f (R.TRP_GRP_STAT_FIRST g) not_apartFrom_stat).trans hfirst, fun m hm hs => State.groupOff_offBy hg harm hm hs⟩
  rw [State.latchGroup_eq, if_neg (by simp [State.on, hfree])]
  refine (hlatched.of_keeps (State.latchReport_tripKeeps hp g i (.refl _ hoff.arm))).from_within (s.latchShown_within g i scb) ?_
  unfold grpCfgReg inPage
  omega

/-! ### A source acts on a group (R211, R213) -/

/-- Group g is enabled, latches, is not latched and not blanked, and source i has not yet acted on it. -/
structure ReadyToLatch (s : State) (g i : Nat) : Prop where
  enabled : s.f (R.TRP_GRP_CFG_EN g) = 1
  mode : s.f (R.TRP_GRP_CFG_MODE g) = 1
  blank : s.blanked g = false
  free : s.f (R.TRP_GRP_STAT_LATCH g) = 0
  fresh : (s.tsrc i).acted.testBit g = false

/-- It stays so while other groups trip. -/
theorem ReadyToLatch.of_keeps (hs : ReadyToLatch s g i) (hg : g < 16) (h : TripKeeps (apartFrom g) s t) : ReadyToLatch t g i := by
  have hr (o : Nat) (ho : grpCfgReg g o) : ¬ apartFrom g o := not_apartFrom_of_cfg ho
  exact ⟨(h.within.cfgFld hr _ (.inr (.inr (.inr (.inl rfl))))).trans hs.enabled,
    (h.within.cfgFld hr _ (.inr (.inr (.inr (.inl rfl))))).trans hs.mode, (h.within.blanked hr h.mask).trans hs.blank,
    (h.f (R.TRP_GRP_STAT_LATCH g) not_apartFrom_stat).trans hs.free, (h.acted i g hg not_apartFrom_stat).trans hs.fresh⟩

theorem State.srcActOn_latched (hg : g < 16) (hi : i < 128) (harm : s.sys.arm = none) (hs : ReadyToLatch s g i) :
    GroupLatched s g i (s.srcActOn i g) ∧ (s.srcActOn i g).sys.arm = none := by
  have hp (o : Nat) (ho : tripReg o) : apartFrom g o := apartFrom_of_tripReg hg ho
  obtain ⟨w, hw⟩ : ∃ w, w = s.setTsrc i { s.tsrc i with acted := (s.tsrc i).acted ||| 2 ^ g } := ⟨_, rfl⟩
  have heq : s.srcActOn i g = if (w.latchGroup g i false).on (R.TRP_SRC_CFG_SC i) then
      (w.latchGroup g i false).shortEvent ((w.latchGroup g i false).shortLeg i) else w.latchGroup g i false := by
    have hmode : w.f (R.TRP_GRP_CFG_MODE g) = 1 := hw ▸ hs.mode
    have hhit : w.hitGroup i g false = w.latchGroup g i false := by simp [State.hitGroup, hmode]
    simp only [State.srcActOn, State.on, hs.enabled, hs.blank, hs.fresh, ← hw, ← hhit, Bool.false_and]
    rfl
  have hwithin : Within (fun _ => False) s w := hw ▸ (Within.refl _ s).same rfl rfl rfl rfl rfl rfl rfl
  have hlatched : GroupLatched s g i (w.latchGroup g i false) :=
    (State.latchGroup_latched hg hi (hw ▸ harm) (hw ▸ hs.free) false).from_within hwithin fun _ _ => id
  have harm' : (w.latchGroup g i false).sys.arm = none :=
    (State.latchGroup_tripKeeps (p := fun _ => True) (fun _ _ => trivial) trivial trivial i false (.refl _ (hw ▸ harm))).arm
  have hshort := State.shortEvent_tripKeeps hp ((w.latchGroup g i false).shortLeg i) (.refl (apartFrom g) harm')
  rw [heq]
  split
  · exact ⟨hlatched.of_keeps hshort, hshort.arm⟩
  · exact ⟨hlatched, harm'⟩

/-- An asserted source latches a group of its mask that is ready, whatever it does to the other ones. -/
theorem State.srcAct_latched (hg : g < 16) (hi : i < 88) (harm : s.sys.arm = none) (hon : s.srcOn i = true) (hof : s.srcOf i g = true)
    (hs : ReadyToLatch s g i) : GroupLatched s g i (s.srcAct i) := by
  have hp (o : Nat) (ho : tripReg o) : apartFrom g o := apartFrom_of_tripReg hg ho
  simp only [State.srcOf, Bool.and_eq_true] at hof
  obtain ⟨hen, hbit⟩ := hof
  have hother (j : Nat) (hj : j ∈ List.range 16) (hne : j ≠ g) {w x : State} (h : TripKeeps (apartFrom g) w x) :
      TripKeeps (apartFrom g) w (if (x.f (R.TRP_SRC_GRP_MASK i)).testBit j then x.srcActOn i j else x) := by
    have hj := List.mem_range.1 hj
    refine .ite (State.srcActOn_tripKeeps hp ?_ ?_ i h) h
    · unfold apartFrom grpCfgReg inPage
      omega
    · unfold apartFrom grpCfgReg inPage
      omega
  have heq : s.srcAct i = (s.each (List.range 16) fun j x =>
      if (x.f (R.TRP_SRC_GRP_MASK i)).testBit j then x.srcActOn i j else x).showAct := if_pos (by simp [hen, hon])
  rw [heq]
  refine GroupLatched.showAct (State.each_at (j := g) (P := TripKeeps (apartFrom g) s)
    (Q := fun x => GroupLatched s g i x ∧ x.sys.arm = none) List.nodup_range (List.mem_range.2 hg) (.refl _ harm)
    (fun j hj hne x hx => hother j hj hne hx) (fun x hx => ?_) fun j hj hne x hx => ?_).1
  · have hmask : (x.f (R.TRP_SRC_GRP_MASK i)).testBit g = true := by
      rw [hx.f _ (not_apartFrom_of_src (by simp only [R.TRP_SRC_GRP_MASK]; omega))]
      exact hbit
    obtain ⟨hlatched, harm'⟩ := State.srcActOn_latched hg (by omega) hx.arm (hs.of_keeps hg hx)
    rw [if_pos hmask]
    exact ⟨hlatched.from_within hx.within fun _ => not_apartFrom_of_cfg, harm'⟩
  · have hk := hother j hj hne (.refl _ hx.2)
    exact ⟨hx.1.of_keeps hk, hk.arm⟩

/-! ### Assertion and release of a source (R211, R213) -/

/-- Source i shows itself asserted, and has acted on no group yet. -/
def State.assertShown (s : State) (i : Nat) : State :=
  (s.setF (R.TRP_SRC_CFG_ACT i) 1).setTsrc i { s.tsrc i with acted := 0, masked := 0 }

theorem State.srcAssert_eq (h : s.srcOn i = false) : s.srcAssert i = (s.assertShown i).srcAct i := if_neg (by simp [h])

theorem State.srcOn_assertShown : (s.assertShown i).srcOn i = true := by
  have hact : (s.assertShown i).f (R.TRP_SRC_CFG_ACT i) = 1 := (State.f_withTrp (s := s.setF (R.TRP_SRC_CFG_ACT i) 1) _ _).trans
    (State.f_setF_self (R.TRP_SRC_CFG_ACT i) (by decide : 31 + 1 ≤ 32) 1)
  simp [State.srcOn, State.on, hact]

theorem State.assertShown_within : Within (· = 0x7000 + 8 * i) s (s.assertShown i) := by
  have hset : Within (· = 0x7000 + 8 * i) s (s.setF (R.TRP_SRC_CFG_ACT i) 1) := (Within.refl _ s).setF (R.TRP_SRC_CFG_ACT i) 1 rfl
  exact hset.trp _

theorem State.atcOf_assertShown (n : Nat) : (s.assertShown i).atcOf n = s.atcOf n := by
  simp [State.assertShown, State.setTsrc, State.atcOf]

theorem State.acted_assertShown : ((s.assertShown i).tsrc i).acted = 0 := congrArg TsrcSt.acted (State.tsrc_setTsrc_self ..)

theorem State.sys_assertShown : (s.assertShown i).sys = s.sys := by
  simp [State.assertShown, State.setTsrc]

/-- Of the register of a source only `ACT` differs. -/
theorem State.f_assertShown {x : Fld} (hx : x.off ≠ 0x7000 + 8 * i ∨ x.lo + x.w ≤ 31) : (s.assertShown i).f x = s.f x :=
  (State.f_withTrp (s := s.setF (R.TRP_SRC_CFG_ACT i) 1) _ _).trans
    (State.f_setF_ne (R.TRP_SRC_CFG_ACT i) x (by decide : 31 + 1 ≤ 32) (hx.imp id .inl) 1)

/-- The registers of the sources apart, an assertion may change anything. -/
def notSrcReg (o : Nat) : Prop := o < 0x7000 ∨ 0x7300 ≤ o

theorem State.srcOn_srcAssert (hi : i < 88) (harm : s.sys.arm = none) : (s.srcAssert i).srcOn i = true := by
  by_cases hon : s.srcOn i = true
  · rwa [show s.srcAssert i = s from if_pos hon]
  · have hk : TripKeeps notSrcReg (s.assertShown i) ((s.assertShown i).srcAct i) := by
      refine State.srcAct_tripKeeps (fun o ho => ?_) (fun j _ => .inr ?_) (fun j _ => .inr ?_) i
        (.refl _ ((congrArg SysSt.arm State.sys_assertShown).trans harm))
      · unfold tripReg evReg at ho
        unfold notSrcReg
        omega
      · omega
      · omega
    rw [State.srcAssert_eq (by simpa using hon), State.srcOn,
      hk.on _ (by simp only [notSrcReg, R.TRP_SRC_CFG_ACT]; omega)]
    exact State.srcOn_assertShown

theorem State.srcOn_srcRelease : (s.srcRelease i).srcOn i = false := by
  unfold State.srcRelease
  extract_lets c w
  split
  next h => simpa using h
  · refine State.each_ind (P := fun x => x.srcOn i = false) ?_ fun g hg x hx => ?_
    · have hact : (w.setF (R.TRP_SRC_CFG_ACT i) 0).f (R.TRP_SRC_CFG_ACT i) = 0 :=
        State.f_setF_self (R.TRP_SRC_CFG_ACT i) (by decide : 31 + 1 ≤ 32) 0
      exact decide_eq_false fun h => h hact
    · have hact := State.f_setF_ne (s := x) (R.TRP_GRP_STAT_ACT g) (R.TRP_SRC_CFG_ACT i) (by decide : 1 + 1 ≤ 32)
        (.inr (.inr (by decide : 1 + 1 ≤ 31))) (bit (x.groupAsserted g))
      rw [State.srcOn, State.on, hact, ← State.on, ← State.srcOn, hx]

/-! ### The commands of the sources -/

theorem State.tripAssert_of_level (h : srcLevelOf s i true = true) : s.tripAssert i = s.srcRaw i true := by
  unfold srcLevelOf at h
  unfold State.tripAssert
  by_cases hland : i < 16
  · rw [if_pos hland]
  · rw [if_neg hland] at h ⊢
    by_cases hcmp : i < 40
    · rw [if_pos hcmp] at h ⊢
      rw [if_pos h]
    · rw [if_neg hcmp] at h ⊢
      rw [if_pos h]

theorem State.tripRelease_of_level (h : srcLevelOf s i false = false) : s.tripRelease i = s.srcRaw i false := by
  unfold srcLevelOf at h
  unfold State.tripRelease
  by_cases hland : i < 16
  · rw [if_pos hland]
  · rw [if_neg hland] at h ⊢
    by_cases hcmp : i < 40
    · rw [if_pos hcmp] at h ⊢
      rw [if_neg (by rw [h]; decide)]
    · rw [if_neg hcmp] at h ⊢
      rw [if_neg (by rw [h]; decide)]

theorem State.raw_rawShown (i : Nat) (on : Bool) : ((s.rawShown i on).tsrc i).raw = on := by
  unfold State.rawShown
  split
  next h => exact h
  · rw [State.tsrc_setTsrc_self]

/-- Nothing but the unfiltered level of the source differs. -/
theorem State.rawShown_trp (i : Nat) (on : Bool) : ∃ r, r.gdf = s.trp.gdf ∧ s.rawShown i on = { s with trp := r } := by
  unfold State.rawShown
  split
  · exact ⟨s.trp, rfl, rfl⟩
  · exact ⟨(s.setTsrc i { s.tsrc i with raw := on, since := s.tbp }).trp, rfl, rfl⟩

theorem State.rawShown_within (i : Nat) (on : Bool) : Within p s (s.rawShown i on) := by
  obtain ⟨r, -, h⟩ := s.rawShown_trp i on
  rw [h]
  exact (Within.refl p s).same rfl rfl rfl rfl rfl rfl rfl

theorem State.f_rawShown (i : Nat) (on : Bool) (x : Fld) : (s.rawShown i on).f x = s.f x := congrArg x.get (State.reg_rawShown i on _)

theorem State.srcOn_rawShown (i j : Nat) (on : Bool) : (s.rawShown i on).srcOn j = s.srcOn j := by
  simp only [State.srcOn, State.on, State.f_rawShown]

theorem State.rawShown_arm (i : Nat) (on : Bool) : (s.rawShown i on).sys.arm = s.sys.arm := by
  obtain ⟨r, -, h⟩ := s.rawShown_trp i on
  rw [h]

/-- What a source does from its unfiltered level on. -/
theorem State.srcRaw_keeps (harm : s.sys.arm = none) (i : Nat) (on : Bool) :
    TripKeeps (fun _ => True) (s.rawShown i on) (s.srcRaw i on) :=
  State.srcRaw_tripKeeps (fun _ _ => trivial) (fun _ _ => trivial) (fun _ _ => trivial) trivial on
    (.refl _ ((s.rawShown_arm i on).trans harm))

theorem tripSourceAssert_answers (i : Fin 88) (hl : s.live = true) (harm : s.sys.arm = none) (hlevel : srcLevelOf s i true = true) :
    Answers (.tripSourceAssert i) s fun t =>
      (t.tsrc i).raw = true ∧ (s.f (R.TRP_SRC_CFG_FLT i) = 0 → t.srcOn i = true) ∧
        (s.f (R.TRP_SRC_CFG_FLT i) ≠ 0 → t.srcOn i = s.srcOn i) ∧
        (∀ g < 16, s.f (R.TRP_SRC_CFG_FLT i) = 0 → s.srcOn i = false → s.srcOf i g = true → s.f (R.TRP_GRP_CFG_EN g) = 1 →
          s.f (R.TRP_GRP_CFG_MODE g) = 1 → s.blanked g = false → s.f (R.TRP_GRP_STAT_LATCH g) = 0 → GroupLatched s g i t) ∧
        KeepsMem s t := by
  have hraw := State.srcRaw_keeps harm i true
  obtain ⟨w, hw⟩ : ∃ w, w = s.rawShown i true := ⟨_, rfl⟩
  have hshown : Within (fun _ => False) s w := hw ▸ s.rawShown_within i true
  have hreg (x : Fld) : w.f x = s.f x := hw ▸ State.f_rawShown i true x
  have hmask : ∀ n, (w.atcOf n).mask = (s.atcOf n).mask := by
    obtain ⟨r, -, h⟩ := s.rawShown_trp i true
    rw [hw, h]
    exact fun _ => rfl
  have harm' : w.sys.arm = none := hw ▸ (s.rawShown_arm i true).trans harm
  refine .onMain (t := s.tripAssert i) hl rfl (State.tripAssert_of_level hlevel ▸ ⟨(hraw.raw i).trans (s.raw_rawShown i true),
    fun hflt => ?_, fun hflt => ?_, fun g hg hflt hoff hof hen hmode hblank hfree => ?_,
    ((s.rawShown_within i true).trans hraw.within).keepsMem⟩)
  · rw [State.srcRaw_eq, if_pos hflt, if_pos rfl]
    exact State.srcOn_srcAssert i.isLt (hw ▸ harm')
  · rw [State.srcRaw_eq, if_neg hflt, State.srcOn_rawShown]
  · have hwoff : w.srcOn i = false := by rw [hw, State.srcOn_rawShown, hoff]
    have hset := (hshown.mono fun _ => False.elim).trans (w.assertShown_within (i := i.val))
    have hcfg (o : Nat) (ho : grpCfgReg g o) : o ≠ 0x7000 + 8 * i.val := by
      unfold grpCfgReg inPage at ho
      omega
    have hfld (x : Fld) (hx : x.off ≠ 0x7000 + 8 * i.val ∨ x.lo + x.w ≤ 31) : (w.assertShown i).f x = s.f x :=
      (State.f_assertShown hx).trans (hreg x)
    have hsrc : (w.assertShown i).srcOf i g = true := by
      rw [State.srcOf, State.on, hfld (R.TRP_SRC_CFG_EN i) (.inr (by decide : 0 + 1 ≤ 31)),
        hfld (R.TRP_SRC_GRP_MASK i) (.inl (by simp only [R.TRP_SRC_GRP_MASK]; omega))]
      exact hof
    have hready : ReadyToLatch (w.assertShown i) g i := by
      refine ⟨(hfld _ (.inl (hcfg _ (.inr (.inr (.inr (.inl rfl))))))).trans hen,
        (hfld _ (.inl (hcfg _ (.inr (.inr (.inr (.inl rfl))))))).trans hmode, (hset.blanked hcfg fun n => ?_).trans hblank,
        (hfld _ (.inr (by decide : 0 + 1 ≤ 31))).trans hfree, ?_⟩
      · rw [State.atcOf_assertShown, hmask]
      · rw [State.acted_assertShown, Nat.zero_testBit]
    rw [State.srcRaw_eq, if_pos hflt, if_pos rfl, ← hw]
    have hlatched := State.srcAct_latched hg i.isLt ((congrArg SysSt.arm State.sys_assertShown).trans harm')
      State.srcOn_assertShown hsrc hready
    exact State.srcAssert_eq hwoff ▸ hlatched.from_within hset hcfg

theorem tripSourceRelease_answers (i : Fin 88) (hl : s.live = true) (harm : s.sys.arm = none) (hlevel : srcLevelOf s i false = false)
    (hflt : s.f (R.TRP_SRC_CFG_FLT i) = 0) : Answers (.tripSourceRelease i) s fun t =>
      (t.tsrc i).raw = false ∧ t.srcOn i = false ∧ KeepsOut (fun o => inPage 7 o) s t := by
  have hk : TripKeeps (inPage 7) (s.rawShown i false) ((s.rawShown i false).srcRelease i) := by
    refine State.srcRelease_tripKeeps (fun g hg => ?_) (fun g hg => ?_) ?_ (.refl _ ((s.rawShown_arm i false).trans harm))
    · unfold inPage
      omega
    · unfold inPage
      omega
    · unfold inPage
      omega
  have heq : s.tripRelease i = (s.rawShown i false).srcRelease i :=
    (State.tripRelease_of_level hlevel).trans ((s.srcRaw_eq i false).trans (if_pos hflt))
  exact .onMain (t := s.tripRelease i) hl rfl (heq ▸ ⟨(hk.raw i).trans (s.raw_rawShown i false), State.srcOn_srcRelease,
    ((s.rawShown_within i false).trans hk.within).keepsOut⟩)

theorem tripFilterExpiry_answers (i : Fin 88) (hl : s.live = true) (harm : s.sys.arm = none) (hflt : s.f (R.TRP_SRC_CFG_FLT i) ≠ 0)
    (hraw : (s.tsrc i).raw ≠ s.srcOn i) (hdue : (s.tsrc i).since + s.dur (s.f (R.TRP_SRC_CFG_FLT i)) ≤ s.tbp) :
    Answers (.tripFilterExpiry i) s fun t => t.srcOn i = (s.tsrc i).raw ∧ KeepsMem s t := by
  have hall := TripKeeps.refl (fun _ => True) harm
  have heq : s.filterExpiry i = if (s.tsrc i).raw then s.srcAssert i else s.srcRelease i := if_pos (by simp [hflt, hraw, hdue])
  refine .onMain (t := s.filterExpiry i) hl rfl ?_
  rw [heq]
  split
  next h => exact ⟨(State.srcOn_srcAssert i.isLt harm).trans h.symm, (State.srcAssert_tripKeeps (fun _ _ => trivial) (fun _ _ => trivial)
      (fun _ _ => trivial) trivial hall).within.keepsMem⟩
  next h => exact ⟨State.srcOn_srcRelease.trans (by simpa using h), (State.srcRelease_tripKeeps (fun _ _ => trivial)
      (fun _ _ => trivial) trivial hall).within.keepsMem⟩

theorem tripSources : tripSourcesHolds := by
  refine fun s i hl harm => ⟨fun hlevel => ?_, tripSourceRelease_answers i hl harm, tripFilterExpiry_answers i hl harm⟩
  obtain ⟨t, ht, hraw, hon, hoff, hlatch, hkeep⟩ := tripSourceAssert_answers i hl harm hlevel
  refine ⟨t, ht, hraw, hon, hoff, fun g hg hflt hon hof hen hmode hblank hfree => ?_, hkeep⟩
  obtain ⟨hset, hfirst, hpairs⟩ := hlatch g hg hflt hon hof hen hmode hblank hfree
  exact ⟨hset, hfirst, hpairs⟩

/-! ### The clear of a latch (R223, R224) -/

/-- The fields that a clear of the latch of group g clears. -/
def latchFlds (g : Nat) : List Fld :=
  [R.TRP_GRP_STAT_LATCH g, R.TRP_GRP_STAT_FIRST g, R.TRP_GRP_STAT_SCB g, R.TRP_GRP_STAT_MULTI g]

/-- Group g with its latch cleared. -/
def State.latchCleared (s : State) (g : Nat) : State :=
  (((s.setF (R.TRP_GRP_STAT_LATCH g) 0).setF (R.TRP_GRP_STAT_SCB g) 0).setF (R.TRP_GRP_STAT_MULTI g) 0).setF
    (R.TRP_GRP_STAT_FIRST g) 0

theorem State.latchCleared_keeps (g : Nat) : KeepsBut (wresFlds ++ latchFlds g) s (s.latchCleared g) :=
  ((((KeepsBut.refl _ s).setF (R.TRP_GRP_STAT_LATCH g) (by simp [latchFlds]) (by decide : 0 + 1 ≤ 32) 0).setF
    (R.TRP_GRP_STAT_SCB g) (by simp [latchFlds]) (by decide : 3 + 1 ≤ 32) 0).setF
    (R.TRP_GRP_STAT_MULTI g) (by simp [latchFlds]) (by decide : 4 + 1 ≤ 32) 0).setF
    (R.TRP_GRP_STAT_FIRST g) (by simp [latchFlds]) (by decide : 8 + 7 ≤ 32) 0

theorem State.latchCleared_shows {x : Fld} (hx : x ∈ latchFlds g) : (s.latchCleared g).f x = 0 := by
  have hscb (w : State) (y : Fld) (hy : y.lo + y.w ≤ 3 ∨ 4 ≤ y.lo) : (w.setF (R.TRP_GRP_STAT_SCB g) 0).f y = w.f y :=
    State.f_setF_ne _ y (by decide : 3 + 1 ≤ 32) (.inr hy) 0
  have hmulti (w : State) (y : Fld) (hy : y.lo + y.w ≤ 4 ∨ 5 ≤ y.lo) : (w.setF (R.TRP_GRP_STAT_MULTI g) 0).f y = w.f y :=
    State.f_setF_ne _ y (by decide : 4 + 1 ≤ 32) (.inr hy) 0
  have hfirst (w : State) (y : Fld) (hy : y.lo + y.w ≤ 8) : (w.setF (R.TRP_GRP_STAT_FIRST g) 0).f y = w.f y :=
    State.f_setF_ne _ y (by decide : 8 + 7 ≤ 32) (.inr (.inl hy)) 0
  have hself (w : State) (y : Fld) (hy : y.lo + y.w ≤ 32) : (w.setF y 0).f y = 0 :=
    (State.f_setF_self y hy 0).trans (Nat.zero_mod _)
  simp only [latchFlds, List.mem_cons, List.not_mem_nil, or_false] at hx
  obtain rfl | rfl | rfl | rfl := hx
  · exact (hfirst _ _ (by decide : 0 + 1 ≤ 8)).trans ((hmulti _ _ (.inl (by decide : 0 + 1 ≤ 4))).trans
      ((hscb _ _ (.inl (by decide : 0 + 1 ≤ 3))).trans (hself _ _ (by decide : 0 + 1 ≤ 32))))
  · exact hself _ _ (by decide : 8 + 7 ≤ 32)
  · exact (hfirst _ _ (by decide : 3 + 1 ≤ 8)).trans ((hmulti _ _ (.inl (by decide : 3 + 1 ≤ 4))).trans
      (hself _ _ (by decide : 3 + 1 ≤ 32)))
  · exact (hfirst _ _ (by decide : 4 + 1 ≤ 8)).trans (hself _ _ (by decide : 4 + 1 ≤ 32))

theorem exec_latchClear {g : Fin 16} {st : Status} (h : s.latchClear g = (st, t)) :
    exec (.latchClear g) s = .next (s.onMain (t.wres (0x7308 + 16 * g) st)) := by
  have hexec : exec (.latchClear g) s = .next (s.onMain ((s.latchClear g).2.wres (0x7308 + 16 * g) (s.latchClear g).1)) := rfl
  rw [hexec, h]

theorem latchClear_done_answers (g : Fin 16) (hl : s.live = true) (h : s.groupAsserted g = false) : Answers (.latchClear g) s fun t =>
    (∀ x ∈ latchFlds g, t.f x = 0) ∧ Recorded (0x7308 + 16 * g) .done s t ∧ KeepsBut (wresFlds ++ latchFlds g) s t := by
  have heq : s.latchClear g = (.done, s.latchCleared g) := if_neg (by simp [h])
  have hoff : ∀ x ∈ latchFlds g, x.off = 0x7308 + 16 * g := by simp [latchFlds, R.TRP_GRP_STAT_LATCH, R.TRP_GRP_STAT_FIRST,
    R.TRP_GRP_STAT_SCB, R.TRP_GRP_STAT_MULTI]
  refine .onMain (t := (s.latchCleared g).wres (0x7308 + 16 * g) .done) hl (exec_latchClear heq) ⟨fun x hx => ?_, ?_, ?_⟩
  · rw [State.f_wres_ne x (by have := hoff x hx; omega)]
    exact State.latchCleared_shows hx
  · have hreg (w : State) (x : Fld) (n : Nat) (hx : x.off = 0x7308 + 16 * g.val) : (w.setF x n).reg 0x11000 = w.reg 0x11000 :=
      State.reg_setF_ne x n (by omega)
    exact State.wres_recorded_of_reg .done (by omega)
      (((hreg _ _ _ rfl).trans (hreg _ _ _ rfl)).trans ((hreg _ _ _ rfl).trans (hreg _ _ _ rfl)))
  · exact (s.latchCleared_keeps g).wres (List.subset_append_left ..) _ _

theorem latchClear_state_answers (g : Fin 16) (hl : s.live = true) (h : s.groupAsserted g = true) : Answers (.latchClear g) s fun t =>
    t.f (R.TRP_GRP_STAT_LATCH g) = s.f (R.TRP_GRP_STAT_LATCH g) ∧ Recorded (0x7308 + 16 * g) .state s t ∧ KeepsBut wresFlds s t := by
  have heq : s.latchClear g = (.state, s) := if_pos h
  refine .onMain (t := s.wres (0x7308 + 16 * g) .state) hl (exec_latchClear heq) ⟨?_, ?_, ?_⟩
  · exact State.f_wres_ne _ (by simp only [R.TRP_GRP_STAT_LATCH]; omega) _ _
  · exact State.wres_recorded_of_reg .state (by omega) rfl
  · exact (KeepsBut.refl _ s).wres (List.Subset.refl _) _ _

theorem latchClear : latchClearHolds := by
  refine fun s g hl => ⟨fun h => ?_, latchClear_state_answers g hl⟩
  obtain ⟨t, ht, hzero, hrec, hkeep⟩ := latchClear_done_answers g hl h
  exact ⟨t, ht, hzero _ (by simp [latchFlds]), hzero _ (by simp [latchFlds]), hzero _ (by simp [latchFlds]),
    hzero _ (by simp [latchFlds]), hrec, hkeep⟩

/-- Settles O16: a source latches a group that is ready when its turn comes, and nothing that the other groups do to the power
stage before or after undoes that; a clear of the latch writes the group's status alone. -/
theorem trips : Obligations.Trips := ⟨tripSources, latchClear⟩

end Sys2Proof.Machine
end

section
/-! PROOFS. Timer windows and blanking (O15). -/

namespace Sys2Proof.Machine

variable {s t u v : State} {p : Nat → Prop} {n m : Nat}

/-- What masks is the same, so the window stands open or closed as before. -/
theorem opened_of_mask {a b : AtcSt} (h : a.mask = b.mask) : a.opened = b.opened := congrArg Prod.fst h
theorem spent_of_mask {a b : AtcSt} (h : a.mask = b.mask) : a.spent = b.spent := congrArg (fun k => k.2.2.2) h

/-- What blankable sources do at the end of a blanking. -/
theorem State.blankEnd_keeps (h : s.sys.arm = none) (g : Nat) : TripKeeps (fun _ => True) s (s.blankEnd g) :=
  State.blankEnd_tripKeeps (fun _ _ => trivial) trivial trivial (.refl _ h)

theorem Within.setAtc (h : Within p s t) (n : Nat) (a : AtcSt) : Within p s (t.setAtc n a) := h.same rfl rfl rfl rfl rfl rfl rfl

/-! ### The close of a window (R186, R213, R214) -/

/-- Channel n with its window closed. -/
def State.windowClosed (s : State) (n : Nat) : State :=
  s.setAtc n { s.atcOf n with opened := none, close := none, spent := false }

theorem State.atcClose_due {a b : Nat} (ho : (s.atcOf n).opened = some a) (hc : (s.atcOf n).close = some b) (hdue : b ≤ s.tbp) :
    s.atcClose n = if (s.atcOf n).fn = 1 then (s.windowClosed n).blankEnd (s.atcOf n).tgt else s.windowClosed n := by
  unfold State.atcClose
  dsimp only
  rw [ho, hc]
  exact if_neg (Nat.not_lt.2 hdue)

theorem State.atcClose_of_closed (h : (s.atcOf n).opened = none) : s.atcClose n = s := by
  simp only [State.atcClose, h]

/-- From the closed window on. -/
theorem State.atcClose_keeps {a b : Nat} (harm : s.sys.arm = none) (ho : (s.atcOf n).opened = some a)
    (hc : (s.atcOf n).close = some b) (hdue : b ≤ s.tbp) : TripKeeps (fun _ => True) (s.windowClosed n) (s.atcClose n) := by
  rw [State.atcClose_due ho hc hdue]
  exact .ite (State.blankEnd_keeps (s := s.windowClosed n) harm _) (.refl _ harm)

theorem State.windowClosed_within (n : Nat) : Within p s (s.windowClosed n) := (Within.refl p s).setAtc _ _

theorem State.atcClose_within (harm : s.sys.arm = none) (n : Nat) : Within (fun _ => True) s (s.atcClose n) := by
  cases ho : (s.atcOf n).opened with
  | none => exact (State.atcClose_of_closed ho).symm ▸ Within.refl _ s
  | some a =>
    cases hc : (s.atcOf n).close with
    | none =>
      have heq : s.atcClose n = s := by simp only [State.atcClose, ho, hc]
      exact heq.symm ▸ Within.refl _ s
    | some b =>
      by_cases hdue : b ≤ s.tbp
      · exact (s.windowClosed_within n).trans (State.atcClose_keeps harm ho hc hdue).within
      · have heq : s.atcClose n = s := by simp only [State.atcClose, ho, hc, Nat.lt_of_not_le hdue, if_true]
        exact heq.symm ▸ Within.refl _ s

theorem atcWindowClose_answers (n : Fin 16) (hl : s.live = true) (harm : s.sys.arm = none) {a b : Nat}
    (ho : (s.atcOf n).opened = some a) (hc : (s.atcOf n).close = some b) (hdue : b ≤ s.tbp) :
    Answers (.atcWindowClose n) s fun t => (t.atcOf n).opened = none ∧ KeepsMem s t := by
  have hk := State.atcClose_keeps harm ho hc hdue
  have hclosed : ((s.windowClosed n).atcOf n).opened = none := congrArg AtcSt.opened (State.atcOf_setAtc_self ..)
  exact .onMain (t := s.atcClose n) hl rfl ⟨(opened_of_mask (hk.mask n)).trans hclosed, (State.atcClose_within harm n).keepsMem⟩

theorem blankingMaxExpiry_answers (n : Fin 16) (hl : s.live = true) (harm : s.sys.arm = none) {a : Nat}
    (ho : (s.atcOf n).opened = some a) (hfn : (s.atcOf n).fn = 1)
    (hmax : a + s.durDown (s.f (R.TRP_GRP_BLK_MAX (s.atcOf n).tgt)) ≤ s.tbp) :
    Answers (.blankingMaxExpiry n) s fun t => (t.atcOf n).spent = true ∧ KeepsMem s t := by
  obtain ⟨w, hw⟩ : ∃ w, w = s.setAtc n { s.atcOf n with spent := true } := ⟨_, rfl⟩
  have heq : s.blankMax n = w.blankEnd (s.atcOf n).tgt := by simp [State.blankMax, ho, hfn, hmax, hw]
  have hk := State.blankEnd_keeps (s := w) (hw ▸ harm) (s.atcOf n).tgt
  have hwithin : Within (fun _ => True) s w := hw ▸ (Within.refl _ s).setAtc _ _
  have hspent : (w.atcOf n).spent = true := by rw [hw, State.atcOf_setAtc_self]
  exact .onMain (t := s.blankMax n) hl rfl (heq ▸ ⟨(spent_of_mask (hk.mask n)).trans hspent, (hwithin.trans hk.within).keepsMem⟩)

/-! ### The opening of a window (R186, R189, R204, R275) -/

/-- The window of channel n opens now with the use, the target and the width that the opening `a`, pending for `at_`, has. -/
def State.windowOpened (s : State) (n : Nat) (a : AtcSt) (at_ : Nat) : State :=
  s.setAtc n { s.atcOf n with pend := none, opened := some s.tbp, close := some (s.tbp + (a.pClose - at_)), fn := a.pFn, tgt := a.pTgt,
                              spent := false }

/-- What a window does as it opens: blanking nothing yet, a trigger its event, a refresh the notches that wait for it. -/
def State.windowUsed (s : State) (fn tgt close : Nat) : State :=
  match fn with
  | 1 => s
  | 2 => s.trigEvent tgt
  | _ => s.refreshOpen tgt close

theorem State.atcOpen_due {at_ : Nat} (hp : (s.atcOf n).pend = some at_) (hdue : at_ ≤ s.tbp) : s.atcOpen n =
    ((s.atcClose n).windowOpened n (s.atcOf n) at_).windowUsed (s.atcOf n).pFn (s.atcOf n).pTgt
      ((s.atcClose n).tbp + ((s.atcOf n).pClose - at_)) := by
  unfold State.atcOpen
  dsimp only
  rw [hp]
  exact if_neg (Nat.not_lt.2 hdue)

theorem State.trigEvent_atc (ch : Nat) : (s.trigEvent ch).atc = s.atc := by
  unfold State.trigEvent State.overrun
  dsimp only
  split
  · rfl
  · split
    · split
      · rfl
      · exact (State.post_posted ..).atc
    · rfl

theorem State.trigEvent_within (ch : Nat) (hx : p 0x3010) (hp : ∀ o, evReg o → p o) (h : Within p s t) :
    Within p s (t.trigEvent ch) := by
  unfold State.trigEvent
  exact .ite (h.count (R.XDC_STAT_DISC 4) 1 hx) (.ite (State.overrun_within 4 hx hp (h.count (R.XDC_STAT_LOST 4) 1 hx))
    (h.same rfl rfl rfl rfl rfl rfl rfl))

/-- A trigger that its crossing can take is counted there. -/
theorem State.trigEvent_counted {ch : Nat} (hr : (s.xing 4).inReset = false) (hroom : (s.xing (100 + ch)).cnt < 15) :
    ((s.trigEvent ch).xing (100 + ch)).cnt = (s.xing (100 + ch)).cnt + 1 := by
  have heq : s.trigEvent ch = s.setXing (100 + ch) { s.xing (100 + ch) with cnt := (s.xing (100 + ch)).cnt + 1 } := by
    simp [State.trigEvent, hr, Nat.not_le.2 hroom]
  rw [heq, State.xing_setXing_self]

theorem State.refreshOpen_atc (j close : Nat) : (s.refreshOpen j close).atc = s.atc :=
  State.each_ind (P := fun u => u.atc = s.atc) rfl fun _ _ _ hu => hu

theorem State.refreshOpen_within (j close : Nat) (h : Within p s t) : Within p s (t.refreshOpen j close) :=
  h.each fun m _ _ hv => hv.setPair m _

theorem State.windowUsed_atc (fn tgt close : Nat) : (s.windowUsed fn tgt close).atc = s.atc := by
  unfold State.windowUsed
  split
  · rfl
  · exact State.trigEvent_atc tgt
  · exact State.refreshOpen_atc tgt close

theorem State.windowUsed_within (fn tgt close : Nat) (hx : p 0x3010) (hp : ∀ o, evReg o → p o) (h : Within p s t) :
    Within p s (t.windowUsed fn tgt close) := by
  unfold State.windowUsed
  split
  · exact h
  · exact State.trigEvent_within tgt hx hp h
  · exact State.refreshOpen_within tgt close h

theorem State.windowOpened_within (a : AtcSt) (at_ : Nat) (h : Within p s t) : Within p s (t.windowOpened n a at_) := h.setAtc _ _

theorem atcWindowOpen_answers (n : Fin 16) (hl : s.live = true) (harm : s.sys.arm = none) {at_ : Nat}
    (hp : (s.atcOf n).pend = some at_) (hdue : at_ ≤ s.tbp) : Answers (.atcWindowOpen n) s fun t =>
      (t.atcOf n).pend = none ∧ (t.atcOf n).opened = some s.tbp ∧ (t.atcOf n).fn = (s.atcOf n).pFn ∧
        (t.atcOf n).tgt = (s.atcOf n).pTgt ∧ (t.atcOf n).close = some (s.tbp + ((s.atcOf n).pClose - at_)) ∧
        ((s.atcOf n).opened = none → (s.atcOf n).pFn = 2 → (s.xing 4).inReset = false →
          (s.xing (100 + (s.atcOf n).pTgt)).cnt < 15 →
          (t.xing (100 + (s.atcOf n).pTgt)).cnt = (s.xing (100 + (s.atcOf n).pTgt)).cnt + 1) ∧
        ((s.atcOf n).opened = none → KeepsOut (fun o => o = 0x3010 ∨ evReg o) s t) ∧ KeepsMem s t := by
  have hclose := State.atcClose_within harm n.val
  obtain ⟨w, hw⟩ : ∃ w, w = (s.atcClose n).windowOpened n (s.atcOf n) at_ := ⟨_, rfl⟩
  have heq : s.atcOpen n = w.windowUsed (s.atcOf n).pFn (s.atcOf n).pTgt ((s.atcClose n).tbp + ((s.atcOf n).pClose - at_)) :=
    hw ▸ State.atcOpen_due hp hdue
  have hopened : w.atcOf n = { (s.atcClose n).atcOf n with
      pend := none, opened := some s.tbp, close := some (s.tbp + ((s.atcOf n).pClose - at_)), fn := (s.atcOf n).pFn,
      tgt := (s.atcOf n).pTgt, spent := false } := by
    rw [hw, State.windowOpened, State.atcOf_setAtc_self, hclose.tbp]
  have hatc : (s.atcOpen n).atcOf n = w.atcOf n := by
    rw [heq, State.atcOf, State.windowUsed_atc, State.atcOf]
  have hwithin : Within (fun _ => True) s (s.atcOpen n) := heq ▸ State.windowUsed_within _ _ _ trivial (fun _ _ => trivial)
    (hw ▸ State.windowOpened_within _ _ hclose)
  refine .onMain (t := s.atcOpen n) hl rfl ?_
  rw [hatc, hopened]
  refine ⟨rfl, rfl, rfl, rfl, rfl, fun hnone hfn hr hroom => ?_, fun hnone => ?_, hwithin.keepsMem⟩
  · rw [State.atcClose_of_closed hnone] at hw
    have hused : s.atcOpen n = w.trigEvent (s.atcOf n).pTgt := by rw [heq, hfn, State.windowUsed]
    have hxing (x : Nat) : w.xing x = s.xing x := by rw [hw]; rfl
    rw [hused, State.trigEvent_counted ((congrArg Crossing.inReset (hxing 4)).trans hr)
      ((congrArg Crossing.cnt (hxing _)).trans_lt hroom), hxing]
  · rw [State.atcClose_of_closed hnone] at hw
    have hopen : Within (fun o => o = 0x3010 ∨ evReg o) s w := hw ▸ State.windowOpened_within _ _ (.refl _ s)
    exact (heq ▸ State.windowUsed_within _ _ _ (.inl rfl) (fun _ => .inr) hopen : Within _ s (s.atcOpen n)).keepsOut

theorem atcWindows : atcWindowsHolds := fun _ n hl harm =>
  ⟨fun _ hp hdue => atcWindowOpen_answers n hl harm hp hdue, fun _ _ ho hc hdue => atcWindowClose_answers n hl harm ho hc hdue,
    fun _ ho hfn hmax => blankingMaxExpiry_answers n hl harm ho hfn hmax⟩

end Sys2Proof.Machine
end

section
/-! PROOFS. The lands of the gate drives, and the stages of a turn-off (O15). -/

namespace Sys2Proof.Machine

variable {s t u v : State} {p : Nat → Prop} {n m : Nat}

/-! ### The fault of a land (R192, R194) -/

/-- A bit of a field that is cleared. -/
theorem State.bitAt_setBit_false (x : Fld) {i : Nat} (hx : x.lo + x.w ≤ 32) : (s.setBit x i false).bitAt x i = false := by
  have hlt : s.f x < 2 ^ x.w := Fld.get_lt ..
  have hv : (s.setBit x i false).f x = if (s.f x).testBit i then s.f x - 2 ^ i else s.f x := by
    refine (State.f_setF_self x hx _).trans (Nat.mod_eq_of_lt ?_)
    simp only [Bool.false_eq_true, if_false]
    split
    · exact (Nat.sub_le ..).trans_lt hlt
    · exact hlt
  rw [State.bitAt, hv]
  split
  next h =>
    have hle : 2 ^ i ≤ s.f x := Nat.ge_two_pow_of_testBit h
    rw [Nat.testBit_eq_decide_div_mod_eq] at h ⊢
    have hdiv : (s.f x - 2 ^ i) / 2 ^ i = s.f x / 2 ^ i - 1 := by
      have := Nat.sub_mul_div (s.f x) (2 ^ i) 1
      rwa [Nat.mul_one] at this
    have hodd : s.f x / 2 ^ i % 2 = 1 := of_decide_eq_true h
    rw [hdiv]
    exact decide_eq_false (by omega)
  next h => exact Bool.not_eq_true _ ▸ h

theorem State.bitAt_setBit_self (x : Fld) {i : Nat} (hx : x.lo + x.w ≤ 32) (hi : i < x.w) (b : Bool) :
    (s.setBit x i b).bitAt x i = b := by
  cases b with
  | false => exact State.bitAt_setBit_false x hx
  | true => simp [State.bitAt_setBit_true x hx hi]

/-- GDFn shows its fault. -/
def State.faultShown (s : State) (n : Nat) (on : Bool) : State :=
  if n < 32 then s.setBit R.GDI_GDFL_FLT n on else s.setBit R.GDI_GDFH_FLT (n - 32) on

theorem State.gdfFault_faultShown (hn : n < 48) (on : Bool) : (s.faultShown n on).gdfFault n = on := by
  unfold State.faultShown State.gdfFault
  split
  next h => exact State.bitAt_setBit_self R.GDI_GDFL_FLT (by decide) h on
  next h => exact State.bitAt_setBit_self R.GDI_GDFH_FLT (by decide) (by show n - 32 < 16; omega) on

theorem State.faultShown_tripKeeps (n : Nat) (on : Bool) (h : TripKeeps (fun _ => True) s t) :
    TripKeeps (fun _ => True) s (t.faultShown n on) := .ite (h.setF _ _ trivial) (h.setF _ _ trivial)

theorem State.setNotch_tripKeeps (m : Nat) (h : TripKeeps p s t) : TripKeeps p s (t.setNotch m) :=
  .ite (h.setPair m _ ⟨id, id⟩) (h.setPair m _ ⟨id, id⟩)

theorem State.bsHold_tripKeeps (hp : ∀ o, tripReg o → p o) (hhold : p 0x6218) (m : Nat) (h : TripKeeps p s t) :
    TripKeeps p s (t.bsHold m) := by
  have hoff := State.landOff_tripKeeps hp m true h
  unfold State.bsHold
  extract_lets +onlyGivenNames j a c b d e w late
  have hb : TripKeeps p s b := by
    unfold b
    split
    · exact hoff.setPair m _ ⟨id, id⟩
    · exact hoff
  have hd : TripKeeps p s d := hb.setF R.GDI_BS_HOLD _ hhold
  have hw : TripKeeps p s w := .ite (State.setNotch_tripKeeps m hd) hd
  clear_value d w late
  exact .ite (State.report3_tripKeeps hp _ h) (.ite (State.report3_tripKeeps hp _ (.ite hd hw)) h)

/-- The faults shown apart, a trip may write anything. -/
def notFaultReg (o : Nat) : Prop := o ≠ 0x6210 ∧ o ≠ 0x6214

theorem TripKeeps.gdfFault (h : TripKeeps notFaultReg s t) (n : Nat) : t.gdfFault n = s.gdfFault n := by
  simp only [State.gdfFault, h.bitAt R.GDI_GDFL_FLT (fun k => k.1 rfl), h.bitAt R.GDI_GDFH_FLT (fun k => k.2 rfl)]

theorem notFaultReg_of_tripReg {o : Nat} (h : tripReg o) : notFaultReg o := by
  unfold tripReg evReg at h
  unfold notFaultReg
  omega

/-- What the decoding of a land leaves as it was: the memories, no arming under way, and every land. -/
structure LandKeeps (s t : State) : Prop where
  within : Within (fun _ => True) s t
  arm : t.sys.arm = none
  gdf : t.trp.gdf = s.trp.gdf

theorem LandKeeps.refl (h : s.sys.arm = none) : LandKeeps s s := ⟨.refl _ s, h, rfl⟩

theorem LandKeeps.trans (h : LandKeeps s t) (k : LandKeeps t u) : LandKeeps s u :=
  ⟨h.within.trans k.within, k.arm, k.gdf.trans h.gdf⟩

theorem TripKeeps.landKeeps (h : TripKeeps p s t) : LandKeeps s t := ⟨h.within.mono fun _ _ => trivial, h.arm, h.gdf⟩

theorem State.rawShown_landKeeps (h : s.sys.arm = none) (i : Nat) (on : Bool) : LandKeeps s (s.rawShown i on) := by
  obtain ⟨r, hr, heq⟩ := s.rawShown_trp i on
  rw [heq]
  exact ⟨(Within.refl _ s).trp r, h, hr⟩

/-- The fault of GDFn shown, and for an upper switch what its undervoltage does. -/
def State.faultHeld (s : State) (n : Nat) (on : Bool) : State :=
  if on && n % 2 = 0 then (s.faultShown n on).bsHold (n / 2) else s.faultShown n on

theorem State.gdfSet_of_change {on : Bool} (h : s.gdfFault n ≠ on) : s.gdfSet n on = (s.faultHeld n on).srcRaw (40 + n) on := if_neg h

theorem State.faultHeld_keeps (harm : s.sys.arm = none) (n : Nat) (on : Bool) :
    TripKeeps notFaultReg (s.faultShown n on) (s.faultHeld n on) := by
  have harm' : (s.faultShown n on).sys.arm = none := (State.faultShown_tripKeeps n on (.refl _ harm)).arm
  exact .ite (State.bsHold_tripKeeps (fun _ => notFaultReg_of_tripReg) (by unfold notFaultReg; omega) _ (.refl _ harm')) (.refl _ harm')

theorem State.gdfSet_landKeeps (harm : s.sys.arm = none) (n : Nat) (on : Bool) : LandKeeps s (s.gdfSet n on) := by
  by_cases h : s.gdfFault n = on
  · rw [show s.gdfSet n on = s from if_pos h]
    exact .refl harm
  · have hheld := (State.faultShown_tripKeeps n on (.refl _ harm)).landKeeps.trans (State.faultHeld_keeps harm n on).landKeeps
    rw [State.gdfSet_of_change h]
    exact (hheld.trans (State.rawShown_landKeeps hheld.arm (40 + n) on)).trans (State.srcRaw_keeps hheld.arm (40 + n) on).landKeeps

theorem State.gdfFault_gdfSet (harm : s.sys.arm = none) (hn : n < 48) (on : Bool) : (s.gdfSet n on).gdfFault n = on := by
  by_cases h : s.gdfFault n = on
  · rwa [show s.gdfSet n on = s from if_pos h]
  · have hheld := State.faultHeld_keeps harm n on
    have hraw : TripKeeps notFaultReg ((s.faultHeld n on).rawShown (40 + n) on) ((s.faultHeld n on).srcRaw (40 + n) on) := by
      refine State.srcRaw_tripKeeps (fun _ => notFaultReg_of_tripReg) (fun g _ => ?_) (fun g _ => ?_) ?_ on
        (.refl _ ((State.rawShown_arm ..).trans hheld.arm))
      · unfold notFaultReg
        omega
      · unfold notFaultReg
        omega
      · unfold notFaultReg
        omega
    have hshown : ((s.faultHeld n on).rawShown (40 + n) on).gdfFault n = (s.faultHeld n on).gdfFault n := by
      simp only [State.gdfFault, State.bitAt, State.f, State.reg_rawShown]
    rw [State.gdfSet_of_change h, hraw.gdfFault, hshown, hheld.gdfFault, State.gdfFault_faultShown hn]

/-! ### The change of a land (R191 to R193, R200) -/

/-- GDFn goes to its new level now. -/
def State.landSet (s : State) (n : Nat) (high : Bool) : State := s.setGdf n { low := !high, since := s.tbp }

/-- What the decoding of GDFn makes of a change, a low having lasted `len` at a rise. -/
def State.landDecoded (s : State) (n : Nat) (high : Bool) (len : Nat) : State :=
  match s.gdfMode n with
  | 0 => s
  | 1 => s.gdfSet n (!high)
  | _ =>
    if !high then s
    else if s.gdfFault n then s.gdfSet n false
    else if len < lowFrom s n then s
    else if len ≤ 840 then s.bsReport n
    else (s.gdfSet n true).gdfSet n false

theorem State.gdfChange_eq {high : Bool} (h : (s.gdf n).low = high) :
    s.gdfChange n high = (s.landSet n high).landDecoded n high (s.tbp - (s.gdf n).since) := by
  have hne : (s.gdf n).low ≠ !high := by simp [h]
  exact if_neg hne

theorem State.landSet_within (n : Nat) (high : Bool) : Within p s (s.landSet n high) := by
  unfold State.landSet State.setGdf
  exact (Within.refl p s).trp _

theorem State.gdf_landSet (n : Nat) (high : Bool) : (s.landSet n high).gdf n = { low := !high, since := s.tbp } := Tab.get_set_self ..

theorem State.bsReport_landKeeps (harm : s.sys.arm = none) (n : Nat) : LandKeeps s (s.bsReport n) := by
  have hcount := (TripKeeps.refl (fun _ => True) harm).count R.GDI_BSCNT_LOW 1 trivial
  unfold State.bsReport
  dsimp only
  split
  · refine (hcount.setPair (n / 2) _ ?_).landKeeps
    exact ⟨id, id⟩
  · exact hcount.landKeeps

theorem State.landDecoded_landKeeps (harm : s.sys.arm = none) (n : Nat) (high : Bool) (len : Nat) :
    LandKeeps s (s.landDecoded n high len) := by
  have hset (on : Bool) := State.gdfSet_landKeeps harm n on
  have hboth := (hset true).trans (State.gdfSet_landKeeps (hset true).arm n false)
  unfold State.landDecoded
  split
  · exact .refl harm
  · exact hset _
  · split
    · exact .refl harm
    · split
      · exact hset _
      · split
        · exact .refl harm
        · split
          · exact State.bsReport_landKeeps harm n
          · exact hboth

/-- In coded mode a rise of a land without a fault is told by the length of the low. -/
theorem State.landDecoded_coded {len : Nat} (hmode : s.gdfMode n = 2) (hf : s.gdfFault n = false) : s.landDecoded n true len =
    if len < lowFrom s n then s else if len ≤ 840 then s.bsReport n else (s.gdfSet n true).gdfSet n false := by
  simp [State.landDecoded, hmode, hf]

/-- The threshold lies within ±5 % of 0.4 µs (R193, R654). -/
theorem lowFrom_bounds (s : State) (n : Nat) : 152 ≤ lowFrom s n ∧ lowFrom s n ≤ 168 := by
  have := Nat.mod_lt (Config.actual (1 + n) (s.tbp + s.bvq.tbk)) (show 0 < 168 - 152 + 1 by decide)
  unfold lowFrom State.within
  omega

theorem State.bsReport_shows (n : Nat) : (s.bsReport n).f R.GDI_BSCNT_LOW = min (2 ^ R.GDI_BSCNT_LOW.w - 1) (s.f R.GDI_BSCNT_LOW + 1) ∧
    (n % 2 = 0 → ((s.bsReport n).pair (n / 2)).bsLow = true) := by
  have hcount := State.f_count_self (s := s) R.GDI_BSCNT_LOW (by decide) 1
  unfold State.bsReport
  dsimp only
  split
  next h => exact ⟨hcount, fun _ => by rw [State.pair_setPair_self]⟩
  next h => exact ⟨hcount, fun k => absurd k h⟩

theorem gdfLandChange_answers (n : Fin 48) (high : Bool) (hl : s.live = true) (harm : s.sys.arm = none) (hlow : (s.gdf n).low = high) :
    Answers (.gdfLandChange n high) s fun t =>
      (t.gdf n).low = !high ∧ (t.gdf n).since = s.tbp ∧ (s.gdfMode n = 1 → t.gdfFault n = !high) ∧
        (s.gdfMode n = 2 → high = true → s.gdfFault n = true → t.gdfFault n = false) ∧
        (s.gdfMode n = 2 → high = true → s.gdfFault n = false → 168 ≤ s.tbp - (s.gdf n).since → s.tbp - (s.gdf n).since ≤ 840 →
          t.f R.GDI_BSCNT_LOW = min (2 ^ R.GDI_BSCNT_LOW.w - 1) (s.f R.GDI_BSCNT_LOW + 1) ∧
            (n.val % 2 = 0 → (t.pair (n / 2)).bsLow = true)) ∧
        (s.gdfMode n = 2 → high = true → s.gdfFault n = false → s.tbp - (s.gdf n).since < 152 → t.regs = s.regs) ∧ KeepsMem s t := by
  obtain ⟨w, hw⟩ : ∃ w, w = s.landSet n high := ⟨_, rfl⟩
  have hset : Within (fun _ => True) s w := hw ▸ s.landSet_within n high
  have hwarm : w.sys.arm = none := by rw [hw]; exact harm
  have hregs : w.regs = s.regs := by rw [hw]; rfl
  have hf (x : Fld) : w.f x = s.f x := by rw [State.f, State.reg, hregs, State.f, State.reg]
  have hmode : w.gdfMode n = s.gdfMode n := by rw [State.gdfMode, State.pairLeg, hf, hf]; rfl
  have hfault : w.gdfFault n = s.gdfFault n := by simp only [State.gdfFault, State.bitAt, hf]
  have hk := State.landDecoded_landKeeps hwarm n high (s.tbp - (s.gdf n).since)
  have heq : s.gdfChange n high = w.landDecoded n high (s.tbp - (s.gdf n).since) := hw ▸ State.gdfChange_eq hlow
  have hgdf : (s.gdfChange n high).gdf n = { low := !high, since := s.tbp } := by
    rw [heq, State.gdf, hk.gdf, ← State.gdf, hw, State.gdf_landSet]
  obtain ⟨hfrom, hto⟩ := lowFrom_bounds w n
  refine .onMain (t := s.gdfChange n high) hl rfl ⟨by rw [hgdf], by rw [hgdf], fun h1 => ?_, fun h2 hh hfl => ?_,
    fun h2 hh hfl hmin hmax => ?_, fun h2 hh hfl hshort => ?_, (heq ▸ hset.trans hk.within : Within _ s (s.gdfChange n high)).keepsMem⟩
  · have hplain : w.landDecoded n high (s.tbp - (s.gdf n).since) = w.gdfSet n (!high) := by
      simp only [State.landDecoded, hmode.trans h1]
    rw [heq, hplain]
    exact State.gdfFault_gdfSet hwarm n.isLt _
  · subst hh
    have hrelease : w.landDecoded n true (s.tbp - (s.gdf n).since) = w.gdfSet n false := by
      simp [State.landDecoded, hmode.trans h2, hfault.trans hfl]
    rw [heq, hrelease]
    exact State.gdfFault_gdfSet hwarm n.isLt _
  · subst hh
    rw [heq, State.landDecoded_coded (hmode.trans h2) (hfault.trans hfl), if_neg (by omega), if_pos hmax, ← hf]
    exact State.bsReport_shows n.val
  · subst hh
    rw [heq, State.landDecoded_coded (hmode.trans h2) (hfault.trans hfl), if_pos (by omega), hregs]

theorem gdfFaultAssert_answers (n : Fin 48) (hl : s.live = true) (harm : s.sys.arm = none) (hmode : s.gdfMode n = 2)
    (hlow : (s.gdf n).low = true) (hdue : (s.gdf n).since + 760 ≤ s.tbp) :
    Answers (.gdfFaultAssert n) s fun t => t.gdfFault n = true ∧ KeepsMem s t := by
  have heq : s.gdfAssert n = s.gdfSet n true := if_pos (by simp [hmode, hlow, hdue])
  exact .onMain (t := s.gdfAssert n) hl rfl (heq ▸ ⟨State.gdfFault_gdfSet harm n.isLt true,
    (State.gdfSet_landKeeps harm n true).within.keepsMem⟩)

/-! ### A stage of a turn-off (R199) -/

/-- The turn-off of pair m that is under way takes its lands low when it is due. -/
def State.softLow (s : State) (m : Nat) : State :=
  match (s.pair m).soft with
  | some t => if t ≤ s.tbp + s.unit then s.pairLow m else s
  | none => s

theorem State.softLow_switches {q : Nat → Prop} (hm : q m) (h : Switches q s t) : Switches q s (t.softLow m) := by
  unfold State.softLow
  split
  · exact .ite (State.pairLow_switches hm h) h
  · exact h

theorem State.softLow_of_due {a : Nat} (h : (s.pair m).soft = some a) (hdue : a ≤ s.tbp) : s.softLow m = s.pairLow m := by
  have hle : a ≤ s.tbp + s.unit := hdue.trans (Nat.le_add_right ..)
  simp only [State.softLow, h, hle, if_true]

/-- The pairs of a stage of a leg. -/
def State.stagePairs (s : State) (leg stage : Nat) : List Nat := s.pairsWhere fun m => s.pairLeg m = leg && s.stage m = stage

theorem State.softStage_eq (leg stage : Nat) : s.softStage leg stage = s.each (s.stagePairs leg stage) fun m v => v.softLow m := rfl

theorem State.mem_stagePairs {leg stage : Nat} : m ∈ s.stagePairs leg stage ↔
    m < 24 ∧ s.pairOn m = true ∧ s.pairLeg m = leg ∧ s.stage m = stage := by
  simp [State.stagePairs, State.pairsWhere, pairs24]

theorem State.softStage_switches (leg stage : Nat) : Switches (· ∈ s.stagePairs leg stage) s (s.softStage leg stage) :=
  (Switches.refl _ s).each fun _ hm _ hv => State.softLow_switches hm hv

/-- A pair whose stage is due is low after it, with no turn-off under way. -/
theorem State.softStage_low {leg stage a : Nat} (hm : m ∈ s.stagePairs leg stage) (h : (s.pair m).soft = some a) (hdue : a ≤ s.tbp) :
    (s.softStage leg stage).bothLow m ∧ ((s.softStage leg stage).pair m).soft = none := by
  have hother (i : Nat) (u : State) : Switches (· = i) u (u.softLow i) := State.softLow_switches rfl (.refl _ u)
  rw [State.softStage_eq]
  refine State.each_at (P := Switches (· ≠ m) s) (Q := fun u => u.bothLow m ∧ (u.pair m).soft = none) (List.nodup_range.filter _) hm
    (.refl _ s) (fun i _ hi u hu => State.softLow_switches hi hu) (fun u hu => ?_) fun i _ hi u hu => ?_
  · rw [State.softLow_of_due ((congrArg PairSt.soft (hu.pair m (fun k => k rfl))).trans h) (hu.tbp ▸ hdue)]
    exact ⟨u.pairLow_bothLow m, u.pairLow_soft m⟩
  · have hk := hother i u
    exact ⟨hu.1.of_keeps hk.toKeeps hi.symm, (congrArg PairSt.soft (hk.pair m hi.symm)).trans hu.2⟩

theorem softOffStage_answers (leg : Fin 16) (stage : Fin 4) (hl : s.live = true) : Answers (.softOffStage leg stage) s fun t =>
    (∀ m < 24, ∀ u, s.pairOn m = true → s.pairLeg m = leg → s.stage m = stage → (s.pair m).soft = some u → u ≤ s.tbp →
      (t.pair m).up = false ∧ (t.pair m).lo = false ∧ (t.pair m).soft = none) ∧
    (∀ m < 24, s.pairLeg m ≠ leg ∨ s.stage m ≠ stage → t.pair m = s.pair m) ∧ KeepsOut (fun o => o = 0x5080) s t := by
  have hk := s.softStage_switches leg.val stage.val
  refine .onMain (t := s.softStage leg stage) hl rfl ⟨fun m hm u hon hleg hstage hsoft hdue => ?_, fun m hm hne => ?_, hk.keepsOut⟩
  · obtain ⟨⟨hup, hlo⟩, hnone⟩ := State.softStage_low (State.mem_stagePairs.2 ⟨hm, hon, hleg, hstage⟩) hsoft hdue
    exact ⟨hup, hlo, hnone⟩
  · refine hk.pair m fun hmem => ?_
    obtain ⟨-, -, hleg, hstage⟩ := State.mem_stagePairs.1 hmem
    exact hne.elim (· hleg) (· hstage)

theorem gateDriveInputs : gateDriveInputsHolds := fun _ hl harm =>
  ⟨fun n high hlow => gdfLandChange_answers n high hl harm hlow,
    fun n hmode hlow hdue => gdfFaultAssert_answers n hl harm hmode hlow hdue, fun leg stage => softOffStage_answers leg stage hl⟩

/-- Settles O15: a window by what closes before it opens and what its use then moves, a land by its decoding, whose trips move no
land and no fault, and a stage by the turn-off of each of its pairs. -/
theorem atcAndGateDrive : Obligations.AtcAndGateDrive := ⟨atcWindows, gateDriveInputs⟩

end Sys2Proof.Machine
end

section
/-! PROOFS. The comparators (O17): where a threshold and a hysteresis may lie, and what a comparator shows once it has set its
outputs. -/

namespace Sys2Proof.Machine

variable {s t : State} {p : Nat → Prop} {n : Nat}

/-! ### Where the thresholds and the hysteresis lie (R243, R250, R654) -/

/-- A value that the spec leaves free lies between its bounds. -/
theorem State.within_bounds (q : Nat) {lo hi : Nat} (h : lo ≤ hi) : lo ≤ s.within q lo hi ∧ s.within q lo hi ≤ hi := by
  have hlt := Nat.mod_lt (Config.actual q (s.tbp + s.bvq.tbk)) (Nat.add_one_pos (hi - lo))
  unfold State.within
  omega

theorem codeSpan_bounds {l : List Nat} {c : Nat} (h : c ∈ l) : (codeSpan l).1 ≤ c ∧ c ≤ (codeSpan l).2 := by
  simp only [codeSpan, List.foldl_min, List.foldl_max]
  exact ⟨inf_le_of_right_le (List.min?_getD_le_of_mem h), le_sup_of_le_right (List.le_max?_getD_of_mem h)⟩

/-- One code at least is among those a DAC may stand at, so their span is not empty. -/
theorem State.codeSpan_dacCodes_le (n : Nat) (hi : Bool) :
    (codeSpan (s.dacCodes n hi)).1 ≤ (codeSpan (s.dacCodes n hi)).2 := by
  obtain ⟨hmin, hmax⟩ := codeSpan_bounds (l := s.dacCodes n hi)
    (List.mem_map_of_mem (List.mem_append_right _ (List.mem_singleton_self _)))
  exact hmin.trans hmax

/-- A greater code stands for a higher threshold (R236). -/
theorem State.cmpTh_mono (n : Nat) {a b : Nat} (h : a ≤ b) : s.cmpTh n a ≤ s.cmpTh n b := by
  unfold State.cmpTh
  split <;> omega

theorem State.cmpActual_bounds (n : Nat) (hi : Bool) :
    s.cmpTh n (codeSpan (s.dacCodes n hi)).1 - s.cmpErr n ≤ s.cmpActual n hi ∧
      s.cmpActual n hi ≤ s.cmpTh n (codeSpan (s.dacCodes n hi)).2 + s.cmpErr n := by
  have hmono := s.cmpTh_mono n (s.codeSpan_dacCodes_le n hi)
  obtain ⟨-, hle⟩ := s.within_bounds (100 + 2 * n + bit hi) (Nat.zero_le
    ((s.cmpTh n (codeSpan (s.dacCodes n hi)).2 - s.cmpTh n (codeSpan (s.dacCodes n hi)).1).toNat + 2 * s.cmpErr n))
  simp only [State.cmpActual]
  omega

theorem State.cmpActual_lt {hi : Bool} {x : Int} (h : cmpAbove s n hi x) : s.cmpActual n hi < x :=
  (s.cmpActual_bounds n hi).2.trans_lt h

theorem State.lt_cmpActual {hi : Bool} {x : Int} (h : cmpBelow s n hi x) : x < s.cmpActual n hi :=
  h.trans_le (s.cmpActual_bounds n hi).1

theorem hysBounds_le (h : Nat) : (hysBounds h).1 ≤ (hysBounds h).2 := by
  unfold hysBounds
  split
  · exact le_rfl
  · exact (Nat.sub_le ..).trans (Nat.le_add_right ..)

theorem State.cmpHysActual_bounds {h0 h1 : Nat} (h : hysBounds (s.cmpHys n).toNat = (h0, h1)) :
    (h0 : Int) ≤ s.cmpHysActual n ∧ s.cmpHysActual n ≤ h1 := by
  have hle := hysBounds_le (s.cmpHys n).toNat
  simp only [State.cmpHysActual, h] at hle ⊢
  exact_mod_cast s.within_bounds (160 + n) hle

/-! ### The outputs after an input (R238) -/

section
variable {vh vl h x : Int} {hi lo : Bool}

theorem cmpNext_hi_of_above (hx : vh < x) : (cmpNext vh vl h x hi lo).1 = true := if_pos hx

theorem cmpNext_hi_of_below (hh : 0 ≤ h) (hx : x < vh - h) : (cmpNext vh vl h x hi lo).1 = false :=
  (if_neg (by omega)).trans (if_pos hx)

theorem cmpNext_hi_of_band (hx : x ≤ vh) (hb : vh - h ≤ x) : (cmpNext vh vl h x hi lo).1 = hi :=
  (if_neg (by omega)).trans (if_neg (by omega))

theorem cmpNext_lo_of_below (hx : x < vl) : (cmpNext vh vl h x hi lo).2 = true := if_pos hx

theorem cmpNext_lo_of_above (hh : 0 ≤ h) (hx : vl + h < x) : (cmpNext vh vl h x hi lo).2 = false :=
  (if_neg (by omega)).trans (if_pos hx)

theorem cmpNext_lo_of_band (hx : vl ≤ x) (hb : x ≤ vl + h) : (cmpNext vh vl h x hi lo).2 = lo :=
  (if_neg (by omega)).trans (if_neg (by omega))

end

/-! ### What a comparator shows -/

/-- Comparator n shows these outputs and this readiness; of the memories nothing differs from the state s. -/
structure CmpShows (s : State) (n : Nat) (rdy hi lo : Bool) (t : State) : Prop where
  rdy : t.bitAt R.CMP_RDY_RDY n = rdy
  hi : t.bitAt R.CMP_STAT_HI n = hi
  lo : t.bitAt R.CMP_STAT2_LO n = lo
  within : Within (fun _ => True) s t

namespace CmpShows

variable {rdy hi lo : Bool}

/-- An operation that writes no register of the comparators' page leaves what they show. -/
theorem of_within {u : State} (h : CmpShows s n rdy hi lo t) (k : Within (fun o => ¬ inPage 8 o) t u) :
    CmpShows s n rdy hi lo u := by
  have hbit (x : Fld) (hx : inPage 8 x.off) : u.bitAt x n = t.bitAt x n := by
    rw [State.bitAt, State.f, k.reg _ (not_not_intro hx), ← State.f, ← State.bitAt]
  exact ⟨(hbit R.CMP_RDY_RDY rfl).trans h.rdy, (hbit R.CMP_STAT_HI rfl).trans h.hi, (hbit R.CMP_STAT2_LO rfl).trans h.lo,
    h.within.trans (k.mono fun _ _ => trivial)⟩

theorem produceStatus {u : State} (h : CmpShows s n rdy hi lo t) : CmpShows s n rdy hi lo (u.produceStatus t) :=
  h.of_within (State.produceStatus_within (fun k => absurd k (by decide : 0x301C / 0x1000 ≠ 8)) (.refl _ t))

end CmpShows

/-- What the trip source of comparator n moves lies outside the comparators' page. -/
theorem State.srcRaw_within_of_cmp (hn : n < 24) (harm : s.sys.arm = none) (on : Bool) :
    Within (fun o => ¬ inPage 8 o) s (s.srcRaw (16 + n) on) := by
  refine (s.rawShown_within _ on).trans (State.srcRaw_tripKeeps (fun o ho => ?_) (fun g hg => ?_) (fun g hg => ?_) ?_ on
    (.refl _ ((s.rawShown_arm _ on).trans harm))).within
  · unfold tripReg evReg at ho
    unfold inPage
    omega
  all_goals
    unfold inPage
    omega

theorem State.bitAt_setBit_of_off (x y : Fld) (h : y.off ≠ x.off) (i j : Nat) (b : Bool) :
    (s.setBit x i b).bitAt y j = s.bitAt y j := by
  rw [State.bitAt, State.f, State.setBit, State.reg_setF_ne x _ h, ← State.f, ← State.bitAt]

/-- Both outputs of comparator n are set, and the CMPO lands follow. -/
def State.outputsShown (s : State) (n : Nat) (hi lo : Bool) : State :=
  ((s.setBit R.CMP_STAT_HI n hi).setBit R.CMP_STAT2_LO n lo).showCmpo

theorem State.cmpSet_eq (n : Nat) (hi lo : Bool) :
    s.cmpSet n hi lo = (s.outputsShown n hi lo).srcRaw (16 + n) ((s.outputsShown n hi lo).cmpLevel n) := rfl

theorem State.showCmpo_within (s : State) : Within p s s.showCmpo := (Within.refl p s).same rfl rfl rfl rfl rfl rfl rfl

section
variable (hn : n < 24) (h : Within (fun _ => True) s t) {rdy : Bool} (hrdy : t.bitAt R.CMP_RDY_RDY n = rdy) (hi lo : Bool)
include hn h hrdy

theorem State.outputsShown_shows : CmpShows s n rdy hi lo (t.outputsShown n hi lo) := by
  have hset : CmpShows s n rdy hi lo ((t.setBit R.CMP_STAT_HI n hi).setBit R.CMP_STAT2_LO n lo) := by
    refine ⟨?_, ?_, State.bitAt_setBit_self R.CMP_STAT2_LO (by decide) hn lo,
      (h.setBit R.CMP_STAT_HI n hi trivial).setBit R.CMP_STAT2_LO n lo trivial⟩
    · rw [State.bitAt_setBit_of_off _ _ (by decide), State.bitAt_setBit_of_off _ _ (by decide), hrdy]
    · rw [State.bitAt_setBit_of_off _ _ (by decide)]
      exact State.bitAt_setBit_self R.CMP_STAT_HI (by decide) hn hi
  exact hset.of_within (State.showCmpo_within _)

/-- The trip source that follows the outputs moves none of them. -/
theorem State.cmpSet_shows (harm : t.sys.arm = none) : CmpShows s n rdy hi lo (t.cmpSet n hi lo) := by
  have harm' : (t.outputsShown n hi lo).sys.arm = none := harm
  rw [State.cmpSet_eq]
  exact (State.outputsShown_shows hn h hrdy hi lo).of_within (State.srcRaw_within_of_cmp hn harm' _)

end

/-! ### The commands -/

/-- The input of comparator n as last seen. -/
def State.inputSeen (s : State) (n : Nat) (x : Int) : State :=
  { s with cmp := { s.cmp with input := Tab.set (fun _ => 0) s.cmp.input n x } }

theorem State.inputSeen_within (n : Nat) (x : Int) : Within p s (s.inputSeen n x) :=
  (Within.refl p s).same rfl rfl rfl rfl rfl rfl rfl

/-- The outputs of comparator n after an input, between its actual thresholds and with its actual hysteresis. -/
def State.cmpFollowed (s : State) (n : Nat) (x : Int) : Bool × Bool :=
  cmpNext (s.cmpActual n true) (s.cmpActual n false) (s.cmpHysActual n) x (s.bitAt R.CMP_STAT_HI n) (s.bitAt R.CMP_STAT2_LO n)

/-- Its outputs as it decides without hysteresis. -/
def State.cmpDecided (s : State) (n : Nat) (x : Int) : Bool × Bool :=
  (decide (s.cmpActual n true < x), decide (x < s.cmpActual n false))

section
variable (n : Fin 24) (v : LandVolts) (hl : s.live = true) (harm : s.sys.arm = none) (hen : s.f (R.CMP_CFG_EN n) = 1)
include hen

theorem State.cmpChange_of_ready (hrdy : s.bitAt R.CMP_RDY_RDY n = true) : s.cmpChange n v.p v.q =
    (s.inputSeen n (s.cmpInput n v.p v.q)).cmpSet n (s.cmpFollowed n (s.cmpInput n v.p v.q)).1
      (s.cmpFollowed n (s.cmpInput n v.p v.q)).2 :=
  if_pos (by simp [State.on, hen, hrdy])

theorem State.cmpDecide_of_due (hrdy : s.bitAt R.CMP_RDY_RDY n = false)
    (hdue : Tab.get (fun _ => 0) s.cmp.decideAt n ≤ s.tbp + 40) : s.cmpDecide n v.p v.q =
      (s.setBit R.CMP_RDY_RDY n true).cmpSet n (s.cmpDecided n (s.cmpInput n v.p v.q)).1
        (s.cmpDecided n (s.cmpInput n v.p v.q)).2 :=
  if_pos (by simp [State.on, hen, hrdy, hdue])

include hl harm

/-- A comparator that has decided follows its input with hysteresis (R238). -/
theorem comparatorOutputChange_answers (hrdy : s.bitAt R.CMP_RDY_RDY n = true) : Answers (.comparatorOutputChange n v) s
    (CmpShows s n true (s.cmpFollowed n (s.cmpInput n v.p v.q)).1 (s.cmpFollowed n (s.cmpInput n v.p v.q)).2) := by
  refine .onStatus (t := s.cmpChange n v.p v.q) hl rfl (.produceStatus ?_)
  rw [State.cmpChange_of_ready n v hen hrdy]
  exact State.cmpSet_shows n.isLt (s.inputSeen_within n _) hrdy _ _ harm

/-- A comparator that has settled decides against its thresholds alone, and is ready (R241, R242). -/
theorem comparatorDecision_answers (hrdy : s.bitAt R.CMP_RDY_RDY n = false)
    (hdue : Tab.get (fun _ => 0) s.cmp.decideAt n ≤ s.tbp + 40) : Answers (.comparatorDecision n v) s
      (CmpShows s n true (s.cmpDecided n (s.cmpInput n v.p v.q)).1 (s.cmpDecided n (s.cmpInput n v.p v.q)).2) := by
  refine .onStatus (t := s.cmpDecide n v.p v.q) hl rfl (.produceStatus ?_)
  rw [State.cmpDecide_of_due n v hen hrdy hdue]
  exact State.cmpSet_shows n.isLt ((Within.refl _ s).setBit _ _ _ trivial)
    (State.bitAt_setBit_self R.CMP_RDY_RDY (by decide) n.isLt true) _ _ harm

end

/-- Settles O17: the actual thresholds and the actual hysteresis lie within the bounds that an input is compared with, and neither
the trip source nor the status that follow move an output. -/
theorem comparators : Obligations.Comparators := by
  rintro s n v x h0 h1 hl harm hen rfl hhys
  obtain ⟨hlow, hhigh⟩ := State.cmpHysActual_bounds hhys
  have hnonneg : 0 ≤ s.cmpHysActual n := (Int.natCast_nonneg h0).trans hlow
  constructor
  · intro hrdy
    obtain ⟨t, ht, hshow⟩ := comparatorOutputChange_answers n v hl harm hen hrdy
    refine ⟨t, ht, fun ha => ?_, fun hb => ?_, fun ha hb => ?_, fun hb => ?_, fun ha => ?_, fun hb ha => ?_,
      hshow.within.keepsMem⟩
    · exact hshow.hi.trans (cmpNext_hi_of_above (State.cmpActual_lt ha))
    · have := State.lt_cmpActual hb
      exact hshow.hi.trans (cmpNext_hi_of_below hnonneg (by omega))
    · have := State.cmpActual_lt ha
      exact hshow.hi.trans (cmpNext_hi_of_band (State.lt_cmpActual hb).le (by omega))
    · exact hshow.lo.trans (cmpNext_lo_of_below (State.lt_cmpActual hb))
    · have := State.cmpActual_lt ha
      exact hshow.lo.trans (cmpNext_lo_of_above hnonneg (by omega))
    · have := State.lt_cmpActual hb
      exact hshow.lo.trans (cmpNext_lo_of_band (State.cmpActual_lt ha).le (by omega))
  · intro hrdy hdue
    obtain ⟨t, ht, hshow⟩ := comparatorDecision_answers n v hl harm hen hrdy hdue
    exact ⟨t, ht, hshow.rdy, fun ha => hshow.hi.trans (decide_eq_true (State.cmpActual_lt ha)),
      fun hb => hshow.hi.trans (decide_eq_false (State.lt_cmpActual hb).asymm),
      fun hb => hshow.lo.trans (decide_eq_true (State.lt_cmpActual hb)),
      fun ha => hshow.lo.trans (decide_eq_false (State.cmpActual_lt ha).asymm), hshow.within.keepsMem⟩

end Sys2Proof.Machine
end

section
/-! PROOFS. The converter's sequences and lanes: what the end of a conversion leaves of the runs, and a conversion that samples
(O21, O22). -/

namespace Sys2Proof.Machine

variable {s t u : State} {p : Nat → Prop} {l : List Fld}

/-! ### Frames -/

theorem KeepsBut.trans (h : KeepsBut l s t) (k : KeepsBut l t u) : KeepsBut l s u :=
  ⟨⟨fun a => (k.mem a).trans (h.mem a), k.host.trans h.host, k.queue.trans h.queue, k.part.trans h.part⟩,
    fun o => (k.regs o).trans (h.regs o)⟩

theorem Within.keepsBut (h : Within (fun _ => False) s t) : KeepsBut l s t := ⟨h.keepsMem, fun o => by rw [h.reg o id]⟩

theorem Within.f (h : Within p s t) (x : Fld) (hx : ¬ p x.off) : t.f x = s.f x := congrArg x.get (h.reg _ hx)

theorem Within.word (h : Within p s t) (a : Nat) : t.word a = s.word a := by simp only [State.word, State.byte, h.mem]

theorem Within.tba (h : Within p s t) : t.tba = s.tba := by rw [State.tba, h.tbp, State.tba]

theorem Within.live (h : Within p s t) : t.live = s.live := by rw [State.live, h.power, State.live]

theorem MovesAdc.keepsBut (h : MovesAdc s t) : KeepsBut l s t := h.within.keepsBut

theorem Within.seqOn (h : Within p s t) (hp : ∀ o, o < 0x908C → ¬ p o) (q : Nat) : t.seqOn q = s.seqOn q := by
  match q with
  | 0 => simp only [State.seqOn, State.on, h.f R.ADC_REG_CFG_EN (hp _ (by decide))]
  | 1 => simp only [State.seqOn, State.on, h.f R.ADC_INJ_CFG_EN (hp _ (by decide))]
  | _ + 2 => simp only [State.seqOn, h.f R.ADC_MON_CFG_MODE (hp _ (by decide))]

theorem State.laneDead_congr {k : Nat} (hs : (t.lane k).slice = (s.lane k).slice)
    (hf : t.f R.ADC_SLFAIL_FAIL = s.f R.ADC_SLFAIL_FAIL) : t.laneDead k = s.laneDead k := by
  rw [State.laneDead, hs, State.bitAt, hf, State.laneDead, State.bitAt]

@[simp] theorem State.wres_adc (off : Nat) (st : Status) : (s.wres off st).adc = s.adc := by
  rw [State.wres]
  split <;> rfl

theorem Recorded.produceStatus {off : Nat} {st : Status} (h : Recorded off st s t) : Recorded off st s (u.produceStatus t) :=
  ⟨(State.f_produceStatus _ (by decide)).trans h.status, (State.f_produceStatus _ (by decide)).trans h.ofs,
    (State.f_produceStatus _ (by decide)).trans h.cnt⟩

/-- Nothing is produced at crossing 7 where no register has changed that it carries. -/
theorem Within.produceStatus_eq (h : Within p s t) (hp : ∀ o ∈ status7, ¬ p o) : s.produceStatus t = t :=
  State.produceStatus_of_reg fun o ho => h.reg o (hp o ho)

/-! ### The sequences -/

@[simp] theorem State.adcSeq_setSeq_self (q : Nat) (x : SeqSt) : (s.setSeq q x).adcSeq q = x := by
  match q with
  | 0 | 1 | _ + 2 => rfl

theorem State.adcSeq_setSeq_ne {q j : Nat} (x : SeqSt) (hq : q < 3) (hj : j < 3) (h : j ≠ q) :
    (s.setSeq q x).adcSeq j = s.adcSeq j := by
  match q, j with
  | 0, 1 | 0, 2 | 1, 0 | 1, 2 | 2, 0 | 2, 1 => rfl
  | 0, 0 | 1, 1 | 2, 2 => exact absurd rfl h

/-- The sequences of the converter's own state. -/
theorem State.adcSeq_congr (hr : t.adc.reg = s.adc.reg) (hi : t.adc.inj = s.adc.inj) (hm : t.adc.mon = s.adc.mon) (q : Nat) :
    t.adcSeq q = s.adcSeq q := by
  match q with
  | 0 => exact hr
  | 1 => exact hi
  | _ + 2 => exact hm

theorem State.adcSeq_of_adc (h : t.adc = s.adc) (q : Nat) : t.adcSeq q = s.adcSeq q :=
  State.adcSeq_congr (by rw [h]) (by rw [h]) (by rw [h]) q

theorem State.adcSeq_produceStatus (q : Nat) : (s.produceStatus t).adcSeq q = t.adcSeq q := State.adcSeq_of_adc State.produceStatus_adc q

theorem State.setSeq_moves (q : Nat) (x : SeqSt) : MovesAdc s (s.setSeq q x) := by
  match q with
  | 0 | 1 | _ + 2 => exact ⟨_, rfl⟩

@[simp] theorem State.lane_setSeq (q : Nat) (x : SeqSt) (k : Nat) : (s.setSeq q x).lane k = s.lane k := by
  match q with
  | 0 | 1 | _ + 2 => rfl

/-- No run has begun and no trigger has come: each sequence has the count, the start edge and the last trigger it had. -/
structure SameRuns (s t : State) : Prop where
  runs : ∀ q, (t.adcSeq q).runs = (s.adcSeq q).runs
  edge : ∀ q, (t.adcSeq q).edge = (s.adcSeq q).edge
  last : ∀ q, (t.adcSeq q).last = (s.adcSeq q).last

namespace SameRuns

theorem refl (s : State) : SameRuns s s := ⟨fun _ => rfl, fun _ => rfl, fun _ => rfl⟩

theorem trans (h : SameRuns s t) (k : SameRuns t u) : SameRuns s u :=
  ⟨fun q => (k.runs q).trans (h.runs q), fun q => (k.edge q).trans (h.edge q), fun q => (k.last q).trans (h.last q)⟩

/-- A change outside the converter's sequences. -/
theorem same (h : SameRuns s t) (hr : u.adc.reg = t.adc.reg) (hi : u.adc.inj = t.adc.inj) (hm : u.adc.mon = t.adc.mon) :
    SameRuns s u := by
  have hq := State.adcSeq_congr hr hi hm
  exact h.trans ⟨fun q => by rw [hq], fun q => by rw [hq], fun q => by rw [hq]⟩

/-- A change of a sequence that leaves its run as it is. -/
theorem setSeq (h : SameRuns s t) (q : Nat) (x : SeqSt) (hr : x.runs = (t.adcSeq q).runs) (he : x.edge = (t.adcSeq q).edge)
    (hl : x.last = (t.adcSeq q).last) : SameRuns s (t.setSeq q x) := by
  have hj : ∀ j, (t.setSeq q x).adcSeq j = t.adcSeq j ∨ (t.setSeq q x).adcSeq j = x ∧ t.adcSeq j = t.adcSeq q := fun j => by
    match q, j with
    | 0, 0 | 1, 1 | _ + 2, _ + 2 => exact .inr ⟨rfl, rfl⟩
    | 0, 1 | 0, _ + 2 | 1, 0 | 1, _ + 2 | _ + 2, 0 | _ + 2, 1 => exact .inl rfl
  refine h.trans ⟨fun j => ?_, fun j => ?_, fun j => ?_⟩
  all_goals
    rcases hj j with e | ⟨e, e'⟩
    · rw [e]
    · rw [e, e']
      assumption

theorem ite {c : Prop} [Decidable c] (ht : SameRuns s t) (hu : SameRuns s u) : SameRuns s (if c then t else u) := by
  split <;> assumption

theorem of_adc (h : SameRuns s t) (k : u.adc = t.adc) : SameRuns s u := h.same (by rw [k]) (by rw [k]) (by rw [k])

theorem posted (h : SameRuns s t) (k : Posted t u) : SameRuns s u := h.of_adc k.adc

theorem setF (h : SameRuns s t) (x : Fld) (n : Nat) : SameRuns s (t.setF x n) := h.same rfl rfl rfl

theorem latest (h : SameRuns s t) (x : Tab Word) : SameRuns s { t with adc := { t.adc with latest := x } } := h.same rfl rfl rfl

theorem setLane (h : SameRuns s t) (k : Nat) (x : LaneSt) : SameRuns s (t.setLane k x) := h.same rfl rfl rfl

theorem overrun (h : SameRuns s t) (x : Nat) : SameRuns s (t.overrun x) := by
  unfold State.overrun
  exact h.ite ((h.setF ..).posted (State.post_posted ..))

theorem foldl {α : Type} {as : List α} {g : State → α → State} (h : SameRuns s t) (hg : ∀ u a, SameRuns u (g u a)) :
    SameRuns s (as.foldl g t) := by
  induction as generalizing t with
  | nil => exact h
  | cons a as ih => exact ih (h.trans (hg t a))

end SameRuns

/-! ### The end of a run (R277, R294, R593) -/

theorem State.meterSample_adc : s.meterSample.adc = s.adc := by
  have htake (i : Nat) (w v : Word) (t : State) : (t.mtrTake i w v).adc = t.adc := by
    unfold State.mtrTake State.mtrMark State.count
    dsimp only
    repeat' split
    all_goals rfl
  have hfold (as : List Nat) (t : State) : (as.foldl (fun s i =>
      let a := 0x1F000 + 512 * s.f R.ADC_REG_CFG_BUF + 8 * s.mtrEntry i
      s.mtrTake i (s.word a) (s.word (a + 4))) t).adc = t.adc := by
    induction as generalizing t with
    | nil => rfl
    | cons i as ih => exact (ih _).trans (htake ..)
  have hfollow : s.mtrFollow.adc = s.adc := by
    unfold State.mtrFollow
    split <;> rfl
  unfold State.meterSample
  dsimp only
  split
  · exact hfollow
  · exact (hfold _ _).trans hfollow

/-- The material of a run joins the records being collected, or is written as a record. -/
theorem State.packRun_posted (q : Nat) : ∃ r, Posted { s with adc := { s.adc with pack := r } } (s.packRun q) := by
  unfold State.packRun
  dsimp only
  split
  · exact ⟨s.adc.pack, .refl s⟩
  · split
    · exact ⟨_, State.capture_posted ..⟩
    · exact ⟨_, .refl _⟩

theorem State.setWords_adc (a : Nat) (ws : List Word) : (s.setWords a ws).adc = s.adc := by
  induction ws generalizing s a with
  | nil => rfl
  | cons w ws ih => exact ih _

/-- The end of a run begins no other, and leaves the lanes. -/
theorem State.endRun_keeps (q : Nat) : SameRuns s (s.endRun q) ∧ (s.endRun q).adc.lanes = s.adc.lanes := by
  have hset {t : State} (h : SameRuns s t) (hl : t.adc.lanes = s.adc.lanes) (x : SeqSt) (hr : x.runs = (t.adcSeq q).runs)
      (he : x.edge = (t.adcSeq q).edge) (hx : x.last = (t.adcSeq q).last) :
      SameRuns s (t.setSeq q x).showRun ∧ (t.setSeq q x).showRun.adc.lanes = s.adc.lanes := by
    refine ⟨(h.setSeq q x hr he hx).setF .., ?_⟩
    match q with
    | 0 | 1 | _ + 2 => exact hl
  unfold State.endRun
  extract_lets +onlyGivenNames x busy walking
  split
  · exact ⟨.refl s, rfl⟩
  · split
    next hq => exact hq ▸ hset (.refl s) rfl { x with running := false } rfl rfl rfl
    next =>
      extract_lets v1 v2 v3
      obtain ⟨r, hr⟩ := State.packRun_posted (s := v1) q
      have hadc : v3.adc = { s.adc with pack := r } := by
        have hv3 : v3.adc = v2.adc := by
          dsimp only [v3]
          split
          · exact State.meterSample_adc
          · rfl
        rw [hv3, hr.adc, State.setWords_adc]
      refine hset (SameRuns.same (.refl s) ?_ ?_ ?_) ?_ _ rfl rfl rfl
      all_goals rw [hadc]

/-! ### The end of a conversion (R289 to R297) -/

/-- A result that is stored, lost or captured begins no run. -/
theorem State.result_sameRuns (k : Nat) (c : Conv) (val : Nat) (ovr flt : Bool) : SameRuns s (s.result k c val ovr flt) := by
  unfold State.result
  extract_lets w0 w1 flg v1 x v2 room missed y stored z v3
  have h1 : SameRuns s v1 := .ite (.setF (.refl s) ..) (.refl s)
  have h2 : SameRuns s v2 := .ite h1 (h1.setSeq c.seq _ rfl rfl rfl)
  have hmissed : SameRuns s missed := .ite (h2.setF ..) ((h2.setF ..).overrun 5)
  have hstored : SameRuns s stored := h2.of_adc (State.setWords_adc ..)
  have h3 : SameRuns s v3 :=
    .ite h2 (.ite (.ite (hmissed.setF ..) (hmissed.setSeq c.seq _ rfl rfl rfl)) (.ite (hstored.latest _) hstored))
  exact .ite (h3.posted (State.capture_posted ..)) h3

/-! ### Lanes that move -/

/-- Lanes have switched or sampled and entries of the regular run have been planned or taken off it; no slice has changed its lane,
and nothing else has changed. -/
structure LanesMove (s t : State) : Prop where
  slice : ∀ k, (t.lane k).slice = (s.lane k).slice
  eq : ∃ lanes todo, t = { s with adc := { s.adc with lanes := lanes, reg := { s.adc.reg with todo := todo } } }

namespace LanesMove

theorem refl (s : State) : LanesMove s s := ⟨fun _ => rfl, s.adc.lanes, s.adc.reg.todo, rfl⟩

theorem trans (h : LanesMove s t) (k : LanesMove t u) : LanesMove s u := by
  obtain ⟨_, _, ht⟩ := h.eq
  obtain ⟨a, b, hu⟩ := k.eq
  exact ⟨fun j => (k.slice j).trans (h.slice j), a, b, by rw [hu, ht]⟩

theorem setLane (h : LanesMove s t) (k : Nat) (x : LaneSt) (hx : x.slice = (t.lane k).slice) : LanesMove s (t.setLane k x) := by
  refine h.trans ⟨fun j => ?_, _, t.adc.reg.todo, rfl⟩
  by_cases hj : j = k
  · rw [hj, State.lane_setLane_self, hx]
  · rw [State.lane_setLane_ne x hj]

/-- The entries of the regular run that are still planned are others. -/
theorem plan (h : LanesMove s t) (todo : List Conv) : LanesMove s (t.setSeq 0 { t.adc.reg with todo := todo }) :=
  h.trans ⟨fun _ => rfl, t.adc.lanes, todo, rfl⟩

theorem foldl {α : Type} {as : List α} {g : State → α → State} (h : LanesMove s t)
    (hg : ∀ a ∈ as, ∀ u, LanesMove s u → LanesMove s (g u a)) : LanesMove s (as.foldl g t) := by
  induction as generalizing t with
  | nil => exact h
  | cons a as ih => exact ih (hg a (by simp) t h) fun b hb => hg b (by simp [hb])

theorem moves (h : LanesMove s t) : MovesAdc s t := by
  obtain ⟨_, _, rfl⟩ := h.eq
  exact ⟨_, rfl⟩

theorem showRun (h : LanesMove s t) : LanesMove s.showRun t.showRun := by
  obtain ⟨lanes, todo, ht⟩ := h.eq
  exact ⟨h.slice, lanes, todo, by rw [ht]; rfl⟩

theorem sameRuns (h : LanesMove s t) : SameRuns s t := by
  obtain ⟨lanes, todo, rfl⟩ := h.eq
  exact (SameRuns.setSeq (.refl s) 0 { s.adc.reg with todo := todo } rfl rfl rfl).same rfl rfl rfl

theorem laneDead (h : LanesMove s t) (k : Nat) : t.laneDead k = s.laneDead k :=
  State.laneDead_congr (h.slice k) (h.moves.f _)

end LanesMove

/-- A lane that changes in other respects has the conversion it had. -/
theorem State.conv_setLane (k : Nat) (x : LaneSt) (h : x.conv = (s.lane k).conv) (j : Nat) :
    ((s.setLane k x).lane j).conv = (s.lane j).conv := by
  by_cases hj : j = k
  · rw [hj, State.lane_setLane_self, h]
  · rw [State.lane_setLane_ne x hj]

/-- Lanes without a conversion may select another channel (R262). -/
theorem State.park_keeps : LanesMove s s.park ∧ ∀ k, (s.park.lane k).conv = (s.lane k).conv := by
  refine State.each_ind (P := fun u => LanesMove s u ∧ ∀ k, (u.lane k).conv = (s.lane k).conv) ⟨.refl s, fun _ => rfl⟩
    fun k _ u hu => ?_
  obtain ⟨hm, hc⟩ := hu
  dsimp only
  split
  · split
    · exact ⟨hm, hc⟩
    · exact ⟨hm.setLane k _ rfl, fun j => (State.conv_setLane k _ (by rfl) j).trans (hc j)⟩
  · exact ⟨hm, hc⟩

/-- The lane of a conversion that has ended is free, and no run has begun. -/
theorem State.finish_keeps (k : Nat) (c : Conv) (val : Nat) (ovr flt : Bool) :
    SameRuns s (s.finish k c val ovr flt) ∧ ((s.finish k c val ovr flt).lane k).conv = none := by
  obtain ⟨hruns, hlanes⟩ := State.endRun_keeps (s := (s.result k c val ovr flt).setLane k { s.lane k with conv := none }) c.seq
  refine ⟨((State.result_sameRuns ..).setLane ..).trans (hruns.trans State.park_keeps.1.sameRuns), ?_⟩
  rw [State.finish, State.park_keeps.2, State.lane, hlanes, ← State.lane, State.lane_setLane_self]

/-! ### A conversion that samples (R271, R282, R291) -/

/-- What a planned conversion holds once it has sampled. -/
def State.sampled (s : State) (c : Conv) : Conv :=
  { c with at_ := s.tba, pt := s.ptAt (2 * s.tba), diff := s.chDiff c.ch, flt := s.chDead c.ch,
           dac := s.dacLevel ((c.ch - 64) / 2) (c.ch % 2 = 0), moved := s.cmpMoving ((c.ch - 64) / 2) }

/-- On a working slice a conversion is in progress once it has sampled. -/
theorem State.sample_of_alive {k : Nat} (c : Conv) (h : s.laneDead k = false) :
    LanesMove s (s.sample k c) ∧ ((s.sample k c).lane k).conv = some (s.sampled c) := by
  have hlast : LanesMove s (s.setLane k { s.lane k with lastSeq := some c.seq }) := (LanesMove.refl s).setLane k _ rfl
  unfold State.sample
  extract_lets n d x v y
  have hv : v.laneDead k = false := (hlast.laneDead k).trans h
  rw [if_neg (by simp [hv])]
  exact ⟨hlast.setLane k _ rfl, congrArg LaneSt.conv (State.lane_setLane_self ..)⟩

theorem State.sample_sameRuns (k : Nat) (c : Conv) : SameRuns s (s.sample k c) := by
  unfold State.sample
  extract_lets n d x v y
  have hv : SameRuns s v := SameRuns.setLane (.refl s) ..
  exact .ite (hv.trans (State.finish_keeps ..).1) (hv.setLane ..)

theorem State.unplan_sameRuns (c : Conv) : SameRuns s (s.unplan c) := SameRuns.setSeq (.refl s) c.seq _ rfl rfl rfl

theorem State.unplan_moves (c : Conv) : MovesAdc s (s.unplan c) := State.setSeq_moves ..

end Sys2Proof.Machine
end

section
/-! PROOFS. The triggers of the converter (O21): how the run of each sequence begins, what a trigger does, and the software
triggers one after another. -/

namespace Sys2Proof.Machine

variable {s t u : State} {p : Nat → Prop} {q : Nat}

/-! ### A run that begins (R276 to R278, R287) -/

/-- Of a sequence what its triggers follow: whether it runs and has one queued, its count, its start edge and its last trigger. -/
def SeqSt.head (x : SeqSt) : SeqSt := { running := x.running, queued := x.queued, runs := x.runs, edge := x.edge, last := x.last }

theorem SeqSt.running_of_head {x y : SeqSt} (h : x.head = y.head) : x.running = y.running := (congrArg SeqSt.running h :)
theorem SeqSt.queued_of_head {x y : SeqSt} (h : x.head = y.head) : x.queued = y.queued := (congrArg SeqSt.queued h :)
theorem SeqSt.runs_of_head {x y : SeqSt} (h : x.head = y.head) : x.runs = y.runs := (congrArg SeqSt.runs h :)
theorem SeqSt.last_of_head {x y : SeqSt} (h : x.head = y.head) : x.last = y.last := (congrArg SeqSt.last h :)

theorem LanesMove.head (h : LanesMove s t) (q : Nat) : (t.adcSeq q).head = (s.adcSeq q).head := by
  obtain ⟨lanes, todo, rfl⟩ := h.eq
  match q with
  | 0 | 1 | _ + 2 => rfl

/-- A run of sequence q has begun at the present edge, and is in progress; no other sequence has begun or ended one, no lane has
another slice, and of the registers `ADC_STAT.RUN` alone has changed. -/
structure Begins (q : Nat) (s t : State) : Prop where
  own : (t.adcSeq q).head =
    { (s.adcSeq q).head with running := true, queued := false, runs := (s.adcSeq q).runs + 1, edge := s.tba }
  others : ∀ j < 3, j ≠ q → (t.adcSeq j).head = (s.adcSeq j).head
  slice : ∀ k, (t.lane k).slice = (s.lane k).slice
  keeps : ∀ l, R.ADC_STAT_RUN ∈ l → KeepsBut l s t
  within : Within (· = 0x9090) s t
  cal : t.f R.ADC_STAT_CALOK = s.f R.ADC_STAT_CALOK

namespace Begins

/-- The run's record stands, and shows. -/
theorem of_setSeq (hq : q < 3) {x : SeqSt} (hx : x.head =
    { (s.adcSeq q).head with running := true, queued := false, runs := (s.adcSeq q).runs + 1, edge := s.tba }) :
    Begins q s (s.setSeq q x).showRun where
  own := (congrArg SeqSt.head (State.adcSeq_setSeq_self q x)).trans hx
  others j hj hne := congrArg SeqSt.head (State.adcSeq_setSeq_ne x hq hj hne)
  slice k := congrArg LaneSt.slice (State.lane_setSeq q x k)
  keeps _ hl := (State.setSeq_moves q x).keepsBut.setF _ hl (by decide) _
  within := (State.setSeq_moves q x).within.setF _ _ rfl
  cal := (State.f_setF_ne _ _ (by decide) (by decide) _).trans ((State.setSeq_moves q x).f _)

/-- A change of the converter's own state that no trigger follows. -/
theorem step (h : Begins q s t) (hm : MovesAdc t u) (hh : ∀ j, (u.adcSeq j).head = (t.adcSeq j).head)
    (hs : ∀ k, (u.lane k).slice = (t.lane k).slice) : Begins q s u :=
  ⟨(hh q).trans h.own, fun j hj hne => (hh j).trans (h.others j hj hne), fun k => (hs k).trans (h.slice k),
    fun l hl => (h.keeps l hl).trans hm.keepsBut, h.within.trans hm.within, (hm.f _).trans h.cal⟩

theorem running (h : Begins q s t) : (t.adcSeq q).running = true := (congrArg SeqSt.running h.own :)
theorem queued (h : Begins q s t) : (t.adcSeq q).queued = false := (congrArg SeqSt.queued h.own :)
theorem runs (h : Begins q s t) : (t.adcSeq q).runs = (s.adcSeq q).runs + 1 := (congrArg SeqSt.runs h.own :)
theorem edge (h : Begins q s t) : (t.adcSeq q).edge = s.tba := (congrArg SeqSt.edge h.own :)
theorem last (h : Begins q s t) : (t.adcSeq q).last = (s.adcSeq q).last := (congrArg SeqSt.last h.own :)

theorem laneDead (h : Begins q s t) (k : Nat) : t.laneDead k = s.laneDead k :=
  State.laneDead_congr (h.slice k) (h.within.f _ (by decide))

theorem lanesMove (h : Begins q s t) (k : LanesMove t u) : Begins q s u := h.step k.moves k.head k.slice

theorem park (h : Begins q s t) : Begins q s t.park := h.lanesMove State.park_keeps.1

end Begins

/-- The record of a regular run that begins, with the entries it plans. -/
def State.regularRecord (s : State) (todo : List Conv) : SeqSt :=
  { s.adc.reg with running := true, queued := false, runs := s.adc.reg.runs + 1, edge := s.tba, edgePt := s.ptAt (2 * s.tba),
                   todo := todo, loss := false, vals := [], flg := 0 }

/-- What the first entry of a lane does at the start edge: it waits for an injected entry, samples, or is deferred (R272, R273). -/
def State.startEntry (held : Nat → Bool) (s : State) (c : Conv) : State :=
  if held c.lane then s
  else if s.laneReady c.lane c.ch then (s.unplan c).sample c.lane c
  else s.setSeq 0 { s.adc.reg with todo := s.adc.reg.todo.map fun d => if d = c then { c with dfr := true } else d }

theorem mem_firsts {c : Conv} {as : List Conv} : c ∈ firsts as ↔ ∃ k < 16, as.find? (·.lane = k) = some c := by
  simp only [firsts, lanes16, List.mem_filterMap, List.mem_range]

theorem mem_of_mem_firsts {c : Conv} {as : List Conv} (h : c ∈ firsts as) : c ∈ as ∧ c.lane < 16 := by
  obtain ⟨k, hk, hc⟩ := mem_firsts.1 h
  have hlane : c.lane = k := by simpa using List.find?_some hc
  exact ⟨List.mem_of_find?_eq_some hc, hlane ▸ hk⟩

theorem State.entries_regular {c : Conv} (h : c ∈ s.entries 0) : c.seq = 0 := by
  simp only [State.entries, if_true, List.mem_map] at h
  obtain ⟨e, _, rfl⟩ := h
  rfl

/-- A regular run begins with its record; then the first entry of each lane takes its turn. -/
theorem State.startRegular_eq (queued : Bool) : ∃ (todo cs : List Conv) (held : Nat → Bool),
    (∀ c ∈ cs, c.seq = 0 ∧ c.lane < 16) ∧
      s.startRegular queued = cs.foldl (State.startEntry held) (s.setSeq 0 (s.regularRecord todo)).showRun.park := by
  unfold State.startRegular
  extract_lets held x runs todo v1 v2
  refine ⟨todo, firsts todo, held, fun c hc => ?_, rfl⟩
  obtain ⟨hmem, hlane⟩ := mem_of_mem_firsts hc
  obtain ⟨d, hd, rfl⟩ := List.mem_map.1 hmem
  exact ⟨(State.entries_regular hd : d.seq = 0), hlane⟩

theorem State.startEntry_sameRuns (held : Nat → Bool) (c : Conv) : SameRuns s (s.startEntry held c) := by
  unfold State.startEntry
  exact .ite (.refl s) (.ite ((State.unplan_sameRuns c).trans (State.sample_sameRuns ..)) (SameRuns.setSeq (.refl s) 0 _ rfl rfl rfl))

theorem State.startEntry_lanesMove (held : Nat → Bool) {c : Conv} (hc : c.seq = 0) (h : s.laneDead c.lane = false) :
    LanesMove s (s.startEntry held c) := by
  unfold State.startEntry
  split
  · exact .refl s
  · split
    · have hu : LanesMove s (s.unplan c) := by
        rw [State.unplan, hc]
        exact (LanesMove.refl s).plan _
      exact hu.trans (State.sample_of_alive c ((hu.laneDead _).trans h)).1
    · exact (LanesMove.refl s).plan _

theorem State.startRegular_begins (queued : Bool) (h : ∀ k < 16, s.laneDead k = false) : Begins 0 s (s.startRegular queued) := by
  obtain ⟨todo, cs, held, hcs, heq⟩ := s.startRegular_eq queued
  have hbase : Begins 0 s (s.setSeq 0 (s.regularRecord todo)).showRun.park := (Begins.of_setSeq (by decide) rfl).park
  rw [heq]
  refine hbase.lanesMove ((LanesMove.refl _).foldl fun c hc u hu => ?_)
  obtain ⟨hseq, hlane⟩ := hcs c hc
  refine hu.trans (State.startEntry_lanesMove held hseq ?_)
  rw [hu.laneDead, hbase.laneDead, h _ hlane]

/-- An injected run begins with its record; regular conversions on its lanes give way (R280 to R283). -/
theorem State.startInjected_begins (queued : Bool) : Begins 1 s (s.startInjected queued) := by
  unfold State.startInjected
  extract_lets x runs todo claimed v1 r v2 v3
  have hclaim : LanesMove v1 v3 := by
    refine State.each_ind (P := LanesMove v1) ((LanesMove.refl v1).plan _) fun k _ u hu => ?_
    dsimp only
    split
    · split
      · exact (hu.plan _).setLane _ _ rfl
      · exact hu
    · exact hu
  exact ((Begins.of_setSeq (by decide) rfl).lanesMove hclaim.showRun).park

/-- A walk begins with its record, its pointer and its delay (R287, R288). -/
theorem State.startWalk_begins (queued : Bool) : Begins 2 s (s.startWalk queued) := by
  unfold State.startWalk
  extract_lets x v
  have hv : Begins 2 s v.showRun := .of_setSeq (by decide) rfl
  refine (hv.step ?_ (fun j => ?_) fun _ => ?_).park
  · exact ⟨_, rfl⟩
  · exact congrArg SeqSt.head (State.adcSeq_congr rfl rfl rfl j)
  · rfl

theorem State.startRun_begins (hq : q < 3) (queued : Bool) (h : ∀ k < 16, s.laneDead k = false) : Begins q s (s.startRun q queued) := by
  match q with
  | 0 => exact State.startRegular_begins queued h
  | 1 => exact State.startInjected_begins queued
  | 2 => exact State.startWalk_begins queued

/-- A regular run keeps its record, even where a failed slice ends its conversions at once (R270). -/
theorem State.startRegular_sameRuns (queued : Bool) : ∃ t, Begins 0 s t ∧ SameRuns t (s.startRegular queued) := by
  obtain ⟨todo, cs, held, -, heq⟩ := s.startRegular_eq queued
  have hbase : Begins 0 s (s.setSeq 0 (s.regularRecord todo)).showRun.park := (Begins.of_setSeq (by decide) rfl).park
  exact ⟨_, hbase, heq ▸ SameRuns.foldl (.refl _) fun u c => u.startEntry_sameRuns held c⟩

/-- A run that begins is the next of its count and has the present edge, whatever the slices do. -/
theorem State.startRun_sameRuns (hq : q < 3) (queued : Bool) : ∃ t, Begins q s t ∧ SameRuns t (s.startRun q queued) := by
  match q with
  | 0 => exact s.startRegular_sameRuns queued
  | 1 => exact ⟨_, s.startInjected_begins queued, .refl _⟩
  | 2 => exact ⟨_, s.startWalk_begins queued, .refl _⟩

/-- A run started from a state that differs from s in no register and no slice. -/
theorem runStarted_of_startRun (hq : q < 3) (queued : Bool) (hw : Within (fun _ => False) s t)
    (hr : (t.adcSeq q).runs = (s.adcSeq q).runs) (hs : ∀ k, (t.lane k).slice = (s.lane k).slice) :
    runStarted q s (s.produceStatus (t.startRun q queued)) := by
  obtain ⟨v, hv, hsame⟩ := t.startRun_sameRuns hq queued
  obtain ⟨hpend, hpart⟩ := (t.startRun_keepsQueue q queued).trans (s.produceStatus_keepsQueue (t.startRun q queued))
  have hseq : (s.produceStatus (t.startRun q queued)).adcSeq q = (t.startRun q queued).adcSeq q := State.adcSeq_produceStatus q
  refine ⟨hseq ▸ (hsame.runs q).trans (hv.runs.trans (by rw [hr])), hseq ▸ (hsame.edge q).trans (hv.edge.trans hw.tba),
    hpend.trans hw.pending, hpart.trans hw.part, fun halive => ?_⟩
  have hbegin : Begins q t (t.startRun q queued) := State.startRun_begins hq queued fun k hk =>
    (State.laneDead_congr (hs k) (hw.f _ id)).trans (halive k hk)
  have hkeep : KeepsBut (R.ADC_STAT_RUN :: xdc7) s (t.startRun q queued) := hw.keepsBut.trans (hbegin.keeps _ (List.mem_cons_self ..))
  exact ⟨hseq ▸ hbegin.running, hseq ▸ hbegin.queued,
    hkeep.produceStatus (List.subset_cons_self ..)⟩

/-! ### What a trigger does (R264, R276, R277) -/

/-- The edge of a trigger is noted: a second one at the same edge is the same trigger. -/
def State.noted (s : State) (q : Nat) : State := s.setSeq q { s.adcSeq q with last := some s.tba }

theorem State.noted_moves (q : Nat) : MovesAdc s (s.noted q) := State.setSeq_moves ..

theorem State.noted_within (h : MovesCrossings s t) : Within p s (t.noted q) := h.within.trans (State.noted_moves q).within

@[simp] theorem State.adcSeq_noted_self (q : Nat) : (s.noted q).adcSeq q = { s.adcSeq q with last := some s.tba } :=
  State.adcSeq_setSeq_self ..

theorem State.adcSeq_noted_ne {j : Nat} (hq : q < 3) (hj : j < 3) (h : j ≠ q) : (s.noted q).adcSeq j = s.adcSeq j :=
  State.adcSeq_setSeq_ne _ hq hj h

theorem State.slice_noted (k : Nat) : ((s.noted q).lane k).slice = (s.lane k).slice := congrArg LaneSt.slice (State.lane_setSeq ..)

theorem State.trigger_of_same (h : s.seqOn q = false ∨ (s.adcSeq q).last = some s.tba) : s.trigger q = s := by
  refine if_pos ?_
  rcases h with h | h <;> simp [h]

section
variable (hl : s.live = true) (hon : s.seqOn q = true) (hlast : (s.adcSeq q).last ≠ some s.tba)
include hl hon hlast

/-- A new trigger is noted; before calibration it is counted, then it starts a run, waits or is dropped. -/
theorem State.trigger_eq : s.trigger q =
    if s.f R.ADC_STAT_CALOK = 0 then (s.noted q).count R.ADC_DROP_EARLY 1
    else if q = 2 ∧ s.f R.ADC_MON_CFG_MODE = 1 then (s.noted q).startWalk false
    else if (s.adcSeq q).running = false ∧ (s.adcSeq q).queued = false then (s.noted q).startRun q false
    else if (s.adcSeq q).queued = false then ((s.noted q).setSeq q { s.adcSeq q with queued := true, last := some s.tba }).showRun.park
    else ((s.noted q).count (dropFld q) 1).post 0x0901 (16 + q) (q + 1) := by
  unfold State.trigger
  extract_lets x v y
  have hgo : ¬ (!s.live || !s.seqOn q || decide (x.last = some s.tba)) = true := by simp [hl, hon, x, hlast]
  have hv : v = s.noted q := rfl
  have hy : y = { s.adcSeq q with last := some s.tba } := s.adcSeq_noted_self q
  rw [if_neg hgo, hy, hv]
  simp [State.on, (s.noted_moves q).f, x]

theorem State.trigger_early (hcal : s.f R.ADC_STAT_CALOK = 0) : s.trigger q = (s.noted q).count R.ADC_DROP_EARLY 1 := by
  rw [State.trigger_eq hl hon hlast, if_pos hcal]

theorem State.trigger_start (hcal : s.f R.ADC_STAT_CALOK = 1)
    (h : (s.adcSeq q).running = false ∧ (s.adcSeq q).queued = false ∨ q = 2 ∧ s.f R.ADC_MON_CFG_MODE = 1) :
    s.trigger q = (s.noted q).startRun q false := by
  rw [State.trigger_eq hl hon hlast, if_neg (by rw [hcal]; decide)]
  split
  next hmon =>
    obtain ⟨rfl, -⟩ := hmon
    rfl
  next hmon => exact if_pos (h.resolve_right hmon)

theorem State.trigger_queue (hcal : s.f R.ADC_STAT_CALOK = 1) (hmode : q = 2 → s.f R.ADC_MON_CFG_MODE ≠ 1)
    (hrun : (s.adcSeq q).running = true) (hqueue : (s.adcSeq q).queued = false) :
    s.trigger q = ((s.noted q).setSeq q { s.adcSeq q with queued := true, last := some s.tba }).showRun.park := by
  rw [State.trigger_eq hl hon hlast, if_neg (by rw [hcal]; decide), if_neg fun h => hmode h.1 h.2, if_neg (by simp [hrun]), if_pos hqueue]

theorem State.trigger_drop (hcal : s.f R.ADC_STAT_CALOK = 1) (hmode : q = 2 → s.f R.ADC_MON_CFG_MODE ≠ 1)
    (hqueue : (s.adcSeq q).queued = true) : s.trigger q = ((s.noted q).count (dropFld q) 1).post 0x0901 (16 + q) (q + 1) := by
  rw [State.trigger_eq hl hon hlast, if_neg (by rw [hcal]; decide), if_neg fun h => hmode h.1 h.2, if_neg (by simp [hqueue]),
    if_neg (by simp [hqueue])]

end

/-! ### CONVERTER_TRIGGER and QUEUED_RUN_START -/

/-- The triggers that crossing 4 has delivered are taken, and the sequence meets its trigger. -/
theorem converterTrigger_answers {q : Fin 3} {P : State → Prop} (hl : s.live = true)
    (h : ∀ t, MovesCrossings s t → P (s.produceStatus (t.trigger q))) : Answers (.converterTrigger q) s P :=
  .onStatus hl rfl (h (s.takeTrig q) ((MovesCrossings.refl s).each fun _ u => (MovesCrossings.refl u).setXing _ _))

theorem dropFld_fits (q : Nat) : (dropFld q).off = 0x90A0 ∧ (dropFld q).lo + (dropFld q).w ≤ 32 ∧ (dropFld q).w = 8 := by
  match q with
  | 0 | 1 => decide
  | _ + 2 => exact ⟨rfl, (by decide : 16 + 8 ≤ 32), rfl⟩

/-- No register of crossing 7 is a drop count or changes with an event. -/
theorem status7_apart : ∀ o ∈ status7, ¬ (o = 0x90A0 ∨ evReg o) := by
  unfold evReg status7
  decide

section
variable {q : Fin 3} (hl : s.live = true) (hon : s.seqOn q = true) (hlast : (s.adcSeq q).last ≠ some s.tba)
include hl hon hlast

theorem converterTrigger_early_answers (hcal : s.f R.ADC_STAT_CALOK = 0) : Answers (.converterTrigger q) s fun t =>
    t.f R.ADC_DROP_EARLY = min 127 (s.f R.ADC_DROP_EARLY + 1) ∧ KeepsBut [R.ADC_DROP_EARLY] s t := by
  refine converterTrigger_answers hl ?_
  rintro _ ⟨x, rfl⟩
  have hmove : Within (fun _ => False) s (({ s with xdc := x } : State).noted q) := State.noted_within ⟨x, rfl⟩
  rw [State.trigger_early (s := { s with xdc := x }) hl hon hlast hcal,
    ((hmove.mono fun _ h => h.elim).count R.ADC_DROP_EARLY 1 (.inl rfl)).produceStatus_eq status7_apart]
  refine ⟨?_, hmove.keepsBut.setF _ (List.mem_singleton_self _) (by decide) _⟩
  rw [State.f_count_self _ (by decide), hmove.f _ id]
  rfl

theorem converterTrigger_start_answers (hcal : s.f R.ADC_STAT_CALOK = 1)
    (h : (s.adcSeq q).running = false ∧ (s.adcSeq q).queued = false ∨ q.val = 2 ∧ s.f R.ADC_MON_CFG_MODE = 1) :
    Answers (.converterTrigger q) s fun t => runStarted q s t ∧ (t.adcSeq q).last = some s.tba := by
  refine converterTrigger_answers hl ?_
  rintro _ ⟨x, rfl⟩
  have hmove : Within (fun _ => False) s (({ s with xdc := x } : State).noted q) := State.noted_within ⟨x, rfl⟩
  have hself := ({ s with xdc := x } : State).adcSeq_noted_self q
  rw [State.trigger_start (s := { s with xdc := x }) hl hon hlast hcal h]
  refine ⟨runStarted_of_startRun q.isLt false hmove (by rw [hself]; rfl) fun k => ?_, ?_⟩
  · exact State.slice_noted k
  · obtain ⟨v, hv, hsame⟩ := (({ s with xdc := x } : State).noted q).startRun_sameRuns q.isLt false
    rw [State.adcSeq_produceStatus, hsame.last, hv.last, hself]
    rfl

theorem converterTrigger_queue_answers (hcal : s.f R.ADC_STAT_CALOK = 1) (hmode : q.val = 2 → s.f R.ADC_MON_CFG_MODE ≠ 1)
    (hrun : (s.adcSeq q).running = true) (hqueue : (s.adcSeq q).queued = false) : Answers (.converterTrigger q) s fun t =>
      (t.adcSeq q).queued = true ∧ (t.adcSeq q).runs = (s.adcSeq q).runs ∧ KeepsBut (R.ADC_STAT_RUN :: xdc7) s t := by
  refine converterTrigger_answers hl ?_
  rintro _ ⟨x, rfl⟩
  have hmove : Within (fun _ => False) s (({ s with xdc := x } : State).noted q) := State.noted_within ⟨x, rfl⟩
  rw [State.trigger_queue (s := { s with xdc := x }) hl hon hlast hcal hmode hrun hqueue]
  have hhead (y : SeqSt) : (((({ s with xdc := x } : State).noted q).setSeq q y).showRun.park.adcSeq q).head = y.head :=
    (State.park_keeps.1.head q).trans (congrArg SeqSt.head (State.adcSeq_setSeq_self q y))
  have hkeep (y : SeqSt) : KeepsBut (R.ADC_STAT_RUN :: xdc7) s ((({ s with xdc := x } : State).noted q).setSeq q y).showRun.park :=
    ((hmove.keepsBut.trans (State.setSeq_moves q y).keepsBut).setF _ (List.mem_cons_self ..) (by decide) _).trans
      State.park_moves.keepsBut
  rw [State.adcSeq_produceStatus]
  exact ⟨(SeqSt.queued_of_head (hhead _)).trans rfl, (SeqSt.runs_of_head (hhead _)).trans rfl,
    (hkeep _).produceStatus (List.subset_cons_self ..)⟩

theorem converterTrigger_drop_answers (hcal : s.f R.ADC_STAT_CALOK = 1) (hmode : q.val = 2 → s.f R.ADC_MON_CFG_MODE ≠ 1)
    (hqueue : (s.adcSeq q).queued = true) : Answers (.converterTrigger q) s fun t =>
      t.f (dropFld q) = min 255 (s.f (dropFld q) + 1) ∧ KeepsOut (fun o => o = 0x90A0 ∨ evReg o) s t := by
  obtain ⟨hoff, hfit, hwidth⟩ := dropFld_fits q
  refine converterTrigger_answers hl ?_
  rintro _ ⟨x, rfl⟩
  have hmove : Within (fun _ => False) s (({ s with xdc := x } : State).noted q) := State.noted_within ⟨x, rfl⟩
  have hkeep := ((hmove.mono fun _ h => h.elim).count (dropFld q) 1 (.inl hoff)).post (p := fun o => o = 0x90A0 ∨ evReg o)
    (fun _ => .inr) 0x0901 (16 + q) (q + 1) 0 0
  rw [State.trigger_drop (s := { s with xdc := x }) hl hon hlast hcal hmode hqueue, hkeep.produceStatus_eq status7_apart]
  refine ⟨?_, hkeep.keepsOut⟩
  rw [State.f_post _ _ (by rw [hoff]; unfold evReg; decide), State.f_count_self _ hfit, hmove.f _ id, hwidth]
  rfl

end

theorem converterTrigger_same_answers {q : Fin 3} (hl : s.live = true) (h : s.seqOn q = false ∨ (s.adcSeq q).last = some s.tba) :
    Answers (.converterTrigger q) s fun t => KeepsBut [] s t := by
  refine converterTrigger_answers hl ?_
  rintro _ ⟨x, rfl⟩
  have hmove : Within (fun _ => False) s { s with xdc := x } := MovesCrossings.within ⟨x, rfl⟩
  rw [State.trigger_of_same (s := { s with xdc := x }) h, hmove.produceStatus_eq fun _ _ => id]
  exact hmove.keepsBut

/-- A queued run starts once no run is in progress and the first entry of each of its lanes may sample. -/
theorem State.queuedStart_eq (hq : q < 3) (hqueue : (s.adcSeq q).queued = true) (hrun : (s.adcSeq q).running = false)
    (hready : q ≠ 2 → ∀ c ∈ firsts (s.entries q),
      s.laneReady c.lane c.ch = true ∧ (q = 0 → ∀ d ∈ s.adc.inj.todo, d.lane ≠ c.lane))
    (hwalk : q = 2 → ∀ k < 16, ∀ e, s.monTable.find? (fun e => monLane e.1 = k) = some e → s.laneReady k (monCh e.1) = true) :
    s.queuedStart q = s.startRun q true := by
  unfold State.queuedStart
  extract_lets x first free
  rw [if_neg (by simp [x, hqueue, hrun])]
  refine if_pos (List.all_eq_true.2 fun k hk => (Option.all_eq_true _ _).2 fun ch hch => ?_)
  have hk : k < 16 := List.mem_range.1 hk
  by_cases hq2 : q = 2
  · subst hq2
    obtain ⟨e, he, rfl⟩ := Option.map_eq_some_iff.1 hch
    simp [free, hwalk rfl k hk e he]
  · obtain ⟨c, hc, rfl⟩ := Option.map_eq_some_iff.1 ((if_neg hq2).symm.trans hch)
    have hlane : c.lane = k := by simpa using List.find?_some hc
    obtain ⟨hok, hfree⟩ := hready hq2 c (mem_firsts.2 ⟨k, hk, hc⟩)
    subst hlane
    by_cases hq0 : q = 0
    · subst hq0
      simpa [free, hok] using hfree rfl
    · simp [free, hok, hq0]

theorem converterTriggers : converterTriggersHolds := fun _ q hl =>
  ⟨fun hon hlast =>
    ⟨converterTrigger_early_answers hl hon hlast, fun hcal =>
      ⟨converterTrigger_start_answers hl hon hlast hcal,
        fun hmode hrun hqueue => converterTrigger_queue_answers hl hon hlast hcal hmode hrun hqueue,
        fun hmode hqueue => converterTrigger_drop_answers hl hon hlast hcal hmode hqueue⟩⟩,
    converterTrigger_same_answers hl, fun hqueue hrun hready hwalk => by
      refine .onStatus hl rfl ?_
      rw [State.queuedStart_eq q.isLt hqueue hrun hready hwalk]
      exact runStarted_of_startRun q.isLt true (.refl _ _) rfl fun _ => rfl⟩

/-! ### ADC_SWTRIG (R300) -/

/-- What one trigger after another establishes, the sequences served listed. -/
theorem State.swTrig_ind {P : List Nat → State → Prop} (mask : Nat) (h0 : P [] s)
    (hstep : ∀ q < 3, ∀ served, q ∉ served → ∀ u, P served u → P (q :: served) (if mask.testBit q then u.trigger q else u)) :
    P [2, 0, 1] (s.swTrig mask) :=
  hstep 2 (by decide) [0, 1] (by decide) _ (hstep 0 (by decide) [1] (by decide) _ (hstep 1 (by decide) [] (by decide) s h0))

/-- Each served sequence that is selected has begun a run; the others wait as they did. -/
structure Triggered (mask : Nat) (served : List Nat) (s t : State) : Prop where
  running : ∀ j < 3, j ∈ served → (t.adcSeq j).running = ((s.adcSeq j).running || mask.testBit j)
  runs : ∀ j < 3, j ∈ served → (t.adcSeq j).runs = (s.adcSeq j).runs + if mask.testBit j then 1 else 0
  waiting : ∀ j < 3, j ∉ served → (t.adcSeq j).head = (s.adcSeq j).head
  slice : ∀ k, (t.lane k).slice = (s.lane k).slice
  keeps : ∀ l, R.ADC_STAT_RUN ∈ l → KeepsBut l s t
  within : Within (· = 0x9090) s t
  cal : t.f R.ADC_STAT_CALOK = s.f R.ADC_STAT_CALOK

theorem Triggered.refl (mask : Nat) (s : State) : Triggered mask [] s s where
  running _ _ h := absurd h (List.not_mem_nil)
  runs _ _ h := absurd h (List.not_mem_nil)
  waiting _ _ _ := rfl
  slice _ := rfl
  keeps l _ := .refl l s
  within := .refl _ s
  cal := rfl

/-- A sequence that is not selected waits. -/
theorem Triggered.skip {mask : Nat} {served : List Nat} (h : Triggered mask served s t) (hq : q ∉ served)
    (hm : mask.testBit q = false) : Triggered mask (q :: served) s t := by
  refine { h with running := fun j hj hmem => ?_, runs := fun j hj hmem => ?_, waiting := fun j hj hn => ?_ }
  · rcases List.mem_cons.1 hmem with rfl | hmem
    · simp [hm, SeqSt.running_of_head (h.waiting j hj hq)]
    · exact h.running j hj hmem
  · rcases List.mem_cons.1 hmem with rfl | hmem
    · simp [hm, SeqSt.runs_of_head (h.waiting j hj hq)]
    · exact h.runs j hj hmem
  · exact h.waiting j hj fun hmem => hn (List.mem_cons_of_mem _ hmem)

/-- A selected sequence begins its run. -/
theorem Triggered.begin {mask : Nat} {served : List Nat} (h : Triggered mask served s t) (hq : q < 3) (hn : q ∉ served)
    (hm : mask.testBit q = true) (hu : Begins q (t.noted q) u) : Triggered mask (q :: served) s u where
  running j hj hmem := by
    by_cases hjq : j = q
    · subst hjq
      simp [hm, hu.running]
    · rw [← h.running j hj ((List.mem_cons.1 hmem).resolve_left hjq), ← State.adcSeq_noted_ne (s := t) hq hj hjq]
      exact SeqSt.running_of_head (hu.others j hj hjq)
  runs j hj hmem := by
    by_cases hjq : j = q
    · subst hjq
      simp [hm, hu.runs, SeqSt.runs_of_head (h.waiting j hj hn)]
    · rw [← h.runs j hj ((List.mem_cons.1 hmem).resolve_left hjq), ← State.adcSeq_noted_ne (s := t) hq hj hjq]
      exact SeqSt.runs_of_head (hu.others j hj hjq)
  waiting j hj hnj := by
    obtain ⟨hjq, hns⟩ : j ≠ q ∧ j ∉ served := by simpa using hnj
    rw [hu.others j hj hjq, State.adcSeq_noted_ne hq hj hjq, h.waiting j hj hns]
  slice k := (hu.slice k).trans ((State.slice_noted k).trans (h.slice k))
  keeps l hl := ((h.keeps l hl).trans (t.noted_moves q).keepsBut).trans (hu.keeps l hl)
  within := (h.within.trans (t.noted_moves q).within).trans hu.within
  cal := (hu.cal.trans ((t.noted_moves q).f _)).trans h.cal

theorem Triggered.laneDead {mask : Nat} {served : List Nat} (h : Triggered mask served s t) (k : Nat) : t.laneDead k = s.laneDead k :=
  State.laneDead_congr (h.slice k) (h.within.f _ (by decide))

/-- On working slices, with calibration done, each selected sequence begins its run. -/
theorem State.swTrig_triggered {mask : Nat} (hl : s.live = true) (hlast : ∀ q < 3, (s.adcSeq q).last ≠ some s.tba)
    (hcal : s.f R.ADC_STAT_CALOK = 1) (hidle : ∀ q < 3, mask.testBit q = true → s.seqOn q = true ∧ (s.adcSeq q).running = false ∧
      (s.adcSeq q).queued = false) (halive : ∀ k < 16, s.laneDead k = false) : Triggered mask [2, 0, 1] s (s.swTrig mask) := by
  refine State.swTrig_ind (P := fun served u => Triggered mask served s u) mask (.refl mask s) fun q hq served hn u hu => ?_
  split
  next hm =>
    obtain ⟨hon, hrun, hqueue⟩ := hidle q hq hm
    have hhead := hu.waiting q hq hn
    have hnew : (u.adcSeq q).last ≠ some u.tba := by
      rw [hu.within.tba, SeqSt.last_of_head hhead]
      exact hlast q hq
    rw [State.trigger_start (hu.within.live.trans hl) ((hu.within.seqOn (by omega) q).trans hon) hnew (hu.cal.trans hcal)
      (.inl ⟨(SeqSt.running_of_head hhead).trans hrun, (SeqSt.queued_of_head hhead).trans hqueue⟩)]
    refine hu.begin hq hn hm (State.startRun_begins hq false fun k hk => ?_)
    rw [State.laneDead_congr (State.slice_noted k) ((u.noted_moves q).f _), hu.laneDead, halive k hk]
  next hm => exact hu.skip hn (by simpa using hm)

theorem adcSwtrig_answers {mask : BitVec 3} {P : State → Prop} (hl : s.live = true)
    (h : P (s.produceStatus ((s.swTrig mask.toNat).wres 0x908C .done))) : Answers (.adcSwtrig mask) s P := .onStatus hl rfl h

theorem adcSwtrig_start_answers {mask : BitVec 3} (hl : s.live = true) (hlast : ∀ q < 3, (s.adcSeq q).last ≠ some s.tba)
    (hcal : s.f R.ADC_STAT_CALOK = 1) (hidle : ∀ q < 3, mask.getLsbD q = true → s.seqOn q = true ∧ (s.adcSeq q).running = false ∧
      (s.adcSeq q).queued = false) (halive : ∀ k < 16, s.laneDead k = false) : Answers (.adcSwtrig mask) s fun t =>
      (∀ q < 3, (t.adcSeq q).running = ((s.adcSeq q).running || mask.getLsbD q) ∧
        (t.adcSeq q).runs = (s.adcSeq q).runs + (if mask.getLsbD q then 1 else 0)) ∧
      Recorded 0x908C .done s t ∧ KeepsBut (R.ADC_STAT_RUN :: xdc7 ++ wresFlds) s t := by
  have htrig := State.swTrig_triggered (mask := mask.toNat) hl hlast hcal (by simpa only [BitVec.testBit_toNat] using hidle) halive
  refine adcSwtrig_answers hl ⟨fun q hq => ?_, ?_, ?_⟩
  · have hmem : q ∈ [2, 0, 1] := by
      simp only [List.mem_cons, List.not_mem_nil]
      omega
    have hseq : (s.produceStatus ((s.swTrig mask.toNat).wres 0x908C .done)).adcSeq q = (s.swTrig mask.toNat).adcSeq q := by
      rw [State.adcSeq_produceStatus]
      exact State.adcSeq_of_adc (State.wres_adc ..) q
    rw [hseq, ← BitVec.testBit_toNat]
    exact ⟨htrig.running q hq hmem, htrig.runs q hq hmem⟩
  · exact (State.wres_recorded_of_reg .done (by decide) (htrig.within.reg _ (by decide))).produceStatus
  · exact ((htrig.keeps _ (List.mem_cons_self ..)).wres (by simp [wresFlds]) _ _).produceStatus (by simp [xdc7])

/-- The triggers counted so far. -/
structure CountsEarly (mask : Nat) (served : List Nat) (s t : State) : Prop where
  count : t.f R.ADC_DROP_EARLY = min 127 (s.f R.ADC_DROP_EARLY + (served.map fun q => if mask.testBit q then 1 else 0).sum)
  waiting : ∀ j < 3, j ∉ served → (t.adcSeq j).last = (s.adcSeq j).last
  keeps : ∀ l, R.ADC_DROP_EARLY ∈ l → KeepsBut l s t
  within : Within (· = 0x90A0) s t

theorem State.swTrig_early (mask : Nat) (hl : s.live = true) (hlast : ∀ q < 3, (s.adcSeq q).last ≠ some s.tba)
    (hcal : s.f R.ADC_STAT_CALOK = 0) (hon : ∀ q < 3, s.seqOn q = true) : CountsEarly mask [2, 0, 1] s (s.swTrig mask) := by
  refine State.swTrig_ind (P := fun served u => CountsEarly mask served s u) mask
    ⟨?_, fun _ _ _ => rfl, fun l _ => .refl l s, .refl _ s⟩ fun q hq served hn u hu => ?_
  · have hlt : s.f R.ADC_DROP_EARLY < 2 ^ 7 := Fld.get_lt ..
    simp only [List.map_nil, List.sum_nil]
    omega
  cases hm : mask.testBit q with
  | false =>
    refine ⟨?_, fun j hj hnj => hu.waiting j hj fun hmem => hnj (List.mem_cons_of_mem _ hmem), hu.keeps, hu.within⟩
    simpa [hm] using hu.count
  | true =>
    have hnew : (u.adcSeq q).last ≠ some u.tba := by
      rw [hu.within.tba, hu.waiting q hq hn]
      exact hlast q hq
    rw [if_pos rfl, State.trigger_early (hu.within.live.trans hl) ((hu.within.seqOn (by omega) q).trans (hon q hq)) hnew
      ((hu.within.f _ (by decide)).trans hcal)]
    refine ⟨?_, fun j hj hnj => ?_, fun l hl => ((hu.keeps l hl).trans (u.noted_moves q).keepsBut).setF _ hl (by decide) _,
      (hu.within.trans (u.noted_moves q).within).count _ _ rfl⟩
    · rw [State.f_count_self _ (by decide), (u.noted_moves q).f, hu.count]
      have hw : 2 ^ R.ADC_DROP_EARLY.w - 1 = 127 := rfl
      simp only [List.map_cons, List.sum_cons, hm, hw, if_true]
      omega
    · obtain ⟨hjq, hns⟩ : j ≠ q ∧ j ∉ served := by simpa using hnj
      exact (congrArg SeqSt.last (State.adcSeq_noted_ne (s := u) hq hj hjq)).trans (hu.waiting j hj hns)

theorem adcSwtrig_early_answers {mask : BitVec 3} (hl : s.live = true) (hlast : ∀ q < 3, (s.adcSeq q).last ≠ some s.tba)
    (hcal : s.f R.ADC_STAT_CALOK = 0) (hon : ∀ q < 3, s.seqOn q = true) : Answers (.adcSwtrig mask) s fun t =>
      t.f R.ADC_DROP_EARLY = min 127 (s.f R.ADC_DROP_EARLY +
        ((if mask.getLsbD 0 then 1 else 0) + (if mask.getLsbD 1 then 1 else 0) + (if mask.getLsbD 2 then 1 else 0))) ∧
      Recorded 0x908C .done s t ∧ KeepsBut (R.ADC_DROP_EARLY :: wresFlds) s t := by
  have hearly := State.swTrig_early mask.toNat hl hlast hcal hon
  have hwithin : Within (fun o => o = 0x90A0 ∨ o = 0x11000) s ((s.swTrig mask.toNat).wres 0x908C .done) :=
    State.wres_within 0x908C .done (.inr rfl) (hearly.within.mono fun _ => .inl)
  refine adcSwtrig_answers hl ?_
  rw [hwithin.produceStatus_eq (by decide)]
  refine ⟨?_, State.wres_recorded_of_reg .done (by decide) (hearly.within.reg _ (by decide)),
    (hearly.keeps _ (List.mem_cons_self ..)).wres (List.subset_cons_self ..) _ _⟩
  have hcount := hearly.count
  simp only [BitVec.testBit_toNat, List.map_cons, List.map_nil, List.sum_cons, List.sum_nil] at hcount
  rw [State.f, State.reg_wres_ne _ _ (by decide), ← State.f, hcount]
  omega

theorem softwareTrigger : softwareTriggerHolds := fun _ _ hl hlast =>
  ⟨fun hcal hidle halive => adcSwtrig_start_answers hl hlast hcal hidle halive,
    fun hcal hon => adcSwtrig_early_answers hl hlast hcal hon⟩

/-- Settles O21: a trigger by the case it meets, a write of `ADC_SWTRIG` as the triggers of its sequences one after another. -/
theorem triggers : Obligations.Triggers := ⟨converterTriggers, softwareTrigger⟩

end Sys2Proof.Machine
end

section
/-! PROOFS. One conversion, from its sampling instant to its result slot (O22). -/

namespace Sys2Proof.Machine

variable {s t u : State} {p : Nat → Prop} {k : Nat}

theorem MovesAdc.regs (h : MovesAdc s t) : t.regs = s.regs := by
  obtain ⟨a, rfl⟩ := h
  rfl

theorem MovesAdc.sampled (h : MovesAdc s t) (c : Conv) : t.sampled c = s.sampled c := by
  obtain ⟨a, rfl⟩ := h
  rfl

theorem MovesAdc.laneDead (h : MovesAdc s t) (hk : t.lane k = s.lane k) : t.laneDead k = s.laneDead k :=
  State.laneDead_congr (congrArg LaneSt.slice hk) (h.f _)

theorem MovesAdc.keepsMem (h : MovesAdc s t) : KeepsMem s t := (h.within (p := fun _ => True)).keepsMem

/-- No status is produced where the converter's own state alone has changed. -/
theorem MovesAdc.produceStatus_eq (h : MovesAdc s t) : s.produceStatus t = t :=
  (h.within (p := fun _ => False)).produceStatus_eq fun _ _ => id

/-! ### Sampling (R271, R282, R285, R286, R291) -/

theorem samplingInstant_answers {k : Fin 16} (hl : s.live = true) {c : Conv} (hnext : s.nextConv k = some c)
    (hready : s.laneReady k c.ch = true) (hinj : c.seq = 1 → s.adc.inj.edge + s.acq ≤ s.tba) (halive : s.laneDead k = false) :
    Answers (.samplingInstant k) s fun t =>
      (∃ d, (t.lane k).conv = some d ∧ d.seq = c.seq ∧ d.ent = c.ent ∧ d.ch = c.ch ∧ d.at_ = s.tba ∧
        d.pt = s.ptAt (2 * s.tba) ∧ d.diff = s.chDiff c.ch ∧ d.flt = s.chDead c.ch) ∧ t.regs = s.regs ∧ KeepsMem s t := by
  have hgo : (s.laneReady k c.ch && (decide (c.seq ≠ 1) || decide (s.adc.inj.edge + s.acq ≤ s.tba))) = true := by
    by_cases h1 : c.seq = 1
    · simp [hready, hinj h1]
    · simp [hready, h1]
  have heq : s.samplingInstant k = (s.unplan c).sample k c := by
    simp only [State.samplingInstant, hnext]
    exact if_pos hgo
  have hdead : (s.unplan c).laneDead k = false := ((s.unplan_moves c).laneDead (State.lane_setSeq ..)).trans halive
  obtain ⟨hmove, hconv⟩ := State.sample_of_alive c hdead
  have hmoves : MovesAdc s (s.samplingInstant k) := heq ▸ (s.unplan_moves c).trans hmove.moves
  refine .onStatus (t := s.samplingInstant k) hl rfl ?_
  rw [hmoves.produceStatus_eq]
  refine ⟨⟨s.sampled c, ?_, rfl, rfl, rfl, rfl, rfl, rfl, rfl⟩, hmoves.regs, hmoves.keepsMem⟩
  rw [heq, hconv, (s.unplan_moves c).sampled]

/-- Whether entry `e` of the walk has repetitions left (R286). -/
def State.repeats (s : State) (e : Word × Word) : Bool := decide (s.adc.rep + 1 < monRep e.1)

/-- The walk goes on after entry `e`: the present edge and the entry's delay stand for its next issue. -/
def State.walkOn (s : State) (e : Word × Word) : State :=
  { s with adc := { s.adc with
    held := false, prev := s.tba, dly := e.2.toNat % 2 ^ 16, rep := if s.repeats e then s.adc.rep + 1 else 0,
    ptr := if s.repeats e then s.adc.ptr else s.adc.ptr + 1 } }

/-- A walk of mode 1 that has reached the end of its table takes the table again (R287, R288). -/
def State.rewind (s : State) : State :=
  if s.adc.ptr = s.adc.mon.ents.length && s.f R.ADC_MON_CFG_MODE = 1 then
    { s with adc := { s.adc with ptr := 0, mon := { s.adc.mon with ents := s.monTable, buf := s.f R.ADC_MON_CFG_BUF } } }
  else s

/-- The conversion of entry `e`. -/
def State.walkConv (s : State) (e : Word × Word) : Conv :=
  { seq := 2, ent := s.adc.ptr, ch := monCh e.1, lane := monLane e.1, left := monLeft e.1, tag := s.adc.rep % 8,
    dfr := s.adc.held || s.adc.mon.dfr }

/-- The part of the walk that waits for its next issue. -/
def AdcSt.due (a : AdcSt) : Nat × Nat × Nat := (a.prev, a.dly, a.rep)

theorem State.rewind_keeps : MovesAdc s s.rewind ∧ s.rewind.adc.lanes = s.adc.lanes ∧ s.rewind.adc.due = s.adc.due := by
  unfold State.rewind
  split
  · exact ⟨⟨_, rfl⟩, rfl, rfl⟩
  · exact ⟨.refl s, rfl, rfl⟩

theorem LanesMove.due (h : LanesMove s t) : t.adc.due = s.adc.due := by
  obtain ⟨_, _, rfl⟩ := h.eq
  rfl

/-- An entry whose lane is ready and whose delay has passed is issued. -/
theorem State.monitorIssue_eq {e : Word × Word} (he : s.adc.mon.ents[s.adc.ptr]? = some e) (htest : s.testLane (monLane e.1) = false)
    (hrun : s.adc.mon.running = true) (hcal : s.f R.ADC_STAT_CALOK = 1) (hready : s.laneReady (monLane e.1) (monCh e.1) = true)
    (hdue : s.adc.prev + 200 * s.adc.dly ≤ s.tba) :
    s.monitorIssue = ((s.walkOn e).rewind.sample (monLane e.1) (s.walkConv e)).park := by
  have hgo : (s.adc.mon.running && s.on R.ADC_STAT_CALOK && s.laneReady (monLane e.1) (monCh e.1) &&
      decide (s.adc.prev + 200 * s.adc.dly ≤ s.tba)) = true := by simp [hrun, State.on, hcal, hready, hdue]
  simp only [State.monitorIssue, he, htest, Bool.false_eq_true, if_false, if_pos hgo]
  rfl

theorem monitorIssue_answers (hl : s.live = true) {e : Word × Word} (he : s.adc.mon.ents[s.adc.ptr]? = some e) (hk : monLane e.1 = k)
    (htest : s.testLane k = false) (hrun : s.adc.mon.running = true) (hcal : s.f R.ADC_STAT_CALOK = 1)
    (hready : s.laneReady k (monCh e.1) = true) (hdue : s.adc.prev + 200 * s.adc.dly ≤ s.tba) (halive : s.laneDead k = false) :
    Answers .monitorIssue s fun t =>
      t.adc.prev = s.tba ∧ t.adc.dly = e.2.toNat % 2 ^ 16 ∧
        t.adc.rep = (if s.adc.rep + 1 < monRep e.1 then s.adc.rep + 1 else 0) ∧
        ((t.lane k).conv.map fun c => (c.seq, c.ent, c.ch, c.at_)) = some (2, s.adc.ptr, monCh e.1, s.tba) ∧
        t.regs = s.regs ∧ KeepsMem s t := by
  subst hk
  have heq := State.monitorIssue_eq he htest hrun hcal hready hdue
  obtain ⟨hrewind, hlanes, hdue'⟩ := (s.walkOn e).rewind_keeps
  have hmove : MovesAdc s (s.walkOn e).rewind := MovesAdc.trans ⟨_, rfl⟩ hrewind
  have hlane : (s.walkOn e).rewind.lane (monLane e.1) = s.lane (monLane e.1) := by
    rw [State.lane, hlanes]
    rfl
  obtain ⟨hsample, hconv⟩ := State.sample_of_alive (s.walkConv e) ((hmove.laneDead hlane).trans halive)
  obtain ⟨hpark, hconvs⟩ := State.park_keeps (s := (s.walkOn e).rewind.sample (monLane e.1) (s.walkConv e))
  have hmoves : MovesAdc s s.monitorIssue := heq ▸ hmove.trans (hsample.trans hpark).moves
  have hwaits : s.monitorIssue.adc.due = (s.walkOn e).adc.due := heq ▸ (hsample.trans hpark).due.trans hdue'
  simp only [AdcSt.due, State.walkOn, State.repeats, Prod.mk.injEq, decide_eq_true_eq] at hwaits
  obtain ⟨hprev, hdly, hrep⟩ := hwaits
  refine .onStatus (t := s.monitorIssue) hl rfl ?_
  rw [hmoves.produceStatus_eq]
  refine ⟨hprev, hdly, hrep, ?_, hmoves.regs, hmoves.keepsMem⟩
  rw [heq, hconvs, hconv, hmove.sampled]
  rfl

/-! ### A conversion that does not end (R269) -/

theorem State.takeFailed_conv (j : Nat) : (s.takeFailed.lane j).conv = (s.lane j).conv := by
  unfold State.takeFailed
  split
  · exact State.conv_setLane (s := { s with adc := { s.adc with hand := _ } }) _ _ (by rfl) j
  · rfl

/-- A slice that fails ends no conversion and starts none. -/
theorem State.sliceFail_conv (sl j : Nat) : ((s.sliceFail sl).lane j).conv = (s.lane j).conv := by
  unfold State.sliceFail
  split
  · rfl
  · extract_lets v1 v2 v3
    have hadc : v1.adc = s.adc := State.post_adc (s.setBit R.ADC_SLFAIL_FAIL sl true) 0x0902 0 sl 0 0
    clear_value v1
    have hv2 : v2.lane j = s.lane j := by rw [State.lane, show v2.adc = s.adc from hadc, State.lane]
    rw [← hv2]
    have hv3 : (v3.lane j).conv = (v2.lane j).conv := by
      dsimp only [v3]
      split
      · exact State.conv_setLane _ _ (by rfl) j
      · rfl
    split
    · exact hv3
    · exact State.takeFailed_conv j

theorem conversionTimeout_answers {k : Fin 16} (hl : s.live = true) {c : Conv} (hconv : (s.lane k).conv = some c)
    (hlate : c.at_ + 200 ≤ s.tba) (hslice : (s.lane k).slice < 17) : Answers (.conversionTimeout k) s fun t =>
      (t.lane k).conv = none ∧ t.bitAt R.ADC_SLFAIL_FAIL (s.lane k).slice = true ∧ t.pending = s.pending := by
  have heq : s.conversionTimeout k = (s.finish k c 0 false true).sliceFail (s.lane k).slice := by
    simp only [State.conversionTimeout, hconv, if_pos hlate]
  refine .onStatus (t := s.conversionTimeout k) hl rfl ⟨?_, ?_, ?_⟩
  · rw [State.lane_produceStatus, heq, State.sliceFail_conv]
    exact (State.finish_keeps ..).2
  · rw [State.bitAt_produceStatus _ (by decide), heq, State.bitAt_sliceFail hslice]
    simp
  · exact ((s.conversionTimeout_keepsQueue k).trans (s.produceStatus_keepsQueue _)).1

/-! ### The result of a monitor conversion (R289, R290, R295) -/

/-- Word 0 of a result (R290). -/
def State.resultWord (s : State) (k : Nat) (c : Conv) (val : Nat) (ovr flt : Bool) : Word :=
  BitVec.ofNat 32 (val + bit ovr * 2 ^ 16 + bit c.rst * 2 ^ 17 + bit c.dfr * 2 ^ 18 + bit flt * 2 ^ 19 +
    k * 2 ^ 20 + (s.lane k).slice * 2 ^ 24 + c.tag % 8 * 2 ^ 29)

theorem bit_le (b : Bool) : bit b ≤ 1 := by
  cases b <;> decide

theorem adcVal_lt (left : Bool) (code : Int) : adcVal left code < 2 ^ 16 := by
  unfold adcVal unsigned
  have h12 := (BitVec.ofInt 12 code).isLt
  have h16 := (BitVec.ofInt 16 code).isLt
  split <;> omega

/-- The fields of word 0: the value, the lane and the tag. -/
theorem State.resultWord_fields {val : Nat} {c : Conv} (ovr flt : Bool) (hval : val < 2 ^ 16) (hk : k < 16)
    (hslice : (s.lane k).slice < 17) : (s.resultWord k c val ovr flt).toNat % 2 ^ 16 = val ∧
      (s.resultWord k c val ovr flt).toNat / 2 ^ 20 % 16 = k ∧
      (s.resultWord k c val ovr flt).toNat / 2 ^ 29 = c.tag % 8 := by
  have h1 := bit_le ovr
  have h2 := bit_le c.rst
  have h3 := bit_le c.dfr
  have h4 := bit_le flt
  rw [State.resultWord, BitVec.toNat_ofNat]
  omega

/-- A monitor result that arrives at a part without capture memory is stored; beside it the converter's own state alone changes. -/
theorem State.result_stored {c : Conv} (val : Nat) (flt : Bool) (hseq : c.seq = 2) (hpart : s.part = .c0) (harr : s.arrives k c = true) :
    MovesAdc (s.setWords (s.slotAddr 2 c.ent) [s.resultWord k c val false flt, ptWord c.pt]) (s.result k c val false flt) := by
  have hlost : c.lost = false := by
    simp only [State.arrives, Bool.and_eq_true, Bool.not_eq_true'] at harr
    exact harr.1.1
  have hc8 : (s.setWords (s.slotAddr 2 c.ent) [s.resultWord k c val false flt, ptWord c.pt]).part ≠ .c8 := by
    rw [(s.setWords_keepsQueue _ _).2, hpart]
    decide
  unfold State.result
  simp only [Bool.false_eq_true, if_false, hseq, if_true, hlost, harr, Bool.not_true]
  rw [if_neg (by simpa using hc8)]
  exact ⟨_, rfl⟩

theorem State.endRun_monitor_within (hp : p 0x9090) : Within p s (s.endRun 2) := by
  unfold State.endRun
  extract_lets x busy walking
  refine .ite (.refl p s) ?_
  rw [if_pos rfl]
  exact (s.setSeq_moves 2 _).within.setF _ _ hp

/-- A conversion that ends inside the range, with no check of its channel, ends with its value. -/
theorem State.conversionEnd_eq {c : Conv} {a b code : Int} (hconv : (s.lane k).conv = some c) (hflt : c.flt = false)
    (hcode : c.code a b = (code, false)) (hnear : nearFull c.diff code = false) (hchk : s.f R.CMP_CHK_EN = 0) :
    s.conversionEnd k a b = s.finish k c (adcVal c.left code) false false := by
  simp [State.conversionEnd, hconv, hflt, hcode, hnear, State.on, hchk]

/-- The run that such a conversion ends changes no register but `ADC_STAT`. -/
theorem State.finish_stored {c : Conv} (val : Nat) (flt : Bool) (hseq : c.seq = 2) (hpart : s.part = .c0) (harr : s.arrives k c = true) :
    Within (· = 0x9090) (s.setWords (s.slotAddr 2 c.ent) [s.resultWord k c val false flt, ptWord c.pt])
      (s.finish k c val false flt) := by
  unfold State.finish
  dsimp only
  rw [hseq]
  refine Within.trans ?_ State.park_moves.within
  exact ((State.result_stored val flt hseq hpart harr).setLane k _).within.trans
    (State.endRun_monitor_within (p := (· = 0x9090)) rfl)

/-- A stored word leaves the words outside it. -/
theorem State.word_setWord_ne {a b : Nat} (v : Word) (h : b + 4 ≤ a ∨ a + 4 ≤ b) : (s.setWord a v).word b = s.word b := by
  rw [State.word, State.byte_setWord_ne v (by omega), State.byte_setWord_ne v (by omega), State.byte_setWord_ne v (by omega),
    State.byte_setWord_ne v (by omega), State.word]

theorem State.setWords_regs (a : Nat) (ws : List Word) : (s.setWords a ws).regs = s.regs := by
  induction ws generalizing s a with
  | nil => rfl
  | cons w ws ih => exact ih _

/-- Two stored words read back. -/
theorem State.word_setWords_pair (a : Nat) (v w : Word) : (s.setWords a [v, w]).word a = v ∧ (s.setWords a [v, w]).word (a + 4) = w :=
  ⟨(State.word_setWord_ne (s := s.setWord a v) w (by omega)).trans (State.word_setWord_self a v),
    State.word_setWord_self (s := s.setWord a v) (a + 4) w⟩

theorem conversionEnd_answers {k : Fin 16} {v : LandVolts} {c : Conv} {code : Int} (hl : s.live = true) (hconv : (s.lane k).conv = some c)
    (hseq : c.seq = 2) (hflt : c.flt = false) (hpart : s.part = .c0) (hslice : (s.lane k).slice < 17)
    (hcode : c.code v.p v.q = (code, false)) (hnear : nearFull c.diff code = false) (hchk : s.f R.CMP_CHK_EN = 0)
    (harr : s.arrives k c = true) : Answers (.conversionEnd k v) s fun t =>
      (t.lane k).conv = none ∧
        (t.word (s.slotAddr 2 c.ent)).toNat % 2 ^ 16 = adcVal c.left code ∧
        (t.word (s.slotAddr 2 c.ent)).toNat / 2 ^ 20 % 16 = k ∧ (t.word (s.slotAddr 2 c.ent)).toNat / 2 ^ 29 = c.tag % 8 ∧
        t.word (s.slotAddr 2 c.ent + 4) = ptWord c.pt ∧
        (∀ a, a < s.slotAddr 2 c.ent ∨ s.slotAddr 2 c.ent + 8 ≤ a → t.byte a = s.byte a) ∧
        (∀ off, off ≠ 0x9090 → off ≠ 0x301C → t.reg off = s.reg off) := by
  have heq := State.conversionEnd_eq hconv hflt hcode hnear hchk
  have hstored := State.finish_stored (adcVal c.left code) false hseq hpart harr
  have hwithin := State.produceStatus_within (s := s) (p := fun o => o = 0x9090 ∨ o = 0x301C) (.inr rfl) (hstored.mono fun _ => .inl)
  rw [← heq] at hwithin
  obtain ⟨hword0, hword1⟩ := s.word_setWords_pair (s.slotAddr 2 c.ent)
    (s.resultWord k c (adcVal c.left code) false false) (ptWord c.pt)
  obtain ⟨hval, hlane, htag⟩ := State.resultWord_fields (s := s) (c := c) false false (adcVal_lt c.left code) k.isLt hslice
  have hword : (s.produceStatus (s.conversionEnd k v.p v.q)).word (s.slotAddr 2 c.ent) =
      s.resultWord k c (adcVal c.left code) false false :=
    (hwithin.word _).trans hword0
  refine .onStatus (t := s.conversionEnd k v.p v.q) hl rfl
    ⟨?_, hword ▸ hval, hword ▸ hlane, hword ▸ htag, ?_, fun a ha => ?_, fun off h90 h1c => ?_⟩
  · rw [State.lane_produceStatus, heq]
    exact (State.finish_keeps ..).2
  · exact (hwithin.word _).trans hword1
  · exact (hwithin.keepsMem.mem a).trans (State.byte_setWords_ne _ (by simpa using ha))
  · rw [hwithin.reg off (by simp [h90, h1c]), State.reg, State.setWords_regs, State.reg]

/-- Settles O22: where its slice works a conversion is in progress once it has sampled, and its end frees its lane. -/
theorem conversions : Obligations.Conversions := fun _ _ hl =>
  ⟨fun _ hnext hready hinj halive => samplingInstant_answers hl hnext hready hinj halive,
    fun _ he hk htest hrun hcal hready hdue halive => monitorIssue_answers hl he hk htest hrun hcal hready hdue halive,
    fun _ _ _ hconv hseq hflt hpart hslice hcode hnear hchk harr =>
      conversionEnd_answers hl hconv hseq hflt hpart hslice hcode hnear hchk harr,
    fun _ hconv hlate hslice => conversionTimeout_answers hl hconv hlate hslice⟩

end Sys2Proof.Machine
end

section
/-! PROOFS. Data memory and register file keep their canonical form (O6). Both are tables that every write keeps sorted and free
of values of reset; one lemma for each operation of the model, in the order of its files, says that the operation keeps that
form, and is the chain of the lemmas about the operations it is made of. -/

namespace Sys2Proof.Machine

variable {s t u : State}

/-! ### The rules of the form -/

/-- An update of other parts of the state than the register file and the data memory. -/
theorem State.canon.upd {pe : List Instr} {pt : Part} {pw : Power} {tb : Nat} {up : List Nat} {rd : Word} {ch : Tab Word}
    {cp : Tab Nat} {fr : Nat} {y : SysSt} {ck : ClkSt} {ti : TimSt} {xd : XdcSt} {pm : PwmSt} {a : Tab AtcSt} {tr : TrpSt}
    {cm : CmpSt} {ad : AdcSt} {ce : CeSt} {gr : GrdSt} {mt : MtrSt} {ln : LnkSt} {pl : PltSt} {sa : SafSt} {bv : BvqSt}
    {qu : QueSt} {hs : HstSt} (h : s.canon) :
    State.canon { s with
      pending := pe, part := pt, power := pw, tbp := tb, upsets := up, rdata := rd, capHi := ch, capPt := cp, free := fr,
      sys := y, clk := ck, tim := ti, xdc := xd, pwm := pm, atc := a, trp := tr, cmp := cm, adc := ad, ce := ce, grd := gr,
      mtr := mt, lnk := ln, plt := pl, saf := sa, bvq := bv, que := qu, hst := hs } := h

theorem State.canon.ite {c : Prop} [Decidable c] (hs : s.canon) (ht : t.canon) : (if c then s else t).canon := by
  split <;> assumption
theorem State.canon.ite_snd {α : Type} {c : Prop} [Decidable c] {p q : α × State} (hp : p.2.canon) (hq : q.2.canon) :
    (if c then p else q).2.canon := by
  split <;> assumption
theorem State.canon.ite_cmd {c : Prop} [Decidable c] {r q : CmdRes} (hr : r.st.canon) (hq : q.st.canon) :
    (if c then r else q).st.canon := by
  split <;> assumption

/-- The state of a pair that an operation answers. -/
theorem State.canon.of_snd {α : Type} {p : α × State} {a : α} (h : p.2.canon) (e : p = (a, t)) : t.canon := by
  rwa [e] at h

/-- A state that an operation uses more than once. -/
theorem State.canon.share {p : Prop} (h : s.canon) (k : s.canon → p) : p := k h

theorem State.canon.foldl {α : Type} {l : List α} {g : State → α → State} (h : s.canon)
    (hg : ∀ u a, u.canon → (g u a).canon) : (l.foldl g s).canon := by
  induction l generalizing s with
  | nil => exact h
  | cons a l ih => exact ih (hg _ a h)

/-- A fold that carries a value beside the state. -/
theorem State.canon.foldl_snd {α β : Type} {l : List α} {g : β × State → α → β × State} {b : β} (h : s.canon)
    (hg : ∀ b u a, u.canon → (g (b, u) a).2.canon) : (l.foldl g (b, s)).2.canon := by
  induction l generalizing b s with
  | nil => exact h
  | cons a l ih => exact ih (hg b _ a h)

/-! ### Shared operations -/

theorem State.canon.setReg {o : Nat} {v : Word} (h : s.canon) : (s.setReg o v).canon := State.canon_setReg o v h
theorem State.canon.setF {x : Fld} {n : Nat} (h : s.canon) : (s.setF x n).canon := h.setReg
theorem State.canon.count {x : Fld} {k : Nat} (h : s.canon) : (s.count x k).canon := h.setF
theorem State.canon.setBit {x : Fld} {i : Nat} {b : Bool} (h : s.canon) : (s.setBit x i b).canon := h.setF
theorem State.canon.clearMask {x : Fld} {m : Nat} (h : s.canon) : (s.clearMask x m).canon := h.setF
theorem State.canon.takeFree (h : s.canon) : s.takeFree.2.canon := h.upd
theorem State.canon.onMain (h : s.canon) (k : t.canon) : (s.onMain t).canon := .ite k h
theorem State.canon.rebase (h : s.canon) : s.rebase.canon := .ite h.upd h
theorem State.canon.tbkBy {n : Nat} (h : s.canon) : (s.tbkBy n).canon := h.upd

theorem State.canon.tick (h : s.canon) : s.tick.canon := by
  unfold State.tick
  split
  exacts [h.upd.tbkBy, h.upd, h]

theorem State.canon.setCar {k : Nat} {c : CarSt} (h : s.canon) : (s.setCar k c).canon := h.upd
theorem State.canon.setPair {m : Nat} {p : PairSt} (h : s.canon) : (s.setPair m p).canon := h.upd
theorem State.canon.setAtc {n : Nat} {a : AtcSt} (h : s.canon) : (s.setAtc n a).canon := h.upd
theorem State.canon.setXing {x : Nat} {c : Crossing} (h : s.canon) : (s.setXing x c).canon := h.upd
theorem State.canon.setWin {w : Nat} {c : WinSt} (h : s.canon) : (s.setWin w c).canon := h.upd
theorem State.canon.setRing {r : Nat} {c : RingSt} (h : s.canon) : (s.setRing r c).canon := h.upd
theorem State.canon.setPort {n : Nat} {q : PortSt} (h : s.canon) : (s.setPort n q).canon := h.upd
theorem State.canon.each {l : List Nat} {g : Nat → State → State} (h : s.canon) (hg : ∀ i u, u.canon → (g i u).canon) :
    (s.each l g).canon := State.canon_each h hg
theorem State.canon.setByte {a : Nat} {b : Byte} (h : s.canon) : (s.setByte a b).canon := State.canon_setByte a b h
theorem State.canon.setWord {a : Nat} {v : Word} (h : s.canon) : (s.setWord a v).canon := h.setByte.setByte.setByte.setByte
theorem State.canon.setWords {a : Nat} {ws : List Word} (h : s.canon) : (s.setWords a ws).canon := State.canon_setWords a ws h

theorem State.canon.hostWrite {a : Nat} {ws : List Word} (h : s.canon) : (s.hostWrite a ws).canon := by
  induction ws generalizing s a with
  | nil => exact h
  | cons v ws ih => exact ih h.upd

theorem State.canon.signal {v : Nat} (h : s.canon) : (s.signal v).canon := h.upd
theorem State.canon.winPut {w : Nat} {r : List Word} (h : s.canon) : (s.winPut w r).canon := (State.canon.ite h.setF h).setWin
theorem State.canon.capture {ty flg n : Nat} {t : Word} {body : List Word} (h : s.canon) : (s.capture ty flg n t body).canon :=
  h.each fun _ _ hu => .ite (.ite hu.upd.count.setWin hu.winPut) hu
theorem State.canon.winTrigger {w src : Nat} (h : s.canon) : (s.winTrigger w src).canon := h.setF.setWin
theorem State.canon.queueAlarm {a : AlarmEnt} (h : s.canon) : (s.queueAlarm a).canon := .ite h.upd.count (.ite h.upd h.count)
theorem State.canon.queueTrip {a : AlarmEnt} (h : s.canon) : (s.queueTrip a).canon := .ite h.upd h.count
theorem State.canon.queueLog {p : Packet} (h : s.canon) : (s.queueLog p).canon := .ite h.upd (.ite h.capture h.count)
theorem State.canon.linkEvent {e : EvRec} (h : s.canon) : (s.linkEvent e).canon :=
  .ite (by split; exacts [h.queueAlarm, h.queueTrip, h.queueLog]) h
theorem State.canon.ringEvent {e : EvRec} (h : s.canon) : (s.ringEvent e).canon :=
  .ite (.ite h.upd (.ite h.count h.count.upd)) h.count
theorem State.canon.emitN {n : Nat} {e : EvRec} (h : s.canon) : (State.emitN n e s).canon := (State.emitN_posted n e).canon h
theorem State.canon.emit {e : EvRec} (h : s.canon) : (s.emit e).canon := h.emitN
theorem State.canon.post {code inst d0 d1 d2 : Nat} (h : s.canon) : (s.post code inst d0 d1 d2).canon := h.emit
theorem State.canon.capTriggerAll {src : Nat} {only : Nat → Bool} (h : s.canon) : (s.capTriggerAll src only).canon :=
  h.each fun _ _ hu => .ite hu.winTrigger.post hu
theorem State.canon.overrun {x : Nat} (h : s.canon) : (s.overrun x).canon := .ite h h.setF.post
theorem State.canon.xEvent {x : Nat} (h : s.canon) : (s.xEvent x).2.canon := .ite_snd h.count (.ite_snd h.count.overrun h.setXing)
theorem State.canon.produceAt {x key : Nat} {v : List Nat} (h : s.canon) : (s.produceAt x key v).canon :=
  .ite h.count.setXing (by split; exacts [h.setXing, (State.canon.ite h.count h).setXing])
theorem State.canon.xProduce {x : Nat} {v : List Nat} (h : s.canon) : (s.xProduce x v).canon := h.produceAt
theorem State.canon.produceStatus {s : State} (h : t.canon) : (s.produceStatus t).canon := .ite h h.xProduce
theorem State.canon.onStatus (h : s.canon) (k : t.canon) : (s.onStatus t).canon := h.onMain k.produceStatus
theorem State.canon.carry {key : Nat} {v : List Nat} (h : s.canon) : (s.carry key v).canon := h.setXing

theorem State.canon.carryWrite {off : Nat} {v : Word} (h : s.canon) : (s.carryWrite off v).canon := by
  unfold State.carryWrite
  split
  exacts [h.carry, h]

theorem State.canon.carryRead {off : Nat} {v : Word} (h : s.canon) : (s.carryRead off v).canon := by
  unfold State.carryRead
  split
  exacts [h.carry.carry, h]

theorem State.canon.report3 {e : Option EvRec} (h : s.canon) : (s.report3 e).canon :=
  .ite (.ite h.upd h.count.overrun) (by split; exacts [h.emit, h])
theorem State.canon.post3 {code inst d0 d1 d2 : Nat} (h : s.canon) : (s.post3 code inst d0 d1 d2).canon := h.report3
theorem State.canon.setFifo {x ch : Nat} {l : List Nat} (h : s.canon) : (s.setFifo x ch l).canon := h.upd
theorem State.canon.linkReset {n : Nat} (h : s.canon) : (s.linkReset n).canon := h.setXing.setXing
theorem State.canon.linkBack {n : Nat} (h : s.canon) : (s.linkBack n).canon := h.setXing.setXing
theorem State.canon.portIdle {n : Nat} {down : Bool} (h : s.canon) : (s.portIdle n down).canon := h.setF.setF.setPort.linkReset
theorem State.canon.trainStart {n : Nat} (h : s.canon) : (s.trainStart n).canon := h.setF.setPort.linkBack
theorem State.canon.relate {n : Nat} (h : s.canon) : (s.relate n).canon := h.produceAt
theorem State.canon.xReset {x : Nat} (h : s.canon) : (s.xReset x).canon := h.setXing
theorem State.canon.aiShow (h : s.canon) : s.aiShow.canon := .ite h.setF.setF h.setF
theorem State.canon.setLane {k : Nat} {l : LaneSt} (h : s.canon) : (s.setLane k l).canon := h.upd

theorem State.canon.setSeq {q : Nat} {x : SeqSt} (h : s.canon) : (s.setSeq q x).canon := by
  unfold State.setSeq
  split
  exacts [h.upd, h.upd, h.upd]

/-! ### The ownership map -/

theorem State.canon.setOwner {res o : Nat} (h : s.canon) : (s.setOwner res o).canon := h.upd
theorem State.canon.refuse {c : Conflict} {restore : Bool} (h : s.canon) : (s.refuse c restore).canon := h.setF.setF.setF.setF.count

/-! ### Outcomes and completions -/

theorem State.canon.setDnQueue {line : Nat} {l : List Packet} (h : s.canon) : (s.setDnQueue line l).canon := h.upd
theorem State.canon.sendUp {p : Packet} (h : s.canon) : (s.sendUp p).canon := h.upd
theorem State.canon.sendDown {line : Nat} {p : Packet} (h : s.canon) : (s.sendDown line p).canon := h.setDnQueue

theorem State.canon.route {p : Packet} (h : s.canon) : (s.route p).canon := by
  unfold State.route
  split
  · exact .ite h.sendDown (.ite h (.ite (h.each fun _ _ hu => hu.sendDown) h.sendDown))
  · exact .ite h.sendUp <| .ite (.ite (.ite (h.each fun _ _ hu => hu.sendDown) h.sendDown) h.sendUp) (.ite (h.each fun _ _ hu =>
      hu.sendDown) h.sendDown)
  · exact h.sendUp

theorem State.canon.answer {q p : Packet} (h : s.canon) : (s.answer q p).canon := h.upd.route
theorem State.canon.wres {off : Nat} {st : Status} (h : s.canon) : (s.wres off st).canon := .ite h.setF.setF h.setF.setF.count
theorem State.canon.showRing {r : Nat} (h : s.canon) : (s.showRing r).canon := h.setF.setF.setF
theorem State.canon.writeComp {r : Nat} {f : Flight} {c : Comp} (h : s.canon) : (s.writeComp r f c).canon :=
  .ite h.setRing.count (h.setRing.hostWrite.setRing.share fun h3 => .ite h3 h3.signal)

theorem State.canon.flush {n r : Nat} (h : s.canon) : (State.flush n r s).canon := by
  induction n generalizing s with
  | zero => exact h.showRing
  | succ n ih =>
    unfold State.flush
    split
    · exact h.showRing
    · split
      · exact h.showRing
      · exact ih h.writeComp

theorem State.canon.complete {r idx : Nat} {c : Comp} (h : s.canon) : (s.complete r idx c).canon := h.setRing.flush
theorem State.canon.cairnTouch (h : s.canon) : s.cairnTouch.canon := .ite h.setF.upd (.ite h.setF h.setF.upd)

theorem State.canon.armEnd {st : Status} (h : s.canon) : (s.armEnd st).canon := by
  unfold State.armEnd
  split
  · exact h
  next a _ =>
    have hu : State.canon { s with sys := { s.sys with arm := none } } := h.upd
    split
    split
    · exact hu
    · exact hu.wres
    · exact hu.complete
    · exact hu.answer
    · dsimp only
      split
      exacts [hu.upd, hu]

/-! ### The power stage -/

theorem State.canon.atcSchedule {n : Nat} (h : s.canon) : (s.atcSchedule n).canon :=
  .ite h.setAtc (by split; exacts [.ite h.setAtc h.setBit.setAtc, h.setAtc])
theorem State.canon.atcEvent {src edge : Nat} (h : s.canon) : (s.atcEvent src edge).canon :=
  h.each fun _ _ hu => .ite hu.atcSchedule hu
theorem State.canon.landOff {m : Nat} {upper : Bool} (h : s.canon) : (s.landOff m upper).canon :=
  .ite (.ite h.setPair.atcEvent h) (.ite h.setPair.atcEvent h)
theorem State.canon.landOn {m : Nat} {upper : Bool} (h : s.canon) : (s.landOn m upper).canon :=
  .ite (.ite h h.setPair.atcEvent) (.ite h h.setPair.atcEvent)
theorem State.canon.pairLow {m : Nat} (h : s.canon) : (s.pairLow m).canon := h.landOff.landOff.setPair
theorem State.canon.tripOff {m : Nat} (h : s.canon) : (s.tripOff m).canon :=
  .ite h.setPair.pairLow <| .ite (by split; exacts [h.setPair, h.setPair.setPair]) h.setPair
theorem State.canon.allOff (h : s.canon) : s.allOff.canon := h.each fun _ _ hu => hu.tripOff
theorem State.canon.tripPair {i m : Nat} (h : s.canon) : (s.tripPair i m).canon :=
  (State.canon.ite h.landOff.setPair h.tripOff).setPair
theorem State.canon.tripAll (h : s.canon) : s.tripAll.canon := h.each fun _ _ hu => hu.tripPair.setPair
theorem State.canon.enter {new : Nat} (h : s.canon) : (s.enter new).canon :=
  .ite h ((State.canon.ite h.allOff h).share fun h1 => (State.canon.ite h1.setF h1).share fun h2 => (State.canon.ite (h2.each
    fun _ _ hu => hu.pairLow) h2).share fun h3 => (State.canon.ite h3.upd.upd h3.upd).setF.setF.count.aiShow)
theorem State.canon.blockTrip {code det : Nat} (h : s.canon) : (s.blockTrip code det).canon :=
  .ite h (h.count.upd.share fun h2 => (State.canon.ite h2.setF.setF (.ite h2.setF.setF.setF (.ite h2.setF
    h2))).capTriggerAll.share fun h4 => .ite h4.upd (.ite h4 h4.tripAll.armEnd.enter))
theorem State.canon.setTsrc {i : Nat} {c : TsrcSt} (h : s.canon) : (s.setTsrc i c).canon := h.upd
theorem State.canon.showAct (h : s.canon) : s.showAct.canon := h.each fun _ _ hu => hu.setF
theorem State.canon.countCut {g m : Nat} (h : s.canon) : (s.countCut g m).canon := .ite h.upd.count h
theorem State.canon.setCut {g m : Nat} {on : Bool} (h : s.canon) : (s.setCut g m on).canon := h.upd.setF
theorem State.canon.cutGroup {g i : Nat} (h : s.canon) : (s.cutGroup g i).canon :=
  (h.each fun _ _ hu => hu.tripPair.countCut.setCut.setPair).report3
theorem State.canon.latchGroup {g i : Nat} {scb : Bool} (h : s.canon) : (s.latchGroup g i scb).canon :=
  .ite (.ite h.setF.setF h) ((h.setF.setF.setF.count.upd.each fun _ _ hu => hu.tripPair.setPair).share fun h4 => .ite
    h4.post3.capTriggerAll.blockTrip h4.post3.capTriggerAll)
theorem State.canon.blockShort {a b : Nat} (h : s.canon) : (s.blockShort a b).canon :=
  .ite h h.setF.setF.setF.tripAll.upd.post3.blockTrip

theorem State.canon.shortEvent {leg : Nat} (h : s.canon) : (s.shortEvent leg).canon := by
  have hu : State.canon { s with trp := { s.trp with short := some (leg, s.tbp) } } := h.upd
  unfold State.shortEvent
  dsimp only
  split
  exacts [hu.blockShort, hu]

theorem State.canon.hitGroup {i g : Nat} {scb : Bool} (h : s.canon) : (s.hitGroup i g scb).canon :=
  .ite h.latchGroup (.ite h.cutGroup h.latchGroup)
theorem State.canon.srcActOn {i g : Nat} (h : s.canon) : (s.srcActOn i g).canon :=
  .ite h <| .ite h.setTsrc <| .ite h (.ite h.setTsrc.hitGroup.shortEvent h.setTsrc.hitGroup)
theorem State.canon.srcAct {i : Nat} (h : s.canon) : (s.srcAct i).canon :=
  .ite (h.each fun _ _ hu => .ite hu.srcActOn hu).showAct h.showAct
theorem State.canon.srcAssert {i : Nat} (h : s.canon) : (s.srcAssert i).canon := .ite h h.setF.setTsrc.srcAct
theorem State.canon.srcRelease {i : Nat} (h : s.canon) : (s.srcRelease i).canon :=
  .ite h (h.each fun _ _ hu => .ite hu.count hu).setF.setTsrc.showAct
theorem State.canon.srcRaw {i : Nat} {on : Bool} (h : s.canon) : (s.srcRaw i on).canon :=
  (State.canon.ite h h.setTsrc).share fun h1 => .ite (.ite h1.srcAssert h1.srcRelease) h1
theorem State.canon.blankEnd {g : Nat} (h : s.canon) : (s.blankEnd g).canon :=
  .ite h (h.each fun _ _ hu => .ite (.ite hu.hitGroup hu.srcActOn) hu)
theorem State.canon.enforceHold (h : s.canon) : s.enforceHold.canon := h.each fun _ _ hu => hu.tripPair.setPair
theorem State.canon.srcActAll (h : s.canon) : s.srcActAll.canon := h.each fun _ _ hu => hu.srcAct

/-! ### The PWM engine -/

theorem State.canon.turnOn {m : Nat} {upper : Bool} (h : s.canon) : (s.turnOn m upper).canon := .ite h.setPair.landOn h.setPair

theorem State.canon.target {m : Nat} {tgt : Option Bool} {edge : Bool} (h : s.canon) : (s.target m tgt edge).canon := by
  unfold State.target
  split
  · exact h.landOff.landOff.setPair
  · exact .ite h.landOff.setPair (.ite h.landOff.turnOn h.landOff.setPair)

theorem State.canon.followW {m : Nat} {edge : Bool} (h : s.canon) : (s.followW m edge).canon :=
  .ite h.target (.ite h.target h.target)
theorem State.canon.setNotch {m : Nat} (h : s.canon) : (s.setNotch m).canon := .ite h.setPair h.setPair
theorem State.canon.planRefresh {m ton len reg : Nat} (h : s.canon) : (s.planRefresh m ton len reg).canon :=
  .ite (.ite h.setPair.setNotch h.setPair) h.setPair
theorem State.canon.report {m : Nat} (h : s.canon) : (s.report m).canon :=
  .ite h.count (.ite h.count.overrun h.setWords.setWord.capture)
theorem State.canon.endPair {m : Nat} (h : s.canon) : (s.endPair m).canon := .ite h.setPair.report h.setPair
theorem State.canon.resume {m : Nat} (h : s.canon) : (s.resume m).canon :=
  (h.each fun _ _ hu => hu.setCut).share fun h1 => .ite h1.setPair ((State.canon.ite h1.tripOff h1).setPair.each fun _ _ hu =>
    hu.countCut)

theorem State.canon.planPair {m : Nat} (h : s.canon) : (s.planPair m).canon := by
  unfold State.planPair
  extract_lets +onlyGivenNames k len u start
  split
  extract_lets +onlyGivenNames s1 p s2 s3 p' s4
  have h4 : s4.canon := h.resume.setPair.planRefresh.setPair
  clear_value s4
  split
  · exact State.canon.setPair (.ite h4 h4.pairLow)
  · extract_lets +onlyGivenNames mode
    split
    split
    exact .ite h4.setPair.target h4.setPair.followW

theorem State.canon.applyRegs {l : List (Nat × Word)} (h : s.canon) : (s.applyRegs l).canon :=
  (h.foldl fun _ _ hu => hu.setReg).each fun _ _ hu => hu.setReg
theorem State.canon.applySlot {sl : Slot} (h : s.canon) : (s.applySlot sl).canon := h.applyRegs
theorem State.canon.pairIdle {m : Nat} (h : s.canon) : (s.pairIdle m).canon := (h.pairLow.each fun _ _ hu => hu.setCut).setPair
theorem State.canon.idleLoose (h : s.canon) : s.idleLoose.canon := h.each fun _ _ hu => hu.pairIdle
theorem State.canon.carrierEvent {k edge : Nat} (h : s.canon) : (s.carrierEvent k edge).canon :=
  h.atcEvent.each fun _ _ hu => .ite hu.upd hu
theorem State.canon.shadowTick {k : Nat} (h : s.canon) : (s.shadowTick k).canon := .ite h.upd h

theorem State.canon.shadowSpan (h : s.canon) : s.shadowSpan.canon := by
  unfold State.shadowSpan
  split
  exacts [h, h.upd]

theorem State.canon.openPeriod {k : Nat} {first again : Bool} {oldPhase : Nat} (h : s.canon) :
    (s.openPeriod k first again oldPhase).canon := by
  unfold State.openPeriod
  extract_lets +onlyGivenNames c wasCoarse coarse s1 before s2 s3 s4 s5 start
  have h3 : s3.canon := (State.canon.ite h.shadowSpan h).applySlot.each fun _ _ hu => hu.pairIdle
  have h5 : s5.canon := .ite h3.setF.setF (.ite h3.setF h3.setF.setF)
  clear_value s5
  split
  refine State.canon.each (.ite ?run (State.canon.upd ?run)) fun _ _ hu => hu.planPair
  case run => exact h5.setCar.setF.setF.idleLoose

theorem State.canon.beginPeriod {k : Nat} {first : Bool} (h : s.canon) : (s.beginPeriod k first).canon := h.openPeriod.carrierEvent
theorem State.canon.restartFine {k : Nat} (h : s.canon) : (s.restartFine k).canon :=
  (h.each fun _ _ hu => hu.setPair).setCar.openPeriod
theorem State.canon.endHold {m : Nat} (h : s.canon) : (s.endHold m).canon := .ite h.setBit h
theorem State.canon.stopCarrier {k : Nat} (h : s.canon) : (s.stopCarrier k).canon :=
  (h.each fun _ _ hu => hu.pairIdle).share fun h1 => (State.canon.ite h1.shadowSpan
    h1).applySlot.applySlot.setF.setF.setF.setCar.idleLoose
theorem State.canon.carrierPeriodStart {k : Nat} (h : s.canon) : (s.carrierPeriodStart k).canon :=
  .ite (.ite (((h.each fun _ _ hu => hu.endPair).each fun _ _ hu => hu.endHold).share fun h2 => .ite h2.shadowTick.stopCarrier
    h2.shadowTick.beginPeriod) h) <| .ite (h.each fun _ _ hu => hu.endHold).shadowTick.beginPeriod h
theorem State.canon.carrierPeak {k : Nat} (h : s.canon) : (s.carrierPeak k).canon := .ite h.setCar.carrierEvent h

theorem State.canon.midPair {m : Nat} (h : s.canon) : (s.midPair m).canon := by
  unfold State.midPair
  extract_lets +onlyGivenNames k len
  split
  extract_lets +onlyGivenNames p u
  have hu : u.canon := .ite h h.setPair
  clear_value u
  exact .ite hu <| .ite (.ite hu.setPair hu.setPair.followW) (.ite hu.setPair.target (.ite hu.setPair hu.setPair.followW))

theorem State.canon.carrierMid {k : Nat} (h : s.canon) : (s.carrierMid k).canon :=
  .ite (by split; exacts [h, h.applySlot.setCar.each fun _ _ hu => hu.midPair]) h
theorem State.canon.latchPoint {k : Nat} (h : s.canon) : (s.latchPoint k).canon := .ite h (.ite h.setCar (.ite h.setCar h))
theorem State.canon.pwmEdge {m : Nat} {rise : Bool} (h : s.canon) : (s.pwmEdge m rise).canon :=
  .ite (.ite h.setPair h.setPair.followW) h

theorem State.canon.deadTime {m : Nat} (h : s.canon) : (s.deadTime m).canon := by
  unfold State.deadTime
  split
  exacts [.ite h.turnOn h, h]

theorem State.canon.notchEdge {m : Nat} (h : s.canon) : (s.notchEdge m).canon := by
  unfold State.notchEdge
  extract_lets p
  split
  · exact h
  · refine .ite (.ite h.landOff.count.setPair h) (.ite (.ite (State.canon.followW ?land) ?land) h)
    case land => exact (State.canon.ite h h.landOff).setPair

theorem State.canon.deadTimeExpiry {m : Nat} (h : s.canon) : (s.deadTimeExpiry m).canon := by
  unfold State.deadTimeExpiry
  split
  exacts [.ite (.ite h.setPair.landOn h) h.deadTime, h.deadTime]

theorem State.canon.merge {k : Nat} {regs : List (Nat × Word)} {shadow : Bool} (h : s.canon) : (s.merge k regs shadow).canon :=
  (State.canon.ite h h.count).setCar
theorem State.canon.setRefused {cause : Nat} {w0 : Word} {from_ : Nat} (h : s.canon) : (s.setRefused cause w0 from_).canon :=
  (State.canon.ite h.count h).post
theorem State.canon.shadowPut {off : Nat} {v : Word} (h : s.canon) : (s.shadowPut off v).canon :=
  (State.canon.ite h.upd h).share fun h1 => (State.canon.ite h1 h1.shadowSpan).upd.setF
theorem State.canon.shadowClear (h : s.canon) : s.shadowClear.canon := h.upd.setF

theorem State.canon.shadowDrop (h : s.canon) : s.shadowDrop.canon := by
  unfold State.shadowDrop
  split
  exacts [h, .ite h.shadowClear.setF.post h]

theorem State.canon.groupSync {g : Nat} (h : s.canon) : (s.groupSync g).canon :=
  h.upd.each fun _ _ hu => .ite (.ite (.ite hu.setCar hu.setCar) (.ite hu.setCar hu)) hu

/-! ### Timers, gate drive, trips and comparators -/

theorem State.canon.trigEvent {ch : Nat} (h : s.canon) : (s.trigEvent ch).canon := .ite h.count (.ite h.count.overrun h.setXing)
theorem State.canon.refreshOpen {j close : Nat} (h : s.canon) : (s.refreshOpen j close).canon :=
  h.each fun _ _ hu => by split; exacts [hu.setPair]

theorem State.canon.atcClose {n : Nat} (h : s.canon) : (s.atcClose n).canon := by
  unfold State.atcClose
  dsimp only
  split
  exacts [.ite h (.ite h.setAtc.blankEnd h.setAtc), h]

theorem State.canon.atcOpen {n : Nat} (h : s.canon) : (s.atcOpen n).canon := by
  unfold State.atcOpen
  dsimp only
  split
  · exact h
  · refine .ite h ?_
    split
    exacts [h.atcClose.setAtc, h.atcClose.setAtc.trigEvent, h.atcClose.setAtc.refreshOpen]

theorem State.canon.blankMax {n : Nat} (h : s.canon) : (s.blankMax n).canon := by
  unfold State.blankMax
  dsimp only
  split
  exacts [.ite h.setAtc.blankEnd h, h]

theorem State.canon.setGdf {n : Nat} {g : GdfSt} (h : s.canon) : (s.setGdf n g).canon := h.upd

theorem State.canon.bsHold {m : Nat} (h : s.canon) : (s.bsHold m).canon := by
  unfold State.bsHold
  extract_lets +onlyGivenNames j
  refine .ite h.post3 (.ite ?_ h)
  extract_lets +onlyGivenNames s1 p s2
  have h2 : s2.canon := by
    dsimp only [s2]
    split
    exacts [h.landOff.setPair, h.landOff]
  clear_value s2
  exact (State.canon.ite h2.setBit (.ite h2.setBit.setNotch h2.setBit)).post3

theorem State.canon.gdfSet {n : Nat} {on : Bool} (h : s.canon) : (s.gdfSet n on).canon :=
  .ite h ((State.canon.ite h.setBit h.setBit).share fun h1 => (State.canon.ite h1.bsHold h1).srcRaw)
theorem State.canon.bsReport {n : Nat} (h : s.canon) : (s.bsReport n).canon := .ite h.count.setPair h.count

theorem State.canon.gdfChange {n : Nat} {high : Bool} (h : s.canon) : (s.gdfChange n high).canon :=
  .ite h (by
    split
    · exact h.setGdf
    · exact h.setGdf.gdfSet
    · exact .ite h.setGdf <| .ite h.setGdf.gdfSet <| .ite h.setGdf (.ite h.setGdf.bsReport h.setGdf.gdfSet.gdfSet))

theorem State.canon.gdfAssert {n : Nat} (h : s.canon) : (s.gdfAssert n).canon := .ite h.gdfSet h
theorem State.canon.gdfRecode {n : Nat} (h : s.canon) : (s.gdfRecode n).canon := (State.canon.ite h.setGdf h).gdfSet
theorem State.canon.gdfModeChange {j : Nat} (h : s.canon) : (s.gdfModeChange j).canon := h.each fun _ _ hu => hu.gdfRecode
theorem State.canon.gdfFollow {s : State} (h : t.canon) : (s.gdfFollow t).canon := h.each fun _ _ hu => hu.gdfRecode
theorem State.canon.softStage {leg stage : Nat} (h : s.canon) : (s.softStage leg stage).canon :=
  h.each fun _ _ hu => by split; exacts [.ite hu.pairLow hu, hu]
theorem State.canon.tripAssert {i : Nat} (h : s.canon) : (s.tripAssert i).canon :=
  .ite h.srcRaw (.ite (.ite h.srcRaw h) (.ite h.srcRaw h))
theorem State.canon.tripRelease {i : Nat} (h : s.canon) : (s.tripRelease i).canon :=
  .ite h.srcRaw (.ite (.ite h h.srcRaw) (.ite h h.srcRaw))
theorem State.canon.filterExpiry {i : Nat} (h : s.canon) : (s.filterExpiry i).canon := .ite (.ite h.srcAssert h.srcRelease) h
theorem State.canon.latchClear {g : Nat} (h : s.canon) : (s.latchClear g).2.canon := .ite_snd h h.setF.setF.setF.setF
theorem State.canon.thrMove {n : Nat} {w : Word} (h : s.canon) : (s.thrMove n w).canon := h.upd
theorem State.canon.showCmpo (h : s.canon) : s.showCmpo.canon := h.upd
theorem State.canon.cmpSet {n : Nat} {hi lo : Bool} (h : s.canon) : (s.cmpSet n hi lo).canon := h.setBit.setBit.showCmpo.srcRaw
theorem State.canon.cmpChange {n : Nat} {p q : Int} (h : s.canon) : (s.cmpChange n p q).canon := .ite h.upd.cmpSet h
theorem State.canon.cmpHold {n : Nat} (h : s.canon) : (s.cmpHold n).canon := h.setBit.cmpSet.upd
theorem State.canon.cmpOff {n : Nat} (h : s.canon) : (s.cmpOff n).canon := h.setBit.cmpSet.upd
theorem State.canon.cmpDecide {n : Nat} {p q : Int} (h : s.canon) : (s.cmpDecide n p q).canon := .ite h.setBit.cmpSet h
theorem State.canon.clearBscnt (h : s.canon) : s.clearBscnt.canon := h.setF.setF
theorem State.canon.clearGrpCnt {g : Nat} (h : s.canon) : (s.clearGrpCnt g).canon := h.setF.setF.setF
theorem State.canon.clearPwmStat (h : s.canon) : s.clearPwmStat.canon := h.setF.setF

/-! ### Time and crossings -/

theorem State.canon.setSrcMeas {i : Nat} {m : SrcMeas} (h : s.canon) : (s.setSrcMeas i m).canon := h.upd
theorem State.canon.showSync (h : s.canon) : s.showSync.canon := h.setF.aiShow
theorem State.canon.showOsc (h : s.canon) : s.showOsc.canon := h.setF.showSync
theorem State.canon.unlockServo (h : s.canon) : s.unlockServo.canon := h.upd.setF.showSync
theorem State.canon.setRate {i p : Int} (h : s.canon) : (s.setRate i p).canon := h.rebase.upd.setF
theorem State.canon.reselect (h : s.canon) : s.reselect.canon :=
  (State.canon.ite h h.upd.setF).share fun h1 => .ite ((State.canon.ite h1 h1.setRate).share fun h2 => (State.canon.ite
    h2.unlockServo h2).share fun h3 => .ite h3.setF h3) h1.setF
theorem State.canon.ptStep {e : Int} (h : s.canon) : (s.ptStep e).canon := h.setRate.upd.unlockServo.count.post

theorem State.canon.measure {i : Nat} {e : Int} (h : s.canon) : (s.measure i e).canon :=
  h.setSrcMeas.reselect.share fun h1 => .ite h1 <| .ite h1.setF (by
    split
    · exact .ite h1.setF.ptStep h1.setF.setRate.upd
    · exact h1.setF.upd)

theorem State.canon.ppsEdge (h : s.canon) : s.ppsEdge.canon := .ite h h.measure
theorem State.canon.hostOffset {sec : Word} (h : s.canon) : (s.hostOffset sec).canon := h.measure

theorem State.canon.sourceTimeout {i : Nat} (h : s.canon) : (s.sourceTimeout i).canon := by
  unfold State.sourceTimeout
  dsimp only
  split
  exacts [.ite h.setSrcMeas.reselect h, h]

theorem State.canon.sourceDown {i : Nat} (h : s.canon) : (s.sourceDown i).canon := .ite h.setSrcMeas.reselect h
theorem State.canon.upLost {n : Nat} (h : s.canon) : (s.upLost n).canon := .ite h.sourceDown h
theorem State.canon.servoLock (h : s.canon) : s.servoLock.canon := .ite h.setF.showSync h
theorem State.canon.servoLoss (h : s.canon) : s.servoLoss.canon := .ite h.unlockServo h
theorem State.canon.setPtc {n : Nat} {q : PtcSt} (h : s.canon) : (s.setPtc n q).canon := h.upd

theorem State.canon.ptcArm {n : Nat} (h : s.canon) : (s.ptcArm n).canon := by
  unfold State.ptcArm
  split
  exacts [(State.canon.ite h.setBit h).setPtc, h.setPtc, h.setPtc]

theorem State.canon.winArm {w : Nat} (h : s.canon) : (s.winArm w).canon := h.setF.setF.setF.setWin

theorem State.canon.ptcAdvance {n : Nat} (h : s.canon) : (s.ptcAdvance n).canon := by
  unfold State.ptcAdvance
  dsimp only
  split
  · exact h.setF.setOwner.setPtc
  · split
    exacts [h.setPtc, h]
  · exact h.setPtc

theorem State.canon.ptcTargets {n tgt grp : Nat} (h : s.canon) : (s.ptcTargets n tgt grp).canon :=
  (State.canon.ite h.upd.xEvent h).share fun h1 => (State.canon.ite h1.trigEvent h1).share fun h2 => (State.canon.ite
    h2.trigEvent h2).share fun h3 => (State.canon.ite h3.trigEvent h3).share fun h4 => (State.canon.ite h4.groupSync h4).share
    fun h5 => (State.canon.ite (h5.each fun _ _ hu => .ite hu.winArm hu) h5).share fun h6 => (State.canon.ite h6.capTriggerAll
    h6).share fun h7 => .ite h7.post h7

theorem State.canon.deliverKey {key : Nat} (h : s.canon) : (s.deliverKey key).canon := by
  unfold State.deliverKey
  dsimp only
  split
  exacts [h.setXing, h]

theorem State.canon.mailbox {x : Nat} (h : s.canon) : (s.mailbox x).canon :=
  .ite h (.ite (by split; exacts [h.setXing, h]) h.deliverKey)
theorem State.canon.mailboxes {x : Nat} (h : s.canon) : (s.mailboxes x).canon := .ite (h.each fun _ _ hu => hu.deliverKey) h.mailbox

theorem State.canon.handshake {x : Nat} (h : s.canon) : (s.handshake x).canon :=
  .ite h <| .ite (.ite h (h.upd.foldl fun _ _ hu => by
    split
    · exact hu.emit
    · exact hu)) <| .ite (h.each fun _ _ hu => .ite hu hu.setXing) (.ite h.setXing h)

theorem State.canon.fifoLoss {x ch : Nat} (h : s.canon) : (s.fifoLoss x ch).canon := by
  refine .ite ?_ (.ite (h.upd.each fun _ _ hu => .ite hu.count.setWin hu) h)
  extract_lets +onlyGivenNames l u
  have hu : u.canon := by
    dsimp only [u]
    split
    exacts [h.setLane, h]
  clear_value u
  split
  exacts [hu.setF, hu.setF, hu.setSeq]

theorem State.canon.captureResume (h : s.canon) : s.captureResume.canon := (h.upd.each fun _ _ hu => .ite hu hu.setWin.winPut).post

theorem State.canon.fifoMove {x ch : Nat} {act : FifoAct} (h : s.canon) : (s.fifoMove x ch act).canon :=
  .ite h (by
    split
    · exact .ite h.count (.ite (.ite h.count.overrun.fifoLoss h) h.setFifo)
    · exact by split; exacts [h, .ite h.setFifo.upd.captureResume h.setFifo.upd])

theorem State.canon.resyncCount {x n : Nat} (h : s.canon) : (s.resyncCount x n).canon := h.count.count
theorem State.canon.linkResync {n : Nat} (h : s.canon) : (s.linkResync n).canon := .ite h h.resyncCount.setFifo.setFifo.setXing.post
theorem State.canon.timeResync {n : Nat} (h : s.canon) : (s.timeResync n).canon := .ite h h.resyncCount.setXing.post
theorem State.canon.resendSet (h : s.canon) : s.resendSet.canon := h.upd

theorem State.canon.resync {x : Nat} (h : s.canon) : (s.resync x).canon :=
  .ite h ((State.canon.ite (h.resyncCount.each fun _ _ hu => hu.setFifo) h.resyncCount).share fun h2 => (State.canon.ite h2.upd
    h2).share fun h3 => (State.canon.ite (h3.each fun _ _ hu => hu.setXing) h3).share fun h4 => (State.canon.ite
    h4.setXing.resendSet h4.setXing).post)

theorem State.canon.resyncAll {x : Nat} (h : s.canon) : (s.resyncAll x).canon :=
  .ite (h.resync.each fun _ _ hu => hu.linkResync) (.ite (h.resync.each fun _ _ hu => hu.timeResync) h.resync)
theorem State.canon.xdcClear {mask : Nat} (h : s.canon) : (s.xdcClear mask).canon := h.each fun _ _ hu => .ite hu.setF.setF.setF hu

/-! ### Clocks -/

theorem State.canon.paceWindow {cycles : Nat} (h : s.canon) : (s.paceWindow cycles).canon :=
  h.setF.setF.setF.setF.setF.share fun h2 => .ite h2.post h2
theorem State.canon.paceExtClear (h : s.canon) : s.paceExtClear.canon := h.setF.setF
theorem State.canon.ckoLose {tap : Nat} (h : s.canon) : (s.ckoLose tap).canon := h.each fun _ _ hu => .ite hu.upd hu
theorem State.canon.ckoReturn {tap : Nat} (h : s.canon) : (s.ckoReturn tap).canon := h.each fun _ _ hu => .ite hu.upd hu
theorem State.canon.coarseEnter (h : s.canon) : s.coarseEnter.canon :=
  .ite h ((h.setF.each fun _ _ hu => .ite hu.setCar hu).share fun h2 => (State.canon.ite h2.upd h2).post)
theorem State.canon.networkIdle {p : Nat} (h : s.canon) : (s.networkIdle p).canon := h.each fun _ _ hu => .ite hu hu.portIdle.upLost
theorem State.canon.networkTrain {p : Nat} (h : s.canon) : (s.networkTrain p).canon := h.each fun _ _ hu => .ite hu.trainStart hu
theorem State.canon.lockRestart {l : List Nat} (h : s.canon) : (s.lockRestart l).canon := h.each fun _ _ hu => hu.upd
theorem State.canon.pllUnlock {p : Nat} (h : s.canon) : (s.pllUnlock p).canon :=
  .ite h (h.setBit.setBit.count.lockRestart.post.share fun h2 => .ite h2.upd.ckoLose.coarseEnter h2.upd.ckoLose.networkIdle)
theorem State.canon.pllLock {p : Nat} (h : s.canon) : (s.pllLock p).canon := .ite h.upd.setBit h
theorem State.canon.pllStable {p : Nat} (h : s.canon) : (s.pllStable p).canon :=
  .ite (.ite h.setBit h.setBit.upd.ckoReturn.networkTrain) h
theorem State.canon.refLost (h : s.canon) : s.refLost.canon :=
  .ite h ((h.rebase.setF.count.upd.each fun _ _ hu => hu.pllUnlock).lockRestart.post.setF.coarseEnter.share fun h6 => .ite
    h6.upd.ckoLose.showOsc h6.upd.ckoLose.showOsc.blockTrip)
theorem State.canon.refOk (h : s.canon) : s.refOk.canon := .ite h h.rebase.setF.setF.ckoReturn.showOsc.post
theorem State.canon.refWindow {ok : Bool} {ratio : Nat} (h : s.canon) : (s.refWindow ok ratio).canon :=
  .ite h.rebase.upd.refLost h.rebase.upd
theorem State.canon.coarseExit (h : s.canon) : s.coarseExit.canon :=
  .ite ((h.setF.upd.ckoReturn.each fun _ _ hu => .ite hu.restartFine hu).share fun h3 => .ite h3.post.captureResume h3.post) h
theorem State.canon.ckoChange {n : Nat} (h : s.canon) : (s.ckoChange n).canon := h.upd
theorem State.canon.clkLossClear (h : s.canon) : s.clkLossClear.canon := h.setF.setF.setF.setF

/-! ### Metering -/

theorem State.canon.mtrRebase (h : s.canon) : s.mtrRebase.canon := h.upd
theorem State.canon.mtrFollow (h : s.canon) : s.mtrFollow.canon := .ite h h.upd
theorem State.canon.mtrMark {th : Int} (h : s.canon) : (s.mtrMark th).canon := .ite h.upd h.upd
theorem State.canon.mtrTake {i : Nat} {w0 w1 : Word} (h : s.canon) : (s.mtrTake i w0 w1).canon :=
  .ite h <| .ite h.mtrMark ((State.canon.ite h.count h).share fun h1 => (State.canon.ite h1.mtrMark h1).upd)
theorem State.canon.meterSample (h : s.canon) : s.meterSample.canon :=
  .ite h.mtrFollow (h.mtrFollow.foldl fun _ _ hu => hu.mtrTake).mtrRebase
theorem State.canon.takeFrees {n : Nat} (h : s.canon) : (s.takeFrees n).2.canon := h.upd
theorem State.canon.windowPowers {t mHz : Nat} (h : s.canon) : (s.windowPowers t mHz).2.canon := h.takeFrees
theorem State.canon.accAdd {i e : Nat} (h : s.canon) : (s.accAdd i e).canon := h.upd
theorem State.canon.addEnergies {pow : List Int} {t : Nat} (h : s.canon) : (s.addEnergies pow t).canon :=
  h.each fun _ _ hu => .ite hu ((State.canon.ite hu.accAdd hu.accAdd).share fun h2 => (State.canon.ite h2.accAdd
    h2.accAdd).accAdd)
theorem State.canon.showLast {pow : List Int} {mHz : Nat} (h : s.canon) : (s.showLast pow mHz).canon :=
  h.setReg.setReg.setReg.setReg.setReg.setReg

theorem State.canon.windowEnd (h : s.canon) : s.windowEnd.canon := by
  unfold State.windowEnd
  refine .ite h.mtrFollow ?_
  split
  extract_lets +onlyGivenNames m at_ t v
  have hv : v.canon := h.mtrFollow.count
  clear_value v
  refine State.canon.upd (s := if !m.wrapped then _ else _) (.ite h.mtrFollow (.ite ?_ ?_))
  · split
    exacts [hv.addEnergies.showLast, hv.showLast]
  · split
    next p w e =>
      have hw : w.canon := h.mtrFollow.windowPowers.of_snd e
      exact State.canon.showLast (State.canon.upd (s := w.addEnergies p t) hw.addEnergies)

theorem State.canon.pulseCount {k : Nat} {active : Bool} {ms : Nat} (h : s.canon) : (s.pulseCount k active ms).canon :=
  .ite h (.ite h.count h.upd)
theorem State.canon.tallyStart {final : Bool} (h : s.canon) : (s.tallyStart final).canon := h.upd
theorem State.canon.tallyCommit (h : s.canon) : s.tallyCommit.canon := .ite h.mtrFollow.upd.tallyStart h.mtrFollow

theorem State.canon.tallyWritten (h : s.canon) : s.tallyWritten.canon := by
  unfold State.tallyWritten
  split
  exacts [h, h.upd.setReg]

theorem State.canon.tallyComplete (h : s.canon) : s.tallyComplete.canon := by
  unfold State.tallyComplete
  split
  exacts [h.tallyWritten, h]

theorem State.canon.finalCommit (h : s.canon) : s.finalCommit.canon := by
  unfold State.finalCommit
  refine State.canon.tallyStart ?_
  split
  exacts [h.addEnergies, h]

theorem State.canon.tallyRestore (h : s.canon) : s.tallyRestore.canon := by
  unfold State.tallyRestore
  split
  exacts [h.upd.setF.setReg.post, h.setReg.upd]

theorem State.canon.mtrSnap (h : s.canon) : s.mtrSnap.canon := h.upd

theorem State.canon.mtrClear (h : s.canon) : s.mtrClear.2.canon := by
  unfold State.mtrClear
  split
  · dsimp only
    refine State.canon.post (State.canon.tallyStart ?_)
    exact h.upd
  · exact h

theorem State.canon.mtrCntClear (h : s.canon) : s.mtrCntClear.canon := h.setF.setF.setF

/-! ### The converters -/

theorem State.canon.park (h : s.canon) : s.park.canon := h.each fun _ _ hu => by
  dsimp only
  split
  exacts [.ite hu hu.setLane, hu]

theorem State.canon.showRun (h : s.canon) : s.showRun.canon := h.setF
theorem State.canon.packRun {q : Nat} (h : s.canon) : (s.packRun q).canon := .ite h (.ite h.upd.capture h.upd)
theorem State.canon.endRun {q : Nat} (h : s.canon) : (s.endRun q).canon :=
  .ite h <| .ite h.setSeq.showRun (State.canon.ite h.setWords.packRun.meterSample h.setWords.packRun).setSeq.showRun

theorem State.canon.result {k : Nat} {c : Conv} {val : Nat} {ovr flt : Bool} (h : s.canon) : (s.result k c val ovr flt).canon :=
  (State.canon.ite h.setBit h).share fun h1 => (State.canon.ite h1 h1.setSeq).share fun h2 => (State.canon.ite h2 <| .ite
    ((State.canon.ite h2.count h2.count.overrun).share fun h3 => .ite h3.setF h3.setSeq) (.ite h2.setWords.upd
    h2.setWords)).share fun h3 => .ite h3.capture h3

theorem State.canon.dacCheck {ch : Nat} {code : Int} (h : s.canon) : (s.dacCheck ch code).canon := .ite h.setBit.post h
theorem State.canon.finish {k : Nat} {c : Conv} {val : Nat} {ovr flt : Bool} (h : s.canon) : (s.finish k c val ovr flt).canon :=
  h.result.setLane.endRun.park
theorem State.canon.sample {k : Nat} {c : Conv} (h : s.canon) : (s.sample k c).canon := .ite h.setLane.finish h.setLane.setLane
theorem State.canon.unplan {c : Conv} (h : s.canon) : (s.unplan c).canon := h.setSeq

theorem State.canon.samplingInstant {k : Nat} (h : s.canon) : (s.samplingInstant k).canon := by
  unfold State.samplingInstant
  split
  exacts [h, .ite h.unplan.sample h]

theorem State.canon.startRegular {queued : Bool} (h : s.canon) : (s.startRegular queued).canon :=
  h.setSeq.showRun.park.foldl fun _ _ hu => .ite hu (.ite hu.unplan.sample hu.setSeq)
theorem State.canon.startInjected {queued : Bool} (h : s.canon) : (s.startInjected queued).canon :=
  (h.setSeq.setSeq.each fun _ _ hu => by split; exacts [.ite hu.setSeq.setLane hu, hu]).showRun.park
theorem State.canon.startWalk {queued : Bool} (h : s.canon) : (s.startWalk queued).canon := h.setSeq.upd.showRun.park

theorem State.canon.startRun {q : Nat} {queued : Bool} (h : s.canon) : (s.startRun q queued).canon := by
  unfold State.startRun
  split
  exacts [h.startRegular, h.startInjected, h.startWalk]

theorem State.canon.trigger {q : Nat} (h : s.canon) : (s.trigger q).canon :=
  .ite h <| .ite h.setSeq.count <| .ite h.setSeq.startWalk <| .ite h.setSeq.startRun (.ite h.setSeq.setSeq.showRun.park
    h.setSeq.count.post)
theorem State.canon.takeTrig {q : Nat} (h : s.canon) : (s.takeTrig q).canon := h.each fun _ _ hu => hu.setXing
theorem State.canon.queuedStart {q : Nat} (h : s.canon) : (s.queuedStart q).canon := .ite h (.ite h.startRun h)

theorem State.canon.monitorIssue (h : s.canon) : s.monitorIssue.canon := by
  unfold State.monitorIssue
  extract_lets a
  split
  exacts [h, .ite (.ite h.upd h) (.ite (State.canon.ite h.upd.upd h.upd).sample.park h)]

theorem State.canon.monModeChange (h : s.canon) : s.monModeChange.canon := .ite h.startWalk h.setSeq.upd.endRun.showRun

theorem State.canon.conversionEnd {k : Nat} {p q : Int} (h : s.canon) : (s.conversionEnd k p q).canon := by
  unfold State.conversionEnd
  split
  · exact h
  · refine .ite h.finish ?_
    split
    extract_lets check
    split
    next ovr u e =>
      have hu : u.canon := by
        split at e
        · cases e
          exact h
        · split at e <;> cases e
          exacts [h.takeFree, h]
      exact .ite hu.finish.dacCheck hu.finish

theorem State.canon.takeFailed (h : s.canon) : s.takeFailed.canon := by
  unfold State.takeFailed
  split
  exacts [h.upd.setLane, h]

theorem State.canon.sliceFail {sl : Nat} (h : s.canon) : (s.sliceFail sl).canon := by
  refine .ite h (.ite (State.canon.upd ?_) h.setBit.post.setF.takeFailed)
  split
  exacts [h.setBit.post.setF.setLane, h.setBit.post.setF]

theorem State.canon.calibrated {failed : Nat} (h : s.canon) : (s.calibrated failed).canon :=
  .ite h (h.setF.setF.upd.each fun _ _ hu => .ite hu.sliceFail hu).park

theorem State.canon.rotate (h : s.canon) : s.rotate.canon := by
  unfold State.rotate
  split
  exacts [h, .ite (by split; exacts [h, by split; exacts [h, h.upd.setLane]]) h]

theorem State.canon.handover (h : s.canon) : s.handover.canon := by
  unfold State.handover
  split
  · dsimp only
    split
    exacts [.ite (.ite h.setLane.upd.setF.takeFailed h.setLane.upd.setF) h, h]
  · exact h

theorem State.canon.sliceCalibrated {ok : Bool} (h : s.canon) : (s.sliceCalibrated ok).canon :=
  .ite h (.ite h.setF h.setF.sliceFail)

theorem State.canon.conversionTimeout {k : Nat} (h : s.canon) : (s.conversionTimeout k).canon := by
  unfold State.conversionTimeout
  split
  exacts [h, .ite h.finish.sliceFail h]

theorem State.canon.adcDropClear (h : s.canon) : s.adcDropClear.canon := h.setF.setF.setF.setF
theorem State.canon.swTrig {mask : Nat} (h : s.canon) : (s.swTrig mask).canon :=
  (State.canon.ite h.trigger h).share fun h1 => (State.canon.ite h1.trigger h1).share fun h2 => .ite h2.trigger h2

/-! ### Lanes of the control engine -/

theorem State.canon.setCe {l : Nat} {c : LaneCe} (h : s.canon) : (s.setCe l c).canon := h.upd
theorem State.canon.setV {l r : Nat} {w : Word} (h : s.canon) : (s.setV l r w).canon := .ite h h.setCe
theorem State.canon.moveAcc {l : Nat} {which : Bool} {r : VReg} (h : s.canon) : (s.moveAcc l which r).canon := h.setCe
theorem State.canon.setVi {l r : Nat} {x : Int} (h : s.canon) : (s.setVi l r x).canon := h.setV
theorem State.canon.setAcc {l : Nat} {which : Bool} {x : Int} (h : s.canon) : (s.setAcc l which x).canon := h.setCe
theorem State.canon.parmWrite {a : Nat} {ws : List Word} (h : s.canon) : (s.parmWrite a ws).canon := .ite h.upd h.setWords
theorem State.canon.parmFlush (h : s.canon) : s.parmFlush.canon := h.upd.foldl fun _ _ hu => hu.setWords
theorem State.canon.sticky {l mask : Nat} (h : s.canon) : (s.sticky l mask).canon := .ite h h.setCe
theorem State.canon.setQ {l r : Nat} {x : Int} (h : s.canon) : (s.setQ l r x).canon := h.setVi.sticky
theorem State.canon.setAccSat {l : Nat} {which : Bool} {x : Int} (h : s.canon) : (s.setAccSat l which x).canon := h.setAcc.sticky
theorem State.canon.setF32 {l r : Nat} {x : FpRes} (h : s.canon) : (s.setF32 l r x).canon :=
  .ite h.takeFree.setV.sticky h.setV.sticky
theorem State.canon.setWithin {l r : Nat} {lo hi : Int} (h : s.canon) : (s.setWithin l r lo hi).canon := h.takeFree.setVi

/-! ### Cycles and images -/

theorem State.canon.ceFault {kind l op : Nat} {addr : Option Nat} (h : s.canon) : (s.ceFault kind l op addr).canon := by
  unfold State.ceFault
  extract_lets +onlyGivenNames pc s1 s2 s3 part
  have h2 : s2.canon := by
    dsimp only [s2]
    split
    exacts [State.canon.setF (h.setF.setF.setF.setF.setF), h.setF.setF.setF.setF.setF]
  exact h2.parmFlush.setF.upd.blockTrip.post

theorem State.canon.restoreConst {a : Nat} (h : s.canon) : (s.restoreConst a).canon := h.setWord
theorem State.canon.lostWord {l a : Nat} (h : s.canon) : (s.lostWord l a).canon := h.setWord.setF.count.post
theorem State.canon.scrub {a n : Nat} (h : s.canon) : (s.scrub a n).canon :=
  h.foldl fun _ _ hu => .ite (.ite hu.restoreConst.count.post hu.lostWord) hu
theorem State.canon.missCheck (h : s.canon) : s.missCheck.canon := .ite h.setF.blockTrip.post h
theorem State.canon.miss (h : s.canon) : s.miss.canon := h.upd.count.setF.missCheck
theorem State.canon.cycleRecord (h : s.canon) : s.cycleRecord.canon := h.scrub.scrub.capture
theorem State.canon.missCycle (h : s.canon) : s.missCycle.canon := h.upd.miss.cycleRecord
theorem State.canon.mergeSet {u : UpdateSet} (h : s.canon) : (s.mergeSet u).canon := h.merge
theorem State.canon.mergeHeld (h : s.canon) : s.mergeHeld.canon := h.upd.foldl fun _ _ hu => by split; exacts [hu.mergeSet, hu]
theorem State.canon.commitArrival (h : s.canon) : s.commitArrival.canon :=
  .ite h ((State.canon.ite h.missCycle h).share fun h1 => .ite h1.setF.setF.upd.upd.count
    h1.setF.setF.upd.mergeHeld.scrub.upd.setF.setF.upd.cycleRecord)
theorem State.canon.deadlineExpiry (h : s.canon) : s.deadlineExpiry.canon := .ite h.missCycle h
theorem State.canon.startFore {entries : List Nat} (h : s.canon) : (s.startFore entries).canon :=
  h.each fun _ _ hu => by split; exacts [hu.setCe, hu]
theorem State.canon.startBack (h : s.canon) : s.startBack.canon :=
  .ite h (by split; exacts [h, h.each fun _ _ hu => by split; exacts [.ite hu hu.setCe, hu]])
theorem State.canon.actEnd {res : Nat} (h : s.canon) : (s.actEnd res).canon := .ite h h.upd.setF.setF.post
theorem State.canon.ceLoadDone (h : s.canon) : s.ceLoadDone.canon := h.setBit
theorem State.canon.initEnd (h : s.canon) : s.initEnd.canon := h.upd.startBack.actEnd.ceLoadDone

theorem State.canon.startInit (h : s.canon) : s.startInit.canon := by
  unfold State.startInit
  split
  exacts [h.ceLoadDone, .ite h.upd.startFore h.upd.startFore.initEnd]

theorem State.canon.cycleEnd (h : s.canon) : s.cycleEnd.canon := h.setF.upd.parmFlush.startBack
theorem State.canon.laneEnd {l : Nat} (h : s.canon) : (s.laneEnd l).canon :=
  .ite (.ite h.setCe (by split; exacts [h.setCe.cycleEnd, h.setCe.initEnd, h.setCe])) h.setCe
theorem State.canon.cycleInfo (h : s.canon) : s.cycleInfo.canon := h.setWords
theorem State.canon.skip (h : s.canon) : s.skip.canon := h.upd.count.miss

theorem State.canon.skipN {n : Nat} (h : s.canon) : (State.skipN n s).canon := by
  induction n generalizing s with
  | zero => exact h
  | succ n ih => exact ih h.skip

theorem State.canon.cycleStart (h : s.canon) : s.cycleStart.canon := by
  have hu : ∀ m, State.canon { (s.setXing 2 m) with ce := { (s.setXing 2 m).ce with matchAt := none } } := fun _ => h.setXing.upd
  unfold State.cycleStart
  dsimp only
  split
  · refine .ite (hu _) (.ite ?_ (State.canon.cycleEnd ?_))
    all_goals exact (hu _).commitArrival.skipN.setF.setF.upd.cycleInfo.upd.startFore
  · exact .ite (hu _).skipN (hu _)
  · exact hu _

theorem State.canon.sendSet {l : Nat} {ws : List Word} {last : Bool} (h : s.canon) : (s.sendSet l ws last).canon :=
  .ite h.setCe.upd.xProduce h.setCe.upd

theorem State.canon.loadSections (h : s.canon) : s.loadSections.canon := by
  unfold State.loadSections
  split
  exacts [h.setWords.setWords, h]

theorem State.canon.loadSlot {slot : Nat} (h : s.canon) : (s.loadSlot slot).canon := by
  unfold State.loadSlot
  split
  exacts [h, (h.upd.setF.parmFlush.each fun _ _ hu => hu.setCe).setF.setF.setF.setF.loadSections]

theorem State.canon.ceReset (h : s.canon) : s.ceReset.2.canon :=
  .ite_snd h (h.parmFlush.each fun _ _ hu =>
    hu.setCe).upd.loadSections.setWords.setF.setF.setReg.xReset.xReset.xReset.xReset.startInit

theorem State.canon.ceActivate {slot : Nat} (h : s.canon) : (s.ceActivate slot).2.canon := by
  unfold State.ceActivate
  split
  · exact h
  · split <;> dsimp only
    exacts [h.setF.post, h.setF.upd]

theorem State.canon.imageVerified (h : s.canon) : s.imageVerified.canon := .ite h (by split; exacts [h.upd, h.actEnd])
theorem State.canon.imageLoaded (h : s.canon) : s.imageLoaded.canon := .ite h h.loadSlot.upd.startInit

theorem State.canon.bootImage (h : s.canon) : s.bootImage.canon := by
  refine .ite h ?_
  dsimp only
  split
  exacts [h.loadSlot.startInit, .ite h.loadSlot.post.startInit h.ceLoadDone]

theorem State.canon.initTimeout (h : s.canon) : s.initTimeout.canon := by
  unfold State.initTimeout
  split
  exacts [.ite h.ceFault.actEnd.ceLoadDone h, h]

theorem State.canon.refetchWords {w : LaneWait} (h : s.canon) : (s.refetchWords w).canon := by
  unfold State.refetchWords
  split
  exacts [h.upd, h.restoreConst, h]

theorem State.canon.refetched {l : Nat} (h : s.canon) : (s.refetched l).canon := h.refetchWords.refetchWords.setCe
theorem State.canon.ceMissClear (h : s.canon) : s.ceMissClear.canon := h.setF.setF.setF
theorem State.canon.ceChkClear (h : s.canon) : s.ceChkClear.canon := h.setF.setF.setF.setF.setF
theorem State.canon.ceDurmaxClear (h : s.canon) : s.ceDurmaxClear.canon := h.setF

/-! ### The instructions -/

theorem State.canon.adv {l : Nat} (h : s.canon) : (s.adv l).canon := h.setCe
theorem State.canon.goto {l pc : Nat} (h : s.canon) : (s.goto l pc).canon := h.setCe
theorem State.canon.stall {l : Nat} {prog : Bool} {at_ : Nat} (h : s.canon) : (s.stall l prog at_).canon := h.setCe.count.post

theorem State.canon.ceRun {x : CeInstr} {op : Nat} {g : State → State} (h : s.canon) (hg : ∀ u, u.canon → (g u).canon) :
    (s.ceRun x op g).canon := by
  unfold State.ceRun
  dsimp only
  refine .ite h ?_
  have hu : (if x.par then { s with ce := { s.ce with
      badProg := s.ce.badProg ++ [2 * (s.ceLane x.lane.val).ctx.pc] } } else s : State).canon := .ite h.upd h
  refine .ite hu.stall ?_
  split
  · exact hu.ceFault
  · exact .ite hu.ceFault (.ite (hg _ hu) hu)

theorem State.canon.ceChecked {x : CeInstr} {op : Nat} {srcs : List Nat} {off : Bool} {g : State → State} (h : s.canon)
    (hg : ∀ u, u.canon → (g u).canon) : (s.ceChecked x op srcs off g).canon := by
  refine h.ceRun fun u hu => ?_
  dsimp only
  split
  · exact hg _ hu
  · exact hg _ hu.count
  · exact hg _ hu.count.setBit.post
  · exact hu.ceFault

theorem State.canon.alu {x : CeInstr} {op : Nat} {off : VReg → VReg → Bool} {g : Word → Word → Word} (h : s.canon) :
    (s.alu x op off g).canon :=
  h.ceChecked (fun _ hu => hu.setV.adv)
theorem State.canon.aluFree {x : CeInstr} {op : Nat} {g : Word → Word → Word} (h : s.canon) : (s.aluFree x op g).canon :=
  h.ceRun (fun _ hu => hu.setV.adv)
theorem State.canon.shift {x : CeInstr} {op : Nat} {g : Word → Nat → Word} (h : s.canon) : (s.shift x op g).canon :=
  h.ceChecked (fun _ hu => .ite hu.setV.adv hu.takeFree.setV.adv)
theorem State.canon.qOp {x : CeInstr} {op : Nat} {off : VReg → VReg → Bool} {g : Int → Int → Int} (h : s.canon) :
    (s.qOp x op off g).canon :=
  h.ceChecked (fun _ hu => hu.setQ.adv)
theorem State.canon.macOp {x : CeInstr} {op : Nat} {g : Int → Int → Int → Int} (h : s.canon) : (s.macOp x op g).canon :=
  h.ceChecked (fun _ hu => hu.setAccSat.adv)
theorem State.canon.fOp {x : CeInstr} {op : Nat} {g : Word → Word → FpRes} (h : s.canon) : (s.fOp x op g).canon :=
  h.ceChecked (fun _ hu => hu.setF32.adv)

theorem State.canon.br {x : CeInstr} (h : s.canon) : (s.br x).canon := h.ceRun fun u hu => by
  extract_lets a b
  split
  next take v e =>
    have hv : v.canon := by
      split at e <;> cases e
      exacts [hu, hu, hu, hu, hu, hu, hu, hu.takeFree]
    exact .ite hv.adv (.ite hv.ceFault hv.goto)

theorem State.canon.call {x : CeInstr} (h : s.canon) : (s.call x).canon :=
  h.ceRun (fun _ hu => .ite hu.ceFault (by split; exacts [hu.setCe]))

theorem State.canon.ret {x : CeInstr} (h : s.canon) : (s.ret x).canon := h.ceRun fun u hu => by
  dsimp only
  split
  exacts [hu.setCe, hu.takeFree.goto]

theorem State.canon.loop {x : CeInstr} (h : s.canon) : (s.loop x).canon :=
  h.ceRun (fun _ hu => .ite hu.ceFault (.ite hu.goto hu.setCe))
theorem State.canon.bar {x : CeInstr} (h : s.canon) : (s.bar x).canon := h.ceRun (fun _ hu => hu.setCe)
theorem State.canon.wake {l : Nat} (h : s.canon) : (s.wake l).canon := h.setCe.adv
theorem State.canon.barRelease {mask : Nat} (h : s.canon) : (s.barRelease mask).canon := .ite (h.each fun _ _ hu => hu.wake) h

theorem State.canon.dataParity {l a : Nat} (h : s.canon) : (s.dataParity l a).canon := by
  refine .ite h.stall ?_
  dsimp only
  split
  · exact h.lostWord
  · have k := (h.lostWord (l := l) (a := a)).each (l := lanes8) (g := fun k s => s.setCe k { s.ceLane k with fore := {} })
      fun _ _ hu => hu.setCe
    exact .ite (State.canon.ite k.setF.upd (State.canon.missCycle k.setF.upd)).parmFlush.startBack
      (h.lostWord.each fun _ _ hu => hu.setCe)

theorem State.canon.checkedRead {x : CeInstr} {a n : Nat} {g : State → State} (h : s.canon)
    (hg : ∀ u, u.canon → (g u).canon) : (s.checkedRead x a n g).canon := by
  unfold State.checkedRead
  extract_lets u
  have hu : u.canon := by
    dsimp only [u]
    split
    exacts [h.upd, h]
  split
  exacts [hu.dataParity, hg _ hu]

theorem State.canon.load {x : CeInstr} {op n : Nat} {g : State → Nat → State} (h : s.canon)
    (hg : ∀ a u, u.canon → (g u a).canon) : (s.load x op n g).canon :=
  h.ceRun fun _ hu => .ite hu.ceFault (hu.checkedRead fun _ hv => (hg _ _ hv).adv)
theorem State.canon.store {x : CeInstr} {op n : Nat} {g : State → Nat → State} (h : s.canon)
    (hg : ∀ a u, u.canon → (g u a).canon) : (s.store x op n g).canon :=
  h.ceRun fun _ hu => .ite hu.ceFault (hg _ _ hu).adv

theorem State.canon.sizeOf {x : CeInstr} (h : s.canon) : (s.sizeOf x).2.canon := by
  unfold State.sizeOf
  split
  exacts [h, h, h, h.takeFree]

theorem State.canon.ld {x : CeInstr} (h : s.canon) : (s.ld x).canon := h.sizeOf.load (fun _ _ hu => .ite hu.setV hu.takeFree.setV)
theorem State.canon.setBytes {a n : Nat} {w : Word} (h : s.canon) : (s.setBytes a n w).canon := h.each fun _ _ hu => hu.setByte
theorem State.canon.st' {x : CeInstr} (h : s.canon) : (s.st' x).canon := h.sizeOf.store (fun _ _ hu => hu.setBytes)
theorem State.canon.loadN {x : CeInstr} {op n : Nat} (h : s.canon) : (s.loadN x op n).canon :=
  .ite (h.ceRun (fun _ hu => hu.ceFault)) (h.load (fun _ _ hu => hu.each fun _ _ hu => hu.setV))
theorem State.canon.store2 {x : CeInstr} (h : s.canon) : (s.store2 x).canon :=
  .ite (h.ceRun (fun _ hu => hu.ceFault)) (h.store (fun _ _ hu => hu.setWord.setWord))
theorem State.canon.wne {x : CeInstr} (h : s.canon) : (s.wne x).canon :=
  h.ceRun (fun _ hu => .ite hu.ceFault (hu.checkedRead (fun _ hu => .ite hu.adv hu.setCe)))

theorem State.canon.wneWake {l : Nat} (h : s.canon) : (s.wneWake l).canon := by
  unfold State.wneWake
  split
  exacts [.ite h (by split; exacts [h.dataParity, .ite h.wake h]), h]

theorem State.canon.upsOp {x : CeInstr} (h : s.canon) : (s.upsOp x).canon :=
  h.ceRun (fun _ hu => .ite hu.ceFault (.ite hu.ceFault (hu.checkedRead (fun _ hu => hu.sendSet))))

theorem State.canon.upsAck (h : s.canon) : s.upsAck.canon := by
  unfold State.upsAck
  split
  · exact h
  next l ws last rest _ =>
    extract_lets +onlyGivenNames _ s1 c s2 s3
    have h1 : s1.canon := h.upd
    have h3 : s3.canon := by
      dsimp only [s3]
      split
      exacts [h1.setXing.xProduce, h1.setXing]
    clear_value s3
    extract_lets +onlyGivenNames _ s4
    have h4 : s4.canon := by
      refine .ite h3 (.ite h3.setRefused ?_)
      split
      exacts [h3.setRefused, h3.upd]
    clear_value s4
    exact .ite (State.canon.wake (.ite h4.upd h4)) (.ite h4.upd h4)

theorem State.canon.flg {x : CeInstr} (h : s.canon) : (s.flg x).canon := h.ceRun (fun _ hu => hu.setCe.setV.adv)
theorem State.canon.absOp {x : CeInstr} (h : s.canon) : (s.absOp x).canon :=
  h.ceChecked (fun _ hu => .ite hu.takeFree.setV.adv hu.setVi.adv)
theorem State.canon.satOp {x : CeInstr} (h : s.canon) : (s.satOp x).canon := h.ceChecked (fun _ hu => hu.setVi.adv)
theorem State.canon.qnegOp {x : CeInstr} (h : s.canon) : (s.qnegOp x).canon := h.ceChecked (fun _ hu => hu.setQ.adv)
theorem State.canon.accrd {x : CeInstr} (h : s.canon) : (s.accrd x).canon := h.ceChecked (fun _ hu => hu.setQ.adv)
theorem State.canon.fmaOp {x : CeInstr} (h : s.canon) : (s.fmaOp x).canon := h.ceChecked (fun _ hu => hu.setF32.adv)
theorem State.canon.fcmpOp {x : CeInstr} (h : s.canon) : (s.fcmpOp x).canon := h.ceChecked (fun _ hu => hu.setVi.sticky.adv)
theorem State.canon.fUnary {x : CeInstr} {op : Nat} {g : Word → FpRes} (h : s.canon) : (s.fUnary x op g).canon :=
  h.ceChecked (fun _ hu => hu.setF32.adv)

theorem State.canon.fcvtfOp {x : CeInstr} (h : s.canon) : (s.fcvtfOp x).canon := h.ceChecked fun _ hu => by
  refine State.canon.adv ?_
  split
  exacts [hu.setVi.sticky, hu.setQ, hu.setQ]

theorem State.canon.fcvtfiOp {x : CeInstr} (h : s.canon) : (s.fcvtfiOp x).canon := h.ceChecked fun _ hu => by
  extract_lets out
  refine State.canon.adv ?_
  split
  exacts [hu.setVi.sticky, hu.takeFree.setV.sticky, .ite hu.takeFree.setV.sticky hu.setVi]

theorem State.canon.sincosOp {x : CeInstr} (h : s.canon) : (s.sincosOp x).canon :=
  .ite (h.ceRun (fun _ hu => hu.ceFault)) (h.ceChecked (fun _ hu => by split; exacts [hu.setWithin.setWithin.adv]))
theorem State.canon.atan2Op {x : CeInstr} (h : s.canon) : (s.atan2Op x).canon :=
  h.ceChecked (fun _ hu => .ite hu.takeFree.setV.adv hu.setWithin.adv)

/-! ### The kernels -/

theorem State.canon.fuzz {x : Int} (h : s.canon) : (s.fuzz x).2.canon := h.takeFree
theorem State.canon.clobber {l : Nat} (h : s.canon) : (s.clobber l).canon :=
  (h.each fun _ _ hu => hu.takeFree.setV).takeFree.takeFree.setAcc.takeFree.setCe
theorem State.canon.outputs {l : Nat} {out : List Word} (h : s.canon) : (s.outputs l out).canon := h.foldl fun _ _ hu => hu.setV
theorem State.canon.kcall {x : CeInstr} {id : Nat} {rs : List Nat} {g : State → State} (h : s.canon)
    (hg : ∀ u, u.canon → (g u).canon) : (s.kcall x id rs g).canon := h.ceChecked hg
theorem State.canon.kernel0 {x : CeInstr} {id n : Nat} {g : (Nat → Int) → State → List Word × State} (h : s.canon)
    (hg : ∀ v u, u.canon → (g v u).2.canon) : (s.kernel0 x id n g).canon :=
  h.kcall fun u hu => (hg _ u hu).clobber.outputs.adv

theorem State.canon.kernelN {x : CeInstr} {id ins n : Nat}
    {g : (Nat → Int) → (Nat → Int) → State → List Word × List Word × State} (h : s.canon)
    (hg : ∀ v m u, u.canon → (g v m u).2.2.canon) : (s.kernelN x id ins n g).canon :=
  h.kcall fun _ hu => .ite hu.ceFault (hu.checkedRead fun u hu => (hg _ _ u hu).setWords.clobber.outputs.adv)

theorem State.canon.kClarke {x : CeInstr} (h : s.canon) : (s.kClarke x).canon :=
  h.kernel0 fun v _ hu => hu.fuzz (x := rnd ((v 3 - v 4) * fxInvSqrt3) 62)

theorem State.canon.kRotate {x : CeInstr} {inverse : Bool} (h : s.canon) : (s.kRotate x inverse).canon :=
  h.kernel0 fun v u hu => by
    let sn := if inverse then -(fxSinCos (v 4)).1 else (fxSinCos (v 4)).1
    exact State.canon.fuzz (x := rnd (v 3 * (fxSinCos (v 4)).2 - v 2 * sn) 62) hu.fuzz

theorem State.canon.kPi {x : CeInstr} (h : s.canon) : (s.kPi x).canon := h.kernelN (fun _ _ _ hu => hu)

theorem State.canon.kSogi {x : CeInstr} (h : s.canon) : (s.kSogi x).canon :=
  h.kernelN fun v m u hu => by
    extract_lets +onlyGivenNames e w x1 x2 den
    split
    next om t e =>
      have ht : t.canon := by
        split at e <;> cases e
        exacts [hu.takeFree, hu]
      extract_lets +onlyGivenNames om'
      split
      next th t' e' =>
        split at e'
        · cases e'
          exact ht.takeFree
        · exact ht.fuzz.of_snd e'

theorem State.canon.kSeqsep {x : CeInstr} (h : s.canon) : (s.kSeqsep x).canon := h.kernel0 (fun _ _ hu => hu)
theorem State.canon.kSvm {x : CeInstr} (h : s.canon) : (s.kSvm x).canon := h.kernel0 (fun _ _ hu => hu.takeFree)
theorem State.canon.kBiquad {x : CeInstr} (h : s.canon) : (s.kBiquad x).canon := h.kernelN (fun _ _ _ hu => hu)

theorem State.canon.kCorr {x : CeInstr} (h : s.canon) : (s.kCorr x).canon :=
  .ite (h.kcall (fun _ hu => hu.ceFault)) (by
    split
    · exact h.kcall (fun _ hu => hu.dataParity)
    · exact h.kernelN (fun _ _ _ hu => hu))

theorem State.canon.kMpptPo {x : CeInstr} (h : s.canon) : (s.kMpptPo x).canon := h.kernelN (fun _ _ _ hu => hu)
theorem State.canon.kMpptIc {x : CeInstr} (h : s.canon) : (s.kMpptIc x).canon := h.kernelN (fun _ _ _ hu => hu)
theorem State.canon.kPq {x : CeInstr} (h : s.canon) : (s.kPq x).canon := h.kernel0 (fun _ _ hu => hu)
theorem State.canon.kMsq {x : CeInstr} (h : s.canon) : (s.kMsq x).canon := h.kernelN (fun _ _ _ hu => hu)
theorem State.canon.kRamp {x : CeInstr} (h : s.canon) : (s.kRamp x).canon := h.kernelN (fun _ _ _ hu => hu)

/-! ### The grid supervisor -/

theorem State.canon.pointStep {c k t : Nat} (h : s.canon) : (s.pointStep c k t).canon := h.upd
theorem State.canon.pointsStep {t : Nat} (h : s.canon) : (s.pointsStep t).canon :=
  (h.upd.each fun _ _ hu => hu.each fun _ _ hu => hu.pointStep).upd
theorem State.canon.gridTrip {cause crv pt : Nat} (h : s.canon) : (s.gridTrip cause crv pt).canon := h.setF.blockTrip.post
theorem State.canon.rideReturn {t : Nat} (h : s.canon) : (s.rideReturn t).canon := .ite h h.upd.enter
theorem State.canon.rideEnter (h : s.canon) : s.rideEnter.canon := .ite h h.upd.enter.count
theorem State.canon.holdOn (h : s.canon) : s.holdOn.canon := .ite h h.allOff.setF.count

theorem State.canon.showZone (h : s.canon) : s.showZone.canon := by
  unfold State.showZone
  split
  next z pt _ =>
    extract_lets +onlyGivenNames old s1 s2 s3 s4
    have h4 : s4.canon := by
      dsimp only [s4]
      split
      exacts [State.canon.setF (State.canon.setF (State.canon.upd h.setF)), State.canon.upd h.setF]
    clear_value s4
    exact .ite h4 h4.post

theorem State.canon.zoneAct {st t : Nat} (h : s.canon) : (s.zoneAct st t).canon :=
  (State.canon.ite h h.setF).share fun h1 => .ite h1.upd (by
    split
    · exact h1.upd.gridTrip
    · exact (State.canon.ite h1.upd.rideEnter h1.upd).holdOn
    · exact .ite h1.upd.rideReturn h1.upd
    · exact .ite h1.upd.rideEnter h1.upd)

theorem State.canon.freshStep {st t : Nat} (h : s.canon) : (s.freshStep st t).canon :=
  (State.canon.ite h.mtrRebase h).share fun h1 => .ite (.ite h1.upd.setF.count.gridTrip h1.upd.setF.count.upd.setF) h1.upd.setF
theorem State.canon.serviceStep {fresh : Bool} {t : Nat} (h : s.canon) : (s.serviceStep fresh t).canon :=
  .ite (.ite h.upd.setF h.upd) h.upd.setF
theorem State.canon.passiveStep {st t : Nat} (h : s.canon) : (s.passiveStep st t).canon :=
  (State.canon.ite h.upd.gridTrip h.upd).share fun h2 => .ite h2.gridTrip h2
theorem State.canon.activeStep {st t : Nat} (h : s.canon) : (s.activeStep st t).canon :=
  (State.canon.ite h.upd.setF h.upd).share fun h2 => .ite h2.setF.setF <| .ite (.ite (.ite h2.setF.count.gridTrip h2.setF.count)
    h2.setF.setF) h2.setF
theorem State.canon.gridEval (h : s.canon) : s.gridEval.canon :=
  .ite h h.upd.pointsStep.showZone.freshStep.serviceStep.zoneAct.passiveStep.activeStep
theorem State.canon.gridStale (h : s.canon) : s.gridStale.canon := .ite h.gridTrip h
theorem State.canon.pointExpiry {c k : Nat} (h : s.canon) : (s.pointExpiry c k).canon := .ite h.upd h
theorem State.canon.rideExit (h : s.canon) : s.rideExit.canon := .ite h.rideReturn h
theorem State.canon.islRocof (h : s.canon) : s.islRocof.canon := .ite h.gridTrip h
theorem State.canon.islActive (h : s.canon) : s.islActive.canon := .ite h.gridTrip h

theorem State.canon.codeBoundary (h : s.canon) : s.codeBoundary.canon := by
  unfold State.codeBoundary
  split
  exacts [.ite h.upd.aiShow h, h]

theorem State.canon.codeChange (h : s.canon) : s.codeChange.canon := h.upd

theorem State.canon.serviceTimer (h : s.canon) : s.serviceTimer.canon := by
  unfold State.serviceTimer
  split
  exacts [.ite h.setF h, h]

theorem State.canon.grdCntClear (h : s.canon) : s.grdCntClear.canon := h.setF.setF.setF

/-! ### Cewlink -/

theorem State.canon.losEnd {n : Nat} (h : s.canon) : (s.losEnd n).canon :=
  .ite (.ite h.setF.trainStart h.setF.trainStart.count) h.setF
theorem State.canon.symLock {n : Nat} (h : s.canon) : (s.symLock n).canon := .ite h.setPort h
theorem State.canon.trained {n far : Nat} {ts : TrainSeq} (h : s.canon) : (s.trained n far ts).canon :=
  .ite (.ite h.setF.setPort h.setF.setF.setPort.post) h
theorem State.canon.miswireRetry {n : Nat} (h : s.canon) : (s.miswireRetry n).canon := .ite h.trainStart h
theorem State.canon.linkUp {n : Nat} (h : s.canon) : (s.linkUp n).canon := .ite h.setXing.setF.setPort.post h
theorem State.canon.setOut {n : Nat} {f : LinkFrame} (h : s.canon) : (s.setOut n f).canon := h.upd

theorem State.canon.cutForward {n : Nat} (h : s.canon) : (s.cutForward n).canon := by
  unfold State.cutForward
  split
  exacts [by split; exacts [h.setOut.setPort, h], h]

theorem State.canon.linkDown {n : Nat} {los : Bool} (h : s.canon) : (s.linkDown n los).canon :=
  (State.canon.ite h.setF h).share fun h1 => .ite h1 (h1.cutForward.portIdle.upLost.share fun h2 => .ite h2.post h2)
theorem State.canon.retrain {n : Nat} (h : s.canon) : (s.retrain n).canon := .ite h.trainStart.count h

theorem State.canon.noFrame {n : Nat} (h : s.canon) : (s.noFrame n).canon := by
  unfold State.noFrame
  split
  exacts [.ite h.setF h, h]

theorem State.canon.countSegs {n : Nat} {f : LinkFrame} (h : s.canon) : (s.countSegs n f).canon := h.count.count
theorem State.canon.setSlotStat {key v : Nat} (h : s.canon) : (s.setSlotStat key v).canon := h.setByte.setByte
theorem State.canon.deliver {key frame : Nat} {woad : Bool} {ws : List Word} (h : s.canon) :
    (s.deliver key frame woad ws).2.canon :=
  .ite_snd (.ite_snd h (State.canon.ite h.setWords h).setSlotStat) h.setWords.setSlotStat.upd
theorem State.canon.ageSlot {key : Nat} (h : s.canon) : (s.ageSlot key).canon := .ite h (.ite h h.setSlotStat)
theorem State.canon.refill (h : s.canon) : s.refill.canon := h.each fun _ _ hu => hu.upd
theorem State.canon.spend {c : Nat} (h : s.canon) : (s.spend c).canon := h.upd

theorem State.canon.nextOf {woad : Bool} {c : Nat} {p : Packet} (h : s.canon) (e : s.nextOf woad c = some (p, t)) : t.canon := by
  unfold State.nextOf at e
  split at e
  · split at e <;> cases e
    exact h.upd
  split at e
  · cases e
  split at e
  · obtain ⟨a, -, e⟩ := Option.map_eq_some_iff.mp e
    cases e
    exact h.upd.spend
  · obtain ⟨a, -, e⟩ := Option.map_eq_some_iff.mp e
    cases e
    exact h.upd.spend
  · split at e <;> cases e
    exact h.upd.spend
  · split at e
    · split at e <;> cases e
      exact h.upd.spend
    · cases e

theorem State.canon.markSent {p : Packet} (h : s.canon) : (s.markSent p).canon := h.upd

theorem State.canon.takeUp {woad : Bool} {n : Nat} (h : s.canon) : (State.takeUp woad n s).2.canon := by
  induction n generalizing s with
  | zero => exact h
  | succ n ih =>
    unfold State.takeUp
    split
    · exact h
    next p u e =>
      obtain ⟨c, -, hc⟩ := List.exists_of_findSome?_eq_some e
      exact ih (h.nextOf hc).markSent

theorem State.canon.takeDown {line cells : Nat} (h : s.canon) : (s.takeDown line cells).2.canon :=
  h.setDnQueue.foldl fun _ _ hu => hu.markSent
theorem State.canon.request {p : Packet} {who : TxnFor} (h : s.canon) : (s.request p who).canon := h.upd.route
theorem State.canon.dropTxn {t : Txn} (h : s.canon) : (s.dropTxn t).canon := h.upd
theorem State.canon.txnFrame (h : s.canon) : s.txnFrame.canon := h.upd

theorem State.canon.resend {tag : Nat} (h : s.canon) : (s.resend tag).canon := by
  unfold State.resend
  split
  exacts [.ite h.upd.count.route h, h]

theorem State.canon.serve {q : Packet} {act : State → State} (h : s.canon) (ha : ∀ u, u.canon → (act u).canon) :
    (s.serve q act).canon := by
  unfold State.serve
  refine .ite h ?_
  split
  exacts [h.count.route, ha _ h]

theorem State.canon.bulkOpen {q : Packet} (h : s.canon) : (s.bulkOpen q).canon :=
  h.serve (fun _ hu => .ite hu.answer <| .ite hu.answer (by split; exacts [hu.answer, hu.upd.setOwner.answer]))
theorem State.canon.bulkClose {b : Nat} (h : s.canon) : (s.bulkClose b).canon := h.upd.setOwner

theorem State.canon.bulkData {q : Packet} (h : s.canon) : (s.bulkData q).canon :=
  h.serve (fun _ hu => .ite hu.answer (by
    split
    · exact hu.answer
    · exact .ite hu.upd.answer <| .ite hu.answer <| .ite hu.answer (.ite hu.upd.bulkClose.answer hu.upd.upd.answer)))

theorem State.canon.bulkTimeout {b : Nat} (h : s.canon) : (s.bulkTimeout b).canon := by
  unfold State.bulkTimeout
  split
  exacts [.ite h.bulkClose h, h]

theorem State.canon.parWrite {q : Packet} (h : s.canon) : (s.parWrite q).canon :=
  h.serve (fun _ hu => .ite hu.answer (.ite hu.answer hu.parmWrite.answer))
theorem State.canon.lnkErrClear {n : Nat} (h : s.canon) : (s.lnkErrClear n).canon := h.setF.setF.setF
theorem State.canon.lnkTxClear (h : s.canon) : s.lnkTxClear.canon := h.setReg.setF

/-! ### Plant coordination -/

theorem State.canon.setPartner {p : Nat} {x : Partner} (h : s.canon) : (s.setPartner p x).canon := h.upd

theorem State.canon.partnerSeen {p : Nat} (h : s.canon) : (s.partnerSeen p).canon := by
  unfold State.partnerSeen
  dsimp only
  split
  exacts [.ite h.setPartner h, h, .ite h.setPartner h.setPartner, .ite h h.setPartner]

theorem State.canon.partnerLost {p : Nat} (h : s.canon) : (s.partnerLost p).canon := .ite h.setPartner.post h
theorem State.canon.refusedStop {p : Nat} (h : s.canon) : (s.refusedStop p).canon := .ite h.setPartner h
theorem State.canon.partnerForget (h : s.canon) : s.partnerForget.canon := .ite h h.setPartner
theorem State.canon.zoneSlot (h : s.canon) : s.zoneSlot.2.canon := .ite_snd h (by split; exacts [h, h.takeFree.upd])

theorem State.canon.phaseOffset {slot : Nat} (h : s.canon) : (s.phaseOffset slot).2.canon := by
  unfold State.phaseOffset
  split
  next e => exact State.canon.of_snd h.zoneSlot e

theorem State.canon.writePhase {p : Nat} {who : TxnFor} (h : s.canon) : (s.writePhase p who).canon := by
  unfold State.writePhase
  split
  next e => exact State.canon.request (h.phaseOffset.of_snd e)

theorem State.canon.rebalance {n : Nat} (h : s.canon) : (State.rebalance n s).canon := by
  induction n generalizing s with
  | zero => exact h
  | succ n ih =>
    unfold State.rebalance
    refine .ite h (.ite h ?_)
    split
    exacts [h, ih h.setPartner.writePhase]

theorem State.canon.phaseChange (h : s.canon) : s.phaseChange.canon := .ite h (h.each fun _ _ hu => .ite hu.merge hu).upd
theorem State.canon.giveCode {p : Nat} {on : Option Nat} {who : TxnFor} (h : s.canon) : (s.giveCode p on who).canon :=
  h.setPartner.request
theorem State.canon.sendCodes (h : s.canon) : s.sendCodes.canon := h.upd.each fun _ _ hu => hu.giveCode
theorem State.canon.codeStep (h : s.canon) : s.codeStep.canon := .ite (h.upd.each fun _ _ hu => hu.giveCode) h

theorem State.canon.codeChangePlant (h : s.canon) : s.codeChangePlant.canon := by
  unfold State.codeChangePlant
  split
  exacts [(h.upd.each fun _ _ hu => hu.giveCode).codeStep, h.sendCodes, h]

theorem State.canon.admissionStart (h : s.canon) : s.admissionStart.canon := .ite h (by split; exacts [h.request, h])

theorem State.canon.assign {p role : Nat} (h : s.canon) : (s.assign p role).canon := by
  unfold State.assign
  dsimp only
  split
  exacts [h.setPartner.setPartner.post, .ite h h.setPartner.setPartner]

theorem State.canon.admitRead {p step : Nat} {ws : List Word} (h : s.canon) : (s.admitRead p step ws).canon := by
  unfold State.admitRead
  dsimp only
  split
  · exact h.setPartner.request
  · exact h.setPartner
  · split
    exacts [h.setPartner.post, h.assign.writePhase]

theorem State.canon.admitWrote {p step : Nat} (h : s.canon) : (s.admitWrote p step).canon := by
  unfold State.admitWrote
  split
  exacts [h.giveCode, h.request, h.setPartner.post, h]

theorem State.canon.zoneSum (h : s.canon) : s.zoneSum.canon := h.setF.setF
theorem State.canon.relaySetpoints (h : s.canon) : s.relaySetpoints.canon := .ite h.upd h

theorem State.canon.relayReport {q : Packet} {trip : Bool} (h : s.canon) : (s.relayReport q trip).canon := by
  refine .ite h ?_
  dsimp only
  refine .ite (State.canon.setPartner ?drop) ?drop
  case drop =>
    refine .ite ?merge (State.canon.count ?merge)
    case merge => exact .ite (State.canon.count (.ite h.upd h.upd)) (.ite h.upd h.upd)

theorem State.canon.queueTrace {p : Packet} (h : s.canon) : (s.queueTrace p).canon := .ite h.upd (.ite h.capture h.count)
theorem State.canon.holdFrame (h : s.canon) : s.holdFrame.canon := h.upd
theorem State.canon.holdExpiry (h : s.canon) : s.holdExpiry.canon := h.upd
theorem State.canon.packetRelay {p : Packet} (h : s.canon) : (s.packetRelay p).canon :=
  .ite h (by split; exacts [.ite h.relayReport h.route, .ite h.relayReport h.route, h.queueLog, h.queueTrace, h.route])
theorem State.canon.dropClear (h : s.canon) : s.dropClear.canon := h.setReg.setF.setF.setReg

/-! ### The safety function -/

theorem State.canon.setChan {b : Bool} {c : ChanSt} (h : s.canon) : (s.setChan b c).canon := .ite h.upd h.upd
theorem State.canon.showSaf (h : s.canon) : s.showSaf.canon := h.setF.setF.setF.setF.setF.setF
theorem State.canon.testStop (h : s.canon) : s.testStop.canon := .ite h h.upd.park
theorem State.canon.react {b : Bool} {cause : Nat} {first : Bool} (h : s.canon) : (s.react b cause first).canon :=
  .ite (h.allOff.setChan.setChan.upd.setF.showSaf.testStop.armEnd.share fun h5 => .ite h5.post.capTriggerAll.enter
    h5.post.capTriggerAll) ((State.canon.ite h.setF h).share fun h1 => (State.canon.ite h1 h1.setChan).showSaf)
theorem State.canon.safFault {b : Bool} {i cause : Nat} (h : s.canon) : (s.safFault b i cause).canon :=
  .ite h (State.canon.ite h.upd h).setChan.react
theorem State.canon.safFaultBoth {i cause : Nat} (h : s.canon) : (s.safFaultBoth i cause).canon := h.safFault.safFault
theorem State.canon.setCond {b : Bool} {i : Nat} {on : Bool} (h : s.canon) : (s.setCond b i on).canon := h.setChan
theorem State.canon.demand {b : Bool} {k : Nat} (h : s.canon) : (s.demand b k).canon :=
  .ite h (State.canon.ite h.testStop h.testStop.count).setChan.react
theorem State.canon.latchDisc {b : Bool} {k : Nat} (h : s.canon) : (s.latchDisc b k).canon := .ite h.setChan h.setChan.react
theorem State.canon.latchTp {b : Bool} {k : Nat} (h : s.canon) : (s.latchTp b k).canon := h.setChan.react

theorem State.canon.discTime {b : Bool} {k : Nat} (h : s.canon) : (s.discTime b k).canon := by
  unfold State.discTime
  split
  exacts [.ite h.latchDisc h, h]

theorem State.canon.discExpire {b : Bool} {k : Nat} (h : s.canon) : (s.discExpire b k).canon := by
  unfold State.discExpire
  split
  exacts [.ite h.latchDisc h, h]

theorem State.canon.safRelease (h : s.canon) : s.safRelease.canon := .ite h.setChan.setChan.upd.showSaf.post h.showSaf
theorem State.canon.selfRelease {b : Bool} {k : Nat} (h : s.canon) : (s.selfRelease b k).canon := .ite h.setChan.safRelease h
theorem State.canon.inputChange {b : Bool} {x : Nat} {high : Bool} (h : s.canon) : (s.inputChange b x high).canon :=
  (State.canon.ite h.discTime h).share fun h1 => .ite h1.setChan ((State.canon.ite h1.setChan.setChan.count
    h1.setChan.setChan).share fun h4 => .ite h4.selfRelease (.ite h4.demand h4))
theorem State.canon.testPulse {b : Bool} {stay fell : Nat} (h : s.canon) : (s.testPulse b stay fell).canon :=
  h.each fun _ _ hu => .ite hu.latchTp hu
theorem State.canon.switch {b : Bool} {n : Nat} {on : Bool} (h : s.canon) : (s.switch b n on).canon := .ite h h.setChan.upd.showSaf
theorem State.canon.energise {b : Bool} (h : s.canon) : (s.energise b).canon := h.each fun _ _ hu => .ite hu hu.switch

theorem State.canon.switchOff {b : Bool} (h : s.canon) : (s.switchOff b).canon := by
  unfold State.switchOff
  dsimp only
  split
  exacts [.ite (h.each fun _ _ hu => hu.switch).setChan h, h]

theorem State.canon.nodeCheck {b : Bool} {nodes : Nat} (h : s.canon) : (s.nodeCheck b nodes).canon :=
  h.each fun _ _ hu => .ite hu (.ite hu.setChan.setCond.safFault hu.setChan.setCond)
theorem State.canon.pulseStart {b : Bool} {n : Nat} (h : s.canon) : (s.pulseStart b n).canon := .ite h.setChan h
theorem State.canon.pulseEnd {b : Bool} {n : Nat} {followed : Bool} (h : s.canon) : (s.pulseEnd b n followed).canon :=
  .ite (.ite h.setChan h.setChan.safFault) h
theorem State.canon.outOc {b : Bool} {n : Nat} (h : s.canon) : (s.outOc b n).canon := .ite h.switch.switch.safFault h
theorem State.canon.outOpen {b : Bool} {n : Nat} (h : s.canon) : (s.outOpen b n).canon := .ite h.safFault h
theorem State.canon.feedback {b : Bool} {n : Nat} {low : Bool} (h : s.canon) : (s.feedback b n low).canon :=
  .ite (.ite h.setCond.safFault h.setCond) h

theorem State.canon.safetyCycle {b beat lenOk : Bool} {nodes : Nat} (h : s.canon) : (s.safetyCycle b beat lenOk nodes).canon :=
  .ite h ((State.canon.ite h.upd h).share fun h1 => ((State.canon.ite h1.setChan h1).each fun _ _ hu => .ite hu (.ite
    hu.discTime hu.discTime.demand)).share fun h3 => (State.canon.ite h3.safFault h3).share fun h4 => (State.canon.ite h4.upd
    h4).share fun h5 => (State.canon.ite h5.nodeCheck.setChan.safFault h5.nodeCheck.setChan).energise.xProduce)

theorem State.canon.selfTest {ok : Bool} (h : s.canon) : (s.selfTest ok).canon := .ite (.ite h.setBit.upd h.setBit.safFaultBoth) h
theorem State.canon.testStart (h : s.canon) : s.testStart.canon := (h.each fun _ _ hu => hu.switch.switch).setChan.setChan.upd
theorem State.canon.testCommand (h : s.canon) : s.testCommand.2.canon := .ite_snd h.testStart h
theorem State.canon.testRefs {b : Bool} {c117 c118 : Nat} (h : s.canon) : (s.testRefs b c117 c118).canon := h.setChan
theorem State.canon.testOpen {a117 a118 b117 b118 : Nat} (h : s.canon) : (s.testOpen a117 a118 b117 b118).canon :=
  .ite (h.upd.each fun _ _ hu => hu.setLane).testRefs.testRefs h
theorem State.canon.testSample {b : Bool} {codes : List (Int × Int)} {fb : Bool} (h : s.canon) : (s.testSample b codes fb).canon :=
  .ite (h.each fun _ _ hu => .ite hu.setChan hu).setChan h

theorem State.canon.testEnd {a117 a118 b117 b118 : Nat} (h : s.canon) : (s.testEnd a117 a118 b117 b118).canon := by
  refine .ite ?_ h
  extract_lets +onlyGivenNames s1 ra rb poles res _ s2 _ s3 s4
  have h4 : s4.canon := h.testRefs.testRefs.setChan.setChan.setF.setF.testStop
  clear_value s4 res
  split
  · dsimp only
    split
    exacts [.ite h4.setF.setF.upd.post.upd.enter.armEnd h4.setF.setF.upd.post.armEnd, h4.setF.setF.upd.post]
  · refine State.canon.post (.ite (State.canon.safFault ?first) ?first)
    case first => exact .ite h4.setF.safFault h4.setF
  · exact h4.post.armEnd

theorem State.canon.testDue (h : s.canon) : s.testDue.canon := .ite h.upd.post h
theorem State.canon.testOverdue (h : s.canon) : s.testOverdue.canon := .ite (.ite h.setF.safFaultBoth h.setF) h
theorem State.canon.acknowledge (h : s.canon) : s.acknowledge.canon := h.setChan.setChan.safRelease
theorem State.canon.ackRelease {ms : Nat} (h : s.canon) : (s.ackRelease ms).canon := .ite h (.ite h.setF h.setF.acknowledge)
theorem State.canon.ackStuck (h : s.canon) : s.ackStuck.canon := .ite h h.setF.post
theorem State.canon.ackCommand {who : Writer} (h : s.canon) : (s.ackCommand who).2.canon := .ite_snd h (.ite_snd h.acknowledge h)
theorem State.canon.netStop {b : Bool} {key : Nat} {w0 : Word} (h : s.canon) : (s.netStop b key w0).canon :=
  .ite h.setChan.safFault h.setChan
theorem State.canon.judge {b : Bool} {frame : Nat} {copies : List Word} (h : s.canon) : (s.judge b frame copies).canon :=
  .ite h.setChan ((State.canon.ite h h.count).share fun h1 => .ite h1.setChan.safFault h1.setChan)
theorem State.canon.judgeOld {b : Bool} {k : Nat} (h : s.canon) : (s.judgeOld b k).canon :=
  (h.each fun _ _ hu => .ite hu.judge hu).setChan

theorem State.canon.netCopy {b : Bool} {frame : Nat} {woad other : Bool} {w0 : Word} (h : s.canon) :
    (s.netCopy b frame woad other w0).canon :=
  (State.canon.ite h.netStop h).share fun h1 => (State.canon.ite h1.setChan.setF h1.setChan).share fun h3 => .ite h3
    (h3.judgeOld.share fun h4 => by
    split
    · exact h4.judge
    · exact .ite h4.setChan h4.judge)

theorem State.canon.netMismatch {b : Bool} (h : s.canon) : (s.netMismatch b).canon := .ite h.safFault h
theorem State.canon.netLoss {b : Bool} (h : s.canon) : (s.netLoss b).canon := .ite h.safFault h
theorem State.canon.netSingle {b : Bool} (h : s.canon) : (s.netSingle b).canon := .ite h.setF.post h
theorem State.canon.recordWrite (h : s.canon) : s.recordWrite.canon := h.upd

theorem State.canon.ageUpdate (h : s.canon) : s.ageUpdate.canon := by
  refine .ite ?_ h
  dsimp only
  split
  exacts [h.count.upd.upd, h.count.upd.upd]

theorem State.canon.safCntClear (h : s.canon) : s.safCntClear.canon := h.setF.setF.setF

/-! ### Frames -/

theorem State.canon.setSafTx {key : Nat} {ws : List Word} (h : s.canon) : (s.setSafTx key ws).canon := h.upd
theorem State.canon.emitLine {l ts : Nat} (h : s.canon) : (s.emitLine l ts).canon :=
  .ite h ((h.takeDown.each fun _ _ hu => .ite hu.setSafTx hu).each fun _ _ hu => .ite hu.relate.setOut.setPort hu)
theorem State.canon.frameStart (h : s.canon) : s.frameStart.canon :=
  .ite h <| .ite h.count (((h.scrub.scrub.zoneSum.each fun _ _ hu => hu.ageSlot).each fun _ _ hu =>
    hu.refusedStop).upd.upd.relaySetpoints.refill.txnFrame.holdFrame.takeFree.each fun _ _ hu => hu.emitLine).upd
theorem State.canon.ptcMatch {n : Nat} (h : s.canon) : (s.ptcMatch n).canon :=
  .ite h ((State.canon.ite h.ptcAdvance.cairnTouch h.ptcAdvance).share fun h2 => .ite h2.ptcTargets.frameStart h2.ptcTargets)
theorem State.canon.badHeader {n : Nat} (h : s.canon) : (s.badHeader n).canon := .ite h.setPort.linkDown h.setPort
theorem State.canon.newFrame {frame per : Nat} (h : s.canon) : (s.newFrame frame per).canon :=
  (State.canon.ite h.scrub.ageSlot.upd.upd.setSafTx h.scrub.ageSlot.upd.upd).share fun h4 => .ite h4.refill.txnFrame h4
theorem State.canon.upSend {n : Nat} {woad : Bool} {pos : Nat} {f : LinkFrame} (h : s.canon) : (s.upSend n woad pos f).canon :=
  h.takeUp.setOut.setPort

theorem State.canon.linkDelay {n : Nat} {f : LinkFrame} (h : s.canon) : (s.linkDelay n f).canon := by
  unfold State.linkDelay
  dsimp only
  split
  exacts [.ite h.setPort.setF h, h]

theorem State.canon.downForward {dn : Nat} {g : DownFrame} {ta dly : Int} (h : s.canon) : (s.downForward dn g ta dly).canon :=
  h.relate.setOut.setPort.setF
theorem State.canon.upForm {n dn : Nat} {g : DownFrame} {ta : Int} (h : s.canon) : (s.upForm n dn g ta).canon :=
  h.upSend.setF.setPort

theorem State.canon.downTake {woad : Bool} {f : LinkFrame} (h : s.canon) : (s.downTake woad f).canon := by
  unfold State.downTake
  extract_lets +onlyGivenNames u
  have hu : u.canon := by
    dsimp only [u]
    split
    exacts [.ite h.deliver h, h]
  clear_value u
  split
  · refine hu.foldl fun _ _ hv => ?_
    split
    exacts [hv.netCopy, hv]
  · exact hu

theorem State.canon.downFrame {g : DownFrame} (h : s.canon) : (s.downFrame g).canon := by
  unfold State.downFrame
  extract_lets +onlyGivenNames net n dn
  refine .ite h ?_
  extract_lets +onlyGivenNames s1 _ s2
  have h2 : s2.canon := h.countSegs.relate.setF.setPort
  clear_value s2
  refine .ite (State.canon.badHeader (.ite h2.setOut.setPort h2)) ?_
  extract_lets +onlyGivenNames f _ s3 _ s4 s5 s6 ta _ s7 dly s8 s9
  have h5 : s5.canon := .ite h2.setPort.setF.upd h2.setPort.setF.upd.newFrame
  have h7 : s7.canon := h5.linkDelay.setPort
  have h8 : s8.canon := .ite h7.downForward h7.upForm
  clear_value dly s8
  have h9 : s9.canon := by
    cases dly
    exacts [h8, h8.measure]
  exact h9.downTake

theorem State.canon.upDeliver {line : Nat} {woad : Bool} {f : LinkFrame} {pos : Nat} (h : s.canon) :
    (s.upDeliver line woad f pos).canon := by
  unfold State.upDeliver
  extract_lets +onlyGivenNames p u
  have hu : u.canon := by
    dsimp only [u]
    split
    exacts [.ite h.deliver.partnerSeen h.deliver, h]
  clear_value u
  split
  · refine hu.foldl fun _ _ hv => ?_
    split
    exacts [hv.netStop, hv]
  · exact hu

theorem State.canon.loopTime {n : Nat} {g : UpFrame} (h : s.canon) : (s.loopTime n g).canon := by
  unfold State.loopTime
  split
  exacts [.ite h.setPort h, h]

theorem State.canon.turnTime {n : Nat} {g : UpFrame} (h : s.canon) : (s.turnTime n g).canon := by
  unfold State.turnTime
  split
  exacts [.ite h.setPort h, h]

theorem State.canon.upFrame {g : UpFrame} (h : s.canon) : (s.upFrame g).canon :=
  .ite h (h.countSegs.relate.share fun h1 => by
    split
    · exact .ite (State.canon.ite h1.setOut.setPort h1).badHeader <| .ite h1.setPort.loopTime.relate.upSend.turnTime
        h1.setPort.loopTime
    · exact .ite h1.badHeader (h1.setPort.loopTime.setF.each fun _ _ hu => hu.upDeliver)
    · exact h1)

/-! ### What a commit does -/

theorem State.canon.legClamp {j : Nat} (h : s.canon) : (s.legClamp j).canon :=
  .ite h (h.each fun _ _ hu => (State.canon.ite hu.setReg hu).share fun h2 => .ite ((h2.each fun _ _ hu => hu.setCar).share fun
    h3 => .ite h3 h3.upd) h2)
theorem State.canon.atcClamp (h : s.canon) : s.atcClamp.canon := h.each fun _ _ hu => .ite (.ite hu.setF hu) hu
theorem State.canon.entryClamp {off : Nat} (h : s.canon) : (s.entryClamp off).canon := .ite h.setReg h

theorem State.canon.crossClamp {ws : List Nat} (h : s.canon) : (s.crossClamp ws).canon :=
  (State.canon.ite (h.each fun _ _ hu => by
    split
    · exact hu.setF
    · exact hu.setF
    · exact hu) h).share fun h1 => (State.canon.ite (h1.each fun _ _ hu => .ite hu.legClamp hu) h1).share fun h2 =>
    (State.canon.ite h2.atcClamp h2).share fun h3 => .ite (h3.each fun _ _ hu => hu.entryClamp) (h3.each fun _ _ hu =>
    hu.entryClamp)

theorem State.canon.huWeak (h : s.canon) : s.huWeak.canon := h.setF.post
theorem State.canon.evrOff (h : s.canon) : s.evrOff.canon := h.upd.count

theorem State.canon.capCommit {s : State} {w : Nat} (h : t.canon) : (s.capCommit t w).canon := by
  unfold State.capCommit
  split
  exacts [.ite h.winArm h.setF.setWin, h.setF.setWin, h]

theorem State.canon.tripCommit {s : State} (h : t.canon) : (s.tripCommit t).canon :=
  ((h.each fun _ _ hu => .ite hu hu.srcRaw).each fun _ _ hu => .ite hu hu.setTsrc).srcActAll.enforceHold

theorem State.canon.cmpCommit {s : State} {n : Nat} (h : t.canon) : (s.cmpCommit t n).canon := by
  unfold State.cmpCommit
  extract_lets +onlyGivenNames u
  have hu : u.canon := .ite h h.thrMove
  clear_value u
  split
  exacts [hu.cmpHold, hu.cmpOff, .ite hu hu.cmpHold, hu]

theorem State.canon.roleCommit {s : State} (h : t.canon) : (s.roleCommit t).canon :=
  .ite h (h.each fun _ _ hu => .ite hu (.ite hu.trainStart hu.portIdle.setF))
theorem State.canon.plantCommit {s : State} (h : t.canon) : (s.plantCommit t).canon :=
  (State.canon.ite h h.setF).share fun h2 => .ite h2.upd.upd h2.upd
theorem State.canon.gridCommit {s : State} {ws : List Nat} (h : t.canon) : (s.gridCommit t ws).canon :=
  (h.upd.each fun _ _ hu => hu.parmWrite).share fun h3 => (State.canon.ite h3.aiShow h3).share fun h4 => .ite h4 (.ite
    h4.codeChange.upd h4.codeChange)
theorem State.canon.releaseHold (h : s.canon) : s.releaseHold.canon := .ite h.upd.setF h
theorem State.canon.netCommit {s : State} (h : t.canon) : (s.netCommit t).canon := .ite h h.upd

theorem State.canon.settle {s : State} {ws : List Nat} (h : t.canon) : (s.settle t ws).canon :=
  (State.canon.ite h.reselect h).share fun h2 => (State.canon.ite (h2.each fun _ _ hu => .ite hu.ptcArm hu) h2).share fun h3 =>
    (State.canon.ite (h3.each fun _ _ hu => .ite hu hu.gdfModeChange) h3).share fun h4 => (State.canon.ite (h4.each fun _ _ hu
    => hu.cmpCommit) h4).share fun h5 => (State.canon.ite h5.showCmpo h5).share fun h6 => (State.canon.ite h6.tripCommit
    h6).share fun h7 => (State.canon.ite (State.canon.ite h7 h7.monModeChange).park h7).share fun h8 => (State.canon.ite
    h8.gridCommit.roleCommit h8.gridCommit).share fun h10 => (State.canon.ite h10.plantCommit h10).share fun h11 =>
    (State.canon.ite h11.netCommit h11).share fun h12 => (State.canon.ite h12.upd h12).share fun h13 => (State.canon.ite
    h13.mtrFollow h13).share fun h14 => (State.canon.ite (.ite h14.setF.huWeak h14.setF) h14).share fun h15 => (State.canon.ite
    (h15.each fun _ _ hu => .ite hu hu.showRing) h15).share fun h16 => (State.canon.ite h16.evrOff h16).share fun h17 =>
    (State.canon.ite (h17.each fun _ _ hu => hu.capCommit) h17).releaseHold

theorem State.canon.commitTo {ws : List Nat} (h : t.canon) (e : s.commitTo t ws = .ok u) : u.canon := by
  unfold State.commitTo at e
  split at e
  · cases e
  · cases e
    exact (State.canon.each h.upd fun _ _ hv => hv.carryWrite).settle.share fun hv => .ite hv.cairnTouch hv

theorem State.canon.carCommit {k : Nat} {regs : List (Nat × Word)} (h : s.canon) : (s.carCommit k regs).canon :=
  .ite h.setCar.merge (h.applyRegs.share fun h1 => .ite h1.setCar (.ite h1 (.ite h1 (.ite h1.setCar h1.setCar))))

theorem State.canon.pwmCommit (h : s.canon) : s.pwmCommit.2.canon := by
  unfold State.pwmCommit
  extract_lets +onlyGivenNames sh _ t0 t
  have ht : t.canon := State.canon.crossClamp h.upd
  clear_value t
  split
  · exact h.shadowClear.refuse.setF
  · dsimp only
    refine State.canon.setF (State.canon.shadowClear (.ite ?_ (State.canon.cairnTouch ?_)))
    all_goals exact (State.canon.each ht.upd fun _ _ hu => .ite hu hu.carCommit).idleLoose.gdfFollow.enforceHold.releaseHold

/-! ### States and start-up -/

/-- What the loss of the main domain leaves of the register file is a part of it; the data memory is cleared (R97, R315). -/
theorem State.canon.mainLost {p : Power} {cause : Nat} (h : s.canon) : (s.mainLost p cause).canon :=
  State.canon.setF (State.canon.setF (State.canon.setF ⟨rfl, Tab.wf_filter _ h.2⟩))

theorem State.canon.mainReset {cause : Nat} (h : s.canon) : (s.mainReset cause).canon := h.mainLost
theorem State.canon.vanaServes (h : s.canon) : s.vanaServes.canon := h.setF.setF

theorem State.canon.countsBack (h : s.canon) : s.countsBack.canon := by
  unfold State.countsBack
  split
  exacts [h.setReg.setReg.setF, h]

theorem State.canon.tryBoot (h : s.canon) : s.tryBoot.canon := .ite h (State.canon.ite h.countsBack h).upd.vanaServes

theorem State.canon.nrstAssert {ns : Nat} (h : s.canon) : (s.nrstAssert ns).canon := by
  unfold State.nrstAssert
  extract_lets r
  have hr : r.2.canon := .ite_snd h (.ite_snd h h.takeFree)
  clear_value r
  exact .ite hr (.ite hr.upd.mainLost hr.upd)

theorem State.canon.nrstRelease (h : s.canon) : s.nrstRelease.canon := h.upd.tryBoot
theorem State.canon.railChange {inRange : Bool} (h : s.canon) : (s.railChange inRange).canon :=
  .ite h.upd.tryBoot <| .ite ((h.upd.each fun _ _ hu => hu.pairLow).each fun _ _ hu => hu.switch.switch) h.upd
theorem State.canon.clearCauses (h : s.canon) : s.clearCauses.canon := h.setF.setReg.upd
theorem State.canon.clearRequest (h : s.canon) : s.clearRequest.2.canon :=
  .ite_snd (.ite_snd h.clearCauses.enter h) (.ite_snd (.ite_snd h.clearCauses.enter h.enter) h)
theorem State.canon.armRequest {who : ArmFor} (h : s.canon) : (s.armRequest who).2.canon := .ite_snd h.testStart.upd h
theorem State.canon.connectRequest (h : s.canon) : s.connectRequest.2.canon := .ite_snd h.enter h
theorem State.canon.stopRequest (h : s.canon) : s.stopRequest.2.canon := .ite_snd h.enter h
theorem State.canon.tripRequest {who : ArmFor} (h : s.canon) : (s.tripRequest who).2.canon := .ite_snd h.blockTrip h
theorem State.canon.resetRequest (h : s.canon) : s.resetRequest.2.canon := .ite_snd h.mainReset h

theorem State.canon.sysCmd {who : ArmFor} {req : Nat} (h : s.canon) : (s.sysCmd who req).2.canon := by
  unfold State.sysCmd
  split
  · exact h.armRequest
  · exact h.connectRequest
  · exact h.stopRequest
  · exact h.clearRequest
  · exact h.tripRequest
  · exact h.resetRequest
  · exact h

theorem State.canon.autoRequest (h : s.canon) : s.autoRequest.canon := .ite h (.ite h.armRequest (.ite h.connectRequest h))
theorem State.canon.autoClear (h : s.canon) : s.autoClear.canon := .ite h.upd.clearRequest h

theorem State.canon.tcloseExpiry (h : s.canon) : s.tcloseExpiry.canon := by
  unfold State.tcloseExpiry
  split
  exacts [.ite h (h.upd.each fun _ _ hu => hu.setPair), h]

theorem State.canon.startCarriers (h : s.canon) : s.startCarriers.canon := h.each fun _ _ hu => .ite (.ite hu.setCar hu.setCar) hu
theorem State.canon.bootEnd {new : Nat} (h : s.canon) : (s.bootEnd new).canon := h.enter.upd.mtrFollow.startCarriers
theorem State.canon.bootComplete (h : s.canon) : s.bootComplete.canon :=
  .ite h (.ite h.bootEnd (.ite h h.setChan.setChan.showSaf.bootEnd))
theorem State.canon.hostRequest {req : Nat} (h : s.canon) : (s.hostRequest req).canon := h.sysCmd.wres

/-! ### The Bivouac domain -/

theorem State.canon.showStore {hvst cell : Nat} (h : s.canon) : (s.showStore hvst cell).canon := h.setF.setF

theorem State.canon.cellCount (h : s.canon) : s.cellCount.canon := by
  unfold State.cellCount
  split
  exacts [h, h.upd.count]

theorem State.canon.cellSwitch (h : s.canon) : s.cellSwitch.canon := .ite h.setF.upd h
theorem State.canon.storeReturn (h : s.canon) : s.storeReturn.canon := .ite h.cellCount.setF.upd h
theorem State.canon.cutOff (h : s.canon) : s.cutOff.canon := .ite h.setF.count.upd h
theorem State.canon.reconnect (h : s.canon) : s.reconnect.canon := h.setF
theorem State.canon.bivouacOff (h : s.canon) : s.bivouacOff.canon :=
  .ite ⟨h.1, Tab.wf_filter _ h.setF.2⟩ h
theorem State.canon.bivouacOn {hvst cell : Nat} (h : s.canon) : (s.bivouacOn hvst cell).canon :=
  .ite (State.canon.ite h.upd.showStore.setF h.upd.showStore.setF.upd).countsBack h
theorem State.canon.recordCommit (h : s.canon) : s.recordCommit.canon := h.upd

theorem State.canon.burstStart {kind : Nat} {stored : Bool} (h : s.canon) : (s.burstStart kind stored).canon := by
  unfold State.burstStart
  split
  exacts [h.upd.upd, h.upd.recordCommit, h.upd.upd]

theorem State.canon.tryBurst {hvst cell kind : Nat} (h : s.canon) : (s.tryBurst hvst cell kind).canon :=
  .ite h <| .ite h.burstStart (.ite h.burstStart (.ite h.count.burstStart h.count))
theorem State.canon.tryBursts {hvst cell : Nat} (h : s.canon) : (s.tryBursts hvst cell).canon :=
  .ite h (h.each fun _ _ hu => hu.tryBurst)
theorem State.canon.burstEnd {hvst : Nat} (h : s.canon) : (s.burstEnd hvst).canon := .ite h (.ite h.upd.setF.cutOff h.upd)

theorem State.canon.supervisor {hvst cell : Nat} (h : s.canon) : (s.supervisor hvst cell).canon :=
  .ite h (h.showStore.cellCount.share fun h1 => (State.canon.ite h1 ((State.canon.ite h1.cellSwitch h1).share fun h2 =>
    (State.canon.ite h2.storeReturn h2).share fun h3 => (State.canon.ite h3.cutOff (.ite h3.reconnect h3)).share fun h4 => .ite
    h4.bivouacOff h4)).tryBursts)

theorem State.canon.vocStart (h : s.canon) : s.vocStart.canon := .ite h.upd h

theorem State.canon.vocEnd {mv : Nat} (h : s.canon) : (s.vocEnd mv).canon := by
  unfold State.vocEnd
  split
  exacts [.ite h.upd.setF h, h]

theorem State.canon.irradianceDue {hvst cell : Nat} (h : s.canon) : (s.irradianceDue hvst cell).canon :=
  .ite h (State.canon.ite h.upd h).tryBurst
theorem State.canon.wakeJudge {g : Nat} (h : s.canon) : (s.wakeJudge g).canon := .ite h.upd.upd h.upd

theorem State.canon.irradianceEnd {isc : Nat} (h : s.canon) : (s.irradianceEnd isc).canon := by
  unfold State.irradianceEnd
  split
  exacts [.ite h.upd.setF.setF.wakeJudge h, h]

theorem State.canon.wakeRelease (h : s.canon) : s.wakeRelease.canon := .ite h.upd h
theorem State.canon.recordDue {hvst cell : Nat} (h : s.canon) : (s.recordDue hvst cell).canon :=
  .ite h (State.canon.ite h.upd h).tryBurst
theorem State.canon.timeLoad {v : Nat} (h : s.canon) : (s.timeLoad v).canon := h.upd
theorem State.canon.timeSet {hi : Word} (h : s.canon) : (s.timeSet hi).canon := h.timeLoad

theorem State.canon.realTimeLoad (h : s.canon) : s.realTimeLoad.canon := by
  unfold State.realTimeLoad
  split
  exacts [.ite h.upd.setF h, h]

theorem State.canon.realTimeSync (h : s.canon) : s.realTimeSync.canon := .ite h.upd.timeLoad h
theorem State.canon.cairnBegin {c : Cairn} (h : s.canon) : (s.cairnBegin c).canon := h.upd

theorem State.canon.cairnStart (h : s.canon) : s.cairnStart.canon := by
  unfold State.cairnStart
  split
  exacts [.ite h.cairnBegin h, h]

theorem State.canon.cairnEnd (h : s.canon) : s.cairnEnd.canon := by
  unfold State.cairnEnd
  split
  exacts [h, h.upd.setF.setF]

theorem State.canon.cairnAgain (h : s.canon) : s.cairnAgain.canon := .ite h.cairnBegin h
theorem State.canon.showKeys (h : s.canon) : s.showKeys.canon := h.each fun _ _ hu => by split; exacts [hu.setF.setF, hu.setF.setF]
theorem State.canon.restoreReg {off : Nat} {v : Word} (h : s.canon) : (s.restoreReg off v).canon := .ite h.setReg.upd h.setReg

theorem State.canon.replay {o : Nat} (h : s.canon) : (s.replay o).2.canon := by
  unfold State.replay
  extract_lets mine
  split <;> dsimp only
  · exact h.foldl fun _ _ hu => hu.setOwner
  · refine .ite (State.canon.upd (State.canon.setF ?_)) ?_
    all_goals exact (h.each fun _ _ hu => hu.restoreReg).refuse.post

theorem State.canon.replayAll (h : s.canon) : s.replayAll.2.canon := by
  unfold State.replayAll
  exact State.canon.foldl_snd h fun b u o hu => by
    dsimp only
    exact hu.replay

theorem State.canon.recordRestore (h : s.canon) : s.recordRestore.canon := h.setChan.setChan.setF.setF.setF.upd.showSaf
theorem State.canon.restoreTime (h : s.canon) : s.restoreTime.canon := h.upd.setF
theorem State.canon.mirrorAll (h : s.canon) : s.mirrorAll.canon := h.each fun _ _ hu => hu.setWord

theorem State.canon.cairnRestore {badA badB : Bool} (h : s.canon) : (s.cairnRestore badA badB).canon := by
  unfold State.cairnRestore
  refine .ite h ?_
  extract_lets +onlyGivenNames mark s1 invalid s2 src seq newerBad s3 s4 body offs t1
  have hm : ∀ i b u, State.canon u → (mark i b u).canon := fun i b u hu => by
    dsimp only [mark]
    split
    exacts [hu.upd, hu]
  have h2 : s2.canon := State.canon.setF (State.canon.setF (hm _ _ _ (hm _ _ _ h)))
  have h3 : s3.canon := by
    clear_value src newerBad s2
    cases src
    · exact h2.setF.post
    · exact .ite h2.setF.post h2.setF
  have h1 : t1.canon := h3.setF.each fun _ _ hu => hu.restoreReg
  clear_value t1
  refine (State.canon.ite (State.canon.setF ?_) ?_).showOsc.lockRestart.mirrorAll.recordRestore.tallyRestore.reselect
  all_goals exact h1.upd.replayAll.settle.showKeys.setF.setF.restoreTime.upd

theorem State.canon.factoryReset (h : s.canon) : s.factoryReset.2.canon := .ite_snd h.upd.mainReset h
theorem State.canon.huCheck {v : Nat} (h : s.canon) : (s.huCheck v).2.canon := h.setF.setF.upd
theorem State.canon.holdupCheck {v : Nat} (h : s.canon) : (s.holdupCheck v).canon :=
  .ite (.ite h.huCheck.setF.setBit (.ite h.huCheck h.huCheck.upd.post)) h
theorem State.canon.holdupRecheck {v : Nat} (h : s.canon) : (s.holdupRecheck v).canon := .ite (.ite h.huCheck h.huCheck.huWeak) h
theorem State.canon.supplyFailure (h : s.canon) : s.supplyFailure.canon :=
  .ite h ⟨rfl, Tab.wf_filter _ h.wakeRelease.allOff.armEnd.finalCommit.2⟩
theorem State.canon.finalComplete (h : s.canon) : s.finalComplete.canon :=
  .ite h (h.tallyWritten.mainLost.setF.upd.share fun h2 => .ite h2.upd h2)
theorem State.canon.supplyRecovery (h : s.canon) : s.supplyRecovery.canon := .ite h.upd.tryBoot h
theorem State.canon.huWeakClear (h : s.canon) : s.huWeakClear.canon := h.setF
theorem State.canon.underClear (h : s.canon) : s.underClear.canon := h.setF

/-! ### The Belay procedure -/

theorem State.canon.belayDiscard {outcome : Nat} (h : s.canon) : (s.belayDiscard outcome).canon := h.post.setF.setF.setF.setF.upd
theorem State.canon.belayExpire (h : s.canon) : s.belayExpire.canon := .ite h.belayDiscard h
theorem State.canon.belayTimeout {st : Nat} (h : s.canon) : (s.belayTimeout st).canon := .ite h.belayDiscard h

theorem State.canon.stageOpen {party : Nat} (h : s.canon) : (s.stageOpen party).2.canon := by
  have k := h.belayExpire
  unfold State.stageOpen
  dsimp only
  split
  exacts [k.setF.setF.upd, .ite_snd k k, k]

theorem State.canon.stagePut {off : Nat} {v : Word} (h : s.canon) : (s.stagePut off v).canon := h.upd

theorem State.canon.stageWrites {who : Writer} {ws : List (Nat × Word)} (h : s.canon) : (s.stageWrites who ws).2.canon := by
  unfold State.stageWrites
  split
  · exact h
  next p _ =>
    have k : (s.stageOpen p).2.canon := h.stageOpen
    split
    next u e => exact State.canon.foldl (k.of_snd e) fun _ _ hv => hv.stagePut
    next => exact k

theorem State.canon.belayWrite {who : Writer} {off : Nat} {v : Word} (h : s.canon) : (s.belayWrite who off v).2.canon :=
  .ite_snd h h.stageWrites

theorem State.canon.keyLoad {who : Writer} {i : Nat} {v : Word} (h : s.canon) : (s.keyLoad who i v).2.canon := by
  have k : (s.stageWrites who []).2.canon := h.stageWrites
  unfold State.keyLoad
  split
  next u e => exact State.canon.upd (k.of_snd e)
  next => exact k

theorem State.canon.keyControl {who : Writer} {slot : Nat} {install : Bool} (h : s.canon) :
    (s.keyControl who slot install).2.canon := by
  unfold State.keyControl
  split
  · exact h
  next p _ =>
    have k : (s.stageOpen p).2.canon := h.stageOpen
    refine .ite_snd h ?_
    split
    next u e => exact .ite_snd (k.of_snd e) (State.canon.upd (k.of_snd e))
    next => exact k

theorem State.canon.belayTarget (h : s.canon) : s.belayTarget.canon := (h.foldl fun _ _ hu => hu.setReg).upd

theorem State.canon.belayPropose {who : Writer} {cv : Word} (h : s.canon) : (s.belayPropose who cv).2.canon := by
  unfold State.belayPropose
  split
  · exact h
  · refine .ite_snd h.belayExpire (.ite_snd ?_ ?_) <;> dsimp only
    · exact h.belayExpire.setF.setF.setF.upd.post
    · exact h.belayExpire.setF.belayDiscard

theorem State.canon.belayStore (h : s.canon) : s.belayStore.canon := .ite h.upd h.cairnBegin.setF.upd

theorem State.canon.belayAccept {party : Nat} (h : s.canon) : (s.belayAccept party).st.canon := by
  unfold State.belayAccept
  extract_lets t
  refine .ite_cmd h ?_
  split
  · exact State.canon.belayDiscard h.refuse
  · exact State.canon.belayStore (State.canon.upd (State.canon.setF (State.canon.upd h)))

theorem State.canon.belayConfirm {party : Nat} {cv : Option Word} (h : s.canon) : (s.belayConfirm party cv).st.canon := by
  unfold State.belayConfirm
  refine .ite_cmd h.belayExpire ?_
  extract_lets +onlyGivenNames late r
  have hr : r.2.canon := .ite_snd h.belayExpire.takeFree h.belayExpire
  clear_value r
  refine .ite_cmd ?_ (.ite_cmd hr (.ite_cmd ?_ hr.belayAccept))
  all_goals
    unfold CmdRes.ofPair
    exact hr.belayDiscard

theorem State.canon.belayConf {who : Writer} {cv : Word} (h : s.canon) : (s.belayConf who cv).st.canon := by
  unfold State.belayConf
  split
  exacts [h, h.belayConfirm]

theorem State.canon.comkey {ms : Nat} (h : s.canon) : (s.comkey ms).canon := .ite h.belayConfirm h
theorem State.canon.cairnComplete (h : s.canon) : s.cairnComplete.canon :=
  .ite h <| .ite h.cairnEnd.cairnAgain (.ite h.cairnEnd.belayStore h.cairnEnd.upd)
theorem State.canon.belayEffective (h : s.canon) : s.belayEffective.canon :=
  .ite h h.belayTarget.settle.showKeys.setF.setF.setF.setF.setF.setF.upd.post.cairnAgain

theorem State.canon.belayAbort {who : Writer} (h : s.canon) : (s.belayAbort who).2.canon := by
  unfold State.belayAbort
  split
  exacts [h, .ite_snd h.belayExpire.belayDiscard h.belayExpire]

theorem State.canon.hostOnly {who : Writer} {off : Nat} {r : Status × State} (h : r.2.canon) : (hostOnly who off r).canon :=
  .ite h.wres h

/-! ### Register reads -/

theorem State.canon.readCapture {path off : Nat} (h : s.canon) : (s.readCapture path off).canon := by
  unfold State.readCapture
  split
  exacts [h.upd, .ite h.upd (.ite h.setF h)]

theorem State.canon.readEffect {path off : Nat} (h : s.canon) : (s.readEffect path off).canon := h.readCapture.carryRead
theorem State.canon.readReg {path off : Nat} (h : s.canon) : (s.readReg path off).2.canon := h.readEffect

theorem State.canon.readRegs {n path off : Nat} (h : s.canon) : (State.readRegs n s path off).2.canon := by
  induction n generalizing s off with
  | zero => exact h
  | succ n ih => exact ih h.readReg

theorem State.canon.readShow {path off : Nat} (h : s.canon) : (s.readShow path off).canon := h.readReg.upd

/-! ### Commit units -/

theorem State.canon.andThen {r : CmdRes} {g : State → Status × State} (h : r.st.canon) (hg : r.st.canon → (g r.st).2.canon) :
    (r.andThen g).st.canon := hg h
theorem State.canon.whenBit {v : Word} {i : Nat} {g : State → Status × State} (h : s.canon) (hg : (g s).2.canon) :
    (whenBit v i g s).2.canon := .ite_snd hg h

theorem State.canon.commitGo (h : s.canon) : s.commitGo.st.canon := by
  have k : s.pwmCommit.2.canon := h.pwmCommit
  unfold State.commitGo
  split
  next t e => exact k.of_snd e
  next c t e => exact k.of_snd e

theorem State.canon.command {who : Writer} {arm : ArmFor} {off : Nat} {v : Word} (h : s.canon) :
    (s.command who arm off v).st.canon :=
  .ite_cmd (h.whenBit h.paceExtClear) <| .ite_cmd h.sysCmd <| .ite_cmd (h.whenBit h.clkLossClear) <| .ite_cmd h.upd <| .ite_cmd
    h.hostOffset <| .ite_cmd h.clearMask <| .ite_cmd (h.whenBit h.setF) <| .ite_cmd h.xdcClear <| .ite_cmd (h.whenBit h.setF) <|
    .ite_cmd (.andThen (.ite_cmd h.commitGo h) fun hu => hu.whenBit hu.shadowClear) <| .ite_cmd (h.whenBit h.clearPwmStat) <|
    .ite_cmd h.clearMask <| .ite_cmd (h.whenBit h.clearBscnt) <| .ite_cmd (h.whenBit h.latchClear) <| .ite_cmd (h.whenBit
    h.clearGrpCnt) <| .ite_cmd h.clearMask <| .ite_cmd h.swTrig <| .ite_cmd (h.whenBit h.setF) <| .ite_cmd (h.whenBit
    h.adcDropClear) <| .ite_cmd h.clearMask <| .ite_cmd (.andThen (h.whenBit h.ceReset) fun hu => hu.whenBit hu.ceActivate) <|
    .ite_cmd (h.whenBit h.ceMissClear) <| .ite_cmd (h.whenBit h.ceChkClear) <| .ite_cmd (h.whenBit h.ceDurmaxClear) <| .ite_cmd
    (h.whenBit h.grdCntClear) <| .ite_cmd (h.whenBit h.lnkErrClear) <| .ite_cmd (h.whenBit h.lnkTxClear) <| .ite_cmd (h.whenBit
    h.dropClear) <| .ite_cmd (h.whenBit h.rebalance) <| .ite_cmd (h.whenBit h.partnerForget) <| .ite_cmd (h.whenBit
    h.safCntClear) <| .ite_cmd (.andThen (h.whenBit h.testCommand) fun hu => hu.whenBit hu.ackCommand) <| .ite_cmd
    h.belayPropose <| .ite_cmd h.belayConf <| .ite_cmd (h.whenBit h.belayAbort) <| .ite_cmd (.andThen (h.whenBit h.mtrSnap) fun
    hu => hu.whenBit hu.mtrClear) <| .ite_cmd (h.whenBit h.setF) <| .ite_cmd (h.whenBit h.mtrCntClear) <| .ite_cmd (h.whenBit
    h.huWeakClear) <| .ite_cmd (h.whenBit h.wakeRelease) <| .ite_cmd h.upd <| .ite_cmd h.timeSet <| .ite_cmd (h.whenBit
    h.underClear) <| .ite_cmd (h.whenBit h.factoryReset) <| .ite_cmd (.andThen (h.whenBit h.setF) fun hu => hu.whenBit hu.setF)
    (.ite_cmd (h.whenBit h.setF.setF) h)

theorem State.canon.belayUnit {who : Writer} {l : List (Nat × Nat × Word)} (h : s.canon) : (s.belayUnit who l).2.canon := by
  induction l generalizing s with
  | nil => exact h
  | cons e l ih =>
    obtain ⟨i, off, v⟩ := e
    unfold State.belayUnit
    extract_lets r
    have hr : r.2.canon := .ite_snd h.keyLoad (.ite_snd h.keyControl h.stageWrites)
    clear_value r
    exact .ite_snd (ih hr) h

theorem State.canon.writeCfg {ps : List (Nat × Nat × Word)} (h : s.canon) : (s.writeCfg ps).canon :=
  (h.foldl fun _ _ hu => hu.setReg).crossClamp

theorem State.canon.commands {who : Writer} {arm : ArmFor} {l : List (Nat × Nat × Word)} {r : UnitRes} (h : r.st.canon) :
    (State.commands who arm l r).st.canon := by
  induction l generalizing r with
  | nil => exact h
  | cons e l ih =>
    unfold State.commands
    split
    · exact ih h
    · refine ih ?_
      have k : (r.st.command who arm e.2.1 e.2.2).st.canon := h.command
      dsimp only
      split
      exacts [k.upd, k]

theorem State.canon.runUnit {who : Writer} {arm : ArmFor} {ws : List (Nat × Word)} (h : s.canon) :
    (s.runUnit who arm ws).st.canon := by
  unfold State.runUnit
  extract_lets +onlyGivenNames ps stop
  split
  · exact h
  extract_lets +onlyGivenNames belay
  split
  · split
    · dsimp only
      split
      exacts [h.belayUnit, h]
    · exact h
  split
  · exact h
  extract_lets +onlyGivenNames cfg offs t
  have ht : t.canon := h.writeCfg
  split
  · exact h
  split
  · exact h.refuse
  next v e =>
    have hv : v.canon := by
      split at e
      · cases e
        exact h
      · exact ht.commitTo e
    extract_lets +onlyGivenNames w u
    have hw : w.canon := hv.foldl fun _ _ hx => by
      split
      exacts [.ite hx hx.shadowPut, hx]
    have hu : u.st.canon := State.canon.commands hw
    clear_value u
    extract_lets +onlyGivenNames _ _ u'
    have hu' : u'.st.canon := by
      dsimp only [u']
      split
      exacts [hu.upd, hu]
    clear_value u'
    split
    exacts [hu', hu'.produceStatus]

theorem State.canon.barWrite {off : Nat} {v : Word} (h : s.canon) : (s.barWrite off v).canon :=
  .ite h (.ite h.runUnit h.runUnit.wres)
theorem State.canon.swrWait {l d status : Nat} (h : s.canon) : (s.swrWait l d status).canon := h.adv.setCe
theorem State.canon.swr {x : CeInstr} (h : s.canon) : (s.swr x).canon :=
  h.ceRun (fun _ hu => .ite hu.setV.adv <| .ite hu.upd.swrWait (.ite hu.upd.runUnit hu.upd.runUnit.swrWait))

theorem State.canon.swrDone {l : Nat} (h : s.canon) : (s.swrDone l).canon := by
  unfold State.swrDone
  dsimp only
  split
  exacts [.ite h h.setV.setCe, h]

/-! ### The host interface -/

theorem State.canon.bell {off i : Nat} (h : s.canon) : (s.bell off i).canon := h.upd
theorem State.canon.bellOver (h : s.canon) : s.bellOver.canon := h.setF
theorem State.canon.cmdBell {r i : Nat} (h : s.canon) : (s.cmdBell r i).canon :=
  .ite h.bell (.ite h.bell.setF.bellOver h.bell.setRing)
theorem State.canon.compBell {r i : Nat} (h : s.canon) : (s.compBell r i).canon :=
  .ite h.bell (.ite h.bell.setF.bellOver h.bell.setRing)
theorem State.canon.evBell {i : Nat} (h : s.canon) : (s.evBell i).canon := .ite h.bell (.ite h.bell.bellOver h.bell.upd)
theorem State.canon.capBell {i : Nat} (h : s.canon) : (s.capBell i).canon := .ite h.bell (.ite h.bell.bellOver h.bell.upd)
theorem State.canon.dmaError {r : Nat} (h : s.canon) : (s.dmaError r).canon := h.setF.setF
theorem State.canon.fetch {r : Nat} {d : Desc} {dma : Bool} (h : s.canon) : (s.fetch r d dma).canon :=
  .ite h (State.canon.ite h.setRing.setF.upd.dmaError h.setRing.setF.upd).flush
theorem State.canon.markStarted {r idx : Nat} (h : s.canon) : (s.markStarted r idx).canon := h.setRing

theorem State.canon.startDesc {r : Nat} {p ok : Desc → Bool} {dma : Bool} {go : Flight → State → Option Comp × State}
    (h : s.canon) (hg : ∀ f u, u.canon → (go f u).2.canon) : (s.startDesc r p ok dma go).canon := by
  unfold State.startDesc
  refine .ite h ?_
  split
  · exact h
  next f _ =>
    refine .ite h.markStarted.complete (.ite h.markStarted.dmaError.complete ?_)
    have k := hg f _ (h.markStarted (r := r) (idx := f.idx))
    split
    next c u e => exact (k.of_snd e).complete
    next u e => exact k.of_snd e

theorem State.canon.descNop {r : Nat} (h : s.canon) : (s.descNop r).canon := h.startDesc (fun _ _ hu => hu)
theorem State.canon.descSetw {r : Nat} {buf : List Word} {dma : Bool} (h : s.canon) : (s.descSetw r buf dma).canon :=
  h.startDesc (fun _ _ hu => .ite_snd hu.runUnit hu.runUnit)
theorem State.canon.descSetr {r : Nat} {dma : Bool} (h : s.canon) : (s.descSetr r dma).canon :=
  h.startDesc fun _ _ hu => State.canon.hostWrite hu.readRegs

theorem State.canon.descPwmset {r : Nat} {buf : List Word} {dma : Bool} (h : s.canon) : (s.descPwmset r buf dma).canon :=
  h.startDesc fun _ _ hu => by
    dsimp only
    split <;> dsimp only
    exacts [hu.setRefused, hu.mergeSet]

theorem State.canon.descImgw {r : Nat} {buf : List Word} {dma : Bool} (h : s.canon) : (s.descImgw r buf dma).canon :=
  h.startDesc (fun _ _ hu => .ite_snd hu hu.upd)

theorem State.canon.imageDone (h : s.canon) : s.imageDone.canon := by
  unfold State.imageDone
  split
  exacts [h, h.upd.complete]

theorem State.canon.descLnktx {r : Nat} {wr : Bool} {buf : List Word} {dma : Bool} (h : s.canon) :
    (s.descLnktx r wr buf dma).canon :=
  h.startDesc (fun _ _ hu => .ite_snd hu hu.request)
theorem State.canon.descParmw {r : Nat} {buf : List Word} {dma : Bool} (h : s.canon) : (s.descParmw r buf dma).canon :=
  h.startDesc (fun _ _ hu => hu.parmWrite)

theorem State.canon.freeze {w : Nat} (h : s.canon) : (s.freeze w).canon := by
  unfold State.freeze
  extract_lets +onlyGivenNames c valid wrap lost head len at_ u
  have hu : u.canon := h.setF
  clear_value u
  split
  next rec v e =>
    refine State.canon.upd (s := v) ?_
    split at e <;> cases e
    exacts [hu.takeFree.takeFree.takeFree.takeFree, hu]

theorem State.canon.descCapctl {r action : Nat} {go : Nat → State → Comp × State} (h : s.canon)
    (hg : ∀ w u, u.canon → (go w u).2.canon) : (s.descCapctl r action go).canon :=
  h.startDesc fun _ u hu => .ite_snd hu (hg _ u hu)
theorem State.canon.capArm {r : Nat} (h : s.canon) : (s.capArm r).canon := h.descCapctl (fun _ _ hu => .ite_snd hu hu.winArm)
theorem State.canon.capTrig {r : Nat} (h : s.canon) : (s.capTrig r).canon := h.descCapctl (fun _ _ hu => .ite hu.winTrigger.post hu)
theorem State.canon.capDisarm {r : Nat} (h : s.canon) : (s.capDisarm r).canon := h.descCapctl (fun _ _ hu => .ite hu.freeze hu)
theorem State.canon.capFreeze {w : Nat} (h : s.canon) : (s.capFreeze w).canon := .ite h.freeze h
theorem State.canon.descCaprd {r : Nat} (h : s.canon) : (s.descCaprd r).canon := h.startDesc (fun _ _ hu => .ite_snd hu hu)
theorem State.canon.hostBytes {a n : Nat} {ws : List Word} (h : s.canon) : (s.hostBytes a n ws).canon :=
  .ite h.hostWrite h.hostWrite.hostWrite

theorem State.canon.caprdDone {r : Nat} {dma : Bool} (h : s.canon) : (s.caprdDone r dma).canon := by
  unfold State.caprdDone
  split
  exacts [h, .ite h.dmaError.complete h.hostBytes.complete]

theorem State.canon.eventWrite (h : s.canon) : s.eventWrite.canon := by
  unfold State.eventWrite
  split
  exacts [h, .ite h (h.hostWrite.setF.signal.upd.share fun h3 => .ite h3.post h3)]

theorem State.canon.captureWrite (h : s.canon) : s.captureWrite.canon := by
  unfold State.captureWrite
  split
  exacts [h, .ite h h.hostWrite.setF.signal.upd]

theorem State.canon.evRing {en : Bool} (h : s.canon) : (s.evRing en).canon := h.barWrite
theorem State.canon.ringOff {r : Nat} (h : s.canon) : (s.ringOff r).canon := h.barWrite
theorem State.canon.imodEnd {v : Nat} (h : s.canon) : (s.imodEnd v).canon := .ite h.upd h

theorem State.canon.pcieReset (h : s.canon) : s.pcieReset.canon :=
  (((State.canon.ite h.xReset.count.evrOff h.xReset.count).each fun _ _ hu => by
    split
    · exact hu.setReg
    · exact hu).each fun _ _ hu => hu.setRing.showRing).upd

theorem State.canon.frameTime (h : s.canon) : s.frameTime.2.canon := h.takeFree
theorem State.canon.stampCross {t : Nat} (h : s.canon) : (s.stampCross t).canon := h.xProduce.mailbox
theorem State.canon.descTxfrm {r : Nat} {buf : List Word} {dma : Bool} (h : s.canon) : (s.descTxfrm r buf dma).canon :=
  h.startDesc (fun _ _ hu => .ite_snd hu hu.upd)

theorem State.canon.egress (h : s.canon) : s.egress.canon := by
  unfold State.egress
  split
  exacts [h, .ite h.frameTime.stampCross.complete h.complete]

theorem State.canon.descRxbuf {r : Nat} (h : s.canon) : (s.descRxbuf r).canon := h.startDesc (fun _ _ hu => hu)

theorem State.canon.frameIn {len : Nat} {fcsOk : Bool} {ws : List Word} {dma : Bool} (h : s.canon) :
    (s.frameIn len fcsOk ws dma).canon :=
  .ite h (h.frameTime.stampCross.share fun h1 => .ite h1.count <| .ite h1.count (by
    split
    · exact h1.count
    · exact .ite h1.dmaError.complete h1.hostBytes.complete))

/-! ### Register transactions of Cewlink -/

theorem State.canon.regRead {q : Packet} (h : s.canon) : (s.regRead q).canon :=
  h.serve fun _ hu => .ite hu.answer (State.canon.answer hu.readRegs)

theorem State.canon.wrEach {who : Writer} {q : Packet} {off : Nat} {l : List Word} {r : WrRes} (h : r.st.canon) :
    (State.wrEach who q off l r).st.canon := by
  induction l generalizing off r with
  | nil => exact h
  | cons v l ih =>
    have hu : (r.st.runUnit who (.link q) [(off, v)]).st.canon := h.runUnit
    unfold State.wrEach
    dsimp only
    split
    · exact hu
    · split
      exacts [ih hu, hu]

theorem State.canon.armPost {st : Status} (h : s.canon) : (s.armPost st).canon := by
  unfold State.armPost
  split
  exacts [h.upd, h]

theorem State.canon.regWrite {q : Packet} (h : s.canon) : (s.regWrite q).canon := by
  refine h.serve fun u hu => ?_
  extract_lets n v w r
  have hr : r.st.canon := by
    dsimp only [r]
    split
    · exact hu
    · split
      · exact hu.runUnit
      · have hw : (State.wrEach (Packet.writer q) q q.ofs q.body { st := u }).st.canon := State.canon.wrEach hu
        split
        exacts [hw.armPost, hw]
  clear_value r
  exact .ite hr hr.answer

theorem State.canon.admitFail {p step : Nat} (h : s.canon) : (s.admitFail p step).canon := .ite h h.setPartner

theorem State.canon.readReply {p : Packet} {dma : Bool} (h : s.canon) : (s.readReply p dma).canon := by
  refine .ite h ?_
  split
  · exact h
  next t _ =>
    refine .ite h ?_
    have k : (s.dropTxn t).canon := h.dropTxn
    dsimp only
    split
    · split
      · exact k
      · exact .ite k.complete (.ite k.dmaError.complete k.hostWrite.complete)
    · exact .ite k.admitRead k.admitFail
    · exact k

theorem State.canon.writeReply {p : Packet} (h : s.canon) : (s.writeReply p).canon :=
  .ite h (by
    split
    · exact h
    · exact .ite h (by
        split
        · exact h.dropTxn.complete
        · exact .ite h.dropTxn.admitWrote h.dropTxn.admitFail
        · exact h.dropTxn.codeStep
        · exact h.dropTxn))

theorem State.canon.bulkReply {p : Packet} (h : s.canon) : (s.bulkReply p).canon := .ite h (by split; exacts [.ite h.dropTxn h, h])

theorem State.canon.txnTimeout {tag : Nat} (h : s.canon) : (s.txnTimeout tag).canon := by
  unfold State.txnTimeout
  split
  · exact h
  · exact .ite h (h.dropTxn.count.post.share fun h1 => by split; exacts [h1.complete, h1.admitFail, h1.codeStep, h1])

theorem State.canon.withFetchWord {nbits w : Nat} (h : s.canon) : (s.withFetchWord nbits w).canon := by
  unfold State.withFetchWord
  split
  exacts [h.upd, h]

/-! ### Every command and every step -/

/-- A command has answered a state in the canonical form. -/
def AnswersCanon (o : Out) : Prop := ∃ t, o = .next t ∧ t.canon

theorem AnswersCanon.next (h : t.canon) : AnswersCanon (.next t) := ⟨t, rfl, h⟩

/-- A command of the main domain. -/
theorem AnswersCanon.onMain (h : s.canon) (k : t.canon) : AnswersCanon (.next (s.onMain t)) := .next (h.onMain k)

/-- A command that may change the status of the mixed-signal die. -/
theorem AnswersCanon.onStatus (h : s.canon) (k : t.canon) : AnswersCanon (.next (s.onStatus t)) := .next (h.onStatus k)

/-- Every command is a composition of the operations above, within the main domain, in the mixed-signal die, or without main
power. -/
theorem exec_answersCanon (h : s.canon) (c : Instr) : AnswersCanon (exec c s) := by
  cases c with
  | lowWordRead | plantTimeRead | readWindowAdvance => exact .onMain h h.readShow
  | registerWrite => exact .onMain h h.barWrite
  | unsupportedRequest => exact .next h
  | paceWindowEnd => exact .onStatus h h.paceWindow
  | sysPaceExtClr => exact .onMain h h.paceExtClear.wres
  | refMonitorWindow => exact .onStatus h h.refWindow
  | refLost => exact .onStatus h h.refLost
  | refOk => exact .onStatus h h.refOk
  | pllLock => exact .onStatus h h.pllLock
  | pllUnlock => exact .onStatus h h.pllUnlock
  | pllStableLock => exact .onStatus h h.pllStable
  | coarseExit => exact .onStatus h h.coarseExit
  | ckoChange => exact .onMain h h.ckoChange
  | clkLossClr => exact .onMain h h.clkLossClear.wres
  | ppsEdge => exact .onMain h h.ppsEdge
  | hostOffsetSubmit => exact .onMain h h.hostOffset.wres
  | servoSourceTimeout => exact .onMain h h.sourceTimeout
  | servoLock => exact .onMain h h.servoLock
  | servoLockLoss => exact .onMain h h.servoLoss
  | ptcMatch => exact .onMain h h.ptcMatch
  | mailboxTransfer => exact .onMain h h.mailboxes
  | eventHandshake => exact .onMain h h.handshake
  | fifoWordTransfer => exact .onMain h h.fifoMove
  | xdcResync => exact .onMain h h.resyncAll
  | xdcClr => exact .onMain h h.xdcClear.wres
  | xdcOvrClear | pwmShStatDropClear | adcMonlossClear | mtrTlostClear => exact .onMain h h.setF.wres
  | timPtcLateClear | atcMissClear | cmpChkfClear | adcOvrlClear => exact .onMain h h.clearMask.wres
  | carrierPeriodStart => exact .onMain h h.carrierPeriodStart.gdfFollow
  | carrierMidBoundary => exact .onMain h h.carrierMid
  | carrierPeak => exact .onMain h h.carrierPeak
  | latchPoint => exact .onMain h h.latchPoint
  | pwmEdge => exact .onMain h h.pwmEdge
  | deadTimeExpiry => exact .onMain h h.deadTimeExpiry
  | shadowWrite => exact .onMain h (.ite h.barWrite h)
  | pwmCommitGo => exact .onMain h h.commitGo.wres
  | pwmCommitAbort => exact .onMain h h.shadowClear.wres
  | pwmShadowDrop => exact .onMain h h.shadowDrop
  | pwmStatClr => exact .onMain h h.clearPwmStat.wres
  | atcWindowOpen => exact .onMain h h.atcOpen
  | atcWindowClose => exact .onMain h h.atcClose
  | gdfLandChange => exact .onMain h h.gdfChange
  | gdfFaultAssert => exact .onMain h h.gdfAssert
  | softOffStage => exact .onMain h h.softStage
  | gdiBscntClr => exact .onMain h h.clearBscnt.wres
  | tripSourceAssert => exact .onMain h h.tripAssert
  | tripFilterExpiry => exact .onMain h h.filterExpiry
  | tripSourceRelease => exact .onMain h h.tripRelease
  | blankingMaxExpiry => exact .onMain h h.blankMax
  | latchClear => exact .onMain h h.latchClear.wres
  | trpGrpCntClr => exact .onMain h h.clearGrpCnt.wres
  | comparatorOutputChange => exact .onStatus h h.cmpChange
  | comparatorDecision => exact .onStatus h h.cmpDecide
  | adcCalibrationComplete => exact .onStatus h h.calibrated
  | rotationStep => exact .onStatus h h.rotate
  | sliceHandover => exact .onStatus h h.handover
  | sliceCalibrationComplete => exact .onStatus h h.sliceCalibrated
  | conversionTimeout => exact .onStatus h h.conversionTimeout
  | converterTrigger => exact .onStatus h h.takeTrig.trigger
  | conversionEnd => exact .onStatus h h.conversionEnd
  | queuedRunStart => exact .onStatus h h.queuedStart
  | monitorIssue => exact .onStatus h h.monitorIssue
  | adcSwtrig => exact .onStatus h h.swTrig.wres
  | adcDropClr => exact .onMain h h.adcDropClear.wres
  | nop => exact .onMain h (h.ceRun fun _ hu => hu.adv)
  | endLane => exact .onMain h (h.ceRun fun _ hu => hu.laneEnd)
  | bar => exact .onMain h h.bar
  | barRelease => exact .onMain h h.barRelease
  | wne => exact .onMain h h.wne
  | wneWake => exact .onMain h h.wneWake
  | lid | movi => exact .onMain h (h.ceRun fun _ hu => hu.setV.adv)
  | flg => exact .onMain h h.flg
  | br => exact .onMain h h.br
  | call => exact .onMain h h.call
  | ret => exact .onMain h h.ret
  | loop => exact .onMain h h.loop
  | add | sub | min | max => exact .onMain h h.alu
  | and | or | xor => exact .onMain h h.aluFree
  | shl | shr | sar => exact .onMain h h.shift
  | abs => exact .onMain h h.absOp
  | sat => exact .onMain h h.satOp
  | qmul | qadd | qsub => exact .onMain h h.qOp
  | qneg => exact .onMain h h.qnegOp
  | qmac | qmsu | imac => exact .onMain h h.macOp
  | accrd => exact .onMain h h.accrd
  | accld => exact .onMain h (h.ceRun fun _ hu => hu.moveAcc.adv)
  | fadd | fsub | fmul | fdiv => exact .onMain h h.fOp
  | fma => exact .onMain h h.fmaOp
  | fcmp => exact .onMain h h.fcmpOp
  | fsqrt | fcvtq | fcvti => exact .onMain h h.fUnary
  | fcvtf => exact .onMain h h.fcvtfOp
  | fcvtfi => exact .onMain h h.fcvtfiOp
  | sincos => exact .onMain h h.sincosOp
  | atan2 => exact .onMain h h.atan2Op
  | ld => exact .onMain h h.ld
  | st => exact .onMain h h.st'
  | ld2 | ldq => exact .onMain h h.loadN
  | st2 => exact .onMain h h.store2
  | ups => exact .onMain h h.upsOp
  | updateSetAcknowledge => exact .onMain h h.upsAck
  | evt => exact .onMain h (h.ceRun fun _ hu => hu.post.adv)
  | trq => exact .onMain h (h.ceRun fun _ hu => hu.blockTrip.adv)
  | swr => exact .onMain h h.swr
  | swrCompletion => exact .onMain h h.swrDone
  | clarke => exact .onMain h h.kClarke
  | park | ipark => exact .onMain h h.kRotate
  | piStep => exact .onMain h h.kPi
  | sogifll => exact .onMain h h.kSogi
  | seqsep => exact .onMain h h.kSeqsep
  | svm => exact .onMain h h.kSvm
  | biquad => exact .onMain h h.kBiquad
  | corr => exact .onMain h h.kCorr
  | mpptpo => exact .onMain h h.kMpptPo
  | mpptic => exact .onMain h h.kMpptIc
  | pq => exact .onMain h h.kPq
  | msq => exact .onMain h h.kMsq
  | ramp => exact .onMain h h.kRamp
  | parityRefetchComplete => exact .onMain h h.refetched
  | ceCycleStart => exact .onMain h h.cycleStart
  | commitArrival => exact .onMain h h.commitArrival
  | deadlineExpiry => exact .onMain h h.deadlineExpiry
  | ceMiss => exact .onMain h h.missCheck
  | initTimeout => exact .onMain h h.initTimeout
  | ceReset => exact .onMain h h.ceReset.wres
  | ceActivate => exact .onMain h h.ceActivate.wres
  | imageVerificationComplete => exact .onMain h h.imageVerified
  | imageLoadComplete => exact .onMain h h.imageLoaded
  | bootImageLoad => exact .onMain h h.bootImage
  | keyLoadWrite => exact .onMain h (State.canon.hostOnly h.keyLoad)
  | keyInstall | keyErase => exact .onMain h (State.canon.hostOnly h.keyControl)
  | ceMissClr => exact .onMain h h.ceMissClear.wres
  | ceChkClr => exact .onMain h h.ceChkClear.wres
  | ceDurmaxClr => exact .onMain h h.ceDurmaxClear.wres
  | gridEvaluation => exact .onMain h h.gridEval
  | gridStale => exact .onMain h h.gridStale
  | curvePointTimerExpiry => exact .onMain h h.pointExpiry
  | rideExit => exact .onMain h h.rideExit
  | islRocof => exact .onMain h h.islRocof
  | islActive => exact .onMain h h.islActive
  | codePeriodBoundary => exact .onMain h h.codeBoundary
  | enterServiceTimer => exact .onMain h h.serviceTimer
  | grdCntClr => exact .onMain h h.grdCntClear.wres
  | symbolLock => exact .onMain h h.symLock
  | trainingSequenceComplete => exact .onMain h h.trained
  | miswireRetry => exact .onMain h h.miswireRetry
  | lnkUp => exact .onMain h h.linkUp
  | lnkDown => exact .onMain h h.linkDown
  | retrainStart => exact .onMain h h.retrain
  | downFrame => exact .onMain h h.downFrame
  | upFrame => exact .onMain h h.upFrame
  | rd => exact .onMain h h.regRead
  | rdr => exact .onMain h h.readReply
  | wr => exact .onMain h h.regWrite
  | wrr => exact .onMain h h.writeReply
  | parw => exact .onMain h h.parWrite
  | bopen => exact .onMain h h.bulkOpen
  | bdata => exact .onMain h h.bulkData
  | back => exact .onMain h h.bulkReply
  | alarmPacket | tripRep => exact .onMain h h.relayReport
  | logPacket => exact .onMain h (.ite h.queueLog h)
  | tracePacket => exact .onMain h (.ite h.queueTrace h)
  | packetRelay => exact .onMain h h.packetRelay
  | txnResend => exact .onMain h h.resend
  | lnkTxnTimeout => exact .onMain h h.txnTimeout
  | bulkTimeout => exact .onMain h h.bulkTimeout
  | nofrm => exact .onMain h h.noFrame
  | lnkErrClr => exact .onMain h h.lnkErrClear.wres
  | lnkTxcnt2Clr => exact .onMain h h.lnkTxClear.wres
  | partnerLost => exact .onMain h h.partnerLost
  | admissionStart => exact .onMain h h.admissionStart
  | partnerForget => exact .onMain h h.partnerForget.wres
  | phaseOffsetChange => exact .onMain h h.phaseChange
  | phaseRebalance => exact .onMain h h.rebalance.wres
  | plantCodeChange => exact .onMain h h.codeChangePlant
  | relayHoldExpiry => exact .onMain h h.holdExpiry
  | pltDrop1Clr => exact .onMain h h.dropClear.wres
  | eventRecordWrite => exact .onMain h h.eventWrite
  | safetyCycle => exact .onMain h h.safetyCycle
  | outputSwitchOff => exact .onMain h h.switchOff
  | selfTestComplete => exact .onMain h h.selfTest
  | safetyRecordWrite => exact .onMain h h.recordWrite
  | safetyRecordAgeUpdate => exact .onMain h h.ageUpdate
  | outputOffPulse => exact .onMain h h.pulseStart
  | offPulseEnd => exact .onMain h h.pulseEnd
  | outOc => exact .onMain h h.outOc
  | outOpen => exact .onMain h h.outOpen
  | fb => exact .onMain h h.feedback
  | safCmdTest => exact .onMain h h.testCommand.wres
  | isolationTestOpenTime => exact .onMain h h.testOpen
  | isolationTestSample => exact .onMain h h.testSample
  | isolationTestEnd => exact .onMain h h.testEnd
  | safTestDue => exact .onMain h h.testDue
  | testOverdue => exact .onMain h h.testOverdue
  | filteredInputChange => exact .onMain h h.inputChange
  | testPulse => exact .onMain h h.testPulse
  | disc => exact .onMain h h.discExpire
  | acknowledge => exact .onMain h h.ackRelease
  | safAckStuck => exact .onMain h h.ackStuck
  | safCmdAck => exact .onMain h (.ite h.ackCommand.wres h.ackCommand)
  | netMismatch => exact .onMain h h.netMismatch
  | netLoss => exact .onMain h h.netLoss
  | safSingle => exact .onMain h h.netSingle
  | belayStageWrite => exact .onMain h (State.canon.hostOnly h.belayWrite)
  | belayStageTimeout | belayPendingTimeout => exact .onMain h h.belayTimeout
  | safBlyProp => exact .onMain h (State.canon.hostOnly h.belayPropose)
  | safBlyConf => exact .onMain h (State.canon.hostOnly h.belayConf)
  | comkeyRelease => exact .onMain h h.comkey
  | belayEffective => exact .onStatus h h.belayEffective
  | belayAbort => exact .onMain h (State.canon.hostOnly h.belayAbort)
  | safCntClr => exact .onMain h h.safCntClear.wres
  | cycleWindowEnd => exact .onMain h h.windowEnd
  | pulseCount => exact .onMain h h.pulseCount
  | tallyCommit => exact .onMain h h.tallyCommit
  | tallyWriteComplete => exact .onMain h h.tallyComplete
  | finalCommitComplete => exact .onMain h h.finalComplete
  | mtrCtlSnap => exact .onMain h h.mtrSnap.wres
  | mtrCtlClr => exact .onMain h h.mtrClear.wres
  | mtrCntClr => exact .onMain h h.mtrCntClear.wres
  | bivouacPowerOn => exact .next h.bivouacOn
  | bivouacPowerOff => exact .next h.bivouacOff
  | burstCutOff => exact .next h.cutOff
  | burstReconnect => exact .next h.reconnect
  | cellSwitch => exact .next h.cellSwitch
  | storeReturn => exact .next h.storeReturn
  | supervisorSample => exact .next h.supervisor
  | burstEnd => exact .next h.burstEnd
  | vocSample => exact .next h.vocStart
  | vocSampleEnd => exact .next h.vocEnd
  | irradianceMeasurement => exact .next h.irradianceDue
  | irradianceMeasurementEnd => exact .next h.irradianceEnd
  | wakeRelease => exact .onMain h h.wakeRelease.wres
  | bivouacRecordCommit => exact .next h.recordDue
  | realTimeSet => exact .onMain h h.timeSet.wres
  | realTimeLoad => exact .next h.realTimeLoad
  | realTimeSync => exact .onMain h h.realTimeSync
  | cairnWriteStart => exact .onMain h h.cairnStart
  | cairnWriteComplete => exact .onMain h h.cairnComplete
  | cairnRestore => exact .onStatus h h.cairnRestore
  | cairnFactoryReset => exact .onMain h (.ite h.factoryReset h.factoryReset.wres)
  | holdupCheck => exact .onMain h h.holdupCheck
  | holdupRecheck => exact .onMain h h.holdupRecheck
  | supplyFailure => exact .onMain h h.supplyFailure
  | supplyRecovery => exact .next h.supplyRecovery
  | huweakClear => exact .onMain h h.huWeakClear.wres
  | bvqUnderClear => exact .onMain h h.underClear.wres
  | commandDoorbell => exact .onMain h h.cmdBell
  | completionDoorbell => exact .onMain h h.compBell
  | eventRingDoorbell => exact .onMain h h.evBell
  | captureRingDoorbell => exact .onMain h h.capBell
  | descriptorFetch => exact .onMain h h.fetch
  | nopDescriptor => exact .onMain h h.descNop
  | setw => exact .onMain h h.descSetw
  | setr => exact .onMain h h.descSetr
  | pwmset => exact .onMain h h.descPwmset
  | imgw => exact .onMain h h.descImgw
  | lnktxWr | lnktxRd => exact .onMain h h.descLnktx
  | capctlArm => exact .onMain h h.capArm
  | capctlTrigger => exact .onMain h h.capTrig
  | capctlDisarm => exact .onMain h h.capDisarm
  | caprd => exact .onMain h h.descCaprd
  | txfrm => exact .onMain h h.descTxfrm
  | rxbuf => exact .onMain h h.descRxbuf
  | parmw => exact .onMain h h.descParmw
  | interruptModerationExpiry => exact .onMain h h.imodEnd
  | ringDisable => exact .onMain h h.ringOff
  | ringIdle => exact .onMain h h.showRing
  | pcieReset => exact .onMain h h.pcieReset
  | eventRingEnable => exact .onMain h h.evRing
  | captureFreeze => exact .onMain h h.capFreeze
  | captureRingWrite => exact .onMain h h.captureWrite
  | ethFrameReceive => exact .onMain h h.frameIn
  | frameEgress => exact .onMain h h.egress
  | hstEthcntClr | hstErrClear => exact .onMain h h.command.wres
  | arm => exact .onMain h (.ite h.armRequest h.armRequest.wres)
  | connect | stop | clear | trip => exact .onMain h h.hostRequest
  | reset => exact .onMain h (.ite h.resetRequest h.resetRequest.wres)
  | automaticRequest => exact .onMain h h.autoRequest
  | automaticClear => exact .onMain h h.autoClear
  | tcloseExpiry => exact .onMain h h.tcloseExpiry
  | nrstAssert => exact .next h.nrstAssert
  | nrstRelease => exact .next h.nrstRelease
  | bootComplete => exact .onMain h h.bootComplete
  | losDeasserted => exact .onMain h h.losEnd
  | samplingInstant => exact .onStatus h h.samplingInstant
  | notchEdge => exact .onMain h h.notchEdge
  | ethLinkChange => exact .onMain h h.setF
  | imageWriteComplete => exact .onMain h h.imageDone
  | caprdComplete => exact .onMain h h.caprdDone
  | railOutOfRange => exact .next h.railChange

/-- Settles O6: a command leaves the queue first, and every operation keeps the form of the two tables. -/
theorem stepKeepsCanon : Obligations.StepKeepsCanon := fun s t h e => by
  unfold step at e
  split at e
  · cases e
    exact h.tick
  next c rest _ =>
    obtain ⟨u, he, hu⟩ := exec_answersCanon (s := { s with pending := rest }) h.upd c
    rw [he] at e
    cases e
    exact hu

end Sys2Proof.Machine
end

section
/-! PROOFS. The lane layer of the control engine: what one instruction of a lane leaves alone, what its registers read after each
piece of its work, and what a clean instruction at its lane's place does. -/

namespace Sys2Proof.Machine

variable {s t u : State}

/-! ### One lane: its context, its bank, its registers -/

@[simp] theorem LaneCe.bank_setBank (c : LaneCe) (b : Bank) : (c.setBank b).bank = b := by
  unfold LaneCe.setBank LaneCe.bank
  split <;> simp [*]

@[simp] theorem LaneCe.ctx_setBank (c : LaneCe) (b : Bank) : (c.setBank b).ctx = c.ctx := by
  unfold LaneCe.setBank LaneCe.ctx
  split <;> simp [*]

@[simp] theorem LaneCe.fore_setBank (c : LaneCe) (b : Bank) : (c.setBank b).fore = c.fore := by
  unfold LaneCe.setBank
  split <;> rfl

@[simp] theorem LaneCe.back_setBank (c : LaneCe) (b : Bank) : (c.setBank b).back = c.back := by
  unfold LaneCe.setBank
  split <;> rfl

@[simp] theorem LaneCe.flags_setBank (c : LaneCe) (b : Bank) : (c.setBank b).flags = c.flags := by
  unfold LaneCe.setBank
  split <;> rfl

@[simp] theorem LaneCe.flags_setCtx (c : LaneCe) (x : Ctx) : (c.setCtx x).flags = c.flags := by
  unfold LaneCe.setCtx
  split <;> rfl

/-- A context that runs as the present one does takes its place. -/
theorem LaneCe.ctx_setCtx {c : LaneCe} {x : Ctx} (h : x.run = c.ctx.run) : (c.setCtx x).ctx = x := by
  unfold LaneCe.ctx at h
  unfold LaneCe.setCtx LaneCe.ctx
  split at h <;> simp [*]

theorem LaneCe.bank_setCtx {c : LaneCe} {x : Ctx} (h : x.run = c.ctx.run) : (c.setCtx x).bank = c.bank := by
  unfold LaneCe.ctx at h
  unfold LaneCe.setCtx LaneCe.bank
  split at h <;> simp [*]

@[simp] theorem State.ceLane_setCe_self (l : Nat) (c : LaneCe) : (s.setCe l c).ceLane l = c := by
  simp [State.ceLane, State.setCe]

theorem State.ceLane_setCe_ne {k l : Nat} (c : LaneCe) (h : k ≠ l) : (s.setCe l c).ceLane k = s.ceLane k := Tab.get_set_ne _ _ _ h

/-- What work within lane l leaves alone: its contexts, every other lane, the register map, host memory, the queue and the ordering
code. -/
structure WithinLane (l : Nat) (s t : State) : Prop where
  lanes : ∀ k, k ≠ l → t.ceLane k = s.ceLane k
  fore : (t.ceLane l).fore = (s.ceLane l).fore
  back : (t.ceLane l).back = (s.ceLane l).back
  regs : t.regs = s.regs
  host : t.hst.mem = s.hst.mem
  queue : t.pending = s.pending
  part : t.part = s.part

section
variable {l : Nat}

theorem WithinLane.refl (l : Nat) (s : State) : WithinLane l s s := ⟨fun _ _ => rfl, rfl, rfl, rfl, rfl, rfl, rfl⟩

theorem WithinLane.trans (h : WithinLane l s t) (k : WithinLane l t u) : WithinLane l s u where
  lanes i hi := (k.lanes i hi).trans (h.lanes i hi)
  fore := k.fore.trans h.fore
  back := k.back.trans h.back
  regs := k.regs.trans h.regs
  host := k.host.trans h.host
  queue := k.queue.trans h.queue
  part := k.part.trans h.part

theorem WithinLane.ctx (h : WithinLane l s t) : (t.ceLane l).ctx = (s.ceLane l).ctx := by
  simp only [LaneCe.ctx, h.fore, h.back]

/-- A change of the lane that keeps its contexts. -/
theorem WithinLane.setCe {c : LaneCe} (h : WithinLane l s t) (hf : c.fore = (t.ceLane l).fore) (hb : c.back = (t.ceLane l).back) :
    WithinLane l s (t.setCe l c) :=
  h.trans ⟨fun _ hk => State.ceLane_setCe_ne c hk, by simpa using hf, by simpa using hb, rfl, rfl, rfl, rfl⟩

theorem WithinLane.setV {r : Nat} {w : Word} (h : WithinLane l s t) : WithinLane l s (t.setV l r w) := by
  unfold State.setV
  split
  · exact h
  · exact h.setCe (by simp) (by simp)

theorem WithinLane.sticky {m : Nat} (h : WithinLane l s t) : WithinLane l s (t.sticky l m) := by
  unfold State.sticky
  split
  · exact h
  · exact h.setCe rfl rfl

theorem WithinLane.setAcc {b : Bool} {v : Int} (h : WithinLane l s t) : WithinLane l s (t.setAcc l b v) := h.setCe (by simp) (by simp)

theorem WithinLane.moveAcc {b : Bool} {r : VReg} (h : WithinLane l s t) : WithinLane l s (t.moveAcc l b r) :=
  h.setCe (by simp) (by simp)

theorem WithinLane.takeFree (h : WithinLane l s t) : WithinLane l s t.takeFree.2 := ⟨h.1, h.2, h.3, h.4, h.5, h.6, h.7⟩

/-- The step of a lane whose work has kept its place. -/
theorem WithinLane.adv (h : WithinLane l s t) : LaneSteps l s (t.adv l) := by
  refine ⟨?_, fun k hk => (State.ceLane_setCe_ne _ hk).trans (h.lanes k hk), h.regs, h.host, h.queue, h.part⟩
  rw [← h.ctx]
  unfold State.adv
  dsimp only
  rw [State.ceLane_setCe_self, LaneCe.ctx_setCtx]
  rfl

end

/-! ### Registers, accumulators and flags after each piece of work -/

section
variable (l r k : Nat)

@[simp] theorem State.bank_adv : ((s.adv l).ceLane l).bank = (s.ceLane l).bank := by
  unfold State.adv
  dsimp only
  rw [State.ceLane_setCe_self, LaneCe.bank_setCtx]
  rfl

@[simp] theorem State.vreg_adv : (s.adv l).vreg l r = s.vreg l r := by simp [State.vreg]
@[simp] theorem State.v_adv : (s.adv l).v l r = s.v l r := by simp [State.v]
@[simp] theorem State.accReg_adv (b : Bool) : (s.adv l).accReg l b = s.accReg l b := by simp [State.accReg]
@[simp] theorem State.flags_adv : ((s.adv l).ceLane l).flags = (s.ceLane l).flags := by simp [State.adv]
@[simp] theorem State.mem_adv : (s.adv l).mem = s.mem := rfl

@[simp] theorem State.v_zero : s.v l 0 = 0 := rfl

theorem State.v_setV_self (w : Word) (h : r ≠ 0) : (s.setV l r w).v l r = w := by
  simp [State.setV, State.v, State.vreg, h]

theorem State.v_setV_ne (w : Word) {r k : Nat} (h : k ≠ r) : (s.setV l r w).v l k = s.v l k := by
  by_cases hr : r = 0
  · simp [State.setV, hr]
  · by_cases hk : k = 0
    · simp [hk]
    · simp [State.setV, State.v, State.vreg, hr, hk, Tab.get_set_ne _ _ _ h]

@[simp] theorem State.accReg_setV (w : Word) (b : Bool) : (s.setV l r w).accReg l b = s.accReg l b := by
  unfold State.setV
  split
  · rfl
  · simp [State.accReg]

@[simp] theorem State.flags_setV (w : Word) : ((s.setV l r w).ceLane l).flags = (s.ceLane l).flags := by
  unfold State.setV
  split
  · rfl
  · simp

@[simp] theorem State.mem_setV (w : Word) : (s.setV l r w).mem = s.mem := by
  unfold State.setV
  split <;> rfl

@[simp] theorem State.bank_sticky (m : Nat) : ((s.sticky l m).ceLane l).bank = (s.ceLane l).bank := by
  unfold State.sticky
  split
  · rfl
  · simp [LaneCe.bank]

@[simp] theorem State.v_sticky (m : Nat) : (s.sticky l m).v l r = s.v l r := by simp [State.v, State.vreg]
@[simp] theorem State.accReg_sticky (m : Nat) (b : Bool) : (s.sticky l m).accReg l b = s.accReg l b := by simp [State.accReg]

@[simp] theorem State.flags_sticky (m : Nat) : ((s.sticky l m).ceLane l).flags = (s.ceLane l).flags ||| m := by
  unfold State.sticky
  split
  next h => simp [h]
  next => simp

@[simp] theorem State.mem_sticky (m : Nat) : (s.sticky l m).mem = s.mem := by
  unfold State.sticky
  split <;> rfl

@[simp] theorem State.v_takeFree : s.takeFree.2.v l r = s.v l r := rfl
@[simp] theorem State.mem_takeFree : s.takeFree.2.mem = s.mem := rfl

@[simp] theorem State.v_setAcc (b : Bool) (x : Int) : (s.setAcc l b x).v l r = s.v l r := by
  cases b <;> simp [State.setAcc, State.v, State.vreg]

@[simp] theorem State.flags_setAcc (b : Bool) (x : Int) : ((s.setAcc l b x).ceLane l).flags = (s.ceLane l).flags := by
  simp [State.setAcc]

@[simp] theorem State.mem_setAcc (b : Bool) (x : Int) : (s.setAcc l b x).mem = s.mem := rfl

@[simp] theorem State.accReg_setAcc_self (b : Bool) (x : Int) :
    (s.setAcc l b x).accReg l b = { val := BitVec.ofInt 48 x, res := residue (BitVec.ofInt 48 x).toInt } := by
  cases b <;> simp [State.setAcc, State.accReg]

@[simp] theorem State.accReg_setAcc_other (b : Bool) (x : Int) : (s.setAcc l b x).accReg l (!b) = s.accReg l (!b) := by
  cases b <;> simp [State.setAcc, State.accReg]

@[simp] theorem State.v_moveAcc (b : Bool) (x : VReg) : (s.moveAcc l b x).v l r = s.v l r := by
  cases b <;> simp [State.moveAcc, State.v, State.vreg]

@[simp] theorem State.flags_moveAcc (b : Bool) (x : VReg) : ((s.moveAcc l b x).ceLane l).flags = (s.ceLane l).flags := by
  simp [State.moveAcc]

@[simp] theorem State.mem_moveAcc (b : Bool) (x : VReg) : (s.moveAcc l b x).mem = s.mem := rfl

@[simp] theorem State.accReg_moveAcc_self (b : Bool) (x : VReg) :
    (s.moveAcc l b x).accReg l b = { val := x.val.signExtend 48, res := x.res } := by
  cases b <;> simp [State.moveAcc, State.accReg]

@[simp] theorem State.accReg_moveAcc_other (b : Bool) (x : VReg) : (s.moveAcc l b x).accReg l (!b) = s.accReg l (!b) := by
  cases b <;> simp [State.moveAcc, State.accReg]

end

theorem State.byte_of_mem (h : t.mem = s.mem) (a : Nat) : t.byte a = s.byte a := by rw [State.byte, h, State.byte]

/-! ### Running one instruction -/

section
variable {x : CeInstr} {op : Nat} {i : Instr} {g : State → State} {P : State → Prop}

theorem live_of_runsClean (h : runsClean x s) : s.live = true := by
  have := h.runs
  simp only [State.laneRuns, Bool.and_eq_true] at this
  exact this.1.1.1.1.1

/-- A clean instruction that stands at its lane's place does its work. -/
theorem State.ceRun_of_stands (h : runsClean x s) (hk : ceKnown op (bareCe x) = true) (hs : s.stands op x = true) :
    s.ceRun x op g = g s := by
  obtain ⟨hpar, hbad⟩ := h.program
  obtain ⟨w, hw, hd⟩ : ∃ w, s.progWord (s.ceLane x.lane).ctx.pc = some w ∧ ceDecode w = (op, bareCe x) := by
    simpa [State.stands, Option.any_eq_true] using hs
  have himg : s.ce.img.isNone = false := by
    unfold State.progWord at hw
    split at hw
    next e => simp [e]
    next => cases hw
  unfold State.ceRun
  simp [h.runs, himg, hpar, hbad, hw, hd, hk]

/-- The same for an instruction with checks, where its source residues are in range and none disagrees. -/
theorem State.ceChecked_of_stands {srcs : List Nat} {off : Bool} (h : runsClean x s) (hk : ceKnown op (bareCe x) = true)
    (h7 : 7 ∉ srcs) (ho : off = false) (hs : s.stands op x = true) : s.ceChecked x op srcs off g = g s := by
  rw [State.ceChecked, State.ceRun_of_stands h hk hs]
  simp [ho, h7, h.attempts]

theorem Runs.run (h : runsClean x s) (hP : P (g s)) (he : exec i s = .next (s.onMain (s.ceRun x op g)) := by rfl)
    (hk : ceKnown op (bareCe x) = true := by rfl) : Runs op x i s P := fun hs =>
  ⟨_, he.trans (congrArg Host.Outcome.next ((s.onMain_of_live (live_of_runsClean h) _).trans (State.ceRun_of_stands h hk hs))), hP⟩

theorem Runs.checked {srcs : List Nat} {off : Bool} (h : runsClean x s) (h7 : 7 ∉ srcs) (ho : off = false) (hP : P (g s))
    (he : exec i s = .next (s.onMain (s.ceChecked x op srcs off g)) := by rfl) (hk : ceKnown op (bareCe x) = true := by rfl) :
    Runs op x i s P := fun hs =>
  ⟨_, he.trans (congrArg Host.Outcome.next ((s.onMain_of_live (live_of_runsClean h) _).trans (State.ceChecked_of_stands h hk h7 ho hs))), hP⟩

end

end Sys2Proof.Machine
end

section
/-! PROOFS. The int32, Q1.31, accumulator and binary32 instructions (O26, O27, O28). -/

namespace Sys2Proof.Machine

variable {s t u : State}

/-! ### Source checks of a clean instruction -/

section
variable {x : CeInstr}

theorem residue_ne_seven (v : Int) : residue v ≠ 7 := by
  unfold residue
  omega

theorem resErr_residue (v : Int) : resErr (residue v) v = 0 := by simp [resErr]

theorem vreg_res_of_runsClean (h : runsClean x s) (r : Fin 32) : (s.vreg x.lane r).res = residue (s.vreg x.lane r).val.toInt :=
  h.values r r.isLt

theorem opB_res_of_runsClean (h : runsClean x s) : (s.opB x).res = residue (s.opB x).val.toInt := by
  unfold State.opB
  split
  · rfl
  · exact vreg_res_of_runsClean h x.b

theorem seven_notMem_opA (h : runsClean x s) : 7 ∉ [(s.opA x).res] := by
  simpa [State.opA, vreg_res_of_runsClean h x.a] using (residue_ne_seven _).symm

theorem seven_notMem_resAB (h : runsClean x s) : 7 ∉ s.resAB x := by
  simpa [State.resAB, State.opA, vreg_res_of_runsClean h x.a, opB_res_of_runsClean h] using
    ⟨(residue_ne_seven _).symm, (residue_ne_seven _).symm⟩

theorem err_of_res {r : VReg} (h : r.res = residue r.val.toInt) : r.err = 0 := by rw [VReg.err, h, resErr_residue]

theorem opA_err (h : runsClean x s) : (s.opA x).err = 0 := err_of_res (vreg_res_of_runsClean h x.a)
theorem opB_err (h : runsClean x s) : (s.opB x).err = 0 := err_of_res (opB_res_of_runsClean h)

theorem sumOff_eq_false (h : runsClean x s) : sumOff (s.opA x) (s.opB x) = false := by simp [sumOff, opA_err h, opB_err h]
theorem diffOff_eq_false (h : runsClean x s) : diffOff (s.opA x) (s.opB x) = false := by simp [diffOff, opA_err h, opB_err h]

theorem prodOff_eq_false (h : runsClean x s) : prodOff (s.opA x) (s.opB x) = false := by
  simp [prodOff, State.opA, vreg_res_of_runsClean h x.a, opB_res_of_runsClean h]

theorem offA_eq_false (h : runsClean x s) : s.offA x = false := by simp [State.offA, opA_err h]
theorem offAB_eq_false (h : runsClean x s) : s.offAB x = false := by simp [State.offAB, offA_eq_false h, opB_err h]

/-! ### What a write of the destination does -/

/-- A value with its flags, and on to the next instruction. -/
theorem laneWrites_setV_sticky (w : Word) (fl : Nat) : LaneWrites x w fl s (((s.setV x.lane x.d w).sticky x.lane fl).adv x.lane) where
  toLaneSteps := (WithinLane.refl _ s).setV.sticky.adv
  dest h := by simp [State.v_setV_self _ _ w h]
  others r h := by simp [State.v_setV_ne _ w h]
  accs b := by simp
  flags := by simp
  mem a := State.byte_of_mem (by simp) a

theorem laneWrites_setV (w : Word) : LaneWrites x w 0 s ((s.setV x.lane x.d w).adv x.lane) :=
  laneWrites_setV_sticky (s := s) (x := x) w 0

/-- A free value taken first changes nothing of the lane. -/
theorem LaneWrites.of_takeFree {w : Word} {fl : Nat} (h : LaneWrites x w fl s.takeFree.2 t) : LaneWrites x w fl s t :=
  ⟨⟨h.place, h.lanes, h.regs, h.host, h.queue, h.part⟩, h.dest, h.others, h.accs, h.flags, h.mem⟩

theorem laneWrites_setV_free (w : Word) : LaneWrites x w 0 s ((s.takeFree.2.setV x.lane x.d w).adv x.lane) :=
  LaneWrites.of_takeFree (laneWrites_setV w)

end

/-! ### The int32 instructions (R306) -/

section
variable {x : CeInstr} {op : Nat} {i : Instr}

/-- A two-operand int32 instruction with its checks. -/
theorem runs_alu {off : VReg → VReg → Bool} {g : Word → Word → Word} (h : runsClean x s)
    (ho : off (s.opA x) (s.opB x) = false) (he : exec i s = .next (s.onMain (s.alu x op off g)) := by rfl)
    (hk : ceKnown op (bareCe x) = true := by rfl) : Runs op x i s (LaneWrites x (g (s.wa x) (s.wb x)) 0 s) :=
  Runs.checked h (seven_notMem_resAB h) ho (laneWrites_setV _) he hk

theorem runs_aluFree {g : Word → Word → Word} (h : runsClean x s)
    (he : exec i s = .next (s.onMain (s.aluFree x op g)) := by rfl) (hk : ceKnown op (bareCe x) = true := by rfl) :
    Runs op x i s (LaneWrites x (g (s.wa x) (s.wb x)) 0 s) :=
  Runs.run h (laneWrites_setV _) he hk

/-- A shift by less than 32. -/
theorem runs_shift {g : Word → Nat → Word} (h : runsClean x s) (hn : (s.wb x).toNat < 32)
    (he : exec i s = .next (s.onMain (s.shift x op g)) := by rfl) (hk : ceKnown op (bareCe x) = true := by rfl) :
    Runs op x i s (LaneWrites x (g (s.wa x) (s.wb x).toNat) 0 s) := by
  refine Runs.checked h (seven_notMem_resAB h) rfl ?_ he hk
  simp only [if_pos hn]
  exact laneWrites_setV _

/-- A shift by 32 or more. -/
theorem runs_shift_free {g : Word → Nat → Word} (h : runsClean x s) (hn : 32 ≤ (s.wb x).toNat)
    (he : exec i s = .next (s.onMain (s.shift x op g)) := by rfl) (hk : ceKnown op (bareCe x) = true := by rfl) :
    Runs op x i s (fun t => ∃ w, LaneWrites x w 0 s t) := by
  refine Runs.checked h (seven_notMem_resAB h) rfl ?_ he hk
  simp only [if_neg (Nat.not_lt.mpr hn)]
  exact ⟨_, laneWrites_setV_free _⟩

theorem runs_min (h : runsClean x s) :
    Runs 0x18 x (.min x) s (LaneWrites x (BitVec.ofInt 32 (min (s.wa x).toInt (s.wb x).toInt)) 0 s) := by
  have e : BitVec.ofInt 32 (min (s.wa x).toInt (s.wb x).toInt) = if (s.wa x).toInt ≤ (s.wb x).toInt then s.wa x else s.wb x := by
    rw [min_def]
    split <;> simp
  rw [e]
  exact runs_alu (g := fun a b => if a.toInt ≤ b.toInt then a else b) h rfl

theorem runs_max (h : runsClean x s) :
    Runs 0x19 x (.max x) s (LaneWrites x (BitVec.ofInt 32 (max (s.wa x).toInt (s.wb x).toInt)) 0 s) := by
  have e : BitVec.ofInt 32 (max (s.wa x).toInt (s.wb x).toInt) = if (s.wa x).toInt ≤ (s.wb x).toInt then s.wb x else s.wa x := by
    rw [max_def]
    split <;> simp
  rw [e]
  exact runs_alu (g := fun a b => if a.toInt ≤ b.toInt then b else a) h rfl

/-- −2^31 alone has no absolute value. -/
theorem toInt_eq_qMin_iff (a : Word) : a.toInt = qMin ↔ a = 0x80000000#32 := by
  rw [← BitVec.toInt_inj]
  rfl

theorem runs_abs (h : runsClean x s) (ha : s.wa x ≠ 0x80000000#32) :
    Runs 0x1A x (.abs x) s (LaneWrites x (BitVec.ofNat 32 (s.wa x).toInt.natAbs) 0 s) := by
  refine Runs.checked h (seven_notMem_opA h) rfl ?_
  simp only [if_neg (mt (toInt_eq_qMin_iff _).mp ha)]
  exact BitVec.ofInt_natCast 32 _ ▸ laneWrites_setV _

theorem runs_abs_free (h : runsClean x s) (ha : s.wa x = 0x80000000#32) :
    Runs 0x1A x (.abs x) s (fun t => ∃ w, LaneWrites x w 0 s t) := by
  refine Runs.checked h (seven_notMem_opA h) rfl ?_
  simp only [if_pos ((toInt_eq_qMin_iff _).mpr ha)]
  exact ⟨_, laneWrites_setV_free _⟩

end

/-- Settles O26: an instruction that stands at its lane's place and runs without an error writes its one result. -/
theorem integerInstructions : Obligations.IntegerInstructions := fun x s h =>
  ⟨runs_alu h (sumOff_eq_false h), runs_alu h (diffOff_eq_false h), runs_aluFree h, runs_aluFree h, runs_aluFree h,
    fun hn => ⟨runs_shift h hn, runs_shift h hn, runs_shift h hn⟩,
    fun hn => ⟨runs_shift_free h hn, runs_shift_free h hn, runs_shift_free h hn⟩,
    runs_min h, runs_max h, runs_abs h, runs_abs_free h,
    Runs.checked h (seven_notMem_opA h) rfl (laneWrites_setV _),
    Runs.run h (laneWrites_setV _), Runs.run h (laneWrites_setV _)⟩

/-! ### The Q1.31 and accumulator instructions (R305) -/

section
variable {x : CeInstr} {op : Nat} {i : Instr}

/-- A saturated Q1.31 result, and on to the next instruction. -/
theorem qResult_setQ (q : Int) : QResult x q s ((s.setQ x.lane x.d q).adv x.lane) := laneWrites_setV_sticky _ _

/-- A two-operand Q1.31 instruction with its checks. -/
theorem runs_qOp {off : VReg → VReg → Bool} (g : Int → Int → Int) (h : runsClean x s)
    (ho : off (s.opA x) (s.opB x) = false) (he : exec i s = .next (s.onMain (s.qOp x op off g)) := by rfl)
    (hk : ceKnown op (bareCe x) = true := by rfl) : Runs op x i s (QResult x (g (s.wa x).toInt (s.wb x).toInt) s) :=
  Runs.checked h (seven_notMem_resAB h) ho (qResult_setQ _) he hk

/-- 48 bits hold a value of their range. -/
theorem toInt_ofInt_clamp48 (c : Int) :
    (BitVec.ofInt 48 (clampInt (-(2 ^ 47)) (2 ^ 47 - 1) c)).toInt = max (-(2 ^ 47)) (min (2 ^ 47 - 1) c) := by
  rw [BitVec.toInt_ofInt, clampInt, Int.bmod_eq_of_le] <;> norm_num

/-- A saturated accumulator result, and on to the next instruction. -/
theorem laneAccumulates_setAccSat (c : Int) : LaneAccumulates x c s ((s.setAccSat x.lane x.acc c).adv x.lane) where
  toLaneSteps := (WithinLane.refl _ s).setAcc.sticky.adv
  acc := by
    have e : (((s.setAccSat x.lane x.acc c).adv x.lane).accReg x.lane x.acc).val =
        BitVec.ofInt 48 (clampInt (-(2 ^ 47)) (2 ^ 47 - 1) c) := by simp [State.setAccSat]
    rw [State.acc, e, toInt_ofInt_clamp48]
  other := by simp [State.setAccSat]
  values r := by simp [State.setAccSat]
  flags := by simp [State.setAccSat]
  mem a := State.byte_of_mem (by simp [State.setAccSat]) a

/-- A word fits an accumulator. -/
theorem laneAccumulates_moveAcc : LaneAccumulates x (s.wa x).toInt s ((s.moveAcc x.lane x.acc (s.opA x)).adv x.lane) where
  toLaneSteps := (WithinLane.refl _ s).moveAcc.adv
  acc := by
    have hlo := BitVec.le_toInt (s.wa x)
    have hhi := BitVec.toInt_lt (x := s.wa x)
    have hval : (s.moveAcc x.lane x.acc (s.opA x)).acc x.lane x.acc = (s.wa x).toInt := by
      simp only [State.acc, State.accReg_moveAcc_self]
      exact BitVec.toInt_signExtend_of_le (by norm_num)
    simp only [State.acc, State.accReg_adv] at hval ⊢
    omega
  other := by simp
  values r := by simp
  flags := by
    have hlo := BitVec.le_toInt (s.wa x)
    have hhi := BitVec.toInt_lt (x := s.wa x)
    rw [if_neg (by omega)]
    simp
  mem a := State.byte_of_mem (by simp) a

theorem accErr_eq_zero (h : runsClean x s) : (s.accReg x.lane x.acc).err = 0 := by
  rw [AReg.err, h.accs x.acc]
  exact resErr_residue _

/-- A multiply-accumulate with its checks. -/
theorem runs_macOp (g : Int → Int → Int → Int) (h : runsClean x s)
    (he : exec i s = .next (s.onMain (s.macOp x op g)) := by rfl) (hk : ceKnown op (bareCe x) = true := by rfl) :
    Runs op x i s (LaneAccumulates x (g (s.acc x.lane x.acc) (s.wa x).toInt (s.wb x).toInt) s) := by
  have h7 : 7 ∉ (s.accReg x.lane x.acc).res :: s.resAB x := by
    rw [h.accs x.acc]
    simpa using ⟨(residue_ne_seven _).symm, seven_notMem_resAB h⟩
  exact Runs.checked h h7 (by simp [prodOff_eq_false h, accErr_eq_zero h]) (laneAccumulates_setAccSat _) he hk

theorem qMul_eq (a b : Int) : qMul a b = (a * b + 2 ^ 30) / 2 ^ 31 := rfl

/-- The residue of a clean accumulator is in range. -/
theorem seven_notMem_acc (h : runsClean x s) : 7 ∉ [(s.accReg x.lane x.acc).res] := by
  simpa [h.accs x.acc] using (residue_ne_seven _).symm

end

/-- Settles O27: each result is saturated where it is written, with its flag. -/
theorem fixedPointInstructions : Obligations.FixedPointInstructions := fun x s h => by
  simp only [← qMul_eq]
  exact ⟨runs_qOp qMul h (prodOff_eq_false h), runs_qOp (· + ·) h (sumOff_eq_false h), runs_qOp (· - ·) h (diffOff_eq_false h),
    Runs.checked h (seven_notMem_opA h) (offA_eq_false h) (qResult_setQ _), runs_macOp (fun c a b => c + qMul a b) h,
    runs_macOp (fun c a b => c - qMul a b) h, runs_macOp (fun c a b => c + (BitVec.ofInt 48 (a * b)).toInt) h,
    Runs.checked h (seven_notMem_acc h) rfl (qResult_setQ _), Runs.run h laneAccumulates_moveAcc⟩

/-! ### The binary32 instructions (R307, R311) -/

section
variable {x : CeInstr} {op : Nat} {i : Instr}

/-- A quiet NaN with any sign and payload. -/
theorem openNan_and (n : Word) : (0x7FC00000#32 ||| (n &&& 0x803FFFFF#32)) &&& 0x7FC00000#32 = 0x7FC00000#32 := by
  refine BitVec.eq_of_getLsbD_eq fun i _ => ?_
  simp only [BitVec.getLsbD_and, BitVec.getLsbD_or]
  cases (0x7FC00000#32).getLsbD i <;> simp

/-- A binary32 result with its flags, and on to the next instruction. -/
theorem fpResult_setF32 (r : FpRes) : FpResult x r s ((s.setF32 x.lane x.d r).adv x.lane) := by
  unfold State.setF32
  split
  next h => exact ⟨_, by simpa [fpAllows, h] using openNan_and (Config.free s.free), LaneWrites.of_takeFree (laneWrites_setV_sticky _ _)⟩
  next h => exact ⟨_, by simp [fpAllows, h], laneWrites_setV_sticky _ _⟩

theorem runs_fOp (g : Word → Word → FpRes) (h : runsClean x s) (he : exec i s = .next (s.onMain (s.fOp x op g)) := by rfl)
    (hk : ceKnown op (bareCe x) = true := by rfl) : Runs op x i s (FpResult x (g (s.wa x) (s.wb x)) s) :=
  Runs.checked h (seven_notMem_resAB h) (offAB_eq_false h) (fpResult_setF32 _) he hk

theorem runs_fUnary (g : Word → FpRes) (h : runsClean x s) (he : exec i s = .next (s.onMain (s.fUnary x op g)) := by rfl)
    (hk : ceKnown op (bareCe x) = true := by rfl) : Runs op x i s (FpResult x (g (s.wa x)) s) :=
  Runs.checked h (seven_notMem_opA h) (by simp [offA_eq_false h]) (fpResult_setF32 _) he hk

theorem runs_fma (h : runsClean x s) : Runs 0x33 x (.fma x) s (FpResult x (fpFma (s.wa x) (s.wb x) (s.wc x)) s) := by
  have hc : (s.vreg x.lane x.c).res = residue (s.vreg x.lane x.c).val.toInt := h.values x.c (by omega)
  refine Runs.checked h ?_ ?_ (fpResult_setF32 _)
  · simpa [hc] using ⟨(residue_ne_seven _).symm, seven_notMem_resAB h⟩
  · simp [offAB_eq_false h, err_of_res hc]

/-- A finite value to Q1.31. -/
theorem runs_fcvtf {n : Bool} {m : Nat} {e : Int} (h : runsClean x s) (hr : fpRead (s.wa x) = .fin n m e) :
    Runs 0x39 x (.fcvtf x) s (QResult x (fpToInt n m (e + 31)) s) := by
  refine Runs.checked h (seven_notMem_opA h) rfl ?_
  simp only [hr]
  exact qResult_setQ _

/-- A finite value within int32. -/
theorem runs_fcvtfi {n : Bool} {m : Nat} {e : Int} (h : runsClean x s) (hr : fpRead (s.wa x) = .fin n m e)
    (hlo : -(2 ^ 31) ≤ fpToInt n m e) (hhi : fpToInt n m e < 2 ^ 31) :
    Runs 0x3B x (.fcvtfi x) s (LaneWrites x (BitVec.ofInt 32 (fpToInt n m e)) 0 s) := by
  have hin : ¬(fpToInt n m e < qMin ∨ qMax < fpToInt n m e) := by
    simp only [qMin, qMax]
    omega
  refine Runs.checked h (seven_notMem_opA h) rfl ?_
  simp only [hr, if_neg hin]
  exact laneWrites_setV _

/-- A NaN converts to 0 and is invalid. -/
theorem runs_fcvt_nan {q : Bool} (h : runsClean x s) (hr : fpRead (s.wa x) = .nan q) :
    Runs 0x39 x (.fcvtf x) s (LaneWrites x 0 1 s) ∧ Runs 0x3B x (.fcvtfi x) s (LaneWrites x 0 1 s) := by
  constructor
  all_goals
    refine Runs.checked h (seven_notMem_opA h) rfl ?_
    simp only [hr]
    exact laneWrites_setV_sticky _ _

end

theorem floatInstructions_hold : floatInstructionsHolds := fun x s h =>
  ⟨runs_fOp fpAdd h, runs_fOp (fun a b => fpAdd a (fpNeg b)) h, runs_fOp fpMul h, runs_fma h, runs_fOp fpDiv h, runs_fUnary fpSqrt h,
    Runs.checked h (seven_notMem_resAB h) rfl (laneWrites_setV_sticky _ _), runs_fUnary (fun a => fpOfInt a.toInt (-31)) h,
    runs_fUnary (fun a => fpOfInt a.toInt 0) h, fun _ _ _ => runs_fcvtf h, fun _ _ _ => runs_fcvtfi h, fun _ => runs_fcvt_nan h⟩

/-! ### The laws of binary32 results -/

theorem fpSum_comm (n p : Bool) (m k : Nat) (e f : Int) : fpSum n m e p k f = fpSum p k f n m e := by
  unfold fpSum
  rw [min_comm e f, Bool.and_comm n p]
  simp only [add_comm]

theorem fpAdd_comm (a b : Word) : fpAdd a b = fpAdd b a := by
  unfold fpAdd
  cases fpRead a <;> cases fpRead b
  case nan.nan sa sb => simp only [Bool.or_comm]
  case inf.inf p q => by_cases h : p = q <;> simp [h, Ne.symm]
  case fin.fin => exact fpSum_comm ..
  all_goals rfl

theorem fpMul_comm (a b : Word) : fpMul a b = fpMul b a := by
  unfold fpMul
  cases fpRead a <;> cases fpRead b
  case nan.nan sa sb => simp only [Bool.or_comm]
  case fin.fin => simp only [bne_comm, Nat.mul_comm, add_comm]
  all_goals simp only [bne_comm]

theorem fpDiv_zero {a b : Word} {n p : Bool} {m : Nat} {e f : Int} (ha : fpRead a = .fin n m e) (hm : m ≠ 0)
    (hb : fpRead b = .fin p 0 f) :
    (fpDiv a b).fl = 4 ∧ (fpDiv a b).v = (if n = p then 0x7F800000#32 else 0xFF800000#32) := by
  have h : fpDiv a b = { fpInf (n != p) with fl := 4 } := by simp [fpDiv, ha, hb, hm]
  rw [h]
  refine ⟨rfl, ?_⟩
  cases n <;> cases p <;> rfl

theorem fpSqrt_negative {a : Word} {m : Nat} {e : Int} (ha : fpRead a = .fin true m e) (hm : m ≠ 0) : fpSqrt a = fpInvalid := by
  simp [fpSqrt, ha, hm]

/-- Settles O28: the result of each instruction is the model's, with its flags; sums and products are symmetric in each pair of
kinds of operand. -/
theorem floatInstructions : Obligations.FloatInstructions :=
  ⟨floatInstructions_hold, fun a b => ⟨fpAdd_comm a b, fpMul_comm a b⟩, fun _ _ _ _ _ _ _ => fpDiv_zero, fun _ _ _ => fpSqrt_negative⟩

end Sys2Proof.Machine
end

section
/-! PROOFS. Faults of the control engine, and the loads and stores of its lanes (O30): what a trip and its report leave of the
engine, the record of a fault, and the bytes of data memory that an access reads or changes. -/

namespace Sys2Proof.Machine

variable {s t u : State}

/-! ### What the rest of the module leaves of the control engine -/

/-- What an operation of another part of the module leaves alone: the registers of page 0xA, data memory, and the control engine but
for what a background part waits for, which the end of an arming may tell it (R327). -/
structure CeKeeps (s t : State) : Prop where
  reg : ∀ o, 0xA000 ≤ o → o < 0xB000 → t.reg o = s.reg o
  mem : t.mem = s.mem
  upsets : t.upsets = s.upsets
  ce : t.ce = { s.ce with lanes := t.ce.lanes }
  lane : ∀ l, ∃ w, t.ceLane l = { s.ceLane l with back := { (s.ceLane l).back with wait := w } }

namespace CeKeeps

theorem refl (s : State) : CeKeeps s s := ⟨fun _ _ _ => rfl, rfl, rfl, rfl, fun l => ⟨(s.ceLane l).back.wait, rfl⟩⟩

theorem trans (h : CeKeeps s t) (k : CeKeeps t u) : CeKeeps s u where
  reg o h1 h2 := (k.reg o h1 h2).trans (h.reg o h1 h2)
  mem := k.mem.trans h.mem
  upsets := k.upsets.trans h.upsets
  ce := by rw [k.ce, h.ce]
  lane l := by
    obtain ⟨v, hv⟩ := h.lane l
    obtain ⟨w, hw⟩ := k.lane l
    exact ⟨w, by rw [hw, hv]⟩

theorem f (h : CeKeeps s t) (x : Fld) (hx : 0xA000 ≤ x.off ∧ x.off < 0xB000 := by decide) : t.f x = s.f x :=
  congrArg x.get (h.reg _ hx.1 hx.2)

theorem fore (h : CeKeeps s t) (l : Nat) : (t.ceLane l).fore = (s.ceLane l).fore := by
  obtain ⟨w, hw⟩ := h.lane l
  rw [hw]

theorem v (h : CeKeeps s t) (l r : Nat) : t.v l r = s.v l r := by
  obtain ⟨w, hw⟩ := h.lane l
  rw [State.v, State.vreg, hw, State.v, State.vreg]
  rfl

/-- An update of neither the register file, data memory, nor the control engine. -/
theorem upd {pe : List Instr} {pt : Part} {pw : Power} {tb : Nat} {rd : Word} {ch : Tab Word} {cp : Tab Nat} {fr : Nat} {y : SysSt}
    {ck : ClkSt} {ti : TimSt} {xd : XdcSt} {pm : PwmSt} {a : Tab AtcSt} {tr : TrpSt} {cm : CmpSt} {ad : AdcSt} {gr : GrdSt}
    {mt : MtrSt} {ln : LnkSt} {pl : PltSt} {sa : SafSt} {bv : BvqSt} {qu : QueSt} {hs : HstSt} (h : CeKeeps s t) :
    CeKeeps s { t with
      pending := pe, part := pt, power := pw, tbp := tb, rdata := rd, capHi := ch, capPt := cp, free := fr, sys := y, clk := ck,
      tim := ti, xdc := xd, pwm := pm, atc := a, trp := tr, cmp := cm, adc := ad, grd := gr, mtr := mt, lnk := ln, plt := pl,
      saf := sa, bvq := bv, que := qu, hst := hs } := ⟨h.reg, h.mem, h.upsets, h.ce, h.lane⟩

/-- A write of a register of another page. -/
theorem setF {x : Fld} {n : Nat} (h : CeKeeps s t) (hx : x.off < 0xA000 ∨ 0xB000 ≤ x.off := by decide) : CeKeeps s (t.setF x n) :=
  h.trans ⟨fun o h1 h2 => State.reg_setF_ne x n (by omega), rfl, rfl, rfl, fun l => ⟨(t.ceLane l).back.wait, rfl⟩⟩

theorem count {x : Fld} {n : Nat} (h : CeKeeps s t) (hx : x.off < 0xA000 ∨ 0xB000 ≤ x.off := by decide) : CeKeeps s (t.count x n) :=
  h.setF hx
theorem setBit {x : Fld} {i : Nat} {b : Bool} (h : CeKeeps s t) (hx : x.off < 0xA000 ∨ 0xB000 ≤ x.off := by decide) :
    CeKeeps s (t.setBit x i b) := h.setF hx

/-- A write of a register of the windows, in page 0x11. -/
theorem high {k n : Nat} (h : 0xB000 ≤ k := by decide) : k + n < 0xA000 ∨ 0xB000 ≤ k + n := .inr (by omega)

/-- A background part is told the outcome it waits for. -/
theorem tell (h : CeKeeps s t) (l : Nat) (w : LaneWait) :
    CeKeeps s (t.setCe l { t.ceLane l with back := { (t.ceLane l).back with wait := w } }) := by
  refine h.trans ⟨fun _ _ _ => rfl, rfl, rfl, rfl, fun k => ?_⟩
  by_cases hk : k = l
  · subst hk
    exact ⟨w, State.ceLane_setCe_self ..⟩
  · exact ⟨(t.ceLane k).back.wait, State.ceLane_setCe_ne _ hk⟩

theorem ite {c : Prop} [Decidable c] (ht : CeKeeps s t) (hu : CeKeeps s u) : CeKeeps s (if c then t else u) := by
  split <;> assumption

theorem each {l : List Nat} {g : Nat → State → State} (h : CeKeeps s t) (hg : ∀ i v, CeKeeps s v → CeKeeps s (g i v)) :
    CeKeeps s (t.each l g) := State.each_ind h fun i _ => hg i

theorem share {p : Prop} (h : CeKeeps s t) (k : CeKeeps s t → p) : p := k h

/-! Capture windows and events. -/

theorem setWin {w : Nat} {c : WinSt} (h : CeKeeps s t) : CeKeeps s (t.setWin w c) := h.upd
theorem winPut {w : Nat} {r : List Word} (h : CeKeeps s t) : CeKeeps s (t.winPut w r) := (ite (h.setF high) h).setWin
theorem capture {ty flg n : Nat} {x : Word} {body : List Word} (h : CeKeeps s t) : CeKeeps s (t.capture ty flg n x body) :=
  h.each fun _ _ hv => .ite (.ite (hv.upd.count high).setWin hv.winPut) hv
theorem winTrigger {w src : Nat} (h : CeKeeps s t) : CeKeeps s (t.winTrigger w src) := (h.setF high).setWin
theorem queueAlarm {a : AlarmEnt} (h : CeKeeps s t) : CeKeeps s (t.queueAlarm a) := .ite h.upd.count (.ite h.upd h.count)
theorem queueTrip {a : AlarmEnt} (h : CeKeeps s t) : CeKeeps s (t.queueTrip a) := .ite h.upd h.count
theorem queueLog {p : Packet} (h : CeKeeps s t) : CeKeeps s (t.queueLog p) := .ite h.upd (.ite h.capture h.count)
theorem linkEvent {e : EvRec} (h : CeKeeps s t) : CeKeeps s (t.linkEvent e) :=
  .ite (by split; exacts [h.queueAlarm, h.queueTrip, h.queueLog]) h
theorem ringEvent {e : EvRec} (h : CeKeeps s t) : CeKeeps s (t.ringEvent e) := .ite (.ite h.upd (.ite h.count h.count.upd)) h.count

theorem emitN {n : Nat} {e : EvRec} (h : CeKeeps s t) : CeKeeps s (State.emitN n e t) := by
  induction n generalizing t e with
  | zero => exact h
  | succ n ih => exact h.upd.ringEvent.linkEvent.capture.each fun _ _ hv => .ite (ih hv.winTrigger) hv

theorem post {c i a b d : Nat} (h : CeKeeps s t) : CeKeeps s (t.post c i a b d) := h.emitN
theorem capTriggerAll {src : Nat} {only : Nat → Bool} (h : CeKeeps s t) : CeKeeps s (t.capTriggerAll src only) :=
  h.each fun _ _ hv => .ite hv.winTrigger.post hv

/-! Outcomes and completions. -/

theorem wres {off : Nat} {st : Status} (h : CeKeeps s t) : CeKeeps s (t.wres off st) := .ite h.setF.setF h.setF.setF.count
theorem setDnQueue {line : Nat} {l : List Packet} (h : CeKeeps s t) : CeKeeps s (t.setDnQueue line l) := h.upd
theorem sendUp {p : Packet} (h : CeKeeps s t) : CeKeeps s (t.sendUp p) := h.upd
theorem sendDown {line : Nat} {p : Packet} (h : CeKeeps s t) : CeKeeps s (t.sendDown line p) := h.setDnQueue

theorem route {p : Packet} (h : CeKeeps s t) : CeKeeps s (t.route p) := by
  unfold State.route
  split
  · exact .ite h.sendDown (.ite h (.ite (h.each fun _ _ hv => hv.sendDown) h.sendDown))
  · exact .ite h.sendUp <| .ite (.ite (.ite (h.each fun _ _ hv => hv.sendDown) h.sendDown) h.sendUp)
      (.ite (h.each fun _ _ hv => hv.sendDown) h.sendDown)
  · exact h.sendUp

theorem answer {q p : Packet} (h : CeKeeps s t) : CeKeeps s (t.answer q p) := h.upd.route

theorem hostWrite {a : Nat} {ws : List Word} (h : CeKeeps s t) : CeKeeps s (t.hostWrite a ws) := by
  induction ws generalizing t a with
  | nil => exact h
  | cons v ws ih => exact ih h.upd

theorem setRing {r : Nat} {c : RingSt} (h : CeKeeps s t) : CeKeeps s (t.setRing r c) := h.upd
theorem showRing {r : Nat} (h : CeKeeps s t) : CeKeeps s (t.showRing r) := ((h.setF high).setF high).setF
theorem signal {n : Nat} (h : CeKeeps s t) : CeKeeps s (t.signal n) := h.upd
theorem writeComp {r : Nat} {f : Flight} {c : Comp} (h : CeKeeps s t) : CeKeeps s (t.writeComp r f c) :=
  .ite h.setRing.count (h.setRing.hostWrite.setRing.share fun h3 => .ite h3 h3.signal)

theorem flush {n r : Nat} (h : CeKeeps s t) : CeKeeps s (State.flush n r t) := by
  induction n generalizing t with
  | zero => exact h.showRing
  | succ n ih =>
    unfold State.flush
    split
    · exact h.showRing
    · split
      · exact h.showRing
      · exact ih h.writeComp

theorem complete {r idx : Nat} {c : Comp} (h : CeKeeps s t) : CeKeeps s (t.complete r idx c) := h.setRing.flush

theorem armEnd {st : Status} (h : CeKeeps s t) : CeKeeps s (t.armEnd st) := by
  unfold State.armEnd
  split
  · exact h
  next a _ =>
    have hu : CeKeeps s { t with sys := { t.sys with arm := none } } := h.upd
    split
    split
    · exact hu
    · exact hu.wres
    · exact hu.complete
    · exact hu.answer
    · dsimp only
      split
      exacts [hu.tell _ _, hu]

/-! The power stage and block trips. -/

theorem setAtc {n : Nat} {a : AtcSt} (h : CeKeeps s t) : CeKeeps s (t.setAtc n a) := h.upd
theorem setPair {m : Nat} {c : PairSt} (h : CeKeeps s t) : CeKeeps s (t.setPair m c) := h.upd
theorem atcSchedule {n : Nat} (h : CeKeeps s t) : CeKeeps s (t.atcSchedule n) :=
  .ite h.setAtc (by split; exacts [.ite h.setAtc h.setBit.setAtc, h.setAtc])
theorem atcEvent {src edge : Nat} (h : CeKeeps s t) : CeKeeps s (t.atcEvent src edge) := h.each fun _ _ hv => .ite hv.atcSchedule hv
theorem landOff {m : Nat} {upper : Bool} (h : CeKeeps s t) : CeKeeps s (t.landOff m upper) :=
  .ite (.ite h.setPair.atcEvent h) (.ite h.setPair.atcEvent h)
theorem pairLow {m : Nat} (h : CeKeeps s t) : CeKeeps s (t.pairLow m) := h.landOff.landOff.setPair
theorem tripOff {m : Nat} (h : CeKeeps s t) : CeKeeps s (t.tripOff m) :=
  .ite h.setPair.pairLow <| .ite (by split; exacts [h.setPair, h.setPair.setPair]) h.setPair
theorem allOff (h : CeKeeps s t) : CeKeeps s t.allOff := h.each fun _ _ hv => hv.tripOff
theorem tripPair {i m : Nat} (h : CeKeeps s t) : CeKeeps s (t.tripPair i m) := (ite h.landOff.setPair h.tripOff).setPair
theorem tripAll (h : CeKeeps s t) : CeKeeps s t.tripAll := h.each fun _ _ hv => hv.tripPair.setPair
theorem aiShow (h : CeKeeps s t) : CeKeeps s t.aiShow := .ite h.setF.setF h.setF
theorem enter {new : Nat} (h : CeKeeps s t) : CeKeeps s (t.enter new) :=
  .ite h ((ite h.allOff h).share fun h1 => (ite h1.setF h1).share fun h2 => (ite (h2.each fun _ _ hv => hv.pairLow) h2).share
    fun h3 => (ite h3.upd.upd h3.upd).setF.setF.count.aiShow)
theorem blockTrip {code det : Nat} (h : CeKeeps s t) : CeKeeps s (t.blockTrip code det) :=
  .ite h (h.count.upd.share fun h2 => (ite h2.setF.setF (.ite h2.setF.setF.setF (.ite h2.setF h2))).capTriggerAll.share fun h4 =>
    .ite h4.upd (.ite h4 h4.tripAll.armEnd.enter))

end CeKeeps

/-! ### Writes of data memory touch nothing else -/

theorem State.setByte_eq (a : Nat) (b : Byte) : ∃ m u, s.setByte a b = { s with mem := m, upsets := u } := ⟨_, _, rfl⟩

theorem State.setBytes_succ (a n : Nat) (w : Word) :
    s.setBytes a (n + 1) w = (s.setBytes a n w).setByte (a + n) (w.extractLsb' (8 * n) 8) := by
  simp [State.setBytes, State.each, List.range_succ]

theorem State.setBytes_eq (a n : Nat) (w : Word) : ∃ m u, s.setBytes a n w = { s with mem := m, upsets := u } := by
  induction n with
  | zero => exact ⟨_, _, rfl⟩
  | succ n ih =>
    obtain ⟨m, u, h⟩ := ih
    rw [State.setBytes_succ, h]
    exact State.setByte_eq _ _

/-- A word is its four bytes. -/
theorem State.setWord_eq_setBytes (a : Nat) (v : Word) : s.setWord a v = s.setBytes a 4 v := rfl

theorem State.setWord_eq (a : Nat) (v : Word) : ∃ m u, s.setWord a v = { s with mem := m, upsets := u } := s.setBytes_eq a 4 v

theorem State.setWords_eq (a : Nat) (ws : List Word) : ∃ m u, s.setWords a ws = { s with mem := m, upsets := u } := by
  induction ws generalizing s a with
  | nil => exact ⟨_, _, rfl⟩
  | cons v ws ih =>
    obtain ⟨m, u, hv⟩ := s.setWord_eq a v
    obtain ⟨n, w, hvs⟩ := ih (s := s.setWord a v) (a + 4)
    exact ⟨n, w, by rw [State.setWords, hvs, hv]⟩

/-- Held parameter writes that become visible. -/
theorem State.foldl_setWords_eq (l : List (Nat × List Word)) :
    ∃ m u, l.foldl (fun s p => s.setWords p.1 p.2) s = { s with mem := m, upsets := u } := by
  induction l generalizing s with
  | nil => exact ⟨_, _, rfl⟩
  | cons p l ih =>
    obtain ⟨m, u, hp⟩ := s.setWords_eq p.1 p.2
    obtain ⟨n, w, hl⟩ := ih (s := s.setWords p.1 p.2)
    exact ⟨n, w, by rw [List.foldl_cons, hl, hp]⟩

theorem State.parmFlush_eq : ∃ m u, s.parmFlush = { s with mem := m, upsets := u, ce := { s.ce with parm := [] } } :=
  State.foldl_setWords_eq ..

@[simp] theorem State.regs_parmFlush : s.parmFlush.regs = s.regs := by
  obtain ⟨m, u, h⟩ := s.parmFlush_eq
  rw [h]

@[simp] theorem State.ce_parmFlush : s.parmFlush.ce = { s.ce with parm := [] } := by
  obtain ⟨m, u, h⟩ := s.parmFlush_eq
  rw [h]

@[simp] theorem State.ce_setWords (a : Nat) (ws : List Word) : (s.setWords a ws).ce = s.ce := by
  obtain ⟨m, u, h⟩ := s.setWords_eq a ws
  rw [h]

@[simp] theorem State.f_parmFlush (x : Fld) : s.parmFlush.f x = s.f x := by simp [State.f, State.reg]
@[simp] theorem State.ceLane_parmFlush (l : Nat) : s.parmFlush.ceLane l = s.ceLane l := by simp [State.ceLane]

/-! ### CE faults (R337, R338) -/

/-- The record of a fault. -/
def State.ceRecorded (s : State) (kind l op : Nat) (addr : Option Nat) : State :=
  let s := ((((s.setF R.CE_STAT_HOLD 1).setF R.CE_FAULT_PC (s.ceLane l).ctx.pc).setF R.CE_FAULT_LANE l).setF R.CE_FAULT_OP op).setF
    R.CE_FAULT_KIND kind
  match addr with
  | some a => s.setF R.CE_FADDR_ADDR a
  | none => s

/-- The part in progress after a fault: an INIT goes on, stopped, until its time is over. -/
def CePart.halted (kind : Nat) : CePart → CePart
  | .init t _ => if kind = 3 then .idle else .init t true
  | _ => .idle

/-- The record of a fault and the stop of the lanes, before the trip and its report. -/
def State.ceHalted (s : State) (kind l op : Nat) (addr : Option Nat) : State :=
  let s := (s.ceRecorded kind l op addr).parmFlush
  { s.setF R.CE_STAT_RUN 0 with ce := { s.ce with held := [], sent := false, part := s.ce.part.halted kind } }

section
variable (kind l op : Nat) (addr : Option Nat)

theorem State.ceRecorded_ce : (s.ceRecorded kind l op addr).ce = s.ce := by cases addr <;> simp [State.ceRecorded]

/-- The record shows the fault, its lane and its instruction. -/
theorem State.ceRecorded_f :
    (s.ceRecorded kind l op addr).f R.CE_STAT_HOLD = 1 ∧ (s.ceRecorded kind l op addr).f R.CE_FAULT_KIND = kind % 8 ∧
      (s.ceRecorded kind l op addr).f R.CE_FAULT_LANE = l % 8 ∧ (s.ceRecorded kind l op addr).f R.CE_FAULT_OP = op % 256 := by
  cases addr <;>
  · simp (disch := decide) only [State.ceRecorded, State.f_setF_self, State.f_setF_ne]
    exact ⟨rfl, rfl, rfl, rfl⟩

theorem State.ceHalted_f (x : Fld)
    (h : x.off ≠ R.CE_STAT_RUN.off ∨ x.lo + x.w ≤ R.CE_STAT_RUN.lo ∨ R.CE_STAT_RUN.lo + R.CE_STAT_RUN.w ≤ x.lo) :
    (s.ceHalted kind l op addr).f x = (s.ceRecorded kind l op addr).f x :=
  (State.f_setF_ne _ _ (by decide) h _).trans (State.f_parmFlush _)

theorem State.ceHalted_run : (s.ceHalted kind l op addr).f R.CE_STAT_RUN = 0 := State.f_setF_self R.CE_STAT_RUN (by decide) 0

theorem State.ceHalted_ce :
    (s.ceHalted kind l op addr).ce = { s.ce with parm := [], held := [], sent := false, part := s.ce.part.halted kind } := by
  unfold State.ceHalted
  simp only [State.ce_parmFlush, State.ceRecorded_ce]

/-- The trip and its report leave the halted engine alone. -/
theorem State.ceFault_keeps : CeKeeps (s.ceHalted kind l op addr) (s.ceFault kind l op addr) := by
  have e : s.ceFault kind l op addr = ((s.ceHalted kind l op addr).blockTrip (if kind = 1 then 0x09 else 0x0A)
      (if kind = 1 then l else kind)).post 0x0A02 l (if kind = 1 then 0x09 else 0x0A) kind (s.ceLane l).ctx.pc := by
    unfold State.ceFault State.ceHalted State.ceRecorded CePart.halted
    cases addr <;> rfl
  rw [e]
  exact (CeKeeps.refl _).blockTrip.post

/-- What shows a fault. -/
structure CeFaulted (s : State) (kind l op : Nat) (t : State) : Prop where
  part : t.ce.part = s.ce.part.halted kind
  hold : t.f R.CE_STAT_HOLD = 1
  run : t.f R.CE_STAT_RUN = 0
  shown : t.f R.CE_FAULT_KIND = kind % 8
  lane : t.f R.CE_FAULT_LANE = l % 8
  op : t.f R.CE_FAULT_OP = op % 256
  held : t.ce.held = []
  values : ∀ k r, t.v k r = s.v k r

theorem State.ceFault_faulted : CeFaulted s kind l op (s.ceFault kind l op addr) := by
  have k := s.ceFault_keeps kind l op addr
  have hce := s.ceHalted_ce kind l op addr
  obtain ⟨hhold, hkind, hlane, hop⟩ := s.ceRecorded_f kind l op addr
  exact {
    hold := (k.f _).trans ((s.ceHalted_f kind l op addr _ (by decide)).trans hhold)
    run := (k.f _).trans (s.ceHalted_run kind l op addr)
    shown := (k.f _).trans ((s.ceHalted_f kind l op addr _ (by decide)).trans hkind)
    lane := (k.f _).trans ((s.ceHalted_f kind l op addr _ (by decide)).trans hlane)
    op := (k.f _).trans ((s.ceHalted_f kind l op addr _ (by decide)).trans hop)
    part := (congrArg CeSt.part k.ce).trans (congrArg CeSt.part hce)
    held := (congrArg CeSt.held k.ce).trans (congrArg CeSt.held hce)
    values := fun i r => (k.v i r).trans (by rw [State.v, State.vreg, State.ceLane, hce, State.v, State.vreg, State.ceLane]) }

end

/-! ### Bytes of data memory -/

/-- The bytes of a store, and those around it. -/
theorem State.byte_setBytes (a n : Nat) (w : Word) (b : Nat) :
    (s.setBytes a n w).byte b = if a ≤ b ∧ b < a + n then w.extractLsb' (8 * (b - a)) 8 else s.byte b := by
  induction n with
  | zero => exact (if_neg (by omega)).symm
  | succ n ih =>
    rw [State.setBytes_succ]
    by_cases hb : b = a + n
    · subst hb
      simp
    · rw [State.byte_setByte_ne _ hb, ih]
      congr 1
      exact propext (by omega)

theorem toNat_append_byte {n : Nat} (hi : BitVec n) (lo : Byte) : (hi ++ lo).toNat = hi.toNat * 256 + lo.toNat := by
  rw [BitVec.toNat_append, ← Nat.shiftLeft_add_eq_or_of_lt lo.isLt, Nat.shiftLeft_eq]

theorem State.ceNat_succ (l a n : Nat) : s.ceNat l a (n + 1) = s.ceNat l a n + (s.ceByte l (a + n)).toNat * 256 ^ n := by
  simp [State.ceNat, List.range_succ]

theorem two_pow_eight_mul (n : Nat) : 2 ^ (8 * n) = 256 ^ n := pow_mul 2 8 n

theorem State.ceNat_lt (l a n : Nat) : s.ceNat l a n < 2 ^ (8 * n) := by
  induction n with
  | zero => exact Nat.one_pos
  | succ n ih =>
    rw [two_pow_eight_mul] at ih ⊢
    have hb : ((s.ceByte l (a + n)).toNat + 1) * 256 ^ n ≤ 256 * 256 ^ n := Nat.mul_le_mul_right _ (s.ceByte l (a + n)).isLt
    rw [Nat.add_mul, Nat.one_mul] at hb
    rw [State.ceNat_succ, pow_succ]
    omega

/-- The four bytes as a number are the word. -/
theorem State.ofNat_ceNat_four (l a : Nat) : BitVec.ofNat 32 (s.ceNat l a 4) = s.ceWord l a := by
  apply BitVec.eq_of_toNat_eq
  have h := s.ceNat_lt l a 4
  rw [BitVec.toNat_ofNat, Nat.mod_eq_of_lt h, State.ceWord]
  simp only [State.ceNat_succ, toNat_append_byte]
  simp only [State.ceNat, List.range_zero, List.foldl_nil, Nat.add_zero]
  omega

/-- A value in the low k bits under free upper bits. -/
theorem toNat_mod_of_masked {k c : Nat} (f : Word) (hk : k ≤ 32) (hc : c < 2 ^ k) :
    ((BitVec.ofNat 32 c &&& BitVec.ofNat 32 (2 ^ k - 1)) ||| (f &&& ~~~BitVec.ofNat 32 (2 ^ k - 1))).toNat % 2 ^ k = c := by
  apply Nat.eq_of_testBit_eq
  intro i
  rw [Nat.testBit_mod_two_pow, BitVec.testBit_toNat, BitVec.getLsbD_or, BitVec.getLsbD_and, BitVec.getLsbD_and, BitVec.getLsbD_not,
    BitVec.getLsbD_ofNat, BitVec.getLsbD_ofNat, Nat.testBit_two_pow_sub_one]
  by_cases hi : i < k
  · simp [hi, show i < 32 by omega]
  · simp [hi, Nat.testBit_lt_two_pow (Nat.lt_of_lt_of_le hc (Nat.pow_le_pow_right (by decide) (Nat.le_of_not_lt hi)))]

/-! ### Loads -/

section
variable {x : CeInstr} {op : Nat} {i : Instr} {P : State → Prop}

theorem State.badByte_of_nil (h : s.upsets = []) (a n : Nat) : s.badByte a n = none := by
  simp [State.badByte, h]

theorem State.checkedRead_of_clean {g : State → State} (h : runsClean x s) (a n : Nat) : s.checkedRead x a n g = g s := by
  obtain ⟨hpar, hup⟩ := h.data
  simp [State.checkedRead, hpar, State.badByte_of_nil hup]

/-- An allowed load. -/
theorem runs_load {n : Nat} {g : State → Nat → State} (h : runsClean x s) (hm : s.ceMayLoad (s.effAddr x) n = true)
    (hP : P ((g s (s.effAddr x)).adv x.lane)) (he : exec i s = .next (s.onMain (s.load x op n g)) := by rfl)
    (hk : ceKnown op (bareCe x) = true := by rfl) : Runs op x i s P := by
  refine Runs.run h ?_ he hk
  simp only [hm, Bool.not_true, Bool.false_eq_true, if_false]
  exact (State.checkedRead_of_clean h _ _).symm ▸ hP

/-- A load that is not allowed. -/
theorem runs_load_fault {n : Nat} {g : State → Nat → State} (h : runsClean x s) (hm : s.ceMayLoad (s.effAddr x) n = false)
    (hP : P (s.ceFault 2 x.lane op (some (s.effAddr x)))) (he : exec i s = .next (s.onMain (s.load x op n g)) := by rfl)
    (hk : ceKnown op (bareCe x) = true := by rfl) : Runs op x i s P := by
  refine Runs.run h ?_ he hk
  simp only [hm, Bool.not_false, if_true]
  exact hP

/-- What LD writes to its destination. -/
def State.ldPut (s : State) (x : CeInstr) (n a : Nat) : State :=
  let v := BitVec.ofNat 32 (s.ceNat x.lane a n)
  if n = 4 then s.setV x.lane x.d v
  else
    let m := BitVec.ofNat 32 (2 ^ (8 * n) - 1)
    s.takeFree.2.setV x.lane x.d ((v &&& m) ||| (s.takeFree.1 &&& ~~~m))

theorem exec_ld {n : Nat} (h : s.sizeOf x = (n, s)) : exec (.ld x) s = .next (s.onMain (s.load x 0x40 n fun s => s.ldPut x n)) := by
  change Host.Outcome.next (s.onMain (s.ld x)) = _
  rw [State.ld, h]
  rfl

theorem exec_st {n : Nat} (h : s.sizeOf x = (n, s)) :
    exec (.st x) s = .next (s.onMain (s.store x 0x41 n fun s a => s.setBytes a n (s.v x.lane x.d))) := by
  change Host.Outcome.next (s.onMain (s.st' x)) = _
  rw [State.st', h]

/-- The sizes that `MOD` names. -/
theorem State.sizeOf_eq {n : Nat} (h : (x.mod.val % 4 = 0 ∧ n = 1) ∨ (x.mod.val % 4 = 1 ∧ n = 2) ∨ (x.mod.val % 4 = 2 ∧ n = 4)) :
    s.sizeOf x = (n, s) := by
  unfold State.sizeOf
  obtain ⟨hm, rfl⟩ | ⟨hm, rfl⟩ | ⟨hm, rfl⟩ := h <;> simp only [hm]

theorem runs_ld_word (h : runsClean x s) (hs : x.mod.val % 4 = 2) (hm : s.ceMayLoad (s.effAddr x) 4 = true) :
    Runs 0x40 x (.ld x) s (LaneWrites x (s.ceWord x.lane (s.effAddr x)) 0 s) := by
  refine runs_load h hm ?_ (exec_ld (State.sizeOf_eq (.inr (.inr ⟨hs, rfl⟩))))
  rw [State.ldPut, if_pos rfl, State.ofNat_ceNat_four]
  exact laneWrites_setV _

theorem runs_ld_part {n : Nat} (h : runsClean x s) (hs : (x.mod.val % 4 = 0 ∧ n = 1) ∨ (x.mod.val % 4 = 1 ∧ n = 2))
    (hm : s.ceMayLoad (s.effAddr x) n = true) : Runs 0x40 x (.ld x) s fun t =>
      ∃ w, w.toNat % 256 ^ n = s.ceNat x.lane (s.effAddr x) n ∧ LaneWrites x w 0 s t := by
  have hn : n ≤ 2 := by omega
  refine runs_load h hm ?_ (exec_ld (State.sizeOf_eq (hs.imp_right .inl)))
  rw [State.ldPut, if_neg (by omega)]
  refine ⟨_, ?_, laneWrites_setV_free _⟩
  rw [← two_pow_eight_mul]
  exact toNat_mod_of_masked _ (by omega) (s.ceNat_lt ..)

/-! ### Loads of several words -/

@[simp] theorem State.ceWord_setV (l r a k : Nat) (w : Word) : (s.setV l r w).ceWord k a = s.ceWord k a := by
  have hf : (s.setV l r w).inFore k = s.inFore k := by
    by_cases hk : k = l
    · subst hk
      exact congrArg Ctx.run (WithinLane.refl k s).setV.fore
    · exact congrArg (fun c => c.fore.run) ((WithinLane.refl l s).setV.lanes k hk)
  have hp : (s.setV l r w).ce.parm = s.ce.parm := by
    unfold State.setV
    split <;> rfl
  have hb (b : Nat) : (s.setV l r w).ceByte k b = s.ceByte k b := by
    rw [State.ceByte, hf, hp, State.byte_of_mem (s.mem_setV l r w), State.ceByte]
  rw [State.ceWord, hb, hb, hb, hb, State.ceWord]

/-- n consecutive words to n consecutive registers. -/
def State.loadWords (s : State) (l d a n : Nat) : State :=
  s.each (List.range n) fun i s => s.setV l (d + i) (s.ceWord l (a + 4 * i))

/-- What `loadWords` leaves and reads. -/
structure WordsLoaded (l d a n : Nat) (s t : State) : Prop extends WithinLane l s t where
  mem : t.mem = s.mem
  words : ∀ b, t.ceWord l b = s.ceWord l b
  dest : ∀ i < n, d + i ≠ 0 → t.v l (d + i) = s.ceWord l (a + 4 * i)
  others : ∀ r, r < d ∨ d + n ≤ r → t.v l r = s.v l r

theorem State.loadWords_loaded (l d a n : Nat) : WordsLoaded l d a n s (s.loadWords l d a n) := by
  induction n with
  | zero => exact ⟨.refl l s, rfl, fun _ => rfl, fun _ h => absurd h (by omega), fun _ _ => rfl⟩
  | succ n ih =>
    have e : s.loadWords l d a (n + 1) =
        (s.loadWords l d a n).setV l (d + n) ((s.loadWords l d a n).ceWord l (a + 4 * n)) := by
      simp [State.loadWords, State.each, List.range_succ]
    rw [e, ih.words]
    refine ⟨ih.toWithinLane.setV, by simp [ih.mem], fun b => by simp [ih.words], fun i hi h0 => ?_, fun r hr => ?_⟩
    · by_cases hn : i = n
      · subst hn
        exact State.v_setV_self _ _ _ h0
      · rw [State.v_setV_ne _ _ (by omega), ih.dest i (by omega) h0]
    · rw [State.v_setV_ne _ _ (by omega), ih.others r (by omega)]

theorem runs_loadN {n : Nat} (h : runsClean x s) (hd : x.d.val + n ≤ 32) (hm : s.ceMayLoad (s.effAddr x) (4 * n) = true)
    (hP : ∀ t, WordsLoaded x.lane x.d (s.effAddr x) n s t → P (t.adv x.lane))
    (he : exec i s = .next (s.onMain (s.loadN x op n)) := by rfl) (hk : ceKnown op (bareCe x) = true := by rfl) :
    Runs op x i s P := by
  refine runs_load (g := fun s a => s.loadWords x.lane x.d a n) h hm (hP _ (s.loadWords_loaded ..)) ?_ hk
  rw [he, State.loadN, if_neg (by omega)]
  rfl

/-! ### Stores -/

/-- An allowed store. -/
theorem runs_store {n : Nat} {g : State → Nat → State} (h : runsClean x s) (hm : s.ceMayStore (s.effAddr x) n = true)
    (hP : P ((g s (s.effAddr x)).adv x.lane)) (he : exec i s = .next (s.onMain (s.store x op n g)) := by rfl)
    (hk : ceKnown op (bareCe x) = true := by rfl) : Runs op x i s P := by
  refine Runs.run h ?_ he hk
  simp only [hm, Bool.not_true, Bool.false_eq_true, if_false]
  exact hP

/-- A change of data memory alone, then on to the next instruction. -/
theorem laneStores_of_mem {a n : Nat} {byteOf : Nat → Byte} (hm : ∃ m u, t = { s with mem := m, upsets := u })
    (hin : ∀ i < n, t.byte (a + i) = byteOf i) (hout : ∀ b, b < a ∨ a + n ≤ b → t.byte b = s.byte b) :
    LaneStores x a n byteOf s (t.adv x.lane) := by
  obtain ⟨m, u, rfl⟩ := hm
  have hw : WithinLane x.lane s { s with mem := m, upsets := u } := ⟨fun _ _ => rfl, rfl, rfl, rfl, rfl, rfl, rfl⟩
  exact { toLaneSteps := hw.adv, stored := hin, rest := hout, values := fun r => by simp; rfl, accs := fun c => by simp; rfl }

theorem laneStores_setBytes (a n : Nat) (w : Word) :
    LaneStores x a n (fun i => w.extractLsb' (8 * i) 8) s ((s.setBytes a n w).adv x.lane) := by
  refine laneStores_of_mem (s.setBytes_eq a n w) (fun i hi => ?_) fun b hb => ?_
  · rw [State.byte_setBytes, if_pos (by omega), Nat.add_sub_cancel_left]
  · rw [State.byte_setBytes, if_neg (by omega)]

theorem laneStores_two_words (a : Nat) (v w : Word) :
    LaneStores x a 8 (fun i => if i < 4 then v.extractLsb' (8 * i) 8 else w.extractLsb' (8 * (i - 4)) 8) s
      (((s.setWord a v).setWord (a + 4) w).adv x.lane) := by
  refine laneStores_of_mem ?_ (fun i hi => ?_) fun b hb => ?_
  · obtain ⟨m, u, h⟩ := s.setWord_eq a v
    rw [h]
    exact State.setWord_eq _ _
  · rw [State.setWord_eq_setBytes, State.setWord_eq_setBytes, State.byte_setBytes, State.byte_setBytes]
    by_cases h4 : i < 4
    · rw [if_neg (by omega), if_pos (by omega), if_pos h4, Nat.add_sub_cancel_left]
    · rw [if_pos (by omega), if_neg h4, show a + i - (a + 4) = i - 4 by omega]
  · rw [State.byte_setWord_ne _ (by omega), State.byte_setWord_ne _ (by omega)]

theorem exec_st2 (h : x.d.val < 31) : exec (.st2 x) s = .next (s.onMain (s.store x 0x43 8 fun s a =>
    (s.setWord a (s.v x.lane x.d)).setWord (a + 4) (s.v x.lane (x.d.val + 1)))) := by
  change Host.Outcome.next (s.onMain (s.store2 x)) = _
  rw [State.store2, if_neg (by omega)]

end

/-- Settles O30: an allowed access reads or changes its bytes alone, and one that is not allowed stops the lanes with a record. -/
theorem loadsAndStores : Obligations.LoadsAndStores := fun x s h =>
  ⟨runs_ld_word h, fun n => runs_ld_part h,
    fun n hs hm => runs_store h hm (laneStores_setBytes ..) (exec_st (State.sizeOf_eq hs)),
    fun hd hm => runs_loadN (n := 2) h (by omega) hm fun t ht =>
      ⟨fun h0 => (t.v_adv ..).trans (ht.dest 0 (by decide) h0), (t.v_adv ..).trans (ht.dest 1 (by decide) (by omega)),
        fun r h0 h1 => (t.v_adv ..).trans (ht.others r (by omega)), ht.mem, ht.adv⟩,
    fun hd hm => runs_loadN (n := 4) h (by omega) hm fun t ht =>
      ⟨fun i hi h0 => (t.v_adv ..).trans (ht.dest i hi h0), fun r hr => (t.v_adv ..).trans (ht.others r hr), ht.mem, ht.adv⟩,
    fun hd hm => runs_store h hm (laneStores_two_words ..) (exec_st2 hd),
    fun hs hm => runs_load_fault h hm
      (have f := s.ceFault_faulted 2 x.lane 0x40 (some (s.effAddr x))
      ⟨f.hold, f.shown, f.lane.trans (Nat.mod_eq_of_lt x.lane.isLt), f.run, f.values _⟩)
      (exec_ld (State.sizeOf_eq (.inr (.inr ⟨hs, rfl⟩))))⟩

end Sys2Proof.Machine
end

section
/-! PROOFS. Control flow and waits of a lane (O31). -/

namespace Sys2Proof.Machine

variable {s t u : State}

/-! ### A lane's place -/

/-- Nothing but the place, the wait or the flags of a lane has changed. -/
structure LaneQuiet (l : Nat) (s t : State) : Prop where
  values : ∀ r, t.v l r = s.v l r
  regs : t.regs = s.regs
  mem : KeepsMem s t

section
variable {l : Nat} {c : Ctx}

theorem State.keepsMem_setCe (l : Nat) (c : LaneCe) : KeepsMem s (s.setCe l c) := ⟨fun _ => rfl, rfl, rfl, rfl⟩

/-- A new context for lane l. -/
def State.setCtx (s : State) (l : Nat) (c : Ctx) : State := s.setCe l ((s.ceLane l).setCtx c)

theorem State.ctx_setCtx (h : c.run = (s.ceLane l).ctx.run) : ((s.setCtx l c).ceLane l).ctx = c := by
  rw [State.setCtx, State.ceLane_setCe_self, LaneCe.ctx_setCtx h]

theorem State.setCtx_quiet (h : c.run = (s.ceLane l).ctx.run) : LaneQuiet l s (s.setCtx l c) where
  values r := by rw [State.v, State.vreg, State.setCtx, State.ceLane_setCe_self, LaneCe.bank_setCtx h, State.v, State.vreg]
  regs := rfl
  mem := s.keepsMem_setCe l _

/-- The context after `c` has gone on to its next place. -/
def Ctx.next (c : Ctx) : Ctx := { c with pc := (nextPlace c.pc c.loops).1, loops := (nextPlace c.pc c.loops).2 }

theorem State.adv_eq (l : Nat) : s.adv l = s.setCtx l (s.ceLane l).ctx.next := rfl

theorem State.adv_steps (l : Nat) : LaneSteps l s (s.adv l) := (WithinLane.refl l s).adv

theorem State.adv_quiet (l : Nat) : LaneQuiet l s (s.adv l) := State.setCtx_quiet rfl

/-- A lane that stops waiting goes on from the place where it waited. -/
theorem State.wake_eq (l : Nat) : s.wake l = (s.setCtx l { (s.ceLane l).ctx with wait := .none }).adv l := rfl

theorem State.ctx_wake (l : Nat) : ((s.wake l).ceLane l).ctx = Ctx.next { (s.ceLane l).ctx with wait := .none } := by
  have h : ((s.setCtx l { (s.ceLane l).ctx with wait := .none }).ceLane l).ctx = { (s.ceLane l).ctx with wait := .none } :=
    State.ctx_setCtx rfl
  rw [State.wake_eq, State.adv_eq, State.ctx_setCtx (by rfl), h]

theorem State.ceLane_wake_ne {k : Nat} (h : k ≠ l) : (s.wake l).ceLane k = s.ceLane k :=
  (State.ceLane_setCe_ne _ h).trans (State.ceLane_setCe_ne _ h)

theorem State.wake_keepsMem (l : Nat) : KeepsMem s (s.wake l) := ⟨fun _ => rfl, rfl, rfl, rfl⟩

end

/-! ### Branches, calls, returns and loops (R310, R311) -/

section
variable {x : CeInstr}

/-- The condition of a branch. -/
def State.brCond (s : State) (x : CeInstr) : Option Bool :=
  match x.mod.val with
  | 0 => some true
  | 1 => some (s.v x.lane x.a = s.v x.lane x.b)
  | 2 => some (s.v x.lane x.a ≠ s.v x.lane x.b)
  | 3 => some (decide ((s.v x.lane x.a).toInt < (s.v x.lane x.b).toInt))
  | 4 => some (decide ((s.v x.lane x.b).toInt ≤ (s.v x.lane x.a).toInt))
  | 5 => some (decide ((s.v x.lane x.a).toInt ≤ (s.v x.lane x.b).toInt))
  | 6 => some (decide ((s.v x.lane x.b).toInt < (s.v x.lane x.a).toInt))
  | _ => none

/-- Whether BR branches, and the free value it takes for a condition without a meaning. -/
def State.brTakes (s : State) (x : CeInstr) : Bool × State :=
  let a := (s.v x.lane x.a).toInt
  let b := (s.v x.lane x.b).toInt
  match x.mod.val with
  | 0 => (true, s)
  | 1 => (decide (a = b), s)
  | 2 => (decide (a ≠ b), s)
  | 3 => (decide (a < b), s)
  | 4 => (decide (b ≤ a), s)
  | 5 => (decide (a ≤ b), s)
  | 6 => (decide (b < a), s)
  | _ => (s.takeFree.1.getLsbD 0, s.takeFree.2)

theorem State.brTakes_of_cond {b : Bool} (h : s.brCond x = some b) : s.brTakes x = (b, s) := by
  unfold State.brCond at h
  unfold State.brTakes
  split at h <;> simp_all [BitVec.toInt_inj]

/-- What BR does once its condition is known. -/
def State.brGo (s : State) (x : CeInstr) (take : Bool) : State :=
  if !take then s.adv x.lane
  else if s.badTarget x.imm.toNat then s.ceFault 2 x.lane 0x08 none
  else s.goto x.lane x.imm.toNat

theorem runs_br {b : Bool} {P : State → Prop} (h : runsClean x s) (hc : s.brCond x = some b) (hP : P (s.brGo x b)) :
    Runs 0x08 x (.br x) s P := by
  refine Runs.run (g := fun s => (s.brTakes x).2.brGo x (s.brTakes x).1) h ?_
  simp only [State.brTakes_of_cond hc]
  exact hP

theorem runs_call (h : runsClean x s) (hn : (s.ceLane x.lane).ctx.calls.length < 16) (hb : s.badTarget x.imm.toNat = false) :
    Runs 0x09 x (.call x) s fun t => (t.ceLane x.lane).ctx.pc = x.imm.toNat ∧
      (t.ceLane x.lane).ctx.calls = (nextPlace (s.ceLane x.lane).ctx.pc (s.ceLane x.lane).ctx.loops).1 :: (s.ceLane x.lane).ctx.calls ∧
      LaneQuiet x.lane s t := by
  refine Runs.run h ?_
  simp only [hb, Bool.or_false, decide_eq_true_eq, if_neg (Nat.not_le.mpr hn)]
  generalize hp : nextPlace (s.ceLane x.lane).ctx.pc (s.ceLane x.lane).ctx.loops = p
  obtain ⟨n, loops⟩ := p
  have e := State.ctx_setCtx (s := s) (l := x.lane) (c := { (s.ceLane x.lane).ctx with
    calls := n :: (s.ceLane x.lane).ctx.calls, pc := x.imm.toNat, loops := loops }) rfl
  exact ⟨congrArg Ctx.pc e, congrArg Ctx.calls e, State.setCtx_quiet rfl⟩

theorem runs_ret {pc : Nat} {rest : List Nat} (h : runsClean x s) (hc : (s.ceLane x.lane).ctx.calls = pc :: rest) :
    Runs 0x0A x (.ret x) s fun t =>
      (t.ceLane x.lane).ctx = { (s.ceLane x.lane).ctx with pc := pc, calls := rest } ∧ LaneQuiet x.lane s t := by
  refine Runs.run h ?_
  simp only [hc]
  exact ⟨State.ctx_setCtx rfl, State.setCtx_quiet rfl⟩

theorem runs_loop (h : runsClean x s) (hn : (s.ceLane x.lane).ctx.loops.length < 2) (hb : s.badTarget x.imm.toNat = false)
    (h0 : 0 < s.vi x.lane x.a) : Runs 0x0B x (.loop x) s fun t =>
      (t.ceLane x.lane).ctx.pc = ((s.ceLane x.lane).ctx.pc + 1) % 32768 ∧
        (t.ceLane x.lane).ctx.loops =
          (((s.ceLane x.lane).ctx.pc + 1) % 32768, x.imm.toNat, (s.vi x.lane x.a).toNat) :: (s.ceLane x.lane).ctx.loops ∧
        LaneQuiet x.lane s t := by
  refine Runs.run h ?_
  simp only [hb, Bool.or_false, decide_eq_true_eq, if_neg (Nat.not_le.mpr hn)]
  rw [if_neg (by exact Int.not_le.mpr h0)]
  have e := State.ctx_setCtx (s := s) (l := x.lane) (c := { (s.ceLane x.lane).ctx with
    pc := ((s.ceLane x.lane).ctx.pc + 1) % 32768
    loops := (((s.ceLane x.lane).ctx.pc + 1) % 32768, x.imm.toNat, (s.vi x.lane x.a).toNat) :: (s.ceLane x.lane).ctx.loops }) rfl
  exact ⟨congrArg Ctx.pc e, congrArg Ctx.loops e, State.setCtx_quiet rfl⟩

theorem runs_loop_skip (h : runsClean x s) (hn : (s.ceLane x.lane).ctx.loops.length < 2) (hb : s.badTarget x.imm.toNat = false)
    (h0 : s.vi x.lane x.a ≤ 0) : Runs 0x0B x (.loop x) s fun t =>
      (t.ceLane x.lane).ctx = { (s.ceLane x.lane).ctx with pc := (x.imm.toNat + 1) % 32768 } ∧ LaneQuiet x.lane s t := by
  refine Runs.run h ?_
  simp only [hb, Bool.or_false, decide_eq_true_eq, if_neg (Nat.not_le.mpr hn)]
  rw [if_pos (by exact h0)]
  exact ⟨State.ctx_setCtx rfl, State.setCtx_quiet rfl⟩

theorem runs_flg (h : runsClean x s) : Runs 0x05 x (.flg x) s fun t =>
    (x.d.val ≠ 0 → t.v x.lane x.d = BitVec.ofNat 32 (s.ceLane x.lane).flags) ∧ (t.ceLane x.lane).flags = 0 ∧
      (∀ r, r ≠ x.d.val → t.v x.lane r = s.v x.lane r) ∧ LaneSteps x.lane s t ∧ KeepsMem s t := by
  refine Runs.run h ?_
  have hw := ((WithinLane.refl x.lane s).setCe (c := { s.ceLane x.lane with flags := 0 }) rfl rfl).setV
    (r := x.d) (w := BitVec.ofNat 32 (s.ceLane x.lane).flags)
  have hv (r : Nat) : (s.setCe x.lane { s.ceLane x.lane with flags := 0 }).v x.lane r = s.v x.lane r := by
    simp only [State.v, State.vreg, State.ceLane_setCe_self, LaneCe.bank]
  refine ⟨fun h0 => ?_, by simp, fun r hr => ?_, hw.adv, State.byte_of_mem (by simp; rfl), hw.host, hw.queue, hw.part⟩
  · rw [State.v_adv, State.v_setV_self _ _ _ h0]
  · rw [State.v_adv, State.v_setV_ne _ _ hr, hv]

/-! ### The end of a part (R319) -/

theorem lanes_any_iff {p : Nat → Bool} : lanes8.any p = true ↔ ∃ k < 8, p k = true := by simp [lanes8]

/-- The background starts by contexts alone. -/
theorem State.startBack_eq : ∃ ls, s.startBack = { s with ce := { s.ce with lanes := ls } } := by
  unfold State.startBack
  split
  · exact ⟨_, rfl⟩
  · split
    · exact ⟨_, rfl⟩
    next i _ =>
      refine State.each_ind (P := fun u => ∃ ls, u = { s with ce := { s.ce with lanes := ls } }) ⟨_, rfl⟩ fun l _ u hu => ?_
      obtain ⟨ls, rfl⟩ := hu
      dsimp only
      split
      · split
        exacts [⟨_, rfl⟩, ⟨_, rfl⟩]
      · exact ⟨_, rfl⟩

theorem State.cycleEnd_shown : s.cycleEnd.f R.CE_STAT_RUN = 0 ∧ s.cycleEnd.ce.part = .idle ∧ s.cycleEnd.ce.sent = true ∧
    s.cycleEnd.ce.parm = [] := by
  unfold State.cycleEnd
  dsimp only
  generalize hu : ({ s.setF R.CE_STAT_RUN 0 with ce := { s.ce with part := .idle, sent := true } } : State) = u
  obtain ⟨ls, e⟩ := u.parmFlush.startBack_eq
  have hce : u.ce = { s.ce with part := .idle, sent := true } := by rw [← hu]
  have hrun : u.f R.CE_STAT_RUN = 0 := by
    rw [← hu]
    exact State.f_setF_self R.CE_STAT_RUN (by decide) 0
  rw [e]
  exact ⟨(State.f_parmFlush _).trans hrun, by simp [hce], by simp [hce], by simp⟩

/-- Whether another lane is in the foreground part does not depend on lane l's own. -/
theorem State.any_fore_setCe {l : Nat} {c : LaneCe} (hc : c.fore.run = false) :
    (lanes8.any fun k => ((s.setCe l c).ceLane k).fore.run) = true ↔ ∃ k < 8, k ≠ l ∧ s.inFore k = true := by
  rw [lanes_any_iff]
  refine exists_congr fun k => and_congr_right fun _ => ?_
  by_cases hk : k = l
  · subst hk
    simp [hc]
  · simp [State.ceLane_setCe_ne _ hk, hk, State.inFore]

theorem runs_endLane_fore (h : runsClean x s) (hf : s.inFore x.lane = true) (ho : ∃ k < 8, k ≠ x.lane.val ∧ s.inFore k = true) :
    Runs 0x01 x (.endLane x) s fun t =>
      (t.ceLane x.lane).fore = {} ∧ (t.ceLane x.lane).back = (s.ceLane x.lane).back ∧ t.regs = s.regs ∧ KeepsMem s t := by
  refine Runs.run h ?_
  unfold State.laneEnd
  dsimp only
  rw [if_pos (by exact hf), if_pos ((State.any_fore_setCe rfl).mpr ho)]
  exact ⟨by simp, by simp, rfl, s.keepsMem_setCe _ _⟩

theorem runs_endLane_last (h : runsClean x s) (hf : s.inFore x.lane = true) (ho : ∀ k < 8, k ≠ x.lane.val → s.inFore k = false)
    (hp : s.ce.part = .cycle) : Runs 0x01 x (.endLane x) s fun t =>
      t.f R.CE_STAT_RUN = 0 ∧ t.ce.part = .idle ∧ t.ce.sent = true ∧ t.ce.parm = [] := by
  refine Runs.run h ?_
  unfold State.laneEnd
  dsimp only
  rw [if_pos (by exact hf), if_neg]
  · have e (c : LaneCe) : (s.setCe x.lane c).ce.part = .cycle := hp
    simp only [e]
    exact State.cycleEnd_shown
  · rw [State.any_fore_setCe rfl]
    rintro ⟨k, hk, hne, hin⟩
    rw [ho k hk hne] at hin
    cases hin

theorem runs_endLane_back (h : runsClean x s) (hf : s.inFore x.lane = false) : Runs 0x01 x (.endLane x) s fun t =>
    (t.ceLane x.lane).back = {} ∧ t.regs = s.regs ∧ KeepsMem s t := by
  refine Runs.run h ?_
  unfold State.laneEnd
  dsimp only
  rw [if_neg (by rw [← State.inFore, hf]; decide)]
  exact ⟨by simp, rfl, s.keepsMem_setCe _ _⟩

end

theorem Runs.mono {op : Nat} {x : CeInstr} {i : Instr} {P Q : State → Prop} (h : Runs op x i s P) (k : ∀ t, P t → Q t) :
    Runs op x i s Q := fun hs =>
  (h hs).imp fun t ht => ⟨ht.1, k t ht.2⟩

theorem controlFlow_holds : controlFlowHolds := by
  intro x s h l c cond quiet
  have hq {t : State} (k : LaneQuiet l s t) : quiet t := ⟨k.values, k.regs, k.mem⟩
  have hcond : cond = s.brCond x := rfl
  refine ⟨Runs.run h ⟨s.adv_steps l, hq (s.adv_quiet l)⟩,
    fun hc => runs_br (b := false) h (hcond ▸ hc) ⟨s.adv_steps l, hq (s.adv_quiet l)⟩,
    fun hc hb => runs_br h (hcond ▸ hc) ?_, fun hc hb => runs_br h (hcond ▸ hc) ?_, fun hn hb => ?_, fun pc rest hr => ?_,
    fun hn hb h0 => ?_, fun hn hb h0 => ?_, runs_flg h, runs_endLane_fore h, runs_endLane_last h, runs_endLane_back h⟩
  · rw [State.brGo, hb]
    exact ⟨State.ctx_setCtx rfl, hq (State.setCtx_quiet rfl)⟩
  · rw [State.brGo, hb]
    have f := s.ceFault_faulted 2 x.lane 0x08 none
    exact ⟨f.hold, f.shown, f.op⟩
  · exact Runs.mono (runs_call h hn hb) fun t ht => ⟨ht.1, ht.2.1, hq ht.2.2⟩
  · exact Runs.mono (runs_ret h hr) fun t ht => ⟨ht.1, hq ht.2⟩
  · exact Runs.mono (runs_loop h hn hb h0) fun t ht => ⟨ht.1, ht.2.1, hq ht.2.2⟩
  · exact Runs.mono (runs_loop_skip h hn hb h0) fun t ht => ⟨ht.1, hq ht.2⟩

/-! ### Barriers and the wait for a word (R311) -/

section
variable {x : CeInstr}

theorem runs_bar (h : runsClean x s) : Runs 0x02 x (.bar x) s fun t =>
    (t.ceLane x.lane).ctx = { (s.ceLane x.lane).ctx with wait := .bar (x.imm.toNat % 256) } ∧ t.regs = s.regs ∧ KeepsMem s t := by
  refine Runs.run (g := fun s => s.setCtx x.lane { (s.ceLane x.lane).ctx with wait := .bar (x.imm.toNat % 256) }) h ?_
  exact ⟨State.ctx_setCtx rfl, rfl, s.keepsMem_setCe _ _⟩

/-- Whether lane l waits at a barrier with a mask. -/
def State.atBar (s : State) (mask l : Nat) : Bool := (s.ceLane l).ctx.wait = .bar mask

theorem State.mem_filter_atBar {mask l : Nat} (h : l < 8) : l ∈ lanes8.filter (s.atBar mask) ↔ (s.ceLane l).ctx.wait = .bar mask := by
  simp [lanes8, State.atBar, h]

/-- Every lane that waits there goes on. -/
theorem State.each_wake {ls : List Nat} {l : Nat} (hn : ls.Nodup) :
    (l ∈ ls → ((s.each ls fun l s => s.wake l).ceLane l).ctx = Ctx.next { (s.ceLane l).ctx with wait := .none }) ∧
      (l ∉ ls → (s.each ls fun l s => s.wake l).ceLane l = s.ceLane l) := by
  refine ⟨fun hl => ?_, fun hl => ?_⟩
  · refine State.each_at (P := fun u => u.ceLane l = s.ceLane l)
      (Q := fun u => (u.ceLane l).ctx = Ctx.next { (s.ceLane l).ctx with wait := .none }) hn hl rfl ?_ ?_ ?_
    · exact fun i _ hi u hu => (State.ceLane_wake_ne hi.symm).trans hu
    · exact fun u hu => by rw [State.ctx_wake, hu]
    · exact fun i _ hi u hu => by rw [State.ceLane_wake_ne hi.symm, hu]
  · exact State.each_ind (P := fun u => u.ceLane l = s.ceLane l) rfl fun i hi u hu =>
      (State.ceLane_wake_ne fun (e : l = i) => hl (e ▸ hi)).trans hu

theorem State.each_wake_keepsMem (ls : List Nat) :
    (s.each ls fun l s => s.wake l).regs = s.regs ∧ KeepsMem s (s.each ls fun l s => s.wake l) :=
  State.each_ind (P := fun u => u.regs = s.regs ∧ KeepsMem s u) ⟨rfl, ⟨fun _ => rfl, rfl, rfl, rfl⟩⟩ fun _ _ _ hu =>
    ⟨hu.1, ⟨hu.2.mem, hu.2.host, hu.2.queue, hu.2.part⟩⟩

theorem barRelease_frees {mask : BitVec 8} (hlive : s.live = true) (hfree : s.ceFree = true)
    (hall : ∀ l < 8, mask.getLsbD l = true → (s.ceLane l).ctx.wait = .bar mask.toNat) : Answers (.barRelease mask) s fun t =>
      (∀ l < 8, if (s.ceLane l).ctx.wait = .bar mask.toNat then (t.ceLane l).ctx.wait = .none ∧
          ((t.ceLane l).ctx.pc, (t.ceLane l).ctx.loops) = nextPlace (s.ceLane l).ctx.pc (s.ceLane l).ctx.loops
        else t.ceLane l = s.ceLane l) ∧ t.regs = s.regs ∧ KeepsMem s t := by
  have e : s.barRelease mask.toNat = s.each (lanes8.filter (s.atBar mask.toNat)) fun l s => s.wake l := by
    refine if_pos ?_
    simpa [hfree, lanes8, BitVec.testBit_toNat, or_iff_not_imp_left] using hall
  refine Answers.onMain hlive rfl ?_
  rw [e]
  refine ⟨fun l hl => ?_, State.each_wake_keepsMem _⟩
  have hw := State.each_wake (s := s) (l := l) (List.Nodup.filter (s.atBar mask.toNat) (List.nodup_range (n := 8)))
  split
  next h =>
    have hc := hw.1 ((State.mem_filter_atBar hl).mpr h)
    exact ⟨congrArg Ctx.wait hc, congrArg (fun c => (c.pc, c.loops)) hc⟩
  next h => exact hw.2 (mt (State.mem_filter_atBar hl).mp h)

theorem barRelease_holds {mask : BitVec 8} (hlive : s.live = true)
    (hsome : ∃ l < 8, mask.getLsbD l = true ∧ (s.ceLane l).ctx.wait ≠ .bar mask.toNat) :
    Answers (.barRelease mask) s fun t => t = s := by
  refine Answers.onMain hlive rfl (if_neg ?_)
  obtain ⟨l, hl, hm, hw⟩ := hsome
  simp only [Bool.and_eq_true, List.all_eq_true, not_and]
  intro _ hall
  have := hall l (List.mem_range.mpr hl)
  simp [BitVec.testBit_toNat, hm, hw] at this

theorem runs_wne (h : runsClean x s) (hm : s.ceMayLoad (s.effAddr x) 4 = true) : Runs 0x03 x (.wne x) s fun t =>
    (s.ceWord x.lane (s.effAddr x) ≠ s.v x.lane x.b → LaneSteps x.lane s t) ∧
      (s.ceWord x.lane (s.effAddr x) = s.v x.lane x.b →
        (t.ceLane x.lane).ctx = { (s.ceLane x.lane).ctx with wait := .wne (s.effAddr x) (s.v x.lane x.b) }) ∧
      t.regs = s.regs ∧ KeepsMem s t := by
  refine Runs.run h ?_
  simp only [hm, Bool.not_true, Bool.false_eq_true, if_false]
  rw [State.checkedRead_of_clean h]
  split
  next hne => exact ⟨fun _ => s.adv_steps _, fun e => absurd e hne, rfl, s.keepsMem_setCe _ _⟩
  next he => exact ⟨fun hne => absurd hne he, fun _ => State.ctx_setCtx rfl, rfl, s.keepsMem_setCe _ _⟩

theorem State.wake_steps (l : Nat) : LaneSteps l s (s.wake l) :=
  ⟨congrArg (fun c => (c.pc, c.loops)) (s.ctx_wake l), fun _ h => State.ceLane_wake_ne h, rfl, rfl, rfl, rfl⟩

theorem wneWake_wakes {l : Fin 8} {a : Nat} {b : Word} (hlive : s.live = true) (hw : (s.ceLane l).ctx.wait = .wne a b)
    (hne : s.ceWord l a ≠ b) (hfree : s.ceFree = true) (hup : s.laneUp l = true) (hok : s.upsets = []) :
    Answers (.wneWake l) s fun t => (t.ceLane l).ctx.wait = .none ∧ LaneSteps l s t ∧ KeepsMem s t := by
  have e : s.wneWake l = s.wake l := by
    unfold State.wneWake
    rw [hw]
    simp [hfree, hup, State.badByte_of_nil hok, hne]
  refine Answers.onMain hlive rfl ?_
  rw [e]
  exact ⟨congrArg Ctx.wait (s.ctx_wake l), s.wake_steps l, s.wake_keepsMem l⟩

end

/-! ### Refetches (R335) -/

section
variable {l a : Nat} {prog : Bool}

theorem State.upsets_setWord {w b : Nat} {v : Word} (h : b ∈ (s.setWord w v).upsets) : b < w ∨ w + 4 ≤ b := by
  simp only [State.setWord, State.setByte, List.mem_filter, decide_eq_true_eq] at h
  omega

/-- What a refetch mends: the words of an instruction, or a word of the constant section. -/
structure Refetched (prog : Bool) (a : Nat) (s t : State) : Prop where
  regs : t.regs = s.regs
  lanes : t.ce.lanes = s.ce.lanes
  program : prog = true → (∀ i ∈ t.ce.badProg, i / 2 ≠ a) ∧ KeepsMem s t
  data : prog = false → (∀ b ∈ t.upsets, b / 4 ≠ a / 4) ∧ ∀ b, b / 4 ≠ a / 4 → t.byte b = s.byte b

theorem State.refetchWords_refetched (prog : Bool) (a : Nat) : Refetched prog a s (s.refetchWords (.fetch prog a)) := by
  cases prog
  · refine ⟨rfl, rfl, nofun, fun _ => ⟨fun b hb => ?_, fun b hb => State.byte_setWord_ne _ (by omega)⟩⟩
    have := State.upsets_setWord hb
    omega
  · refine ⟨rfl, rfl, fun _ => ⟨fun i hi => ?_, ⟨fun _ => rfl, rfl, rfl, rfl⟩⟩, nofun⟩
    simpa using (List.mem_filter.mp hi).2

/-- The one part of the lane that waits is the present one. -/
theorem State.refetchWords_both (hw : (s.ceLane l).ctx.wait = .fetch prog a)
    (hb : s.inFore l = true → (s.ceLane l).back.wait = .none) (hf : s.inFore l = false → (s.ceLane l).fore.wait = .none) :
    (s.refetchWords (s.ceLane l).fore.wait).refetchWords (s.ceLane l).back.wait = s.refetchWords (.fetch prog a) := by
  unfold LaneCe.ctx at hw
  cases h : s.inFore l
  · rw [if_neg (by rw [← State.inFore, h]; decide)] at hw
    rw [hf h, hw]
    rfl
  · rw [if_pos (by exact h)] at hw
    rw [hb h, hw]
    rfl

/-- Both parts of the lane go on; the present one no longer waits. -/
theorem LaneCe.ctx_unstall {c : LaneCe} (hw : c.ctx.wait = .fetch prog a) :
    LaneCe.ctx { c with fore := c.fore.unstall, back := c.back.unstall } = { c.ctx with wait := .none } := by
  have hrun (x : Ctx) : x.unstall.run = x.run := by
    unfold Ctx.unstall
    split <;> rfl
  have hun {x : Ctx} (h : x.wait = .fetch prog a) : x.unstall = { x with wait := .none } := by rw [Ctx.unstall, h]
  unfold LaneCe.ctx at hw ⊢
  simp only [hrun]
  split at hw
  next h => rw [if_pos h, if_pos h, hun hw]
  next h => rw [if_neg h, if_neg h, hun hw]

end

theorem refetch_completes {l : Fin 8} {prog : Bool} {a : Nat} (hlive : s.live = true) (hw : (s.ceLane l).ctx.wait = .fetch prog a)
    (hb : s.inFore l = true → (s.ceLane l).back.wait = .none) (hf : s.inFore l = false → (s.ceLane l).fore.wait = .none) :
    Answers (.parityRefetchComplete l) s fun t =>
      (t.ceLane l).ctx = { (s.ceLane l).ctx with wait := .none } ∧ t.regs = s.regs ∧
        (prog = true → (∀ i ∈ t.ce.badProg, i / 2 ≠ a) ∧ KeepsMem s t) ∧
        (prog = false → (∀ b ∈ t.upsets, b / 4 ≠ a / 4) ∧ ∀ b, b / 4 ≠ a / 4 → t.byte b = s.byte b) := by
  refine Answers.onMain hlive rfl ?_
  unfold State.refetched
  dsimp only
  rw [State.refetchWords_both hw hb hf]
  have h := s.refetchWords_refetched prog a
  refine ⟨?_, h.regs, fun hp => ⟨(h.program hp).1, ?_⟩, fun hp => h.data hp⟩
  · rw [State.ceLane_setCe_self]
    exact LaneCe.ctx_unstall hw
  · exact ⟨(h.program hp).2.mem, (h.program hp).2.host, (h.program hp).2.queue, (h.program hp).2.part⟩

theorem waits_hold : waitsHolds := fun _ hlive =>
  ⟨fun _ h => runs_bar h, fun _ => barRelease_frees hlive, fun _ => barRelease_holds hlive, fun _ h hm => runs_wne h hm,
    fun _ _ _ => wneWake_wakes hlive, fun _ _ _ => refetch_completes hlive⟩

/-- Settles O31: each instruction of control flow changes its lane's place or wait alone. -/
theorem controlFlow : Obligations.ControlFlow := ⟨controlFlow_holds, waits_hold⟩

end Sys2Proof.Machine
end

section
/-! PROOFS. Requests of a program (O32): update sets, events, block trips and setup writes. -/

namespace Sys2Proof.Machine

variable {s t u : State}

/-! ### The state and the causes after a block trip (R605, R611) -/

section
variable {q : Nat → Prop} {code det : Nat}

theorem State.tripPair_switches (i : Nat) {m : Nat} (hm : q m) (h : Switches q s t) : Switches q s (t.tripPair i m) := by
  unfold State.tripPair
  extract_lets +onlyGivenNames c own _ v
  have hv : Switches q s v := .ite ((State.landOff_switches hm true h).setPair hm _ rfl) (State.tripOff_switches hm h)
  exact hv.setPair hm _ rfl

theorem State.tripAll_switches (h : Switches (fun _ => True) s t) : Switches (fun _ => True) s t.tripAll :=
  h.each fun _ _ _ hv => (State.tripPair_switches 88 trivial hv).setPair trivial _ rfl

theorem State.allOff_switches (h : Switches (fun _ => True) s t) : Switches (fun _ => True) s t.allOff :=
  h.each fun _ _ _ hv => State.tripOff_switches trivial hv

@[simp] theorem State.sys_aiShow : s.aiShow.sys = s.sys := by
  unfold State.aiShow
  split <;> rfl

@[simp] theorem State.st_aiShow : s.aiShow.st = s.st := by
  unfold State.aiShow State.st
  split <;> simp (disch := decide) [State.f_setF_ne]

/-- The entry to another state shows it; the causes of a trip stay. -/
theorem State.enter_shown {new : Nat} (h : s.st ≠ new) : (s.enter new).st = new % 16 ∧ (s.enter new).sys.causes = s.sys.causes := by
  unfold State.enter
  extract_lets +onlyGivenNames old running a b c _ d _ e
  have ha : a.sys = s.sys := by
    unfold a
    split
    exacts [(State.allOff_switches (.refl _ s)).sys, rfl]
  have hb : b.sys = s.sys := by
    unfold b
    split
    exacts [ha, ha]
  have hc : c.sys = s.sys := by
    have hlow : Switches (fun _ => True) b (b.each (b.pairsWhere fun m => (b.pair m).soft.isNone) fun m s => s.pairLow m) :=
      (Switches.refl _ b).each fun _ _ _ hv => State.pairLow_switches trivial hv
    unfold c
    split
    exacts [hlow.sys.trans hb, hb]
  have hd : d.sys.causes = s.sys.causes := (congrArg SysSt.causes hc :)
  have he : e.sys.causes = s.sys.causes := by
    unfold e
    split
    exacts [hd, hd]
  rw [if_neg h, State.st_aiShow, State.sys_aiShow]
  refine ⟨?_, he⟩
  rw [State.st, State.count, State.f_setF_ne _ _ (by decide) (by decide), State.f_setF_self _ (by decide)]
  rfl

theorem State.capTriggerAll_st (src : Nat) (only : Nat → Bool) : (s.capTriggerAll src only).st = s.st :=
  congrArg R.SYS_STATE_ST.get ((State.capTriggerAll_posted src only).reg _ (by unfold evReg; decide))

/-- The state after the trip path has turned the pairs off, with no arming under way. -/
theorem State.tripped_shown (harm : s.sys.arm = none) (h : s.st ≠ stTripped) :
    ((s.tripAll.armEnd .state).enter stTripped).st = stTripped ∧
      ((s.tripAll.armEnd .state).enter stTripped).sys.causes = s.sys.causes := by
  have hall := State.tripAll_switches (.refl _ s)
  rw [State.armEnd_of_none (by rw [hall.sys, harm])]
  have hst : s.tripAll.st = s.st := hall.fld _ (by decide)
  obtain ⟨h1, h2⟩ := State.enter_shown (s := s.tripAll) (new := stTripped) (by rw [hst]; exact h)
  exact ⟨h1, by rw [h2, hall.sys]⟩

/-- A block trip adds its cause, and trips a module that stands in a state it can leave. -/
theorem State.blockTrip_shown (hlive : s.live = true) (harm : s.sys.arm = none) :
    (s.blockTrip code det).sys.causes = s.sys.causes ++ [(code, det)] ∧
      (s.inSt [stStandby, stArmed, stConnected, stRide] = true → (s.blockTrip code det).st = stTripped) := by
  unfold State.blockTrip
  extract_lets +onlyGivenNames none_ together causes codes a _ b first rest c d e _
  have hb : b.sys.causes = s.sys.causes ++ [(code, det)] ∧ b.sys.arm = none ∧ b.st = s.st :=
    ⟨rfl, harm, State.f_setF_ne (s := s) R.SYS_TCAUSE_COUNT R.SYS_STATE_ST (by decide) (by decide) _⟩
  have hd : d.sys = b.sys ∧ d.st = b.st := by
    unfold d
    split
    · exact ⟨rfl, by simp (disch := decide) only [State.st, State.f_setF_ne]⟩
    · split
      · exact ⟨rfl, by simp (disch := decide) only [State.st, State.f_setF_ne, c]⟩
      · split
        exacts [⟨rfl, by simp (disch := decide) only [State.st, State.f_setF_ne]⟩, ⟨rfl, rfl⟩]
  have hesys : e.sys = b.sys := (State.capTriggerAll_sys ..).trans hd.1
  have hest : e.st = s.st := (State.capTriggerAll_st ..).trans (hd.2.trans hb.2.2)
  have hcause : e.sys.causes = s.sys.causes ++ [(code, det)] := (congrArg SysSt.causes hesys).trans hb.1
  have harm' : e.sys.arm = none := (congrArg SysSt.arm hesys).trans hb.2.1
  clear_value e
  rw [if_neg (by simp [hlive])]
  split
  next h0 => exact ⟨hcause, fun h => by simp [State.inSt, ← hest, h0] at h⟩
  next h0 =>
    split
    next h5 =>
      refine ⟨hcause, fun h => ?_⟩
      simp only [Bool.or_eq_true, decide_eq_true_eq] at h5
      obtain h5 | h5 := h5 <;> simp [State.inSt, ← hest, h5] at h
    next h5 =>
      obtain ⟨h1, h2⟩ := State.tripped_shown harm' fun h => h5 (by simp [h])
      exact ⟨h2.trans hcause, fun _ => h1⟩

theorem State.blockTrip_keepsMem (harm : s.sys.arm = none) (code det : Nat) : KeepsMem s (s.blockTrip code det) :=
  (State.blockTrip_tripKeeps (p := fun _ => True) (fun _ _ => trivial) code det (.refl _ harm)).within.keepsMem

end

/-! ### Update sets (R172 to R174, R322) -/

section
variable {x : CeInstr}

theorem State.produceAt_ce (x key : Nat) (v : List Nat) : (s.produceAt x key v).ce = s.ce := by
  unfold State.produceAt
  dsimp only
  split
  · rfl
  · split
    · rfl
    · split <;> rfl

/-- In its cycle a lane sees the stored words. -/
theorem State.ceWord_of_inFore {l : Nat} (h : s.inFore l = true) (a : Nat) : s.ceWord l a = s.word a := by
  simp only [State.ceWord, State.ceByte, h, if_true, State.word]

/-- A set that is sent waits for its turn, and its lane for the acknowledge. -/
theorem State.sendSet_sends (l : Nat) (ws : List Word) (last : Bool) :
    (s.sendSet l ws last).ce.ups = s.ce.ups ++ [(l, ws, last)] ∧ ((s.sendSet l ws last).ceLane l).ctx.wait = .ups ∧
      KeepsMem s (s.sendSet l ws last) := by
  have hctx : ((s.setCtx l { (s.ceLane l).ctx with wait := .ups }).ceLane l).ctx.wait = .ups :=
    congrArg Ctx.wait (State.ctx_setCtx (c := { (s.ceLane l).ctx with wait := .ups }) rfl)
  generalize hu : ({ s.setCtx l { (s.ceLane l).ctx with wait := .ups } with
    ce := { (s.setCtx l { (s.ceLane l).ctx with wait := .ups }).ce with ups := s.ce.ups ++ [(l, ws, last)] } } : State) = u
  have hups : u.ce.ups = s.ce.ups ++ [(l, ws, last)] := by rw [← hu]
  have hwait : (u.ceLane l).ctx.wait = .ups := by rw [← hu]; exact hctx
  have hmem : KeepsMem s u := by rw [← hu]; exact ⟨fun _ => rfl, rfl, rfl, rfl⟩
  have e : s.sendSet l ws last = if s.ce.ups.isEmpty then u.xProduce 0 (ws.map (·.toNat)) else u := by rw [← hu]; rfl
  rw [e]
  split
  · have hw := (State.xProduce_within (p := fun _ => True) 0 (ws.map (·.toNat)) trivial (.refl _ u)).keepsMem
    have hce : (u.xProduce 0 (ws.map (·.toNat))).ce = u.ce := State.produceAt_ce ..
    exact ⟨by rw [hce, hups], by rw [State.ceLane, hce]; exact hwait, fun a => (hw.mem a).trans (hmem.mem a), hw.host.trans hmem.host,
      hw.queue.trans hmem.queue, hw.part.trans hmem.part⟩
  · exact ⟨hups, hwait, hmem⟩

theorem runs_ups (h : runsClean x s) (hf : s.inFore x.lane = true) (hal : (s.v x.lane x.a).toNat % 4 = 0)
    (hin : (s.v x.lane x.a).toNat + 4 * (s.v x.lane x.b).toNat ≤ 0x20000) (hn : (s.v x.lane x.b).toNat ≤ 28)
    (hr : ∀ i < (s.v x.lane x.b).toNat, ceReserved ((s.v x.lane x.a).toNat + 4 * i) = false) :
    Runs 0x48 x (.ups x) s fun t =>
      t.ce.ups = s.ce.ups ++ [(x.lane.val, (List.range (s.v x.lane x.b).toNat).map fun i => s.word ((s.v x.lane x.a).toNat + 4 * i),
        x.mod.val.testBit 0)] ∧ (t.ceLane x.lane).ctx.wait = .ups ∧ KeepsMem s t := by
  refine Runs.run h ?_
  have hok : (List.range (s.v x.lane x.b).toNat).any (fun i => ceReserved ((s.v x.lane x.a).toNat + 4 * i)) = false := by
    simpa using hr
  simp only [hf, Bool.not_true, Bool.false_eq_true, if_false, Nat.min_eq_left hn]
  rw [if_neg (by simp [hal, hok, hin]), State.checkedRead_of_clean h]
  simp only [State.ceWord_of_inFore hf]
  exact State.sendSet_sends ..

theorem runs_ups_back (h : runsClean x s) (hf : s.inFore x.lane = false) :
    Runs 0x48 x (.ups x) s fun t => t.f R.CE_STAT_HOLD = 1 ∧ t.f R.CE_FAULT_KIND = 2 := by
  refine Runs.run h ?_
  simp only [hf, Bool.not_false, if_true]
  have f := s.ceFault_faulted 2 x.lane 0x48 none
  exact ⟨f.hold, f.shown⟩

/-- The oldest set is held or refused. -/
def State.judgeSet (s : State) (ws : List Word) : State :=
  match s.checkSet ws with
  | .error e => s.setRefused e (ws.headD 0) 1
  | .ok _ => { s with ce := { s.ce with held := s.ce.held ++ [ws] } }

/-- The end of an acknowledge: a set marked last commits the cycle, and the lane goes on. -/
def State.ackEnd (s : State) (l : Nat) (last : Bool) : State :=
  let s : State := if last && s.on R.CE_STAT_RUN then { s with ce := { s.ce with sent := true } } else s
  if l < 8 && (s.ceLane l).ctx.wait = .ups then s.wake l else s

theorem State.ackEnd_keeps (l : Nat) (last : Bool) : (s.ackEnd l last).ce.ups = s.ce.ups ∧ (s.ackEnd l last).ce.held = s.ce.held ∧
    (s.ackEnd l last).regs = s.regs ∧ (s.ackEnd l last).xdc = s.xdc := by
  unfold State.ackEnd
  dsimp only
  split <;> split <;> exact ⟨rfl, rfl, rfl, rfl⟩

/-- The oldest set has left crossing 0. -/
def State.setTaken (s : State) (ws : List Word) : State :=
  let s : State := { s with ce := { s.ce with ups := [] } }
  s.setXing 0 { s.xing 0 with flight := none, dst := ws.map (·.toNat) }

theorem State.upsAck_eq {l : Nat} {ws : List Word} {last : Bool} (hl : l < 8) (hu : s.ce.ups = [(l, ws, last)])
    (hs : s.ce.sent = false) : s.upsAck = ((s.setTaken ws).judgeSet ws).ackEnd l last := by
  unfold State.upsAck
  split
  next h => simp [hu] at h
  next k vs b rest h =>
    obtain ⟨⟨rfl, rfl, rfl⟩, rfl⟩ : ((l = k ∧ ws = vs ∧ last = b) ∧ [] = rest) := by simpa [hu] using h
    extract_lets +onlyGivenNames _ popped c taken next _ judged
    have htaken : taken = s.setTaken ws := by
      unfold taken State.setTaken
      rw [if_pos hl]
    have hsent : next.ce.sent ≠ true := fun h => Bool.false_ne_true (hs.symm.trans h)
    have hjudged : judged = State.judgeSet next ws := (if_neg (Nat.not_le.mpr hl)).trans (if_neg hsent)
    rw [← htaken]
    clear_value judged
    subst hjudged
    rfl

theorem updateSetAcknowledge_answers {l : Nat} {ws : List Word} {last : Bool} (hlive : s.live = true) (hl : l < 8)
    (hu : s.ce.ups = [(l, ws, last)]) (hs : s.ce.sent = false) : Answers .updateSetAcknowledge s fun t =>
      t.ce.ups = [] ∧ (t.xing 0).flight = none ∧
        ((∃ u, s.checkSet ws = .ok u) → t.ce.held = s.ce.held ++ [ws] ∧ t.regs = s.regs) ∧
        (∀ e, s.checkSet ws = .error e → t.ce.held = s.ce.held ∧
          t.f R.PWM_STAT_REFUSED = min (2 ^ R.PWM_STAT_REFUSED.w - 1) (s.f R.PWM_STAT_REFUSED + 1)) := by
  refine Answers.onMain hlive rfl ?_
  rw [State.upsAck_eq hl hu hs]
  obtain ⟨hups, hheld, hregs, hxdc⟩ := ((s.setTaken ws).judgeSet ws).ackEnd_keeps l last
  have hsame : (s.setTaken ws).checkSet ws = s.checkSet ws := rfl
  have hflight : ((s.setTaken ws).xing 0).flight = none := congrArg Crossing.flight (Tab.get_set_self ..)
  rw [State.xing, hxdc, State.f, State.reg, hregs, hups, hheld]
  unfold State.judgeSet
  rw [hsame]
  cases hc : s.checkSet ws with
  | error e =>
    dsimp only
    have hp := State.post_posted (s := (s.setTaken ws).count R.PWM_STAT_REFUSED 1) 0x0401 ((ws.headD 0).toNat % 16) e (ws.headD 0).toNat 1
    have hr : (s.setTaken ws).setRefused e (ws.headD 0) 1 = ((s.setTaken ws).count R.PWM_STAT_REFUSED 1).post 0x0401
      ((ws.headD 0).toNat % 16) e (ws.headD 0).toNat 1 := rfl
    rw [hr, hp.ce, hp.xdc]
    refine ⟨rfl, hflight, ?_, fun _ _ => ⟨rfl, ?_⟩⟩
    · rintro ⟨_, h⟩
      cases h
    · have hf := congrArg R.PWM_STAT_REFUSED.get (hp.reg R.PWM_STAT_REFUSED.off (by unfold evReg; decide))
      exact hf.trans (State.f_count_self R.PWM_STAT_REFUSED (by decide) 1)
  | ok u => exact ⟨rfl, hflight, fun _ => ⟨rfl, rfl⟩, fun _ h => by cases h⟩

/-! ### Events and block trips of a program (R328) -/

theorem State.each_id {l : List Nat} {g : Nat → State → State} (h : ∀ i ∈ l, g i s = s) : s.each l g = s :=
  State.each_ind (P := fun u => u = s) rfl fun i hi u hu => by rw [hu, h i hi]

/-- With the windows closed and the link without interest an event reaches the event ring alone. -/
theorem State.post_rings (hwin : ∀ w < 16, s.f (R.HST_CAP_STAT_ST w) = 0) (hen : s.f R.HST_EVR_CFG_EN = 1)
    (hroom : s.hst.held.length < 64) (hlink : s.f R.HST_EVR_CFG_LINK = 0) (c i a b d : Nat) :
    s.post c i a b d = { s with hst := { s.hst with
      held := s.hst.held ++ [{ s.evNow c i a b d with seq := s.hst.evSeq }], evSeq := (s.hst.evSeq + 1) % 2 ^ 16 } } := by
  generalize hu : ({ s with hst := { s.hst with
    held := s.hst.held ++ [{ s.evNow c i a b d with seq := s.hst.evSeq }], evSeq := (s.hst.evSeq + 1) % 2 ^ 16 } } : State) = u
  have hst (w : Nat) (hw : w ∈ List.range 16) : u.f (R.HST_CAP_STAT_ST w) = 0 := by
    rw [← hu]
    exact hwin w (List.mem_range.mp hw)
  have hon : s.on R.HST_EVR_CFG_EN = true := by simp [State.on, hen]
  have hring : ({ s with hst := { s.hst with evSeq := (s.hst.evSeq + 1) % 2 ^ 16 } } : State).ringEvent
      { s.evNow c i a b d with seq := s.hst.evSeq } = u := by
    rw [← hu, State.ringEvent, if_pos (by exact hon), if_pos hroom]
  have hlnk (e : EvRec) : u.linkEvent e = u := by
    rw [State.linkEvent, if_neg]
    have : u.f R.HST_EVR_CFG_LINK = 0 := by rw [← hu]; exact hlink
    simp [State.on, this]
  have hcap (ty flg n : Nat) (t : Word) (body : List Word) : u.capture ty flg n t body = u :=
    State.each_id fun w hw => by simp [State.winOpen, hst w hw]
  rw [State.post, State.emit, State.emitN]
  dsimp only
  rw [hring, hlnk, hcap]
  exact State.each_id fun w hw => by simp [State.winHit, hst w hw]

theorem runs_evt (h : runsClean x s) (hwin : ∀ w < 16, s.f (R.HST_CAP_STAT_ST w) = 0) (hen : s.f R.HST_EVR_CFG_EN = 1)
    (hroom : s.hst.held.length < 64) (hlink : s.f R.HST_EVR_CFG_LINK = 0) : Runs 0x49 x (.evt x) s fun t =>
      t.hst.held = s.hst.held ++
          [{ s.evNow 0x0A05 x.lane (x.imm.toNat % 2 ^ 16) (s.v x.lane x.a).toNat 0 with seq := s.hst.evSeq }] ∧
        LaneSteps x.lane s t ∧ KeepsMem s t := by
  refine Runs.run h ?_
  rw [State.post_rings hwin hen hroom hlink]
  have hw : WithinLane x.lane s { s with hst := { s.hst with
      held := s.hst.held ++ [{ s.evNow 0x0A05 x.lane (x.imm.toNat % 2 ^ 16) (s.v x.lane x.a).toNat 0 with seq := s.hst.evSeq }]
      evSeq := (s.hst.evSeq + 1) % 2 ^ 16 } } := ⟨fun _ _ => rfl, rfl, rfl, rfl, rfl, rfl, rfl⟩
  exact ⟨rfl, hw.adv, fun _ => rfl, rfl, rfl, rfl⟩

theorem runs_trq (h : runsClean x s) (harm : s.sys.arm = none) (hst : s.inSt [stStandby, stArmed, stConnected, stRide] = true) :
    Runs 0x4A x (.trq x) s fun t =>
      t.st = stTripped ∧ t.sys.causes = s.sys.causes ++ [(0x0B, x.imm.toNat % 256)] ∧ KeepsMem s t := by
  refine Runs.run (g := fun s => (s.blockTrip 0x0B (x.imm.toNat % 256)).adv x.lane) h ?_
  obtain ⟨hcauses, htripped⟩ := State.blockTrip_shown (code := 0x0B) (det := x.imm.toNat % 256) (live_of_runsClean h) harm
  have hmem := State.blockTrip_keepsMem harm 0x0B (x.imm.toNat % 256)
  exact ⟨htripped hst, hcauses, hmem.mem, hmem.host, hmem.queue, hmem.part⟩

/-! ### Setup writes (R327) -/

theorem runs_swr_fore (h : runsClean x s) (hf : s.inFore x.lane = true) : Runs 0x4B x (.swr x) s (LaneWrites x 1 0 s) := by
  refine Runs.run h ?_
  simp only [hf, if_true]
  exact laneWrites_setV 1

theorem runs_swr_back (h : runsClean x s) (hf : s.inFore x.lane = false) (hmod : x.mod.val.testBit 0 = false) :
    Runs 0x4B x (.swr x) s fun t =>
      t.ce.swr = s.ce.swr ++ [(x.imm.toNat, s.wa x)] ∧ (t.ceLane x.lane).ctx.wait = .swr x.d 0 ∧ LaneSteps x.lane s t ∧
        KeepsMem s t := by
  refine Runs.run h ?_
  simp only [hf, hmod, Bool.not_false, Bool.false_eq_true, if_false, if_true]
  generalize hu : ({ s with ce := { s.ce with swr := s.ce.swr ++ [(x.imm.toNat, s.wa x)] } } : State) = u
  have hw : WithinLane x.lane s u := by
    rw [← hu]
    exact ⟨fun _ _ => rfl, rfl, rfl, rfl, rfl, rfl, rfl⟩
  have hadv := hw.adv
  have e : u.swrWait x.lane x.d 0 = (u.adv x.lane).setCtx x.lane { ((u.adv x.lane).ceLane x.lane).ctx with wait := .swr x.d 0 } := rfl
  have hctx : ((u.swrWait x.lane x.d 0).ceLane x.lane).ctx = { ((u.adv x.lane).ceLane x.lane).ctx with wait := .swr x.d 0 } := by
    rw [e]
    exact State.ctx_setCtx rfl
  refine ⟨by rw [← hu]; rfl, congrArg Ctx.wait hctx, ⟨?_, fun k hk => ?_, hadv.regs, hadv.host, hadv.queue, hadv.part⟩,
    by rw [← hu]; exact ⟨fun _ => rfl, rfl, rfl, rfl⟩⟩
  · rw [hctx]
    exact hadv.place
  · rw [e]
    exact (State.ceLane_setCe_ne _ hk).trans (hadv.lanes k hk)

end

theorem programRequests_hold : programRequestsHolds := fun x _ h harm =>
  ⟨runs_ups h, runs_ups_back h, fun _ _ => updateSetAcknowledge_answers (live_of_runsClean h) x.lane.isLt, runs_evt h, runs_trq h harm,
    runs_swr_fore h, runs_swr_back h⟩

theorem setupWriteCompletion_holds : setupWriteCompletionHolds := by
  intro s l d st hlive hw hf harm hd
  refine Answers.onMain hlive rfl ?_
  have hctx : (s.ceLane l).ctx = (s.ceLane l).back := if_neg (by rw [← State.inFore, hf]; decide)
  have hwithin : WithinLane l s (s.setV l d (BitVec.ofNat 32 st)) := (WithinLane.refl _ s).setV
  generalize hu : s.setV l d (BitVec.ofNat 32 st) = u at hwithin
  have e : s.swrDone l = u.setCtx l { (s.ceLane l).back with wait := .none } := by
    have hrun : (s.ceLane l).fore.run = false := hf
    unfold State.swrDone
    dsimp only
    rw [hw]
    dsimp only
    rw [if_neg (by simp [hrun, State.armLane, harm]), hu, State.setCtx, LaneCe.setCtx, hwithin.fore, hwithin.back, hrun]
    rfl
  have hrun : ({ (s.ceLane l).back with wait := .none } : Ctx).run = (u.ceLane l).ctx.run := by rw [hwithin.ctx, hctx]
  have hq := State.setCtx_quiet hrun
  rw [e, hctx]
  refine ⟨?_, State.ctx_setCtx hrun, fun r hr => ?_, hq.regs.trans hwithin.regs, fun a => ?_, hwithin.host, hwithin.queue, hwithin.part⟩
  · rw [hq.values, ← hu, State.v_setV_self _ _ _ hd]
  · rw [hq.values, ← hu, State.v_setV_ne _ _ hr]
  · exact (hq.mem.mem a).trans (hu ▸ State.byte_of_mem (s.mem_setV ..) a)

/-- Settles O32: a request goes into its queue or its ring with the lane waiting or going on, and the completion of a setup write
brings the status to the background lane that waits for it. -/
theorem programRequests : Obligations.ProgramRequests := ⟨programRequests_hold, setupWriteCompletion_holds⟩

end Sys2Proof.Machine
end

section
/-! PROOFS. Trigonometry and the kernels (O29): results of a stated accuracy, what every kernel leaves alone, and the outputs and block
words of each. -/

namespace Sys2Proof.Machine

variable {s t u : State}

/-! ### Trigonometry: results of a stated accuracy (R305, R311) -/

section
variable {x : CeInstr}

/-- A saturated value as a register holds it. -/
theorem toInt_ofInt_satQ (z : Int) : (BitVec.ofInt 32 (clampInt qMin qMax z)).toInt = max (-(2 ^ 31)) (min (2 ^ 31 - 1) z) := by
  rw [BitVec.toInt_ofInt, clampInt, qMin, qMax, Int.bmod_eq_of_le] <;> norm_num

theorem nearLo_le_nearHi (v : Int) (n : Nat) : nearLo v n ≤ nearHi v n := by
  have hpos : (0 : Int) < 2 ^ n := by positivity
  have h1 := Int.mul_ediv_self_le (x := v) (k := 2 ^ n) hpos.ne'
  have h2 := Int.mul_ediv_self_le (x := -v) (k := 2 ^ n) hpos.ne'
  have h3 : 2 ^ n * (-((-v) / 2 ^ n)) < 2 ^ n * (v / 2 ^ n + 2) := by
    have := Int.lt_mul_ediv_self_add (x := v) (k := 2 ^ n) hpos
    have := Int.lt_mul_ediv_self_add (x := -v) (k := 2 ^ n) hpos
    linarith
  have h4 := lt_of_mul_lt_mul_left h3 hpos.le
  unfold nearLo nearHi
  change -((-v) / 2 ^ n) - 4 ≤ v / 2 ^ n + 4
  omega

/-- Every value between the two ends is within four last places. -/
theorem withinFour_of_mem {v z : Int} {n : Nat} (h1 : nearLo v n ≤ z) (h2 : z ≤ nearHi v n) :
    withinFour (BitVec.ofInt 32 (clampInt qMin qMax z)) v n := by
  have hpos : (0 : Int) < 2 ^ n := by positivity
  have hv := Int.mul_ediv_self_le (x := v) (k := 2 ^ n) hpos.ne'
  have hw := Int.mul_ediv_self_le (x := -v) (k := 2 ^ n) hpos.ne'
  have h1 : -((-v) / 2 ^ n) - 4 ≤ z := h1
  have h2 : z ≤ v / 2 ^ n + 4 := h2
  exact ⟨z, by nlinarith, by nlinarith, toInt_ofInt_satQ z⟩

/-- A free value from `lo` to `hi`. -/
theorem setWithin_eq {lo hi : Int} (l r : Nat) (h : lo ≤ hi) :
    ∃ z, lo ≤ z ∧ z ≤ hi ∧ s.setWithin l r lo hi = s.takeFree.2.setV l r (BitVec.ofInt 32 (clampInt qMin qMax z)) := by
  have hk := Nat.mod_lt s.takeFree.1.toNat (show 0 < (hi - lo + 1).toNat by omega)
  exact ⟨lo + ((s.takeFree.1.toNat % (hi - lo + 1).toNat : Nat) : Int), by omega, by omega, rfl⟩

theorem setWithin_near (l r : Nat) (v : Int) (n : Nat) : ∃ w, withinFour w v n ∧
    s.setWithin l r (nearLo v n) (nearHi v n) = s.takeFree.2.setV l r w := by
  obtain ⟨z, h1, h2, e⟩ := setWithin_eq (s := s) l r (nearLo_le_nearHi v n)
  exact ⟨_, withinFour_of_mem h1 h2, e⟩

theorem runs_sincos (h : runsClean x s) (hd : x.d.val < 31) : Runs 0x3C x (.sincos x) s fun t =>
    (x.d.val ≠ 0 → withinFour (t.v x.lane x.d) (fxSinCos (s.wa x).toInt).1 31) ∧
      withinFour (t.v x.lane (x.d.val + 1)) (fxSinCos (s.wa x).toInt).2 31 ∧
      (∀ r, r ≠ x.d.val → r ≠ x.d.val + 1 → t.v x.lane r = s.v x.lane r) ∧ LaneSteps x.lane s t := by
  refine Runs.checked (g := fun s => ((s.setWithin x.lane x.d (nearLo (fxSinCos (s.wa x).toInt).1 31)
    (nearHi (fxSinCos (s.wa x).toInt).1 31)).setWithin x.lane (x.d.val + 1) (nearLo (fxSinCos (s.wa x).toInt).2 31)
    (nearHi (fxSinCos (s.wa x).toInt).2 31)).adv x.lane) h (seven_notMem_opA h) (offA_eq_false h) ?_
    (congrArg (fun t => Host.Outcome.next (s.onMain t)) (if_neg (by omega)))
  obtain ⟨w, hw, e⟩ := setWithin_near (s := s) x.lane x.d (fxSinCos (s.wa x).toInt).1 31
  rw [e]
  obtain ⟨w', hw', e'⟩ := setWithin_near (s := s.takeFree.2.setV x.lane x.d w) x.lane (x.d.val + 1) (fxSinCos (s.wa x).toInt).2 31
  rw [e']
  refine ⟨fun h0 => ?_, ?_, fun r h1 h2 => ?_, (WithinLane.refl _ s).takeFree.setV.takeFree.setV.adv⟩
  · rwa [State.v_adv, State.v_setV_ne _ _ (by omega), State.v_takeFree, State.v_setV_self _ _ _ h0]
  · rwa [State.v_adv, State.v_setV_self _ _ _ (by omega)]
  · rw [State.v_adv, State.v_setV_ne _ _ h2, State.v_takeFree, State.v_setV_ne _ _ h1, State.v_takeFree]

/-- SINCOS has no register for its second result. -/
theorem runs_sincos_fault (h : runsClean x s) (hd : x.d.val = 31) :
    Runs 0x3C x (.sincos x) s fun t => t.f R.CE_STAT_HOLD = 1 ∧ t.f R.CE_FAULT_KIND = 2 := by
  refine Runs.run (g := fun s => s.ceFault 2 x.lane 0x3C none) h ?_
    (congrArg (fun t => Host.Outcome.next (s.onMain t)) (if_pos (by omega)))
  have f := s.ceFault_faulted 2 x.lane 0x3C none
  exact ⟨f.hold, f.shown⟩

theorem runs_atan2 (h : runsClean x s) (hd : x.d.val ≠ 0) (h0 : s.wa x ≠ 0 ∨ s.wb x ≠ 0) : Runs 0x3D x (.atan2 x) s fun t =>
    withinFour (t.v x.lane x.d) (fxAtan2Fine (s.wa x).toInt (s.wb x).toInt) 16 ∧
      (∀ r, r ≠ x.d.val → t.v x.lane r = s.v x.lane r) ∧ LaneSteps x.lane s t := by
  refine Runs.checked h (seven_notMem_resAB h) (offAB_eq_false h) ?_
  have hz (w : Word) : w.toInt = 0 ↔ w = 0 := by rw [← BitVec.toInt_inj]; rfl
  dsimp only
  rw [if_neg (by simpa [hz, or_iff_not_imp_left] using h0)]
  obtain ⟨w, hw, e⟩ := setWithin_near (s := s) x.lane x.d (fxAtan2Fine (s.wa x).toInt (s.wb x).toInt) 16
  rw [e]
  refine ⟨?_, fun r h1 => ?_, (WithinLane.refl _ s).takeFree.setV.adv⟩
  · rwa [State.v_adv, State.v_setV_self _ _ _ hd]
  · rw [State.v_adv, State.v_setV_ne _ _ h1, State.v_takeFree]

end

/-! ### Kernels: what they leave alone and what they put out (R340) -/

section
variable {x : CeInstr} {i : Instr} {id : Nat} {P : State → Prop}

/-- The lane's registers outside v2 to v15, its first accumulator and data memory are as they were. -/
structure KernelKeeps (l : Nat) (s t : State) : Prop extends WithinLane l s t where
  values : ∀ r, r < 2 ∨ 16 ≤ r → t.v l r = s.v l r
  acc0 : t.accReg l false = s.accReg l false
  mem : t.mem = s.mem

section
variable {l : Nat}

theorem KernelKeeps.refl (l : Nat) (s : State) : KernelKeeps l s s := ⟨.refl l s, fun _ _ => rfl, rfl, rfl⟩

theorem KernelKeeps.takeFree (h : KernelKeeps l s t) : KernelKeeps l s t.takeFree.2 :=
  ⟨h.toWithinLane.takeFree, h.values, h.acc0, h.mem⟩

theorem KernelKeeps.setV {r : Nat} {w : Word} (h : KernelKeeps l s t) (hr : 2 ≤ r ∧ r < 16) : KernelKeeps l s (t.setV l r w) where
  toWithinLane := h.toWithinLane.setV
  values k hk := by rw [State.v_setV_ne _ _ (by omega), h.values k hk]
  acc0 := by rw [State.accReg_setV, h.acc0]
  mem := by rw [State.mem_setV, h.mem]

theorem KernelKeeps.setAcc1 {v : Int} (h : KernelKeeps l s t) : KernelKeeps l s (t.setAcc l true v) :=
  ⟨h.toWithinLane.setAcc, fun r hr => (State.v_setAcc ..).trans (h.values r hr), (State.accReg_setAcc_other ..).trans h.acc0, h.mem⟩

theorem KernelKeeps.setFlags {f : Nat} (h : KernelKeeps l s t) : KernelKeeps l s (t.setCe l { t.ceLane l with flags := f }) := by
  have hb : ({ t.ceLane l with flags := f } : LaneCe).bank = (t.ceLane l).bank := rfl
  refine ⟨h.toWithinLane.setCe rfl rfl, fun r hr => ?_, ?_, h.mem⟩
  · rw [State.v, State.vreg, State.ceLane_setCe_self, hb]
    exact h.values r hr
  · rw [State.accReg, State.ceLane_setCe_self, hb]
    exact h.acc0

theorem State.clobber_keeps (l : Nat) : KernelKeeps l s (s.clobber l) := by
  have ha : KernelKeeps l s (s.each (List.range 14) fun i s => s.takeFree.2.setV l (2 + i) s.takeFree.1) :=
    State.each_ind (.refl l s) fun i hi u hu => hu.takeFree.setV (by simp at hi; omega)
  exact ha.takeFree.takeFree.setAcc1.takeFree.setFlags

theorem State.outputs_concat (l : Nat) (out : List Word) (w : Word) :
    s.outputs l (out ++ [w]) = (s.outputs l out).setV l (2 + out.length) w := by
  simp [State.outputs, List.range_succ, List.zip_append]

/-- Outputs go to v2 on, and nowhere else. -/
theorem State.outputs_spec (l : Nat) (out : List Word) (h : out.length ≤ 14) :
    KernelKeeps l s (s.outputs l out) ∧ ∀ i, i < out.length → (s.outputs l out).v l (2 + i) = out.getD i 0 := by
  induction out using List.reverseRecOn with
  | nil => exact ⟨.refl l s, fun _ h => by cases h⟩
  | append_singleton out w ih =>
    simp only [List.length_append, List.length_singleton] at h ⊢
    obtain ⟨hk, ho⟩ := ih (by omega)
    rw [State.outputs_concat]
    refine ⟨hk.setV (by omega), fun i hi => ?_⟩
    by_cases hw : i = out.length
    · subst hw
      simp [State.v_setV_self]
    · rw [State.v_setV_ne _ _ (by omega), ho i (by omega), List.getD_append _ _ _ _ (by omega)]

end

/-- The outputs of a kernel over free values, and the next instruction. -/
def State.kernelEnd (s : State) (l : Nat) (out : List Word) : State := ((s.clobber l).outputs l out).adv l

theorem KernelKeeps.trans {l : Nat} (h : KernelKeeps l s t) (k : KernelKeeps l t u) : KernelKeeps l s u :=
  ⟨h.toWithinLane.trans k.toWithinLane, fun r hr => (k.values r hr).trans (h.values r hr), k.acc0.trans h.acc0, k.mem.trans h.mem⟩

theorem State.kernelEnd_spec {out : List Word} (h : out.length ≤ 14) : KernelSteps x s (s.kernelEnd x.lane out) ∧
    (s.kernelEnd x.lane out).mem = s.mem ∧ ∀ i, i < out.length → (s.kernelEnd x.lane out).v x.lane (2 + i) = out.getD i 0 := by
  obtain ⟨hk, ho⟩ := (s.clobber x.lane).outputs_spec x.lane out h
  have hall := (s.clobber_keeps x.lane).trans hk
  exact ⟨⟨hall.adv, fun r hr => (State.v_adv ..).trans (hall.values r hr), (State.accReg_adv ..).trans hall.acc0⟩, hall.mem,
    fun i hi => (State.v_adv ..).trans (ho i hi)⟩

/-- A lane calls a kernel, its source residues in order. -/
theorem calls_kcall {rs : List Nat} {g : State → State} (h : runsClean x s) (hrs : ∀ r ∈ rs, r < 32) (hP : P (g s))
    (he : exec i s = .next (s.onMain (s.kcall x id rs g))) (hk : ceKnown 0x0C (bareCe { x with imm := BitVec.ofNat 32 id }) = true) :
    Calls id x i s P := by
  have hres (r : Nat) (hr : r ∈ rs) : (s.vreg x.lane r).res = residue (s.vreg x.lane r).val.toInt := h.values r (hrs r hr)
  refine Runs.checked ⟨h.runs, h.program, h.data, h.attempts, h.values, h.accs⟩ ?_ ?_ hP he hk
  · simp only [List.mem_map, not_exists, not_and]
    intro r hr
    rw [hres r hr]
    exact residue_ne_seven _
  · simp only [List.any_eq_false, decide_eq_true_eq, not_not]
    exact fun r hr => err_of_res (hres r hr)

/-! ### Kernels without a state block -/

/-- What a kernel without a block leaves: its outputs from v2 on. -/
structure KernelPuts (x : CeInstr) (out : List Word) (s t : State) : Prop where
  outs : ∀ i, i < out.length → t.v x.lane (2 + i) = out.getD i 0
  steps : KernelSteps x s t
  mem : t.mem = s.mem

theorem kernelPuts_of_free {k : Nat} {out : List Word} (h : out.length ≤ 14) (hu : u = { s with free := k }) :
    KernelPuts x out s (u.kernelEnd x.lane out) := by
  subst hu
  obtain ⟨hs, hm, ho⟩ := State.kernelEnd_spec (s := { s with free := k }) (x := x) h
  exact ⟨ho, ⟨⟨hs.place, hs.lanes, hs.regs, hs.host, hs.queue, hs.part⟩, hs.values, hs.acc0⟩, hm⟩

theorem calls_kernel0 {n k : Nat} {g : (Nat → Int) → State → List Word × State} {out : List Word} (h : runsClean x s)
    (he : exec i s = .next (s.onMain (s.kernel0 x id n g))) (hk : ceKnown 0x0C (bareCe { x with imm := BitVec.ofNat 32 id }) = true)
    (hn : n ≤ 14) (hg : g (fun r => s.vi x.lane r) s = (out, { s with free := k })) (hout : out.length ≤ 14)
    (hP : ∀ t, KernelPuts x out s t → P t) : Calls id x i s P := by
  refine calls_kcall h (fun r hr => ?_) ?_ he hk
  · simp at hr
    omega
  · dsimp only
    rw [hg]
    exact hP _ (kernelPuts_of_free hout rfl)

end

section
variable {x : CeInstr}

/-- A free error of a few last places. -/
theorem nearTo_fuzz (v : Int) : nearTo (BitVec.ofInt 32 (s.fuzz v).1) v := by
  have hk := Nat.mod_lt s.takeFree.1.toNat (show 0 < 11 by decide)
  refine ⟨((s.takeFree.1.toNat % 11 : Nat) : Int) - 5, by omega, by omega, ?_⟩
  have e : (s.fuzz v).1 = clampInt qMin qMax (v + (((s.takeFree.1.toNat % 11 : Nat) : Int) - 5)) := by
    rw [← Int.add_sub_assoc]
    rfl
  rw [e, toInt_ofInt_satQ]

theorem calls_clarke (h : runsClean x s) : Calls 1 x (.clarke x) s fun t =>
    t.v x.lane 2 = qWord (nearDiv (2 * s.vi x.lane 2 - s.vi x.lane 3 - s.vi x.lane 4) 3) ∧
      nearTo (t.v x.lane 3) (rnd ((s.vi x.lane 3 - s.vi x.lane 4) * fxInvSqrt3) 62) ∧ KernelSteps x s t ∧ t.mem = s.mem := by
  refine calls_kernel0 h rfl rfl (by decide) rfl (by simp) fun t ht => ⟨ht.outs 0 (by simp), ?_, ht.steps, ht.mem⟩
  rw [ht.outs 1 (by simp)]
  exact nearTo_fuzz _

/-- A rotation puts out two values with a free error each. -/
theorem calls_rotate {id : Nat} {i : Instr} {inv : Bool} {p q : Int} (h : runsClean x s) (hid : id = if inv then 3 else 2)
    (hp : p = rnd (s.vi x.lane 2 * (fxSinCos (s.vi x.lane 4)).2 +
      s.vi x.lane 3 * (if inv then -(fxSinCos (s.vi x.lane 4)).1 else (fxSinCos (s.vi x.lane 4)).1)) 62)
    (hq : q = rnd (s.vi x.lane 3 * (fxSinCos (s.vi x.lane 4)).2 -
      s.vi x.lane 2 * (if inv then -(fxSinCos (s.vi x.lane 4)).1 else (fxSinCos (s.vi x.lane 4)).1)) 62)
    (he : exec i s = .next (s.onMain (s.kRotate x inv)))
    (hk : ceKnown 0x0C (bareCe { x with imm := BitVec.ofNat 32 id }) = true) : Calls id x i s fun t =>
      nearTo (t.v x.lane 2) p ∧ nearTo (t.v x.lane 3) q ∧ KernelSteps x s t ∧ t.mem = s.mem := by
  subst hid hp hq
  refine calls_kernel0 h he hk (by decide) rfl (by simp) fun t ht => ⟨?_, ?_, ht.steps, ht.mem⟩
  · rw [ht.outs 0 (by simp)]
    exact nearTo_fuzz _
  · rw [ht.outs 1 (by simp)]
    exact nearTo_fuzz _

theorem calls_seqsep (h : runsClean x s) : Calls 7 x (.seqsep x) s fun t =>
    t.v x.lane 2 = qWord (rnd (s.vi x.lane 2 - s.vi x.lane 5) 1) ∧ t.v x.lane 3 = qWord (rnd (s.vi x.lane 4 + s.vi x.lane 3) 1) ∧
      t.v x.lane 4 = qWord (rnd (s.vi x.lane 2 + s.vi x.lane 5) 1) ∧ t.v x.lane 5 = qWord (rnd (s.vi x.lane 4 - s.vi x.lane 3) 1) ∧
      KernelSteps x s t ∧ t.mem = s.mem :=
  calls_kernel0 h rfl rfl (by decide) rfl (by simp) fun _ ht => ⟨ht.outs 0 (by simp), ht.outs 1 (by simp), ht.outs 2 (by simp),
    ht.outs 3 (by simp), ht.steps, ht.mem⟩

theorem calls_pq (h : runsClean x s) : Calls 13 x (.pq x) s fun t =>
    t.v x.lane 2 = qWord (rnd (s.vi x.lane 2 * s.vi x.lane 4 + s.vi x.lane 3 * s.vi x.lane 5) 31) ∧
      t.v x.lane 3 = qWord (rnd (s.vi x.lane 3 * s.vi x.lane 4 - s.vi x.lane 2 * s.vi x.lane 5) 31) ∧ KernelSteps x s t ∧
      t.mem = s.mem :=
  calls_kernel0 h rfl rfl (by decide) rfl (by simp) fun _ ht => ⟨ht.outs 0 (by simp), ht.outs 1 (by simp), ht.steps, ht.mem⟩

/-- References of zero give half of the period on every phase. -/
theorem calls_svm_zero (h : runsClean x s) (h2 : s.vi x.lane 2 = 0) (h3 : s.vi x.lane 3 = 0) : Calls 8 x (.svm x) s fun t =>
    t.v x.lane 2 = 0x800000#32 ∧ t.v x.lane 3 = 0x800000#32 ∧ t.v x.lane 4 = 0x800000#32 ∧ KernelSteps x s t ∧ t.mem = s.mem := by
  refine calls_kernel0 (out := [0x800000#32, 0x800000#32, 0x800000#32, s.takeFree.1]) (k := s.takeFree.2.free) h rfl rfl (by decide) ?_ (by simp)
    fun _ ht => ⟨ht.outs 0 (by simp), ht.outs 1 (by simp), ht.outs 2 (by simp), ht.steps, ht.mem⟩
  dsimp only
  rw [h2, h3]
  rfl

theorem trigonometryAndKernels_hold : trigonometryAndKernelsHolds := fun x s h =>
  ⟨runs_sincos h, runs_sincos_fault h, runs_atan2 h, calls_clarke h,
    calls_rotate (inv := false) h rfl rfl rfl rfl rfl,
    calls_rotate (inv := true) h rfl (by simp only [if_true, Int.mul_neg, Int.sub_eq_add_neg])
      (by simp only [if_true, Int.mul_neg, Int.sub_eq_add_neg, Int.neg_neg]) rfl rfl,
    calls_seqsep h, calls_svm_zero h, calls_pq h⟩

end

/-! ### Kernels with a state block (R340) -/

section
variable {x : CeInstr} {i : Instr} {id a : Nat} {P : State → Prop}

theorem State.word_of_bytes {b : Nat} (h : ∀ i < 4, t.byte (b + i) = s.byte (b + i)) : t.word b = s.word b := by
  simp only [State.word, h 3 (by decide), h 2 (by decide), h 1 (by decide)]
  rw [show t.byte b = s.byte b from h 0 (by decide)]

theorem State.word_of_mem (h : t.mem = s.mem) (b : Nat) : t.word b = s.word b := State.word_of_bytes fun _ _ => State.byte_of_mem h _

/-- Stored words read back. -/
theorem State.word_setWords (ws : List Word) (a i : Nat) (h : i < ws.length) : (s.setWords a ws).word (a + 4 * i) = ws.getD i 0 := by
  induction ws generalizing s a i with
  | nil => cases h
  | cons v vs ih =>
    rw [State.setWords]
    cases i with
    | zero =>
      exact (State.word_of_bytes fun k hk => State.byte_setWords_ne (a := a + 4) (c := a + 4 * 0 + k) vs (by omega)).trans
        (State.word_setWord_self a v)
    | succ i =>
      have e : a + 4 * (i + 1) = a + 4 + 4 * i := by omega
      rw [e, ih (a + 4) i (by simpa using h), List.getD_cons_succ]

/-- What a kernel with a block leaves: its outputs from v2 on, and the words of its block. -/
structure BlockPuts (x : CeInstr) (a : Nat) (out block : List Word) (s t : State) : Prop where
  outs : ∀ i, i < out.length → t.v x.lane (2 + i) = out.getD i 0
  words : ∀ i, i < block.length → t.word (a + 4 * i) = block.getD i 0
  keeps : BlockKernel x a block.length s t

theorem blockPuts_of_free {k : Nat} {out block : List Word} (h : out.length ≤ 14) :
    BlockPuts x a out block s (State.kernelEnd (State.setWords { s with free := k } a block) x.lane out) := by
  obtain ⟨m, u, hw⟩ := State.setWords_eq (s := { s with free := k }) a block
  have hbyte (b : Nat) (hb : b < a ∨ a + 4 * block.length ≤ b) : (State.setWords { s with free := k } a block).byte b = s.byte b :=
    State.byte_setWords_ne block hb
  have hword (i : Nat) (hi : i < block.length) := State.word_setWords (s := { s with free := k }) block a i hi
  rw [hw] at hbyte hword ⊢
  obtain ⟨hs, hm, ho⟩ := State.kernelEnd_spec (s := { s with free := k, mem := m, upsets := u }) (x := x) h
  exact ⟨ho, fun i hi => (State.word_of_mem hm _).trans (hword i hi),
    ⟨⟨⟨hs.place, hs.lanes, hs.regs, hs.host, hs.queue, hs.part⟩, hs.values, hs.acc0⟩,
      fun b hb => (State.byte_of_mem hm b).trans (hbyte b hb)⟩⟩

/-- A block in the general area that a kernel may use, in the cycle of its lane. -/
structure BlockReady (x : CeInstr) (a : Nat) (s : State) : Prop where
  clean : runsClean x s
  fore : s.inFore x.lane = true
  place : (s.v x.lane 1).toNat = a
  aligned : a % 8 = 0
  inside : a + 48 ≤ 0x10000
  free : ∀ i < 12, s.inConst (a + 4 * i) = false

/-- A kernel whose outputs and block words are known as far as `Q` says. -/
theorem calls_kernelN_of {ins n : Nat} {g : (Nat → Int) → (Nat → Int) → State → List Word × List Word × State}
    {Q : List Word → List Word → Prop} (h : BlockReady x a s) (he : exec i s = .next (s.onMain (s.kernelN x id ins n g)))
    (hk : ceKnown 0x0C (bareCe { x with imm := BitVec.ofNat 32 id }) = true) (hn : n ≤ 12 ∧ ins ≤ 14)
    (hg : ∃ out block k, g (fun r => s.vi x.lane r) (fun i => (s.word (a + 4 * i)).toInt) s = (out, block, { s with free := k }) ∧
      out.length ≤ 14 ∧ Q out block)
    (hP : ∀ out block t, Q out block → BlockPuts x a out block s t → P t) : Calls id x i s P := by
  obtain ⟨hn, hins⟩ := hn
  obtain ⟨out, block, k, hg, hout, hQ⟩ := hg
  refine calls_kcall h.clean (fun r hr => ?_) ?_ he hk
  · simp at hr
    omega
  · dsimp only
    have hplace := h.place
    have hal := h.aligned
    have hin := h.inside
    have hconst : (List.range n).any (fun i => s.inConst (a + 4 * i)) = false := by
      simpa using fun i hi => h.free i (by omega)
    rw [hplace, if_neg (by simp [hal, hconst]; omega), State.checkedRead_of_clean h.clean]
    simp only [State.ceWord_of_inFore h.fore]
    rw [hg]
    exact hP _ _ _ hQ (blockPuts_of_free hout)

theorem calls_kernelN {ins n k : Nat} {g : (Nat → Int) → (Nat → Int) → State → List Word × List Word × State} {out block : List Word}
    (h : BlockReady x a s) (he : exec i s = .next (s.onMain (s.kernelN x id ins n g)))
    (hk : ceKnown 0x0C (bareCe { x with imm := BitVec.ofNat 32 id }) = true) (hn : n ≤ 12 ∧ ins ≤ 14)
    (hg : g (fun r => s.vi x.lane r) (fun i => (s.word (a + 4 * i)).toInt) s = (out, block, { s with free := k }))
    (hout : out.length ≤ 14) (hP : ∀ t, BlockPuts x a out block s t → P t) : Calls id x i s P :=
  calls_kernelN_of (Q := fun o b => o = out ∧ b = block) h he hk hn ⟨out, block, k, hg, hout, rfl, rfl⟩
    fun _ _ _ ⟨ho, hb⟩ ht => hP _ (ho ▸ hb ▸ ht)

/-- A word as a register or a block holds it. -/
theorem ofInt_vi (l r : Nat) : BitVec.ofInt 32 (s.vi l r) = s.v l r := BitVec.ofInt_toInt

theorem toInt_ofInt_of_mem {v : Int} (h1 : -(2 ^ 31) ≤ v) (h2 : v < 2 ^ 31) : (BitVec.ofInt 32 v).toInt = v := by
  rw [BitVec.toInt_ofInt, Int.bmod_eq_of_le] <;> norm_num <;> omega

/-- Between two words lies no saturation. -/
theorem satQ_clampInt (lo hi : Word) (v : Int) : satQ (clampInt lo.toInt hi.toInt v) = clampInt lo.toInt hi.toInt v := by
  have h1 := BitVec.le_toInt lo
  have h2 := BitVec.toInt_lt (x := lo)
  have h3 := BitVec.toInt_lt (x := hi)
  unfold satQ clampInt qMin qMax
  omega

section
variable (h : BlockReady x a s)
include h

theorem calls_piStep : Calls 4 x (.piStep x) s fun t =>
    let m (i : Nat) : Int := (s.word (a + 4 * i)).toInt
    let u := (m 0 * s.vi x.lane 2 + 2 ^ 30) / 2 ^ 31 + m 4 + s.vi x.lane 3
    t.v x.lane 2 = BitVec.ofInt 32 (max (m 3) (min (m 2) u)) ∧ t.v x.lane 3 = BitVec.ofNat 32 (bit (decide (u < m 3 ∨ m 2 < u))) ∧
      ((u < m 3 ∨ m 2 < u) → t.word (a + 16) = s.word (a + 16)) ∧ (∀ i, i < 4 ∨ i = 5 → t.word (a + 4 * i) = s.word (a + 4 * i)) ∧
      BlockKernel x a 6 s t := by
  refine calls_kernelN h rfl rfl (by decide) rfl (by simp) fun t ht => ?_
  refine ⟨(ht.outs 0 (by simp)).trans (congrArg (BitVec.ofInt 32) (satQ_clampInt _ _ _)), ht.outs 1 (by simp), fun hc => ?_,
    fun i hi => ?_, ht.keeps⟩
  · exact (ht.words 4 (by simp)).trans ((congrArg (BitVec.ofInt 32) (if_pos (decide_eq_true hc))).trans BitVec.ofInt_toInt)
  · obtain hi | rfl := hi
    · interval_cases i <;> exact (ht.words _ (by simp)).trans BitVec.ofInt_toInt
    · exact (ht.words 5 (by simp)).trans BitVec.ofInt_toInt

theorem calls_biquad : Calls 9 x (.biquad x) s fun t =>
    let m (i : Nat) : Int := (s.word (a + 4 * i)).toInt
    let y := clampInt (-(2 ^ 31)) (2 ^ 31 - 1) (rnd (m 0 * s.vi x.lane 2) 30 + m 5)
    t.v x.lane 2 = BitVec.ofInt 32 y ∧ (∀ i < 5, t.word (a + 4 * i) = s.word (a + 4 * i)) ∧
      t.word (a + 24) = qWord (rnd (m 2 * s.vi x.lane 2 - m 4 * y) 30) ∧ BlockKernel x a 8 s t := by
  refine calls_kernelN h rfl rfl (by decide) rfl (by simp) fun t ht => ?_
  refine ⟨ht.outs 0 (by simp), fun i hi => ?_, ht.words 6 (by simp), ht.keeps⟩
  interval_cases i <;> exact (ht.words _ (by simp)).trans BitVec.ofInt_toInt

/-- What SOGIFLL puts out and stores: the two signals, the frequency within its limits, and an angle. -/
def SogiResult (m : Nat → Int) (out block : List Word) : Prop := ∃ x1 x2 om th : Int,
  out = [BitVec.ofInt 32 x1, BitVec.ofInt 32 x2, BitVec.ofInt 32 (clampInt (m 2) (m 3) om), BitVec.ofInt 32 th] ∧
    block = [m 0, m 1, m 2, m 3, m 4, x1, x2, clampInt (m 2) (m 3) om, m 8, m 9, m 10, m 11].map (BitVec.ofInt 32)

omit h in
/-- A frequency within two words. -/
theorem clamped_word {lo hi : Word} (hle : lo.toInt ≤ hi.toInt) (v : Int) :
    lo.toInt ≤ (BitVec.ofInt 32 (clampInt lo.toInt hi.toInt v)).toInt ∧
      (BitVec.ofInt 32 (clampInt lo.toInt hi.toInt v)).toInt ≤ hi.toInt := by
  have h1 := BitVec.le_toInt lo
  have h2 := BitVec.toInt_lt (x := hi)
  rw [toInt_ofInt_of_mem] <;> unfold clampInt <;> omega

theorem calls_sogifll : Calls 6 x (.sogifll x) s fun t =>
    let m (i : Nat) : Int := (s.word (a + 4 * i)).toInt
    t.v x.lane 2 = t.word (a + 20) ∧ t.v x.lane 3 = t.word (a + 24) ∧ t.v x.lane 4 = t.word (a + 28) ∧
      (m 2 ≤ m 3 → m 2 ≤ (t.v x.lane 4).toInt ∧ (t.v x.lane 4).toInt ≤ m 3) ∧
      (∀ i < 5, t.word (a + 4 * i) = s.word (a + 4 * i)) ∧ BlockKernel x a 12 s t := by
  refine calls_kernelN_of (Q := SogiResult fun i => (s.word (a + 4 * i)).toInt) h rfl rfl (by decide) ?_ fun out block t hQ ht => ?_
  · dsimp only
    split <;> split <;> exact ⟨_, _, _, rfl, by simp, _, _, _, _, rfl, rfl⟩
  · obtain ⟨x1, x2, om, th, rfl, rfl⟩ := hQ
    refine ⟨(ht.outs 0 (by simp)).trans (ht.words 5 (by simp)).symm, (ht.outs 1 (by simp)).trans (ht.words 6 (by simp)).symm,
      (ht.outs 2 (by simp)).trans (ht.words 7 (by simp)).symm, fun hle => ?_, fun i hi => ?_, ht.keeps⟩
    · rw [show t.v x.lane 4 = _ from ht.outs 2 (by simp)]
      exact clamped_word hle om
    · interval_cases i <;> exact (ht.words _ (by simp)).trans BitVec.ofInt_toInt

theorem calls_mpptpo : Calls 11 x (.mpptpo x) s fun t =>
    let m (i : Nat) : Int := (s.word (a + 4 * i)).toInt
    let p := clampInt (-(2 ^ 31)) (2 ^ 31 - 1) ((s.vi x.lane 2 * s.vi x.lane 3 + 2 ^ 30) / 2 ^ 31)
    t.v x.lane 2 = t.word (a + 12) ∧ t.word (a + 16) = BitVec.ofInt 32 p ∧
      (t.word (a + 20)).toInt = (if p < m 4 then (BitVec.ofInt 32 (-(m 5))).toInt else m 5) ∧ BlockKernel x a 8 s t := by
  refine calls_kernelN h rfl rfl (by decide) rfl (by simp) fun t ht => ?_
  refine ⟨(ht.outs 0 (by simp)).trans (ht.words 3 (by simp)).symm, ht.words 4 (by simp), ?_, ht.keeps⟩
  refine (congrArg BitVec.toInt (ht.words 5 (by simp))).trans ?_
  refine (apply_ite (fun v => (BitVec.ofInt 32 v).toInt) _ _ _).trans ?_
  exact if_congr Iff.rfl rfl (congrArg BitVec.toInt BitVec.ofInt_toInt)

/-- What MPPTIC puts out and stores: a reference, and the voltage and current it was found from. -/
def IncResult (m v : Nat → Int) (out block : List Word) : Prop := ∃ vr : Int,
  out = [BitVec.ofInt 32 vr] ∧ block = [m 0, m 1, m 2, vr, v 2, v 3, m 6, m 7].map (BitVec.ofInt 32)

theorem calls_mpptic : Calls 12 x (.mpptic x) s fun t =>
    t.v x.lane 2 = t.word (a + 12) ∧ t.word (a + 16) = s.v x.lane 2 ∧ t.word (a + 20) = s.v x.lane 3 ∧ BlockKernel x a 8 s t := by
  refine calls_kernelN_of (Q := IncResult (fun i => (s.word (a + 4 * i)).toInt) (s.vi x.lane)) h rfl rfl (by decide)
    ⟨_, _, _, rfl, by simp, _, rfl, rfl⟩ fun out block t hQ ht => ?_
  obtain ⟨vr, rfl, rfl⟩ := hQ
  exact ⟨(ht.outs 0 (by simp)).trans (ht.words 3 (by simp)).symm, (ht.words 4 (by simp)).trans (ofInt_vi ..),
    (ht.words 5 (by simp)).trans (ofInt_vi ..), ht.keeps⟩

theorem calls_msq : Calls 14 x (.msq x) s fun t =>
    let m (i : Nat) : Int := (s.word (a + 4 * i)).toInt
    t.v x.lane 2 = qWord (m 1 + rnd (m 0 * (s.vi x.lane 2 * s.vi x.lane 2 - m 1 * 2 ^ 31)) 62) ∧ t.word (a + 4) = t.v x.lane 2 ∧
      BlockKernel x a 4 s t := by
  refine calls_kernelN h rfl rfl (by decide) rfl (by simp) fun t ht => ?_
  exact ⟨ht.outs 0 (by simp), (ht.words 1 (by simp)).trans (ht.outs 0 (by simp)).symm, ht.keeps⟩

theorem calls_ramp (h0 : 0 ≤ (s.word (a + 4 * 0)).toInt) : Calls 15 x (.ramp x) s fun t =>
    let m (i : Nat) : Int := (s.word (a + 4 * i)).toInt
    t.v x.lane 2 = qWord (m 1 + max (-(m 0)) (min (m 0) (s.vi x.lane 2 - m 1))) ∧ BlockKernel x a 4 s t := by
  refine calls_kernelN h rfl rfl (by decide) rfl (by simp) fun t ht => ⟨(ht.outs 0 (by simp)).trans ?_, ht.keeps⟩
  have e : max 0 (s.word (a + 4 * 0)).toInt = (s.word (a + 4 * 0)).toInt := max_eq_right h0
  change qWord ((s.word (a + 4 * 1)).toInt + max (-(max 0 (s.word (a + 4 * 0)).toInt)) (min (max 0 (s.word (a + 4 * 0)).toInt)
    (s.vi x.lane 2 - (s.word (a + 4 * 1)).toInt))) = _
  rw [e]

/-- The word of the scrambler that CORR reads lies in the general area. -/
theorem calls_corr (h3 : 0 ≤ s.vi x.lane 3) (hal : ((s.word (a + 4 * 2)).toInt + 4 * (s.vi x.lane 3 / 32)) % 4 = 0)
    (h2 : 0 ≤ (s.word (a + 4 * 2)).toInt) (hin : (s.word (a + 4 * 2)).toInt + 4 * (s.vi x.lane 3 / 32) + 4 ≤ 0x10000) :
    Calls 10 x (.corr x) s fun t =>
      t.v x.lane 2 = s.word (a + 12) ∧ t.v x.lane 3 = BitVec.ofNat 32 (bit (decide (s.vi x.lane 3 < (s.word (a + 4 * 4)).toInt))) ∧
        t.word (a + 16) = s.v x.lane 3 ∧ BlockKernel x a 6 s t := by
  have hword : ((s.word (a + 8)).toNat : Int) = (s.word (a + 4 * 2)).toInt := by
    rw [BitVec.toInt_eq_toNat_of_msb]
    exact BitVec.msb_eq_false_iff_two_mul_lt.mpr (by rw [BitVec.toInt_eq_toNat_cond] at h2; split at h2 <;> omega)
  generalize haddr : (s.ceWord x.lane ((s.v x.lane 1).toNat + 8)).toNat + 4 * ((s.vi x.lane 3).toNat / 32) = addr
  have hle : addr + 4 ≤ 0x10000 ∧ addr % 4 = 0 := by
    rw [← haddr, h.place, State.ceWord_of_inFore h.fore]
    omega
  have hres : ceReserved addr = false := by simp [ceReserved]; omega
  have he : exec (.corr x) s = .next (s.onMain (s.kCorr x)) := rfl
  unfold State.kCorr at he
  dsimp only at he
  rw [haddr, if_neg (by simp [hres, hle.2]; omega), State.badByte_of_nil h.clean.data.2] at he
  refine calls_kernelN h he rfl (by decide) rfl (by simp) fun t ht => ?_
  exact ⟨(ht.outs 0 (by simp)).trans BitVec.ofInt_toInt, ht.outs 1 (by simp), (ht.words 4 (by simp)).trans (ofInt_vi ..), ht.keeps⟩

end
end

theorem blockKernels_hold : blockKernelsHolds := fun _ _ _ h hf hp ha hin hc =>
  have hb : BlockReady _ _ _ := ⟨h, hf, hp, ha, hin, hc⟩
  ⟨calls_piStep hb, calls_biquad hb, calls_sogifll hb, calls_mpptpo hb, calls_mpptic hb, calls_msq hb, calls_ramp hb, calls_corr hb⟩

/-- Settles O29: a kernel's outputs and block words are its equations' values, over free values in all else it may change. -/
theorem kernels : Obligations.Kernels := ⟨trigonometryAndKernels_hold, blockKernels_hold⟩

end Sys2Proof.Machine
end

section
/-! PROOFS. The cycle of the control engine (O33): misses, commits, the start of a cycle and the time of INIT. -/

namespace Sys2Proof.Machine

variable {s t u : State}

/-! ### What a commit and a miss leave alone -/

theorem Posted.keepsMem (h : Posted s t) : KeepsMem s t := (h.within (p := fun _ => True) fun _ _ => trivial).keepsMem
theorem State.post_keepsMem (c i a b d : Nat) : KeepsMem s (s.post c i a b d) := (State.post_posted c i a b d).keepsMem

theorem KeepsMem.trans (h : KeepsMem s t) (k : KeepsMem t u) : KeepsMem s u :=
  ⟨fun a => (k.mem a).trans (h.mem a), k.host.trans h.host, k.queue.trans h.queue, k.part.trans h.part⟩

theorem State.scrub_of_nil (h : s.upsets = []) (a n : Nat) : s.scrub a n = s := by rw [State.scrub, h, List.foldl_nil]

/-- With no stored bit struck the record of a cycle is a capture alone. -/
theorem State.cycleRecord_of_nil (h : s.upsets = []) :
    s.cycleRecord = s.capture 5 0 1 (ptWord s.pt) (s.words 0x1E800 8 ++ s.words 0xFF00 13) := by
  rw [State.cycleRecord, State.scrub_of_nil h, State.scrub_of_nil h]

theorem State.cycleRecord_keeps (h : s.upsets = []) : CeKeeps s s.cycleRecord ∧ Posted s s.cycleRecord := by
  rw [State.cycleRecord_of_nil h]
  exact ⟨(CeKeeps.refl s).capture, State.capture_posted ..⟩

/-! ### Misses (R323 to R325) -/

/-- The trip on `MISSMAX` shows itself, and leaves the rest of the engine alone. -/
theorem State.missCheck_eq : s.missCheck = s ∨ s.missCheck =
    ((s.setF R.CE_STAT_MTRIP 1).blockTrip 0x08 0).post 0x0A01 0 0x08 ((s.setF R.CE_STAT_MTRIP 1).blockTrip 0x08 0).ce.consec
      (((s.setF R.CE_STAT_MTRIP 1).blockTrip 0x08 0).f R.CE_MISS_MISS) := by
  unfold State.missCheck
  split
  exacts [.inr rfl, .inl rfl]

theorem State.missCheck_keeps : CeKeeps s s.missCheck ∨ CeKeeps (s.setF R.CE_STAT_MTRIP 1) s.missCheck := by
  obtain h | h := s.missCheck_eq <;> rw [h]
  exacts [.inl (.refl s), .inr (CeKeeps.refl _).blockTrip.post]

theorem State.missCheck_keepsMem (harm : s.sys.arm = none) : KeepsMem s s.missCheck := by
  obtain h | h := s.missCheck_eq <;> rw [h]
  · exact ⟨fun _ => rfl, rfl, rfl, rfl⟩
  · have ht := State.blockTrip_keepsMem (s := s.setF R.CE_STAT_MTRIP 1) harm 0x08 0
    exact KeepsMem.trans ⟨ht.mem, ht.host, ht.queue, ht.part⟩ (State.post_keepsMem ..)

/-- A miss as it is counted. -/
def State.missCounted (s : State) : State :=
  let s : State := { s with ce := { s.ce with dlPending := false, prevMiss := true, consec := satAdd 65535 s.ce.consec 1 } }
  (s.count R.CE_MISS_MISS 1).setF R.CE_STAT_CONSEC (min 255 s.ce.consec)

theorem State.missCycle_eq : s.missCycle = s.missCounted.missCheck.cycleRecord := rfl

/-- Of a miss only its count, the trip on `MISSMAX` and the record are to be seen. -/
theorem State.missCycle_keeps (hup : s.upsets = []) :
    CeKeeps s.missCounted s.missCycle ∨ CeKeeps (s.missCounted.setF R.CE_STAT_MTRIP 1) s.missCycle := by
  have hrec (h : s.missCounted.missCheck.upsets = []) := (State.cycleRecord_keeps h).1
  rw [State.missCycle_eq]
  obtain h | h := s.missCounted.missCheck_keeps
  exacts [.inl (h.trans (hrec (h.upsets.trans hup))), .inr (h.trans (hrec (h.upsets.trans hup)))]

theorem State.missCycle_keepsMem (hup : s.upsets = []) (harm : s.sys.arm = none) : KeepsMem s s.missCycle := by
  have hcheck : KeepsMem s s.missCounted.missCheck := by
    have h := State.missCheck_keepsMem (s := s.missCounted) harm
    exact ⟨h.mem, h.host, h.queue, h.part⟩
  have hu : s.missCounted.missCheck.upsets = [] := by
    obtain h | h := s.missCounted.missCheck_keeps
    exacts [h.upsets.trans hup, h.upsets.trans hup]
  rw [State.missCycle_eq]
  exact hcheck.trans (State.cycleRecord_keeps hu).2.keepsMem

theorem State.missCounted_f : s.missCounted.f R.CE_MISS_MISS = min (2 ^ R.CE_MISS_MISS.w - 1) (s.f R.CE_MISS_MISS + 1) := by
  unfold State.missCounted
  dsimp only
  rw [State.f_setF_ne _ _ (by decide) (by decide), State.f_count_self _ (by decide)]
  rfl

theorem deadlineExpiry_misses (hlive : s.live = true) (harm : s.sys.arm = none) (hup : s.upsets = []) (hdl : s.ce.dlPending = true)
    (harr : s.ce.arrived = false) (hdue : s.ce.deadline ≤ s.tbp) : Answers .deadlineExpiry s fun t =>
      t.ce.dlPending = false ∧ t.ce.prevMiss = true ∧ t.ce.consec = min 65535 (s.ce.consec + 1) ∧
        t.f R.CE_MISS_MISS = min (2 ^ R.CE_MISS_MISS.w - 1) (s.f R.CE_MISS_MISS + 1) ∧ KeepsMem s t := by
  have e : s.deadlineExpiry = s.missCycle := if_pos (by simp [hdl, harr, hdue])
  refine Answers.onMain hlive rfl ?_
  rw [e]
  have hmem := State.missCycle_keepsMem hup harm
  obtain h | h := State.missCycle_keeps hup
  · rw [h.ce, h.f R.CE_MISS_MISS, State.missCounted_f]
    exact ⟨rfl, rfl, rfl, rfl, hmem⟩
  · rw [h.ce, h.f R.CE_MISS_MISS, State.f_setF_ne _ _ (by decide) (by decide), State.missCounted_f]
    exact ⟨rfl, rfl, rfl, rfl, hmem⟩

theorem ceMiss_trips (hlive : s.live = true) (harm : s.sys.arm = none) (hmax : s.f R.CE_DL_MISSMAX ≤ s.ce.consec)
    (hnot : s.f R.CE_STAT_MTRIP = 0) (h0 : s.ce.consec ≠ 0) : Answers .ceMiss s fun t =>
      t.f R.CE_STAT_MTRIP = 1 ∧ t.sys.causes = s.sys.causes ++ [(0x08, 0)] ∧ KeepsMem s t := by
  have hk : CeKeeps (s.setF R.CE_STAT_MTRIP 1) s.missCheck ∧ s.missCheck.sys.causes = s.sys.causes ++ [(0x08, 0)] := by
    unfold State.missCheck
    rw [if_pos (by simp [hmax, h0, State.on, hnot])]
    refine ⟨(CeKeeps.refl _).blockTrip.post, ?_⟩
    rw [State.post_sys]
    exact (State.blockTrip_shown (s := s.setF R.CE_STAT_MTRIP 1) hlive harm).1
  exact Answers.onMain hlive rfl ⟨(hk.1.f _).trans (State.f_setF_self _ (by decide) _), hk.2, State.missCheck_keepsMem harm⟩

/-! ### Commits (R323, R349) -/

/-- The duration of the cycle, shown as its commit arrives. -/
def State.commitShown (s : State) : State :=
  let dur := min (2 ^ 20 - 1) (s.tbp - s.ce.start)
  let s := (s.setF R.CE_DUR_LAST dur).setF R.CE_DURMAX_MAX (max dur (s.f R.CE_DURMAX_MAX))
  { s with ce := { s.ce with arrived := true } }

/-- A commit that comes too late. -/
def State.commitLate (s : State) : State := ({ s with ce := { s.ce with held := [] } } : State).count R.CE_MISS_LATE 1

/-- The counts of a met cycle. -/
def State.cycleMet (s : State) : State :=
  let s : State := { s with ce := { s.ce with dlPending := false, prevMiss := false, consec := 0 } }
  let s := (s.setF R.CE_STAT_CONSEC 0).setF R.CE_STAT_MTRIP 0
  { s with grd := { s.grd with copy := s.words 0xFF00 16, copyAt := s.ce.startPt, waiting := true } }

theorem State.commitArrival_late (hs : s.ce.sent = true) (ha : s.ce.arrived = false) (hd : s.ce.dlPending = false) :
    s.commitArrival = s.commitShown.commitLate := by
  unfold State.commitArrival
  rw [if_neg (by simp [hs, ha])]
  extract_lets +onlyGivenNames late missed
  have hlate : late = true := by simp [late, hd]
  have hmissed : missed = s := if_neg (by simp [hd])
  clear_value missed
  subst hmissed
  exact if_pos hlate

theorem State.commitArrival_missed (hs : s.ce.sent = true) (ha : s.ce.arrived = false) (hd : s.ce.dlPending = true)
    (hdue : s.ce.deadline < s.tbp) : s.commitArrival = s.missCycle.commitShown.commitLate := by
  unfold State.commitArrival
  rw [if_neg (by simp [hs, ha])]
  extract_lets +onlyGivenNames late missed
  have hlate : late = true := by simp [late, hdue]
  have hmissed : missed = s.missCycle := if_pos (by simp [hd, hlate])
  rw [← hmissed]
  clear_value missed
  exact if_pos hlate

theorem State.commitArrival_met (hs : s.ce.sent = true) (ha : s.ce.arrived = false) (hd : s.ce.dlPending = true)
    (hin : s.tbp ≤ s.ce.deadline) : s.commitArrival = ((s.commitShown.mergeHeld.scrub 0xFF00 64).cycleMet).cycleRecord := by
  unfold State.commitArrival
  rw [if_neg (by simp [hs, ha])]
  extract_lets +onlyGivenNames late missed
  have hlate : ¬ late = true := by simp [late, hd, hin]
  have hmissed : missed = s := if_neg (by simp [hlate])
  clear_value missed
  subst hmissed
  exact if_neg hlate

/-- The shown duration changes no other register. -/
theorem State.commitShown_f (x : Fld) (h : x.off ≠ R.CE_DUR_LAST.off ∧ x.off ≠ R.CE_DURMAX_MAX.off) : s.commitShown.f x = s.f x :=
  (State.f_setF_ne (s := s.setF R.CE_DUR_LAST (min (2 ^ 20 - 1) (s.tbp - s.ce.start))) R.CE_DURMAX_MAX x (by decide) (.inl h.2) _).trans
    (State.f_setF_ne (s := s) R.CE_DUR_LAST x (by decide) (.inl h.1) _)

theorem commitArrival_late_answers (hlive : s.live = true) (hs : s.ce.sent = true) (ha : s.ce.arrived = false)
    (hd : s.ce.dlPending = false) : Answers .commitArrival s fun t =>
      t.ce.arrived = true ∧ t.ce.held = [] ∧ t.f R.CE_MISS_LATE = min (2 ^ R.CE_MISS_LATE.w - 1) (s.f R.CE_MISS_LATE + 1) ∧
        t.pwm = s.pwm ∧ KeepsMem s t := by
  refine Answers.onMain hlive rfl ?_
  rw [State.commitArrival_late hs ha hd]
  refine ⟨rfl, rfl, ?_, rfl, fun _ => rfl, rfl, rfl, rfl⟩
  rw [← State.commitShown_f (s := s) R.CE_MISS_LATE (by decide)]
  exact State.f_count_self (s := { s.commitShown with ce := { s.commitShown.ce with held := [] } }) _ (by decide) 1

/-! Held sets go to the slots of their carriers. -/

/-- What a merge into a staging slot leaves alone. -/
structure MergeKeeps (s t : State) : Prop where
  ce : t.ce = s.ce
  grd : t.grd = s.grd
  upsets : t.upsets = s.upsets
  reg : ∀ o, 0x5000 ≤ o → t.reg o = s.reg o
  mem : KeepsMem s t

theorem MergeKeeps.refl (s : State) : MergeKeeps s s := ⟨rfl, rfl, rfl, fun _ _ => rfl, fun _ => rfl, rfl, rfl, rfl⟩

theorem MergeKeeps.trans (h : MergeKeeps s t) (k : MergeKeeps t u) : MergeKeeps s u :=
  ⟨k.ce.trans h.ce, k.grd.trans h.grd, k.upsets.trans h.upsets, fun o ho => (k.reg o ho).trans (h.reg o ho), h.mem.trans k.mem⟩

theorem State.mergeSet_keeps (v : UpdateSet) : MergeKeeps s (s.mergeSet v) := by
  have hcount : MergeKeeps s (s.count R.PWM_STAT_MERGED 1) :=
    ⟨rfl, rfl, rfl, fun o ho => State.reg_setF_ne _ _ (by simp only [R.PWM_STAT_MERGED]; omega), fun _ => rfl, rfl, rfl, rfl⟩
  unfold State.mergeSet State.merge
  extract_lets c t
  have ht : MergeKeeps s t := by
    unfold t
    split
    exacts [.refl s, hcount]
  exact ht.trans ⟨rfl, rfl, rfl, fun _ _ => rfl, fun _ => rfl, rfl, rfl, rfl⟩

theorem State.mergeHeld_keeps : MergeKeeps { s with ce := { s.ce with held := [] } } s.mergeHeld := by
  unfold State.mergeHeld
  dsimp only
  generalize ({ s with ce := { s.ce with held := [] } } : State) = u
  induction s.ce.held generalizing u with
  | nil => exact .refl u
  | cons ws l ih =>
    refine MergeKeeps.trans ?_ (ih _)
    dsimp only
    split
    exacts [u.mergeSet_keeps _, .refl u]

theorem commitArrival_met_answers (hlive : s.live = true) (hup : s.upsets = []) (hs : s.ce.sent = true) (ha : s.ce.arrived = false)
    (hd : s.ce.dlPending = true) (hin : s.tbp ≤ s.ce.deadline) : Answers .commitArrival s fun t =>
      t.ce.arrived = true ∧ t.ce.dlPending = false ∧ t.ce.held = [] ∧ t.ce.consec = 0 ∧ t.f R.CE_STAT_CONSEC = 0 ∧
        t.f R.CE_STAT_MTRIP = 0 ∧ t.f R.CE_DUR_LAST = min (2 ^ 20 - 1) (s.tbp - s.ce.start) ∧ t.grd.waiting = true ∧
        t.grd.copyAt = s.ce.startPt ∧ KeepsMem s t := by
  refine Answers.onMain hlive rfl ?_
  rw [State.commitArrival_met hs ha hd hin]
  have hm := s.commitShown.mergeHeld_keeps
  generalize s.commitShown.mergeHeld = u at hm
  have hu : u.upsets = [] := hm.upsets.trans hup
  rw [State.scrub_of_nil hu]
  obtain ⟨hk, hp⟩ := State.cycleRecord_keeps (s := u.cycleMet) hu
  have hmem : KeepsMem s u := ⟨hm.mem.mem, hm.mem.host, hm.mem.queue, hm.mem.part⟩
  have hmet : KeepsMem u u.cycleMet := ⟨fun _ => rfl, rfl, rfl, rfl⟩
  have hce : u.ce = { s.ce with arrived := true, held := [] } := hm.ce
  have hconsec : u.cycleMet.f R.CE_STAT_CONSEC = 0 :=
    (State.f_setF_ne R.CE_STAT_MTRIP R.CE_STAT_CONSEC (by decide) (by decide) 0).trans (State.f_setF_self R.CE_STAT_CONSEC (by decide) 0)
  have hmtrip : u.cycleMet.f R.CE_STAT_MTRIP = 0 := State.f_setF_self R.CE_STAT_MTRIP (by decide) 0
  have hdur : u.cycleMet.f R.CE_DUR_LAST = min (2 ^ 20 - 1) (s.tbp - s.ce.start) := by
    have h1 : u.cycleMet.f R.CE_DUR_LAST = u.f R.CE_DUR_LAST :=
      (State.f_setF_ne R.CE_STAT_MTRIP R.CE_DUR_LAST (by decide) (by decide) 0).trans
        (State.f_setF_ne R.CE_STAT_CONSEC R.CE_DUR_LAST (by decide) (by decide) 0)
    have h2 : u.f R.CE_DUR_LAST = s.commitShown.f R.CE_DUR_LAST := congrArg R.CE_DUR_LAST.get (hm.reg _ (by decide))
    have h3 : s.commitShown.f R.CE_DUR_LAST = min (2 ^ 20 - 1) (s.tbp - s.ce.start) % 2 ^ 20 :=
      (State.f_setF_ne R.CE_DURMAX_MAX R.CE_DUR_LAST (by decide) (by decide) _).trans (State.f_setF_self R.CE_DUR_LAST (by decide) _)
    rw [h1, h2, h3, Nat.mod_eq_of_lt (by omega)]
  rw [hk.f R.CE_STAT_CONSEC, hk.f R.CE_STAT_MTRIP, hk.f R.CE_DUR_LAST, hk.ce, hp.grd]
  have hmetce : u.cycleMet.ce = { u.ce with dlPending := false, prevMiss := false, consec := 0 } := rfl
  have hgrd : u.cycleMet.grd.waiting = true ∧ u.cycleMet.grd.copyAt = u.ce.startPt := ⟨rfl, rfl⟩
  rw [hmetce, hgrd.1, hgrd.2, hce]
  exact ⟨rfl, rfl, rfl, rfl, hconsec, hmtrip, hdur, rfl, rfl, (hmem.trans hmet).trans hp.keepsMem⟩

/-! ### The start of a cycle (R317 to R321) -/

/-- A commit still under way leaves data memory and the cycle number alone. -/
structure NumberKeeps (s t : State) : Prop where
  byte : ∀ a, t.byte a = s.byte a
  number : t.f R.CE_CYC_CNT = s.f R.CE_CYC_CNT

theorem NumberKeeps.trans (h : NumberKeeps s t) (k : NumberKeeps t u) : NumberKeeps s u :=
  ⟨fun a => (k.byte a).trans (h.byte a), k.number.trans h.number⟩

theorem State.number_setF (x : Fld) (n : Nat) (hx : R.CE_CYC_CNT.off ≠ x.off := by decide) :
    (s.setF x n).f R.CE_CYC_CNT = s.f R.CE_CYC_CNT := congrArg R.CE_CYC_CNT.get (State.reg_setF_ne x n hx)

theorem CeKeeps.number (h : CeKeeps s t) : NumberKeeps s t := ⟨fun a => State.byte_of_mem h.mem a, h.f _⟩

theorem State.commitShown_number : NumberKeeps s s.commitShown := ⟨fun _ => rfl, s.commitShown_f _ (by decide)⟩

theorem State.commitLate_number : NumberKeeps s s.commitLate := ⟨fun _ => rfl, State.number_setF R.CE_MISS_LATE _⟩

theorem State.cycleMet_number : NumberKeeps s s.cycleMet :=
  ⟨fun _ => rfl, (State.number_setF R.CE_STAT_MTRIP 0).trans (State.number_setF R.CE_STAT_CONSEC 0)⟩

theorem State.mergeHeld_number : NumberKeeps s s.mergeHeld :=
  ⟨s.mergeHeld_keeps.mem.mem, congrArg R.CE_CYC_CNT.get (s.mergeHeld_keeps.reg _ (by decide))⟩

theorem State.missCycle_number (hup : s.upsets = []) : NumberKeeps s s.missCycle := by
  have hc : NumberKeeps s s.missCounted :=
    ⟨fun _ => rfl, (State.number_setF R.CE_STAT_CONSEC _).trans (State.number_setF R.CE_MISS_MISS _)⟩
  have ht : NumberKeeps s.missCounted (s.missCounted.setF R.CE_STAT_MTRIP 1) := ⟨fun _ => rfl, State.number_setF _ _⟩
  obtain h | h := State.missCycle_keeps hup
  · exact hc.trans h.number
  · exact (hc.trans ht).trans h.number

theorem State.commitArrival_number (hup : s.upsets = []) : NumberKeeps s s.commitArrival := by
  by_cases hs : s.ce.sent = true ∧ s.ce.arrived = false
  · obtain ⟨hs, ha⟩ := hs
    cases hd : s.ce.dlPending
    · rw [State.commitArrival_late hs ha hd]
      exact s.commitShown_number.trans State.commitLate_number
    · by_cases hl : s.ce.deadline < s.tbp
      · rw [State.commitArrival_missed hs ha hd hl]
        exact ((State.missCycle_number hup).trans State.commitShown_number).trans State.commitLate_number
      · rw [State.commitArrival_met hs ha hd (Nat.not_lt.mp hl)]
        have hm := s.commitShown.mergeHeld_keeps
        have hu : s.commitShown.mergeHeld.upsets = [] := hm.upsets.trans hup
        rw [State.scrub_of_nil hu]
        exact ((s.commitShown_number.trans State.mergeHeld_number).trans State.cycleMet_number).trans
          (State.cycleRecord_keeps (s := State.cycleMet _) hu).1.number
  · have e : s.commitArrival = s := if_pos (by cases h : s.ce.sent <;> simp_all)
    rw [e]
    exact ⟨fun _ => rfl, rfl⟩

/-- The starts that crossing 2 has delivered are taken, with the match that they began at. -/
def State.startTaken (s : State) : State :=
  let s := s.setXing 2 { s.xing 2 with got := 0 }
  { s with ce := { s.ce with matchAt := none } }

/-- A cycle is open, with its number, its deadline and its information. -/
def State.cycleOpened (s : State) (m : Match) : State :=
  let s := (s.setF R.CE_CYC_CNT ((s.f R.CE_CYC_CNT + 1) % 2 ^ 32)).setF R.CE_STAT_RUN 1
  let s : State := { s with ce := { s.ce with
    part := .cycle, start := m.at_, startPt := m.pt, deadline := m.deadline, dlPending := true,
    sent := false, arrived := false, held := [], ups := abortUps s.ce.ups } }
  let s := s.cycleInfo
  { s with ce := { s.ce with skips := 0 } }

theorem lanes_nodup : lanes8.Nodup := List.nodup_range

theorem State.startFore_eq (es : List Nat) : ∃ ls, s.startFore es = { s with ce := { s.ce with lanes := ls } } := by
  refine State.each_ind (P := fun u => ∃ ls, u = { s with ce := { s.ce with lanes := ls } }) ⟨_, rfl⟩ fun l _ u hu => ?_
  obtain ⟨ls, rfl⟩ := hu
  dsimp only
  split
  exacts [⟨_, rfl⟩, ⟨_, rfl⟩]

/-- A lane with an entry starts there. -/
theorem State.startFore_lane {es : List Nat} {l pc : Nat} (hl : l < 8) (he : entryOf es l = some pc) :
    ((s.startFore es).ceLane l).fore = { run := true, pc := pc } := by
  refine State.each_at (P := fun _ => True) (Q := fun u => (u.ceLane l).fore = { run := true, pc := pc }) lanes_nodup
    (List.mem_range.mpr hl) trivial (fun _ _ _ _ _ => trivial) (fun u _ => ?_) fun i _ hi u hu => ?_
  · dsimp only
    rw [he]
    exact congrArg LaneCe.fore (State.ceLane_setCe_self ..)
  · dsimp only
    split
    · rw [State.ceLane_setCe_ne _ hi.symm, hu]
    · exact hu

theorem State.cycleStart_eq {i : Image} (hlive : s.live = true) (himg : s.ce.img = some i) (hp : s.ce.part = .idle)
    (hst : s.st ≠ stBoot) (hen : s.f R.CE_CTL_EN = 1) (hload : s.f R.CE_STAT_LOADED = 1) (hhold : s.f R.CE_STAT_HOLD = 0)
    (hact : s.ce.act = 0) (hgot : (s.xing 2).got ≤ 1) (hl : ∃ l < 8, (entryOf i.cycle l).isSome = true) :
    s.cycleStart = (s.startTaken.commitArrival.cycleOpened (s.ce.matchAt.getD s.startMatch)).startFore i.cycle := by
  unfold State.cycleStart
  extract_lets +onlyGivenNames n _ taken m _ start
  have hn : n = 1 := by unfold n; omega
  have hguard : ¬ (!start.live || start.st = stBoot || !start.on R.CE_CTL_EN || !start.on R.CE_STAT_LOADED ||
      start.on R.CE_STAT_HOLD || start.ce.act ≠ 0) = true := by
    have h1 : start.live = true := hlive
    have h2 : start.st ≠ stBoot := hst
    have h3 : start.f R.CE_CTL_EN = 1 := hen
    have h4 : start.f R.CE_STAT_LOADED = 1 := hload
    have h5 : start.f R.CE_STAT_HOLD = 0 := hhold
    have h6 : start.ce.act = 0 := hact
    simp [State.on, h1, h2, h3, h4, h5, h6]
  have himg : start.ce.img = some i := himg
  have hpart : start.ce.part = .idle := hp
  rw [himg, hpart]
  refine (if_neg hguard).trans ?_
  rw [hn]
  refine if_pos (lanes_any_iff.mpr ?_)
  obtain ⟨l, hl8, he⟩ := hl
  obtain ⟨pc, he⟩ := Option.isSome_iff_exists.mp he
  exact ⟨l, hl8, congrArg Ctx.run (State.startFore_lane hl8 he)⟩

/-- The information block lies in 32 bytes; its first word is the cycle number. -/
theorem State.cycleInfo_eq : ∃ m u, s.cycleInfo = { s with mem := m, upsets := u } := State.setWords_eq ..

theorem State.byte_cycleInfo {a : Nat} (h : a < 0x1E800 ∨ 0x1E820 ≤ a) : s.cycleInfo.byte a = s.byte a :=
  State.byte_setWords_ne _ (by simpa using h)

theorem State.word_cycleInfo : s.cycleInfo.word 0x1E800 = BitVec.ofNat 32 (s.f R.CE_CYC_CNT) :=
  State.word_setWords _ 0x1E800 0 (by simp)

/-- What an open cycle shows. -/
structure CycleOpen (m : Match) (s t : State) : Prop where
  number : t.f R.CE_CYC_CNT = (s.f R.CE_CYC_CNT + 1) % 2 ^ 32
  run : t.f R.CE_STAT_RUN = 1
  part : t.ce.part = .cycle
  start : t.ce.start = m.at_
  startPt : t.ce.startPt = m.pt
  deadline : t.ce.deadline = m.deadline
  pending : t.ce.dlPending = true
  arrived : t.ce.arrived = false
  info : t.word 0x1E800 = BitVec.ofNat 32 (s.f R.CE_CYC_CNT + 1)
  byte : ∀ a, a < 0x1E800 ∨ 0x1E820 ≤ a → t.byte a = s.byte a

theorem State.cycleOpened_open (m : Match) : CycleOpen m s (s.cycleOpened m) := by
  generalize hu : (s.setF R.CE_CYC_CNT ((s.f R.CE_CYC_CNT + 1) % 2 ^ 32)).setF R.CE_STAT_RUN 1 = u
  have hnumber : u.f R.CE_CYC_CNT = (s.f R.CE_CYC_CNT + 1) % 2 ^ 32 := by
    rw [← hu, State.number_setF R.CE_STAT_RUN 1, State.f_setF_self _ (by decide)]
    exact Nat.mod_eq_of_lt (Nat.mod_lt _ (by decide))
  have hrun : u.f R.CE_STAT_RUN = 1 := by
    rw [← hu]
    exact State.f_setF_self R.CE_STAT_RUN (by decide) 1
  have hbyte (a : Nat) : u.byte a = s.byte a := by rw [← hu]; rfl
  generalize hv : ({ u with ce := { u.ce with
    part := .cycle, start := m.at_, startPt := m.pt, deadline := m.deadline, dlPending := true,
    sent := false, arrived := false, held := [], ups := abortUps u.ce.ups } } : State) = v
  have e : s.cycleOpened m = { v.cycleInfo with ce := { v.cycleInfo.ce with skips := 0 } } := by
    rw [← hv, ← hu]
    rfl
  have hnumber : v.f R.CE_CYC_CNT = (s.f R.CE_CYC_CNT + 1) % 2 ^ 32 := by rw [← hv]; exact hnumber
  have hrun : v.f R.CE_STAT_RUN = 1 := by rw [← hv]; exact hrun
  have hbyte (a : Nat) : v.byte a = s.byte a := by rw [← hv]; exact hbyte a
  have hword := v.word_cycleInfo
  have hrest (a : Nat) (ha : a < 0x1E800 ∨ 0x1E820 ≤ a) : v.cycleInfo.byte a = s.byte a :=
    (State.byte_cycleInfo ha).trans (hbyte a)
  obtain ⟨mem, ups, hi⟩ := v.cycleInfo_eq
  have hce : (s.cycleOpened m).ce = { v.ce with skips := 0 } := by rw [e, hi]
  have hf (x : Fld) : (s.cycleOpened m).f x = v.f x := by
    rw [e, hi]
    rfl
  have hm : (s.cycleOpened m).mem = v.cycleInfo.mem := by rw [e]
  have hinfo : (s.cycleOpened m).word 0x1E800 = BitVec.ofNat 32 (s.f R.CE_CYC_CNT + 1) := by
    rw [State.word_of_mem hm, hword, hnumber]
    apply BitVec.eq_of_toNat_eq
    simp
  exact {
    number := (hf R.CE_CYC_CNT).trans hnumber
    run := (hf R.CE_STAT_RUN).trans hrun
    part := by rw [hce, ← hv]
    start := by rw [hce, ← hv]
    startPt := by rw [hce, ← hv]
    deadline := by rw [hce, ← hv]
    pending := by rw [hce, ← hv]
    arrived := by rw [hce, ← hv]
    info := hinfo
    byte := fun a ha => (State.byte_of_mem hm a).trans (hrest a ha) }

theorem State.startTaken_number : NumberKeeps s s.startTaken := ⟨fun _ => rfl, rfl⟩

/-- The start of the lanes changes their contexts alone. -/
theorem State.startFore_keeps (es : List Nat) : (s.startFore es).ce = { s.ce with lanes := (s.startFore es).ce.lanes } ∧
    (∀ x, (s.startFore es).f x = s.f x) ∧ (s.startFore es).mem = s.mem := by
  obtain ⟨ls, e⟩ := s.startFore_eq es
  rw [e]
  exact ⟨rfl, fun _ => rfl, rfl⟩

theorem ceCycleStart_answers {i : Image} (hlive : s.live = true) (himg : s.ce.img = some i) (hp : s.ce.part = .idle)
    (hst : s.st ≠ stBoot) (hen : s.f R.CE_CTL_EN = 1) (hload : s.f R.CE_STAT_LOADED = 1) (hhold : s.f R.CE_STAT_HOLD = 0)
    (hact : s.ce.act = 0) (hup : s.upsets = []) (hgot : (s.xing 2).got ≤ 1) (hl : ∃ l < 8, (entryOf i.cycle l).isSome = true) :
    Answers .ceCycleStart s fun t =>
      t.f R.CE_CYC_CNT = (s.f R.CE_CYC_CNT + 1) % 2 ^ 32 ∧ t.f R.CE_STAT_RUN = 1 ∧ t.ce.part = .cycle ∧
        t.ce.start = (s.ce.matchAt.getD s.startMatch).at_ ∧ t.ce.startPt = (s.ce.matchAt.getD s.startMatch).pt ∧
        t.ce.deadline = (s.ce.matchAt.getD s.startMatch).deadline ∧
        t.ce.dlPending = true ∧ t.ce.arrived = false ∧ t.word 0x1E800 = BitVec.ofNat 32 (s.f R.CE_CYC_CNT + 1) ∧
        (∀ l < 8, ∀ pc, entryOf i.cycle l = some pc → (t.ceLane l).fore = { run := true, pc := pc }) ∧
        (∀ a, a < 0x1E800 ∨ 0x1E820 ≤ a → t.byte a = s.byte a) := by
  refine Answers.onMain hlive rfl ?_
  rw [State.cycleStart_eq hlive himg hp hst hen hload hhold hact hgot hl]
  have hc : NumberKeeps s s.startTaken.commitArrival := State.startTaken_number.trans (State.commitArrival_number hup)
  have ho := State.cycleOpened_open (s := s.startTaken.commitArrival) (s.ce.matchAt.getD s.startMatch)
  have hlane {l pc : Nat} (h8 : l < 8) (he : entryOf i.cycle l = some pc) := State.startFore_lane
    (s := s.startTaken.commitArrival.cycleOpened (s.ce.matchAt.getD s.startMatch)) h8 he
  generalize s.startTaken.commitArrival = c at hc ho hlane ⊢
  generalize c.cycleOpened (s.ce.matchAt.getD s.startMatch) = o at ho hlane ⊢
  obtain ⟨hce, hf, hm⟩ := o.startFore_keeps i.cycle
  have hinfo : (o.startFore i.cycle).word 0x1E800 = BitVec.ofNat 32 (s.f R.CE_CYC_CNT + 1) := by
    rw [State.word_of_mem hm, ho.info, hc.number]
  rw [hf, hf, hce]
  exact ⟨ho.number.trans (by rw [hc.number]), ho.run, ho.part, ho.start, ho.startPt, ho.deadline, ho.pending, ho.arrived, hinfo,
    fun _ h8 _ he => hlane h8 he, fun a ha => (State.byte_of_mem hm a).trans ((ho.byte a ha).trans (hc.byte a))⟩

/-! ### The time of INIT (R318) -/

/-- The end of an activation shows its outcome and posts it; the rest of the engine stays. -/
theorem State.ceLoadDone_keeps : CeKeeps s s.ceLoadDone := (CeKeeps.refl s).setBit

theorem State.actEnd_eq (res : Nat) : s.ce.act = 0 ∧ s.actEnd res = s ∨ ∃ (p : CePart) (c i a b d : Nat),
    s.actEnd res = ((({ s with ce := { s.ce with act := 0, part := p } } : State).setF R.CE_STAT_ACTBUSY 0).setF R.CE_STAT_ACTRES res).post
      c i a b d ∧ (s.ce.part = .idle → p = .idle) := by
  unfold State.actEnd
  split
  next h => exact .inl ⟨h, rfl⟩
  next =>
    refine .inr ⟨_, _, _, _, _, _, rfl, fun h => ?_⟩
    rw [h]

theorem initTimeout_answers {u : Nat} {stopped : Bool} (hlive : s.live = true) (hp : s.ce.part = .init u stopped)
    (hdue : u + 10 * perMs ≤ s.tbp) (h1 : s.ce.act ≠ 1) (h2 : s.ce.act ≠ 2) : Answers .initTimeout s fun t =>
      t.f R.CE_STAT_HOLD = 1 ∧ t.f R.CE_FAULT_KIND = 3 ∧ t.ce.part = .idle ∧ t.ce.held = [] := by
  refine Answers.onMain hlive rfl ?_
  unfold State.initTimeout
  rw [hp]
  dsimp only
  rw [if_pos (by simp [hdue, h1, h2])]
  have hf := s.ceFault_faulted 3 ((lanes8.find? fun l => (s.ceLane l).fore.run).getD 0) 0 none
  generalize s.ceFault 3 ((lanes8.find? fun l => (s.ceLane l).fore.run).getD 0) 0 none = f at hf ⊢
  have hpart : f.ce.part = .idle := by rw [hf.part, hp]; rfl
  have hk := (f.actEnd 0).ceLoadDone_keeps
  rw [hk.f R.CE_STAT_HOLD, hk.f R.CE_FAULT_KIND, hk.ce]
  obtain ⟨-, h⟩ | ⟨p, c, i, a, b, d, h, hidle⟩ := f.actEnd_eq 0
  · rw [h]
    exact ⟨hf.hold, hf.shown, hpart, hf.held⟩
  · rw [h]
    generalize hv : ({ f with ce := { f.ce with act := 0, part := p } } : State) = v
    have hfld (x : Fld) : v.f x = f.f x := by rw [← hv]; rfl
    have hpost := CeKeeps.post (c := c) (i := i) (a := a) (b := b) (d := d)
      (CeKeeps.refl ((v.setF R.CE_STAT_ACTBUSY 0).setF R.CE_STAT_ACTRES 0))
    rw [hpost.f R.CE_STAT_HOLD, hpost.f R.CE_FAULT_KIND, hpost.ce]
    simp (disch := decide) only [State.f_setF_ne, hfld]
    refine ⟨hf.hold, hf.shown, ?_, ?_⟩
    · rw [← hv]
      exact hidle hpart
    · rw [← hv]
      exact hf.held

/-- Settles O33: a start, a commit, a miss and an INIT out of time show themselves in the state and the registers of the cycle alone. -/
theorem controlCycles : Obligations.ControlCycles := fun _ hlive harm =>
  ⟨fun _ himg hp hst hen hload hhold hact hup => ceCycleStart_answers hlive himg hp hst hen hload hhold hact hup, rfl,
    commitArrival_met_answers hlive, commitArrival_late_answers hlive, deadlineExpiry_misses hlive harm, ceMiss_trips hlive harm,
    fun _ _ => initTimeout_answers hlive⟩

end Sys2Proof.Machine
end

section
/-! PROOFS. Program images (O34): CE reset, activation, verification and load. -/

namespace Sys2Proof.Machine

variable {s t u : State}

/-! ### Stops of every lane, and the load of a slot (R339, R345) -/

/-- New contexts for some lanes. -/
theorem State.each_setCe_eq (ks : List Nat) (g : Nat → State → LaneCe) :
    ∃ ls, (s.each ks fun l s => s.setCe l (g l s)) = { s with ce := { s.ce with lanes := ls } } := by
  refine State.each_ind (P := fun u => ∃ ls, u = { s with ce := { s.ce with lanes := ls } }) ⟨_, rfl⟩ fun l _ u hu => ?_
  obtain ⟨ls, rfl⟩ := hu
  exact ⟨_, rfl⟩

theorem State.loadSections_eq : ∃ m u, s.loadSections = { s with mem := m, upsets := u } := by
  unfold State.loadSections
  split
  next i img _ _ =>
    dsimp only
    obtain ⟨m, u, h⟩ := s.setWords_eq i.caddr ((img.drop ((160 + 8 * i.plen) / 4)).take (i.clen / 4))
    rw [h]
    exact State.setWords_eq ..
  next => exact ⟨_, _, rfl⟩

theorem imgWord_lt (img : List Word) (i : Nat) : imgWord img i < 2 ^ 32 := BitVec.isLt _

/-- What shows a loaded image. -/
structure ImageShown (img : List Word) (slot : Nat) (t : State) : Prop where
  header : t.ce.img = some (readHeader img)
  loaded : t.f R.CE_STAT_LOADED = 1
  active : t.f R.CE_STAT_ACTIVE = slot
  id : t.f R.CE_IMG_ID = imgWord img 4
  version : t.f R.CE_IMGV_VER = imgWord img 8

/-- The engine with the image of slot `slot` for its program, before its lanes stop. -/
def State.imageTaken (s : State) (slot : Nat) (img : List Word) : State :=
  let i := readHeader img
  { s with ce := { s.ce with
    img := some i, prog := (img.drop 40).take (2 * i.plen), lastSlot := slot, part := .idle, held := [],
    ups := abortUps s.ce.ups, sent := false, swr := [], badProg := [] } }

/-- The same with every lane stopped, before the registers show the image. -/
def State.slotTaken (s : State) (slot : Nat) (img : List Word) : State :=
  (((s.imageTaken slot img).setF R.CE_STAT_RUN 0).parmFlush).each lanes8 fun l s =>
    s.setCe l { s.ceLane l with fore := {}, back := {} }

theorem State.slotTaken_img (slot : Nat) (img : List Word) : (s.slotTaken slot img).ce.img = some (readHeader img) := by
  obtain ⟨ls, h⟩ := State.each_setCe_eq (s := ((s.imageTaken slot img).setF R.CE_STAT_RUN 0).parmFlush) lanes8
    fun l s => { s.ceLane l with fore := {}, back := {} }
  unfold State.slotTaken
  rw [h, State.ce_parmFlush]
  rfl

theorem State.loadSlot_shown {slot : Nat} {img : List Word} (h : Tab.look s.ce.slots slot = some img) (h2 : slot < 2) :
    ImageShown img slot (s.loadSlot slot) := by
  have himg := s.slotTaken_img slot img
  have e : s.loadSlot slot = (((((s.slotTaken slot img).setF R.CE_STAT_LOADED 1).setF R.CE_STAT_ACTIVE slot).setF R.CE_IMG_ID
      (imgWord img 4)).setF R.CE_IMGV_VER (imgWord img 8)).loadSections := by
    unfold State.loadSlot
    rw [h]
    rfl
  generalize s.slotTaken slot img = u at himg e
  obtain ⟨m, w, hs⟩ := State.loadSections_eq (s := (((u.setF R.CE_STAT_LOADED 1).setF R.CE_STAT_ACTIVE slot).setF R.CE_IMG_ID
      (imgWord img 4)).setF R.CE_IMGV_VER (imgWord img 8))
  have hf (x : Fld) : (s.loadSlot slot).f x = ((((u.setF R.CE_STAT_LOADED 1).setF R.CE_STAT_ACTIVE slot).setF R.CE_IMG_ID
      (imgWord img 4)).setF R.CE_IMGV_VER (imgWord img 8)).f x := by
    rw [e, hs]
    rfl
  refine ⟨?_, ?_, ?_, ?_, ?_⟩
  · rw [e, hs]
    exact himg
  all_goals
    rw [hf]
    simp (disch := decide) only [State.f_setF_self, State.f_setF_ne]
  · rfl
  · exact Nat.mod_eq_of_lt h2
  · exact Nat.mod_eq_of_lt (imgWord_lt ..)
  · exact Nat.mod_eq_of_lt (imgWord_lt ..)

/-! ### INIT and the end of an activation (R318, R345) -/

/-- What INIT and the end of an activation leave alone: the image, and the registers but for the outcome of the activation and what
BOOT and the events write. -/
structure LoadKeeps (s t : State) : Prop where
  img : t.ce.img = s.ce.img
  f : ∀ x : Fld, 0xA000 ≤ x.off → x.off < 0xB000 → (x.off ≠ 0xA008 ∨ x.lo + x.w ≤ 5) → t.f x = s.f x

theorem LoadKeeps.trans (h : LoadKeeps s t) (k : LoadKeeps t u) : LoadKeeps s u :=
  ⟨k.img.trans h.img, fun x h1 h2 h3 => (k.f x h1 h2 h3).trans (h.f x h1 h2 h3)⟩

theorem CeKeeps.load (h : CeKeeps s t) : LoadKeeps s t := ⟨by rw [h.ce], fun x h1 h2 _ => h.f x ⟨h1, h2⟩⟩

/-- The outcome of an activation. -/
def State.actShown (s : State) (res : Nat) : State := (s.setF R.CE_STAT_ACTBUSY 0).setF R.CE_STAT_ACTRES res

theorem State.actShown_keeps (res : Nat) : LoadKeeps s (s.actShown res) := by
  refine ⟨rfl, fun x _ _ h3 => ?_⟩
  have h3 : x.off ≠ 0xA008 ∨ x.lo + x.w ≤ 5 := h3
  exact (State.f_setF_ne R.CE_STAT_ACTRES x (by decide) (h3.imp_right fun h => .inl (by simp only [R.CE_STAT_ACTRES]; omega)) _).trans
    (State.f_setF_ne R.CE_STAT_ACTBUSY x (by decide) (h3.imp_right .inl) _)

theorem State.actEnd_keeps (res : Nat) : LoadKeeps s (s.actEnd res) := by
  obtain ⟨-, h⟩ | ⟨p, c, i, a, b, d, h, -⟩ := s.actEnd_eq res
  · rw [h]
    exact ⟨rfl, fun _ _ _ _ => rfl⟩
  · rw [h]
    have hs : LoadKeeps s { s with ce := { s.ce with act := 0, part := p } } := ⟨rfl, fun _ _ _ _ => rfl⟩
    exact (hs.trans (State.actShown_keeps res)).trans (CeKeeps.post (CeKeeps.refl _)).load

theorem State.startBack_keeps : LoadKeeps s s.startBack := by
  obtain ⟨ls, h⟩ := s.startBack_eq
  rw [h]
  exact ⟨rfl, fun _ _ _ _ => rfl⟩

theorem State.initEnd_keeps : LoadKeeps s s.initEnd := by
  have hs : LoadKeeps s { s with ce := { s.ce with part := .idle } } := ⟨rfl, fun _ _ _ _ => rfl⟩
  exact ((hs.trans State.startBack_keeps).trans (State.actEnd_keeps 0)).trans State.ceLoadDone_keeps.load

theorem State.startInit_keeps : LoadKeeps s s.startInit := by
  unfold State.startInit
  split
  · exact State.ceLoadDone_keeps.load
  next i _ =>
    dsimp only
    have hs : LoadKeeps s { s with ce := { s.ce with part := .init s.tbp false } } := ⟨rfl, fun _ _ _ _ => rfl⟩
    obtain ⟨ls, h⟩ := State.startFore_eq (s := { s with ce := { s.ce with part := .init s.tbp false } }) i.init
    rw [h]
    have hl : LoadKeeps s { s with ce := { s.ce with part := .init s.tbp false, lanes := ls } } := ⟨rfl, fun _ _ _ _ => rfl⟩
    split
    exacts [hl, hl.trans State.initEnd_keeps]

theorem ImageShown.of_keeps {img : List Word} {slot : Nat} (h : ImageShown img slot s) (k : LoadKeeps s t) : ImageShown img slot t :=
  ⟨k.img.trans h.header, (k.f _ (by decide) (by decide) (by decide)).trans h.loaded,
    (k.f _ (by decide) (by decide) (by decide)).trans h.active, (k.f _ (by decide) (by decide) (by decide)).trans h.id,
    (k.f _ (by decide) (by decide) (by decide)).trans h.version⟩

theorem imageLoaded_answers {img : List Word} (hlive : s.live = true) (hact : s.ce.act = 2) (h2 : s.ce.actSlot < 2)
    (h : Tab.look s.ce.slots s.ce.actSlot = some img) : Answers .imageLoadComplete s fun t => ImageShown img s.ce.actSlot t := by
  refine Answers.onMain hlive rfl ?_
  have e : s.imageLoaded = State.startInit { s.loadSlot s.ce.actSlot with ce := { (s.loadSlot s.ce.actSlot).ce with act := 3 } } :=
    if_neg (by simp [hact])
  have hl := State.loadSlot_shown h h2
  have hs : ImageShown img s.ce.actSlot { s.loadSlot s.ce.actSlot with ce := { (s.loadSlot s.ce.actSlot).ce with act := 3 } } :=
    ⟨hl.header, hl.loaded, hl.active, hl.id, hl.version⟩
  rw [e]
  exact hs.of_keeps State.startInit_keeps

/-! ### Verification and BOOT (R346, R347) -/

theorem verifySlot_range (slot : Nat) : s.verifySlot slot = 0 ∨ s.verifySlot slot = 2 ∨ s.verifySlot slot = 3 := by
  unfold State.verifySlot
  split
  · exact .inr (.inl rfl)
  · split
    · exact .inr (.inl rfl)
    · split
      exacts [.inl rfl, .inr (.inr rfl)]

theorem imageVerified_good (hlive : s.live = true) (hact : s.ce.act = 1) (hv : s.verifySlot s.ce.actSlot = 0) :
    Answers .imageVerificationComplete s fun t => t.ce.act = 2 ∧ t.regs = s.regs ∧ KeepsMem s t := by
  refine Answers.onMain hlive rfl ?_
  unfold State.imageVerified
  rw [if_neg (by simp [hact]), hv]
  exact ⟨rfl, rfl, fun _ => rfl, rfl, rfl, rfl⟩

/-- An activation under way ends with its outcome, and leaves the image alone. -/
theorem State.actEnd_shown {r : Nat} (hact : s.ce.act ≠ 0) (hr : r < 4) :
    (s.actEnd r).ce.act = 0 ∧ (s.actEnd r).f R.CE_STAT_ACTBUSY = 0 ∧ (s.actEnd r).f R.CE_STAT_ACTRES = r ∧
      (s.actEnd r).ce.img = s.ce.img ∧ KeepsMem s (s.actEnd r) := by
  obtain ⟨h, -⟩ | ⟨p, c, i, a, b, d, h, -⟩ := s.actEnd_eq r
  · exact absurd h hact
  · rw [h]
    generalize hv : (({ s with ce := { s.ce with act := 0, part := p } } : State).setF R.CE_STAT_ACTBUSY 0).setF R.CE_STAT_ACTRES r = v
    have hm : KeepsMem s v := hv ▸ ⟨fun _ => rfl, rfl, rfl, rfl⟩
    have hpost := CeKeeps.post (c := c) (i := i) (a := a) (b := b) (d := d) (CeKeeps.refl v)
    rw [hpost.f R.CE_STAT_ACTBUSY, hpost.f R.CE_STAT_ACTRES, hpost.ce]
    refine ⟨?_, ?_, ?_, ?_, hm.trans (State.post_keepsMem ..)⟩
    · rw [← hv]
      rfl
    · rw [← hv]
      simp (disch := decide) only [State.f_setF_ne, State.f_setF_self]
      rfl
    · rw [← hv, State.f_setF_self R.CE_STAT_ACTRES (by decide)]
      exact Nat.mod_eq_of_lt hr
    · rw [← hv]
      rfl

theorem imageVerified_bad (hlive : s.live = true) (hact : s.ce.act = 1) (hv : s.verifySlot s.ce.actSlot ≠ 0) :
    Answers .imageVerificationComplete s fun t => t.ce.act = 0 ∧ t.f R.CE_STAT_ACTBUSY = 0 ∧
      t.f R.CE_STAT_ACTRES = s.verifySlot s.ce.actSlot ∧ t.ce.img = s.ce.img ∧ KeepsMem s t := by
  refine Answers.onMain hlive rfl ?_
  have e : s.imageVerified = s.actEnd (s.verifySlot s.ce.actSlot) := by
    unfold State.imageVerified
    rw [if_neg (by simp [hact])]
    split
    next h => exact absurd h hv
    next => rfl
  rw [e]
  have hr : s.verifySlot s.ce.actSlot < 4 := by obtain h | h | h := verifySlot_range (s := s) s.ce.actSlot <;> omega
  generalize s.verifySlot s.ce.actSlot = r at hr
  exact State.actEnd_shown (by omega) hr

theorem bootImageLoad_answers {img : List Word} (hlive : s.live = true) (hst : s.st = stBoot) (hload : s.f R.CE_STAT_LOADED = 0)
    (h2 : s.ce.lastSlot < 2) (himg : Tab.look s.ce.slots s.ce.lastSlot = some img) (hv : s.verifySlot s.ce.lastSlot = 0) :
    Answers .bootImageLoad s fun t => ImageShown img s.ce.lastSlot t := by
  refine Answers.onMain hlive rfl ?_
  have e : s.bootImage = (s.loadSlot s.ce.lastSlot).startInit := by
    unfold State.bootImage
    rw [if_neg (by simp [hlive, hst, hload, State.on])]
    dsimp only
    rw [hv]
    rfl
  rw [e]
  exact (State.loadSlot_shown himg h2).of_keeps State.startInit_keeps

theorem bootImageLoad_none (hlive : s.live = true) (hst : s.st = stBoot) (hload : s.f R.CE_STAT_LOADED = 0)
    (hv : ∀ b < 2, s.verifySlot b ≠ 0) (h2 : s.ce.lastSlot < 2) :
    Answers .bootImageLoad s fun t =>
      t.f R.CE_STAT_LOADED = 0 ∧ t.bitAt R.SYS_STATE_WAIT 2 = false ∧ t.ce.img = s.ce.img ∧ KeepsBut [R.SYS_STATE_WAIT] s t := by
  refine Answers.onMain hlive rfl ?_
  have e : s.bootImage = s.ceLoadDone := by
    unfold State.bootImage
    rw [if_neg (by simp [hlive, hst, hload, State.on])]
    dsimp only
    split
    next h => exact absurd h (hv _ h2)
    next => exact if_neg (hv _ (by omega))
  rw [e]
  exact ⟨(State.ceLoadDone_keeps.f _ ⟨by decide, by decide⟩).trans hload, State.bitAt_setBit_false R.SYS_STATE_WAIT (by decide), rfl,
    (KeepsBut.refl _ s).setF R.SYS_STATE_WAIT (List.mem_singleton_self _) (by decide) _⟩

/-! ### The requests to reset and to activate (R339, R345) -/

theorem ceReset_refused (hlive : s.live = true) (hq : s.quiet = false) :
    Answers .ceReset s fun t => Recorded 0xA000 .state s t ∧ KeepsBut wresFlds s t := by
  refine Answers.onMain hlive rfl ?_
  have e : s.ceReset = (.state, s) := if_pos (by simp [hq])
  rw [e]
  exact ⟨s.wres_recorded 0xA000 .state (by decide), (KeepsBut.refl _ s).wres (List.Subset.refl _) ..⟩

theorem ceActivate_taken {slot : Nat} (hq : s.quiet = true) (hbusy : s.f R.CE_STAT_ACTBUSY = 0) :
    s.ceActivate slot = (.done, { s.setF R.CE_STAT_ACTBUSY 1 with ce := { s.ce with act := 1, actSlot := slot, actAt := s.tbp } }) := by
  unfold State.ceActivate
  rw [if_neg (by simp [State.on, hbusy]), if_neg (by simp [hq])]

theorem State.wres_ce (off : Nat) (st : Status) : (s.wres off st).ce = s.ce := by
  rw [State.wres]
  split <;> rfl

theorem State.wres_mem (off : Nat) (st : Status) : (s.wres off st).mem = s.mem := by
  rw [State.wres]
  split <;> rfl

theorem ceActivate_accepted (slot : Fin 2) (hlive : s.live = true) (hq : s.quiet = true) (hbusy : s.f R.CE_STAT_ACTBUSY = 0) :
    Answers (.ceActivate slot) s fun t =>
      t.f R.CE_STAT_ACTBUSY = 1 ∧ t.ce.act = 1 ∧ t.ce.actSlot = slot ∧ Recorded 0xA000 .done s t ∧
        KeepsBut (R.CE_STAT_ACTBUSY :: wresFlds) s t := by
  refine Answers.onMain hlive rfl ?_
  rw [ceActivate_taken hq hbusy]
  have hk : KeepsBut (R.CE_STAT_ACTBUSY :: wresFlds) s (s.setF R.CE_STAT_ACTBUSY 1) :=
    (KeepsBut.refl _ s).setF _ (by simp) (by decide) 1
  have hs : KeepsBut (R.CE_STAT_ACTBUSY :: wresFlds) s
      { s.setF R.CE_STAT_ACTBUSY 1 with ce := { s.ce with act := 1, actSlot := slot, actAt := s.tbp } } :=
    ⟨⟨hk.mem, hk.host, hk.queue, hk.part⟩, hk.regs⟩
  dsimp only
  refine ⟨?_, ?_, ?_, State.wres_recorded_of_reg _ (by decide) (State.reg_setF_ne (s := s) R.CE_STAT_ACTBUSY 1 (by decide)),
    hs.wres (List.subset_cons_self ..) ..⟩
  · rw [State.f_wres_ne _ (by decide)]
    exact State.f_setF_self R.CE_STAT_ACTBUSY (by decide) 1
  all_goals rw [State.wres_ce]

theorem ceActivate_refused (slot : Fin 2) (hlive : s.live = true) (hq : s.quiet = false) (hbusy : s.f R.CE_STAT_ACTBUSY = 0) :
    Answers (.ceActivate slot) s fun t =>
      t.f R.CE_STAT_ACTRES = 1 ∧ t.f R.CE_STAT_ACTBUSY = 0 ∧ t.ce.act = s.ce.act ∧ Recorded 0xA000 .state s t ∧ KeepsMem s t := by
  refine Answers.onMain hlive rfl ?_
  have e : s.ceActivate slot =
      (.state, (s.setF R.CE_STAT_ACTRES 1).post 0x0A06 slot 1 (s.f R.CE_IMG_ID) (s.f R.CE_IMGV_VER)) := by
    unfold State.ceActivate
    rw [if_neg (by simp [State.on, hbusy]), if_pos (by simp [hq])]
  rw [e]
  dsimp only
  generalize s.f R.CE_IMG_ID = a
  generalize s.f R.CE_IMGV_VER = b
  generalize hu : s.setF R.CE_STAT_ACTRES 1 = u
  have hmu : KeepsMem s u := hu ▸ ⟨fun _ => rfl, rfl, rfl, rfl⟩
  have hru : u.reg 0x11000 = s.reg 0x11000 := hu ▸ State.reg_setF_ne R.CE_STAT_ACTRES 1 (by decide)
  have hres : u.f R.CE_STAT_ACTRES = 1 := hu ▸ State.f_setF_self R.CE_STAT_ACTRES (by decide) 1
  have hby : u.f R.CE_STAT_ACTBUSY = 0 := hu ▸ (State.f_setF_ne R.CE_STAT_ACTRES R.CE_STAT_ACTBUSY (by decide) (by decide) 1).trans hbusy
  have hcu : u.ce = s.ce := hu ▸ rfl
  have hm := hmu.trans (State.post_keepsMem 0x0A06 slot 1 a b)
  have hce := CeKeeps.post (c := 0x0A06) (i := slot) (a := 1) (b := a) (d := b) (CeKeeps.refl u)
  have hr := (State.reg_post (s := u) (by simp [evReg]) 0x0A06 slot 1 a b).trans hru
  generalize u.post 0x0A06 slot 1 a b = v at hm hce hr
  refine ⟨?_, ?_, ?_, State.wres_recorded_of_reg _ (by decide) hr, ?_⟩
  · rw [State.f_wres_ne _ (by decide), hce.f R.CE_STAT_ACTRES ⟨by decide, by decide⟩, hres]
  · rw [State.f_wres_ne _ (by decide), hce.f R.CE_STAT_ACTBUSY ⟨by decide, by decide⟩, hby]
  · rw [State.wres_ce, hce.ce, hcu]
  · exact hm.trans ((KeepsBut.refl wresFlds v).wres (List.Subset.refl _) ..).toKeepsMem

/-- A CE reset stops every lane and keeps its flags. -/
def State.lanesReset (s : State) : State := s.parmFlush.each lanes8 fun l s => s.setCe l { flags := (s.ceLane l).flags }

theorem State.lanesReset_lane {l : Nat} (hl : l < 8) : s.lanesReset.ceLane l = { flags := (s.ceLane l).flags } := by
  refine State.each_at (P := fun u => (u.ceLane l).flags = (s.ceLane l).flags) (Q := fun u => u.ceLane l = { flags := (s.ceLane l).flags })
    lanes_nodup (List.mem_range.mpr hl) ?_ (fun i _ hi u hu => ?_) (fun u hu => ?_) fun i _ hi u hu => ?_
  · rw [State.ceLane_parmFlush]
  · rw [State.ceLane_setCe_ne _ hi.symm, hu]
  · rw [State.ceLane_setCe_self, hu]
  · rw [State.ceLane_setCe_ne _ hi.symm, hu]

theorem State.lanesReset_eq : ∃ m w ls, s.lanesReset = { s with mem := m, upsets := w, ce := { s.ce with parm := [], lanes := ls } } := by
  obtain ⟨m, w, h⟩ := s.parmFlush_eq
  obtain ⟨ls, hl⟩ := State.each_setCe_eq (s := s.parmFlush) lanes8 fun l s => { flags := (s.ceLane l).flags }
  refine ⟨m, w, ls, hl.trans ?_⟩
  rw [h]

/-- No work of a program stands. -/
def State.workDropped (s : State) : State :=
  { s.lanesReset with ce := { s.lanesReset.ce with
    part := .idle, dlPending := false, sent := false, arrived := false, held := [], ups := [], swr := [], matchAt := none } }

/-- The engine after a CE reset, before the next INIT; the outputs of the last cycle read 0. -/
def State.ceStopped (s : State) : State :=
  (((s.workDropped.setWords 0x1E800 (List.replicate 8 0)).setF R.CE_STAT_HOLD 0).setF R.CE_STAT_RUN 0).setReg 0xA020 0

/-- A CE reset takes the engine's crossings into reset. -/
def State.ceCrossReset (s : State) : State := (((s.xReset 0).xReset 1).xReset 2).xReset 5

theorem State.ceCrossReset_ce : s.ceCrossReset.ce = s.ce := by simp only [State.ceCrossReset, State.xReset_ce]

theorem State.resetDone_ce : (s.ceCrossReset.ceLoadDone.wres 0xA000 .done).ce = s.ce := by
  simp only [State.wres_ce, State.ceLoadDone, State.setBit_ce, State.ceCrossReset_ce]

theorem State.resetDone_mem : (s.ceCrossReset.ceLoadDone.wres 0xA000 .done).mem = s.mem := by
  simp only [State.wres_mem, State.ceLoadDone, State.setBit_mem, State.ceCrossReset, State.xReset_mem]

theorem State.ceLoadDone_reg {off : Nat} (h : off ≠ R.SYS_STATE_WAIT.off) : s.ceLoadDone.reg off = s.reg off :=
  State.reg_setF_ne R.SYS_STATE_WAIT _ h

theorem State.ceCrossReset_reg (off : Nat) : s.ceCrossReset.reg off = s.reg off := by
  simp only [State.reg, State.ceCrossReset, State.xReset_regs]

theorem State.resetDone_f (x : Fld) (hx : x.off = 0xA008) : (s.ceCrossReset.ceLoadDone.wres 0xA000 .done).f x = s.f x := by
  rw [State.f_wres_ne x (by rw [hx]; decide), State.f, State.ceLoadDone_reg (by rw [hx]; decide), State.ceCrossReset_reg, State.f]

theorem State.resetDone_recorded (h : t.reg 0x11000 = s.reg 0x11000) :
    Recorded 0xA000 .done s (t.ceCrossReset.ceLoadDone.wres 0xA000 .done) :=
  State.wres_recorded_of_reg _ (by decide) (by rw [State.ceLoadDone_reg (by decide), State.ceCrossReset_reg, h])

theorem State.workDropped_img : s.workDropped.ce.img = s.ce.img := by
  obtain ⟨m, w, ls, h⟩ := s.lanesReset_eq
  unfold State.workDropped
  rw [h]

theorem State.workDropped_lane {l : Nat} (hl : l < 8) : s.workDropped.ceLane l = { flags := (s.ceLane l).flags } := by
  rw [← s.lanesReset_lane hl]
  unfold State.workDropped
  generalize s.lanesReset = u
  rfl

theorem State.workDropped_work : s.workDropped.ce.part = .idle ∧ s.workDropped.ce.held = [] := by
  unfold State.workDropped
  generalize s.lanesReset = u
  exact ⟨rfl, rfl⟩

theorem State.workDropped_reg (off : Nat) : s.workDropped.reg off = s.reg off := by
  obtain ⟨m, w, ls, h⟩ := s.lanesReset_eq
  unfold State.workDropped
  rw [h]
  rfl

theorem State.ceStopped_ce : s.ceStopped.ce = s.workDropped.ce := by
  obtain ⟨m, w, h⟩ := s.workDropped.setWords_eq 0x1E800 (List.replicate 8 0)
  unfold State.ceStopped
  rw [h]
  rfl

theorem State.ceStopped_word {i : Nat} (hi : i < 8) : s.ceStopped.word (0x1E800 + 4 * i) = 0 := by
  have hm : s.ceStopped.mem = (s.workDropped.setWords 0x1E800 (List.replicate 8 0)).mem := by
    simp only [State.ceStopped, State.setReg_mem, State.setF_mem]
  rw [State.word_of_mem hm, State.word_setWords _ _ _ (by simpa using hi), List.getD_eq_getElem?_getD,
    List.getElem?_replicate, if_pos hi]
  rfl

theorem State.ceStopped_reg {off : Nat} (h8 : off ≠ 0xA008) (h20 : off ≠ 0xA020) : s.ceStopped.reg off = s.reg off := by
  unfold State.ceStopped
  rw [State.reg_setReg_ne _ h20, State.reg_setF_ne R.CE_STAT_RUN 0 h8, State.reg_setF_ne R.CE_STAT_HOLD 0 h8, State.reg,
    State.setWords_regs]
  exact s.workDropped_reg off

theorem State.ceStopped_stat : s.ceStopped.f R.CE_STAT_HOLD = 0 ∧ s.ceStopped.f R.CE_STAT_RUN = 0 := by
  have h (x : Fld) (hx : x.off = 0xA008) : s.ceStopped.f x =
      (((s.workDropped.setWords 0x1E800 (List.replicate 8 0)).setF R.CE_STAT_HOLD 0).setF R.CE_STAT_RUN 0).f x :=
    congrArg x.get (State.reg_setReg_ne _ (by rw [hx]; decide))
  rw [h _ rfl, h _ rfl]
  simp (disch := decide) only [State.f_setF_ne, State.f_setF_self]
  exact ⟨rfl, rfl⟩

theorem State.startInit_none (h : s.ce.img = none) : s.startInit = s.ceLoadDone := by
  unfold State.startInit
  rw [h]

theorem State.ceLane_of_ce (h : t.ce = s.ce) (l : Nat) : t.ceLane l = s.ceLane l := by rw [State.ceLane, h, State.ceLane]

theorem ceReset_taken (hq : s.quiet = true) (hbusy : s.f R.CE_STAT_ACTBUSY = 0) (himg : s.ce.img = none) :
    s.ceReset = (.done, s.ceStopped.ceCrossReset.ceLoadDone) := by
  have hload : s.workDropped.loadSections = s.workDropped := by
    unfold State.loadSections
    rw [s.workDropped_img, himg]
  have e : s.ceReset = (.done, ((((s.workDropped.loadSections.setWords 0x1E800 (List.replicate 8 0)).setF R.CE_STAT_HOLD 0).setF
      R.CE_STAT_RUN 0).setReg 0xA020 0).ceCrossReset.startInit) := by
    unfold State.ceReset State.ceCrossReset State.workDropped State.lanesReset
    rw [if_neg (by simp [hq, State.on, hbusy])]
  have hi : s.ceStopped.ceCrossReset.ce.img = none := by
    rw [s.ceStopped.ceCrossReset_ce, s.ceStopped_ce, s.workDropped_img, himg]
  rw [e, hload, ← State.ceStopped, State.startInit_none hi]

theorem ceReset_accepted (hlive : s.live = true) (hq : s.quiet = true) (hbusy : s.f R.CE_STAT_ACTBUSY = 0) (himg : s.ce.img = none) :
    Answers .ceReset s fun t =>
      t.f R.CE_STAT_HOLD = 0 ∧ t.f R.CE_STAT_RUN = 0 ∧ (∀ l < 8, t.ceLane l = { flags := (s.ceLane l).flags }) ∧
        t.ce.part = .idle ∧ t.ce.held = [] ∧ (∀ i < 8, t.word (0x1E800 + 4 * i) = 0) ∧ Recorded 0xA000 .done s t := by
  refine Answers.onMain hlive rfl ?_
  rw [ceReset_taken hq hbusy himg]
  dsimp only
  have hce := s.ceStopped.resetDone_ce.trans s.ceStopped_ce
  obtain ⟨hhold, hrun⟩ := s.ceStopped_stat
  refine ⟨(s.ceStopped.resetDone_f R.CE_STAT_HOLD rfl).trans hhold, (s.ceStopped.resetDone_f R.CE_STAT_RUN rfl).trans hrun,
    fun l hl => ?_, ?_, ?_, fun i hi => (State.word_of_mem s.ceStopped.resetDone_mem _).trans (s.ceStopped_word hi),
    State.resetDone_recorded (State.ceStopped_reg (by decide) (by decide))⟩
  · exact (State.ceLane_of_ce hce l).trans (s.workDropped_lane hl)
  · rw [hce, s.workDropped_work.1]
  · rw [hce, s.workDropped_work.2]

/-- Settles O34: each request and each end of an activation is followed through the one branch of the model it takes; what INIT and
the end of an activation leave alone carries the loaded image through them. -/
theorem programImages : Obligations.ProgramImages := fun _ hlive =>
  ⟨ceReset_refused hlive, ceReset_accepted hlive, fun slot => ceActivate_accepted slot hlive, fun slot => ceActivate_refused slot hlive,
    imageVerified_good hlive, imageVerified_bad hlive,
    fun _ hact h2 h => (imageLoaded_answers hlive hact h2 h).imp fun _ ⟨ht, k⟩ =>
      ⟨ht, k.header, k.loaded, k.active, k.id, k.version⟩,
    fun _ hst hload h2 h hv => (bootImageLoad_answers hlive hst hload h2 h hv).imp fun _ ⟨ht, k⟩ =>
      ⟨ht, k.header, k.loaded, k.active⟩,
    bootImageLoad_none hlive⟩

end Sys2Proof.Machine
end
